-- ==== Sys2Proof/Word.lean ====
section
/-! DEFINITION. The words of the OV3250: registers are 32 bits wide and little-endian (00, Notation), table
entries 64 bits or more, and a sparse table in one canonical form for everything the device numbers. -/

namespace Sys2Proof

/-- A register word (00, Notation: "Registers are 32 bits wide and little-endian"). -/
abbrev Word := BitVec 32

/-- A double word: a SIS register, a calendar entry, a grant-stream entry. -/
abbrev Word64 := BitVec 64

/-- One byte of a frame, a message or a window. -/
abbrev Byte := BitVec 8

/-- A sparse table: the entries that differ from their reset value, by rising number. -/
abbrev Tab (α : Type) := List (Nat × α)

end Sys2Proof
end

