-- ==== Sys2Proof/Syntax.lean ====
section
/-! DEFINITION. The commands of the OV3250: one constructor per row of spec/opcode_table.json, with the operands the
spec's rule gives it. A command of the environment (light on a port, a decoded codeword, an edge on a pin) carries what
the environment measured or sent. -/

namespace Sys2Proof

/-- A PCIe function: the operator OP, or tenant T0 to T15 (Table 00.5, R563). -/
inductive Fn
  | op
  | t (n : Fin 16)
  deriving DecidableEq, Repr

/-- The queues between domains whose items wait to become visible (R21, Table 01.2, Table 01.9). -/
inductive Crossing
  /-- UDF to report FIFO m. -/
  | report (m : Fin 8)
  /-- RNG and TSU to the PLOAM queue of DFR on port n. -/
  | ploam (n : Fin 32)
  /-- BRX to RNG: the results of bursts, and DLM_WIN. -/
  | results (n : Fin 32)
  /-- RNG to BRX: what the expected delimiter positions rest on, and invalidations of entries. -/
  | expect (n : Fin 32)
  /-- BRX to GNT: memory summaries, profiles, controls and GUARD (R180), and the kinds of bursts (R188). -/
  | memory (n : Fin 32)
  /-- TPA to GNT and RNG: MODE, US_RATES, EN and DRAINED, and a member's state and DIFF. -/
  | port (n : Fin 32)
  /-- GNT to UDF: EN, SS, RPRIO and RATE of the port's streams. -/
  | streams (n : Fin 32)
  /-- UDF to RNG: bursts of discovery windows, and messages of terminals. -/
  | messages (n : Fin 32)
  /-- UDF to GNT: the counts of granted bytes. -/
  | counts (n : Fin 32)
  /-- TSU to DFR: time-of-day messages. -/
  | tods (n : Fin 32)
  /-- DFR to TSU: FT_PHASE. -/
  | stamps (n : Fin 32)
  /-- RNG to CRY: terminals whose keys are wiped. -/
  | wipes (n : Fin 32)
  deriving DecidableEq, Repr

/-- A lasting defect that the built-in self-test finds (R623). -/
structure MemDefect where
  blk : Fin 22
  mac : BitVec 16
  row : BitVec 16
  deriving DecidableEq, Repr

/-- What the boot ROM finds of one firmware image (R627, R628, Table 21.8). -/
inductive BootCheck
  | good | sig | devid | svn | read
  deriving DecidableEq, Repr

/-- Why the device leaves Quiet (R633). -/
inductive QuietExit
  | frame | fetch | disabled | expired
  deriving DecidableEq, Repr

/-- A ledger image in a flash slot with a valid CRC and the device's own identifier (R658): its MIRROR_SEQ and its
words from Sett offset 0x1200. -/
structure LedgerSlot where
  seq : Word
  words : List Word
  thermUp : Bool
  thermRef : Option Int
  deriving DecidableEq, Repr

/-- How an I2C command ends on the bus (Table 02.5, R79): in order; at the i-th byte that the master sends, from 0, which is
not acknowledged (a place past the last byte is none); or before its k-th START, from 0, where SDA was low and came free. -/
inductive I2cResult
  | ok
  | nack (i : Fin 12)
  | recovered (k : Fin 3)
  deriving DecidableEq, Repr

/-- The writes that R178 guards: GNT_n_PAYk, a write of GNT_n_CFG, BRX_n_GUARD. -/
inductive PortCfg
  | pay (k : Fin 4) (v : BitVec 24)
  | cfg (v : Word)
  | guard (v : Byte)
  deriving DecidableEq, Repr

/-- What the RS-FEC of an uplink port did in one second: codewords received, corrected, uncorrectable (Table 10.8, 16). -/
structure FecSecond where
  lane : Fin 24
  received : Word
  corrected : Word
  uncorr : Word
  deriving DecidableEq, Repr

/-- A queue or a node of the hierarchy (Table 14.2). -/
inductive QNode
  | queue (q : Fin 69632)
  | node (i : Fin 18944)
  deriving DecidableEq, Repr

/-- What a load finds of the base image (Table 06.6): accepted, or refused by its first failed check. -/
inductive UcodeCheck
  | good | sig | devid | svn | tag
  deriving DecidableEq, Repr

/-- What a load finds of one patch (Table 06.6). -/
inductive PatchCheck
  | good | sig | svn | tag
  deriving DecidableEq, Repr

/-- A patch on the boot source, in its stored order: the outcome of its checks, its sequence number, the version of the base image
that it names, and the control-store words that it writes. -/
structure UcodePatch where
  check : PatchCheck
  seq : Word
  base : Word
  words : List (BitVec 14 × Word)
  deriving DecidableEq, Repr

/-- An engine fault (R227): an uncorrectable microword, a parity error in the register file, a failed residue check, or what the
micro-routine itself does at its n-th microword. -/
inductive EngCause
  | microword | parity | residue
  | routine (n : BitVec 16)
  deriving DecidableEq, Repr

/-- An asynchronous event of Table 06.7; a FAULT notice has arrived through its queue: its port, its block (0 TPA, 1 BRX,
2 RNG, 3 UDF) and the block's notice code (FNOTE of Table 07.2). -/
inductive EngEvent
  | fault (port : Fin 32) (blk : Fin 4) (code : BitVec 16)
  | tick | intr
  deriving DecidableEq, Repr

/-- The PPS_OUT registers of R525. -/
inductive PpsCfg
  | period | width | offset
  deriving DecidableEq, Repr

/-- An I2C command that outruns its time: its master, how many of its actions were done, and the bytes the module gave (R77). -/
structure I2cStop where
  m : Fin 4
  done : Fin 24
  data : BitVec 64
  deriving DecidableEq, Repr

/-- A write of BRX_n_MEM_CMD with ALL = 1: the port, and LOCAL of the word written (Table 03.12). -/
structure MemAll where
  n : Fin 32
  l : Fin 512
  deriving DecidableEq, Repr

/-- Where the search of a burst ends: the interpolator code at lock, and the CTLE code that the search of a cold burst ends at (Table
03.5). -/
structure SearchEnd where
  code : Fin 64
  peak : Fin 32
  deriving DecidableEq, Repr

/-- A payload as the receiver followed it: the shadow peaking at its end, and the level transitions of each of its blocks of 1,024
bits (R107). -/
structure PayloadEnd where
  peak : Fin 32
  blocks : List (BitVec 11)
  deriving DecidableEq, Repr

/-- A burst in a discovery window: whether it decodes to a serial number, the iterations that each of its codewords needs, none for one
that no number corrects, and whether the MIC and CRC of its PLOAM message are right (R136, R314, R317). -/
structure SnBurst where
  good : Bool
  cws : List (Option (Fin 16))
  mic : Bool
  deriving DecidableEq, Repr

/-- What a base image holds (R212, R213): the CRC of its header, and its microwords from word 0 on. -/
structure BaseWords where
  crc : Word
  words : List Word
  deriving DecidableEq, Repr

/-- An engine fault (R227, R228): its cause, and whether the re-run faults again. -/
structure EngFault where
  cause : EngCause
  lasting : Bool
  deriving DecidableEq, Repr

/-- A lane that has lock: the equaliser it finds, and the level transitions of the block last received (R483). -/
structure LaneFit where
  eq : Word
  moves : BitVec 12
  deriving DecidableEq, Repr

/-- What a check of the Sett finds: whether the seal holds, and a cause latch and bits of it that were disturbed (R625, R626). -/
structure SettFind where
  sealHolds : Bool
  upset : Option (Fin 3 × Fin 16)
  deriving DecidableEq, Repr

/-- A second of CLK_AON: the junction temperature in °C, and by port the cycles in which PON_TXEN was high (R654, R655). -/
structure AonSecond where
  temp : Int
  lit : List (BitVec 25)
  deriving DecidableEq, Repr


/-- A read command of a shaper (Table 14.5): the function, and the FILL bit written with GO. -/
structure ReadGo where
  fn : Fn
  fill : Bool
  deriving DecidableEq, Repr

/-- The PCIe link after its training: the rate, 0 to 4, and NumVFs, which the host sets over it (R563, R592). -/
structure LinkUp where
  rate : Fin 5
  numVF : Fin 17
  deriving DecidableEq, Repr
/-- One constructor per row of spec/opcode_table.json, in its order. -/
inductive Instr
  /-- REGISTER_WRITE (R665). -/
  | registerWrite (fn : Fn) (a : BitVec 25) (v : Word)
  /-- HELD_WORD_WRITE (R684). -/
  | heldWordWrite (fn : Fn) (a : BitVec 25) (v : Word)
  /-- PARTIAL_BYTE_WRITE (R663). -/
  | partialByteWrite (fn : Fn) (a : BitVec 25) (be : Fin 15)
  /-- RESERVED_ACCESS (R664). -/
  | reservedAccess (fn : Fn) (a : BitVec 25) (wr : Bool)
  /-- IN_RESET_ACCESS (R667). -/
  | inResetAccess (fn : Fn) (a : BitVec 25) (wr : Bool)
  /-- LATCHING_READ (R684). -/
  | latchingRead (fn : Fn) (a : BitVec 25)
  /-- COUNTER_LOW_READ (R637). -/
  | counterLowRead (fn : Fn) (a : BitVec 25)
  /-- CLEAR_ON_READ (R638). -/
  | clearOnRead (fn : Fn) (a : BitVec 25)
  /-- DCQ_ITEM_VISIBLE (R21). -/
  | dcqItemVisible (x : Crossing)
  /-- FAULT_SOURCE_EVENT (R18). -/
  | faultSourceEvent (src : Fin 52) (info : BitVec 16) (baseImage : Bool) (blk : Fin 22) (queue : BitVec 16) (diff : Word)
  /-- FAULT_ACK (R596). -/
  | faultAck (srcs : BitVec 52) (sameCycle : Bool)
  /-- MEMORY_ERROR_RETRY (R38). -/
  | memoryErrorRetry (blk : Fin 22) (macro_ : BitVec 16) (row : BitVec 16) (unc : Bool) (again : Bool)
  /-- ROW_REMAP_DONE (R39). -/
  | rowRemapDone (blk : Fin 22) (macro_ : BitVec 16) (row : BitVec 16)
  /-- PIPELINE_ERROR (R38). -/
  | pipelineError (p : Fin 5)
  /-- PIPELINE_WATCH_EXPIRE (R38). -/
  | pipelineWatchExpire (p : Fin 5)
  /-- TPA_MODE_WRITE (R51). -/
  | tpaModeWrite (n : Fin 32) (v : Word)
  /-- PORT_ENABLE (R84). -/
  | portEnable (n : Fin 32) (laserEn sdGate : Bool)
  /-- PORT_DISABLE (R82). -/
  | portDisable (n : Fin 32) (laserEn sdGate : Bool)
  /-- PORT_DRAINED (R82). -/
  | portDrained (n : Fin 32)
  /-- LASER_EN_CLEAR (R62). -/
  | laserEnClear (n : Fin 32)
  /-- LASER_EN_SET (R62). -/
  | laserEnSet (n : Fin 32)
  /-- PMA_PATTERN_WRITE (R58). -/
  | pmaPatternWrite (n : Fin 32) (v : Word)
  /-- FRAMING_START (R64). -/
  | framingStart (n : Fin 32)
  /-- BURST_RESET_PULSE (R67). -/
  | burstResetPulse (n : Fin 32) (frame : BitVec 51) (k : Fin 512)
  /-- SD_CHECK (R72). -/
  | sdCheck (n : Fin 32) (frame : BitVec 51) (k : Fin 512) (pin : Bool)
  /-- ROGUE_EVENT (R73). -/
  | rogueEvent (n : Fin 32) (frame : BitVec 51) (cycle : BitVec 16)
  /-- I2C_CMD_GO (R76). -/
  | i2cCmdGo (m : Fin 4) (v : Word)
  /-- I2C_CMD_DONE (R76). -/
  | i2cCmdDone (m : Fin 4) (r : I2cResult) (data : BitVec 64)
  /-- I2C_TIMEOUT (R77). -/
  | i2cTimeout (stop : I2cStop)
  /-- BRX_PROF_WRITE (R100). -/
  | brxProfWrite (n : Fin 32) (k : Fin 4) (v : Word)
  /-- BRX_CTRL_WRITE (R100). -/
  | brxCtrlWrite (n : Fin 32) (v : Word)
  /-- MEM_INVALIDATE_ONE (R112). -/
  | memInvalidateOne (n : Fin 32) (l : Fin 512)
  /-- MEM_INVALIDATE_ALL (R112). -/
  | memInvalidateAll (all : MemAll)
  /-- MEM_CMD_DONE (R112). -/
  | memCmdDone (n : Fin 32)
  /-- AGE_TICK (R91). -/
  | ageTick
  /-- BURST_KINDS_FIXED (R96). -/
  | burstKindsFixed (n : Fin 32) (frame : BitVec 51) (cycle : BitVec 64)
  /-- BRX_SLEEP (R114). -/
  | brxSleep (n : Fin 32) (cycle : BitVec 64)
  /-- BRX_WAKE (R114). -/
  | brxWake (n : Fin 32) (frame : BitVec 51) (k : Option (Fin 512))
  /-- PLANNING_POINT (R118). -/
  | planningPoint (n : Fin 32) (frame : BitVec 51) (copyBad : Bool)
  /-- BURST_ACQUIRE (R103). -/
  | burstAcquire (n : Fin 32) (frame : BitVec 51) (k : Fin 512) (eye : Bool) (found : SearchEnd) (delim : Option Int)
  /-- BURST_VERDICT (R302). -/
  | burstVerdict (n : Fin 32) (frame : BitVec 51) (k : Fin 512) (payload : PayloadEnd)
  /-- TEQ_WRITE (R126). -/
  | teqWrite (n : Fin 32) (v : Word)
  /-- RNG_DISC_WRITE (R133). -/
  | rngDiscWrite (n : Fin 32) (v : Word)
  /-- RNG_TRACK_WRITE (R149). -/
  | rngTrackWrite (n : Fin 32) (v : Word)
  /-- DISC_REQUEST (R130). -/
  | discRequest (n : Fin 32)
  /-- SN_RESPONSE (R136). -/
  | snResponse (n : Fin 32) (frame : BitVec 51) (k : Fin 512) (got : SnBurst) (sn : Word64) (rnd : BitVec 16) (delim : Int) (phase : Fin 64)
  /-- ASSIGN_TIMEOUT (R137). -/
  | assignTimeout (n : Fin 32)
  /-- ASSIGN (R137). -/
  | rngAssign (n : Fin 32) (l : Fin 512)
  /-- REJECT (R137). -/
  | rngReject (n : Fin 32) (l : Fin 512)
  /-- RERANGE (R151). -/
  | rngRerange (n : Fin 32) (l : Fin 512)
  /-- DEACTIVATE (R151). -/
  | rngDeactivate (n : Fin 32) (l : Fin 512)
  /-- INVALIDATE (R152). -/
  | rngInvalidate (n : Fin 32) (l : Fin 512)
  /-- RANGING_REQUEST (R139). -/
  | rangingRequest (n : Fin 32) (l : Fin 512)
  /-- RANGING_BURST (R140). -/
  | rangingBurst (n : Fin 32)
  /-- RANGING_ATTEMPT_FAIL (R143). -/
  | rangingAttemptFail (n : Fin 32)
  /-- OFFSET_TRACK (R144). -/
  | offsetTrack (n : Fin 32)
  /-- PEND_TIMEOUT (R148). -/
  | pendTimeout (n : Fin 32) (l : Fin 512)
  /-- LOCK_FAIL_REPORT (R151). -/
  | lockFailReport (n : Fin 32)
  /-- LOST_TIMEOUT (R151). -/
  | lostTimeout (n : Fin 32) (l : Fin 512)
  /-- RECORD_PUBLISH (R157). -/
  | recordPublish (n : Fin 32) (l : Fin 512)
  /-- GNT_STREAM_COMMIT (R164). -/
  | gntStreamCommit (st : BitVec 16) (v : Word)
  /-- SS_WINDOW_COMMIT (R197). -/
  | ssWindowCommit (w : Fin 2048) (v : Word)
  /-- GNT_PORT_CFG_WRITE (R178). -/
  | gntPortCfgWrite (n : Fin 32) (f : PortCfg)
  /-- COALESCE_DRAIN (R172). -/
  | coalesceDrain (m : Fin 8)
  /-- REPORT_STALL_LIMIT (R169). -/
  | reportStallLimit (m : Fin 8)
  /-- MISSING_PAGE (R193). -/
  | missingPage (n : Fin 32) (frame : BitVec 51)
  /-- LEDGER_CLOSE (R200). -/
  | ledgerClose (n : Fin 32) (frame : BitVec 51)
  /-- UDF_COUNTS_DELIVER (R306). -/
  | udfCountsDeliver (n : Fin 32) (frame : BitVec 51)
  /-- MICROCODE_LOAD (R213). -/
  | microcodeLoad (base : UcodeCheck) (ver : Word) (image : BaseWords) (patches : List UcodePatch)
  /-- MICROCODE_LOAD_DONE (R213). -/
  | microcodeLoadDone
  /-- ENGINE_FAULT (R228). -/
  | engineFault (l : Fin 16) (fault : EngFault) (itemHeld : Bool)
  /-- MIGRATE_DONE (R229). -/
  | migrateDone (l : Fin 16) (unc : Bool)
  /-- EVENT_PENDING (R219). -/
  | eventPending (l : Fin 16) (ev : EngEvent)
  /-- EVENT_TAKE (R259). -/
  | eventTake (l : Fin 16) (safePoint : Option (BitVec 12))
  /-- ENGINE_RUN (R236). -/
  | engineRun (l : Fin 16) (v : Word)
  /-- ENGINE_STOP (R236). -/
  | engineStop (l : Fin 16) (v : Word)
  /-- MTN_MBOX_WRITE (R237). -/
  | mtnMboxWrite (l : Fin 16) (v : Word)
  /-- ENGINE_WAKE (R233). -/
  | engineWake (l : Fin 16)
  /-- ADD (R249). -/
  | sisAdd (l : Fin 16)
  /-- SUB (R249). -/
  | sisSub (l : Fin 16)
  /-- AND (R249). -/
  | sisAnd (l : Fin 16)
  /-- OR (R249). -/
  | sisOr (l : Fin 16)
  /-- XOR (R249). -/
  | sisXor (l : Fin 16)
  /-- SHL (R249). -/
  | sisShl (l : Fin 16)
  /-- SHR (R249). -/
  | sisShr (l : Fin 16)
  /-- ASR (R249). -/
  | sisAsr (l : Fin 16)
  /-- MIN (R249). -/
  | sisMin (l : Fin 16)
  /-- MAX (R249). -/
  | sisMax (l : Fin 16)
  /-- MUL (R249). -/
  | sisMul (l : Fin 16)
  /-- EXT (R249). -/
  | sisExt (l : Fin 16)
  /-- INS (R249). -/
  | sisIns (l : Fin 16)
  /-- ADDI (R249). -/
  | sisAddi (l : Fin 16)
  /-- ANDI (R249). -/
  | sisAndi (l : Fin 16)
  /-- ORI (R249). -/
  | sisOri (l : Fin 16)
  /-- XORI (R249). -/
  | sisXori (l : Fin 16)
  /-- SHLI (R249). -/
  | sisShli (l : Fin 16)
  /-- SHRI (R249). -/
  | sisShri (l : Fin 16)
  /-- ASRI (R249). -/
  | sisAsri (l : Fin 16)
  /-- MULI (R249). -/
  | sisMuli (l : Fin 16)
  /-- LI (R249). -/
  | sisLi (l : Fin 16)
  /-- LIH (R249). -/
  | sisLih (l : Fin 16)
  /-- CB (R250). -/
  | sisCb (l : Fin 16)
  /-- CALL (R250). -/
  | sisCall (l : Fin 16)
  /-- JR (R250). -/
  | sisJr (l : Fin 16)
  /-- CALLX (R262). -/
  | sisCallx (l : Fin 16)
  /-- RETX (R263). -/
  | sisRetx (l : Fin 16)
  /-- BUDGET_SPENT (R263). -/
  | sisBudgetSpent (l : Fin 16)
  /-- ERET (R259). -/
  | sisEret (l : Fin 16)
  /-- HALT (R236). -/
  | sisHalt (l : Fin 16)
  /-- RDSYS (R245). -/
  | sisRdsys (l : Fin 16)
  /-- WRSYS (R245). -/
  | sisWrsys (l : Fin 16)
  /-- WAITFT (R260). -/
  | sisWaitft (l : Fin 16)
  /-- LDS (R251). -/
  | sisLds (l : Fin 16)
  /-- STS (R251). -/
  | sisSts (l : Fin 16)
  /-- LDT (R251). -/
  | sisLdt (l : Fin 16)
  /-- STT (R251). -/
  | sisStt (l : Fin 16)
  /-- LDL (R252). -/
  | sisLdl (l : Fin 16)
  /-- STL (R252). -/
  | sisStl (l : Fin 16)
  /-- SORT (R253). -/
  | sisSort (l : Fin 16)
  /-- SCANS (R253). -/
  | sisScans (l : Fin 16)
  /-- SCANT (R253). -/
  | sisScant (l : Fin 16)
  /-- RDRPT (R254). -/
  | sisRdrpt (l : Fin 16)
  /-- RPTLV (R254). -/
  | sisRptlv (l : Fin 16)
  /-- MBS (R583). -/
  | sisMbs (l : Fin 16)
  /-- MBR (R583). -/
  | sisMbr (l : Fin 16)
  /-- EMIT (R255). -/
  | sisEmit (l : Fin 16)
  /-- CALI (R257). -/
  | sisCali (l : Fin 16)
  /-- SEAL (R183). -/
  | sisSeal (l : Fin 16)
  /-- PSEG (R265). -/
  | pseg (r : Fin 1024)
  /-- PLOAD (R265). -/
  | pload (r : Fin 1024) (data : List Word64) (dmaOk : Bool)
  /-- PREAD (R265). -/
  | pread (r : Fin 1024) (dmaOk : Bool)
  /-- FRAME_TICK (R270). -/
  | frameTick
  /-- SFC_LOAD (R272). -/
  | sfcLoad (v : Word)
  /-- FT_OFFSET_WRITE (R272). -/
  | ftOffsetWrite (v : Word)
  /-- LINE_FRAME_START (R273). -/
  | lineFrameStart (n : Fin 32) (phase : Int)
  /-- MAP_READ (R277). -/
  | mapRead (n : Fin 32) (frame : BitVec 51) (unc : Bool)
  /-- PROFILE_ANNOUNCE (R282). -/
  | profileAnnounce (n : Fin 32)
  /-- HOLD_BEGIN (R289). -/
  | holdBegin (n : Fin 32) (v : Word)
  /-- HOLD_END (R292). -/
  | holdEnd (n : Fin 32) (v : Word)
  /-- HOLD_EXPIRE (R293). -/
  | holdExpire (n : Fin 32)
  /-- CODEWORD_DECODE (R301). -/
  | codewordDecode (n : Fin 32) (frame : BitVec 51) (k : Fin 512) (need : Option (Fin 16)) (corrBits : BitVec 16) (data : List Byte) (fails : List Nat) (rngMsg : Bool)
  /-- BURST_TRUNCATION (R303). -/
  | burstTruncation (n : Fin 32) (frame : BitVec 51) (k : Fin 512)
  /-- REASM_TIMEOUT (R311). -/
  | reasmTimeout (st : BitVec 16)
  /-- SECOND_BOUNDARY (R316). -/
  | secondBoundary (sec : BitVec 34) (fec : List FecSecond)
  /-- CIRCUIT_COMMIT (R320). -/
  | circuitCommit (c : Fin 2048) (v : Word)
  /-- PW_ENTRY_COMMIT (R340). -/
  | pwEntryCommit (w : Fin 2048) (v : Word)
  /-- CARRIER_FRAME_RECEIVE (R329). -/
  | carrierFrameReceive (e : Fin 4096)
  /-- ALIGN_WORD_MATCH (R332). -/
  | alignWordMatch (e : Fin 4096)
  /-- TCE_SWAP (R338). -/
  | tceSwap
  /-- PW_PACKET_SEND (R340). -/
  | pwPacketSend (w : Fin 2048)
  /-- PW_PACKET_RECEIVE (R341). -/
  | pwPacketReceive (w : Fin 2048)
  /-- PM_SECOND_COMMIT (R347). -/
  | pmSecondCommit (e : Fin 20504) (sec : BitVec 34)
  /-- PM_BIN_CLOSE (R347). -/
  | pmBinClose (e : Fin 20504) (day : Bool) (start : BitVec 34) (dmaOk : Bool)
  /-- SELECTION_COMMIT (R352). -/
  | selectionCommit (x : Fin 256) (v : Word)
  /-- PROFILE_COMMIT (R384). -/
  | profileCommit (p : Fin 64) (v : Word)
  /-- PACKET_PASS (R366). -/
  | packetPass (p : Fin 5) (unc : Bool)
  /-- TNODE (R377). -/
  | tnode (r : Fin 1024) (data : List (BitVec 256)) (dmaOk : Bool)
  /-- TRULE (R378). -/
  | trule (r : Fin 1024) (data : List (BitVec 512)) (dmaOk : Bool)
  /-- TROOT (R377). -/
  | troot (r : Fin 1024) (data : List Word) (dmaOk : Bool)
  /-- TREAD (R377). -/
  | tread (r : Fin 1024) (dmaOk : Bool)
  /-- ESWAP (R372). -/
  | eswap (r : Fin 1024)
  /-- EPOCH_SWAP_POINT (R372). -/
  | epochSwapPoint
  /-- LEARN_PLACE (R396). -/
  | learnPlace (draw : Word)
  /-- AGE_OUT (R400). -/
  | ageOut (loc : Fin 264192)
  /-- READ (R404). -/
  | fdbRead (fn : Fn)
  /-- WRITE (R404). -/
  | fdbWrite (fn : Fn)
  /-- INSERT (R397). -/
  | fdbInsert (fn : Fn) (draw : Word)
  /-- DELETE (R403). -/
  | fdbDelete (fn : Fn)
  /-- SEARCH (R404). -/
  | fdbSearch (fn : Fn)
  /-- FDB_SEED_WRITE (R390). -/
  | fdbSeedWrite (v : Word)
  /-- FID_WRITE (R408). -/
  | fidWrite (f : BitVec 12) (v : Word)
  /-- BUFFER_ALLOC (R412). -/
  | bufferAlloc (j : Fin 8) (pick : BitVec 19) (metaBad : Bool)
  /-- BUFFER_FREE (R417). -/
  | bufferFree (ptr : BitVec 19) (code : BitVec 8) (metaBad : Bool)
  /-- BUFFER_SHARE (R419). -/
  | bufferShare (ptr : BitVec 19) (code : BitVec 8) (copies : BitVec 13) (last : BitVec 7)
  /-- BPM_ENABLE (R428). -/
  | bpmEnable (en : Bool)
  /-- BPM_INIT_DONE (R428). -/
  | bpmInitDone
  /-- BPM_CFG_WRITE (R428). -/
  | bpmCfgWrite (k : Fin 8) (count : Bool) (v : Word)
  /-- FRAME_ADMIT (R433). -/
  | frameAdmit
  /-- EGRESS_SELECT (R437). -/
  | egressSelect (e : Fin 57)
  /-- SHAPER_TICK (R441). -/
  | shaperTick (x : Fin 88832)
  /-- SHAPER_WRITE (R447). -/
  | shaperWrite (fn : Fn) (fill : Bool)
  /-- SHAPER_READ (R447). -/
  | shaperRead (go : ReadGo)
  /-- GATE_COMMIT (R448). -/
  | gateCommit (g : Fin 56) (v : Word)
  /-- GATE_TAKEOVER (R449). -/
  | gateTakeover (g : Fin 56)
  /-- GATE_ENTRY_ADVANCE (R450). -/
  | gateEntryAdvance (g : Fin 56)
  /-- LAUNCH_SELECT (R453). -/
  | launchSelect (e : Fin 57)
  /-- QUEUE_DISABLE (R458). -/
  | queueDisable (x : QNode) (v : Word)
  /-- QUEUE_DRAINED (R458). -/
  | queueDrained (x : QNode)
  /-- QUEUE_ENABLE (R458). -/
  | queueEnable (x : QNode) (v : Word)
  /-- TMG_GRP_WRITE (R430). -/
  | tmgGrpWrite (k : Fin 512) (v : Word)
  /-- QUEUE_SAMPLE (R460). -/
  | queueSample (q : Fin 69632)
  /-- TKEY (R466). -/
  | tkey (fn : Fn)
  /-- TSWITCH (R468). -/
  | tswitch (fn : Fn)
  /-- TCLEAR (R466). -/
  | tclear (fn : Fn)
  /-- SAKEY (R472). -/
  | sakey (fn : Fn)
  /-- SAENA (R463). -/
  | saena (fn : Fn)
  /-- SADIS (R474). -/
  | sadis (fn : Fn)
  /-- SA_DONE (R474). -/
  | saDone (a : Fin 1024)
  /-- GSC_WRITE (R471). -/
  | gscWrite (k : Fin 512) (v : Word)
  /-- TXSC_AN_WRITE (R474). -/
  | txscAnWrite (c : Fin 256) (v : Word)
  /-- QUAD_MODE_WRITE (R478). -/
  | quadModeWrite (q : Fin 6) (v : Word)
  /-- UPL_PORT_ENABLE (R486). -/
  | uplPortEnable (u : Fin 24) (v : Word)
  /-- UPL_PORT_DISABLE (R486). -/
  | uplPortDisable (u : Fin 24) (v : Word)
  /-- LANE_LOCK (R486). -/
  | laneLock (l : Fin 32) (fit : LaneFit)
  /-- LANE_LOCK_LOSS (R485). -/
  | laneLockLoss (l : Fin 32)
  /-- PCS_ALIGN (R486). -/
  | pcsAlign (u : Fin 24)
  /-- ALIGN_TIMEOUT (R486). -/
  | alignTimeout (u : Fin 24)
  /-- RETRAIN_TIMEOUT (R486). -/
  | retrainTimeout (u : Fin 24)
  /-- UPL_RX_FRAME (R481). -/
  | uplRxFrame (u : Fin 24) (data : List Byte) (fcsBad uncorr cutOff : Bool) (ns : Word64) (frac : BitVec 16)
  /-- UPL_GROUP_WRITE (R489). -/
  | uplGroupWrite (g : Fin 24) (v : Word)
  /-- PROT_GROUP_ENABLE (R561). -/
  | protGroupEnable (g : Fin 24) (v : Word)
  /-- MLK_ENABLE (R491). -/
  | mlkEnable (v : Word)
  /-- MLK_TRAIN_START (R496). -/
  | mlkTrainStart (v : Word)
  /-- BITSLIP (R496). -/
  | bitslip (l : Fin 8)
  /-- MLK_TRAIN_END (R497). -/
  | mlkTrainEnd (v : Word)
  /-- MLK_LINK_UP (R497). -/
  | mlkLinkUp
  /-- MLK_BLOCK_RECEIVE (R493). -/
  | mlkBlockReceive (l : Fin 8) (b : BitVec 256)
  /-- MLK_LANE_DROP (R499). -/
  | mlkLaneDrop (l : Fin 8)
  /-- MLK_NARROW_DONE (R499). -/
  | mlkNarrowDone
  /-- MLK_LANE_RETRAIN (R503). -/
  | mlkLaneRetrain (l : Fin 8) (locks : Bool)
  /-- MLK_CLOCK_LOSS (R504). -/
  | mlkClockLoss
  /-- INC_COMMIT (R508). -/
  | incCommit (v : Word)
  /-- SLEW_START (R509). -/
  | slewStart (v : Word)
  /-- SLEW_CANCEL (R509). -/
  | slewCancel
  /-- SLEW_END (R509). -/
  | slewEnd
  /-- STEP_GO (R510). -/
  | stepGo
  /-- STEP_APPLY (R510). -/
  | stepApply
  /-- REARM_WRITE (R511). -/
  | rearmWrite (v : Word) (late : Bool)
  /-- TSREF_LOSS (R513). -/
  | tsrefLoss
  /-- TS_PLL_UNLOCK (R513). -/
  | tsPllUnlock
  /-- COMPARE_TARGET_COMMIT (R521). -/
  | compareTargetCommit (k : Fin 16) (v : Word)
  /-- COMPARE_FIRE (R521). -/
  | compareFire (k : Fin 16)
  /-- PPS_CONFIG_WRITE (R525). -/
  | ppsConfigWrite (o : Fin 2) (f : PpsCfg) (v : Word)
  /-- PPS_OUT_PULSE (R525). -/
  | ppsOutPulse (o : Fin 2)
  /-- OUT_HOLD_SET (R527). -/
  | outHoldSet
  /-- OUT_HOLD_CLEAR (R527). -/
  | outHoldClear
  /-- HOLD_CONVERGED (R527). -/
  | holdConverged
  /-- PPS_IN_CAPTURE (R529). -/
  | ppsInCapture (x : Fin 2) (ns : Word64) (frac : BitVec 16)
  /-- TOD_TX_WRITE (R530). -/
  | todTxWrite (b : Byte)
  /-- TOD_RX_BYTE (R531). -/
  | todRxByte (b : Byte) (idle : Bool)
  /-- MATE_TIME_SEND (R532). -/
  | mateTimeSend
  /-- MATE_TIME_RECEIVE (R532). -/
  | mateTimeReceive
  /-- TOD_PERIOD_START (R537). -/
  | todPeriodStart (n : Fin 32)
  /-- PROT_ENABLE (R541). -/
  | protEnable (n : Fin 32) (v : Word)
  /-- FORCE (R545). -/
  | protForce (n : Fin 32)
  /-- LOCKOUT (R547). -/
  | protLockout (n : Fin 32)
  /-- CLEAR (R547). -/
  | protClear (n : Fin 32)
  /-- SILENT_DETECT (R545). -/
  | silentDetect (n : Fin 32)
  /-- MATE_TIMEOUT (R545). -/
  | mateTimeout (n : Fin 32)
  /-- SWITCH_RECEIVE (R552). -/
  | switchReceive
  /-- DARK_RECEIVE (R550). -/
  | darkReceive
  /-- TAKING_LIGHT (R549). -/
  | takingLight (n : Fin 32)
  /-- RELEASING_DARK (R554). -/
  | releasingDark (n : Fin 32)
  /-- STATE_BLOCK_SEND (R560). -/
  | stateBlockSend
  /-- STATE_BLOCK_RECEIVE (R543). -/
  | stateBlockReceive
  /-- MIRROR (R559). -/
  | mirror (n : Fin 32) (l : Fin 512)
  /-- MIRROR_RECEIVE (R559). -/
  | mirrorReceive
  /-- MAP_BLOCK_RECEIVE (R560). -/
  | mapBlockReceive
  /-- HIF_GRP_WRITE (R567). -/
  | hifGrpWrite (j : Fin 64) (v : Word)
  /-- RING_CONTEXT_COMMIT (R571). -/
  | ringContextCommit (fn : Fn) (r : Fin 1024) (v : Word)
  /-- RING_DISABLE (R572). -/
  | ringDisable (fn : Fn) (r : Fin 1024) (v : Word)
  /-- DOORBELL (R573). -/
  | doorbell (fn : Fn) (r : Fin 1024) (v : Word)
  /-- DESCRIPTOR_FETCH (R574). -/
  | descriptorFetch (r : Fin 1024) (data : BitVec 256) (dmaOk : Bool)
  /-- PTX_QUEUE (R578). -/
  | ptxQueue (r : Fin 1024) (data : List Byte) (dmaOk : Bool)
  /-- PTX_PLOAM (R579). -/
  | ptxPloam (r : Fin 1024) (data : List Byte) (dmaOk : Bool)
  /-- PTX_COMPLETE (R517). -/
  | ptxComplete (e : Fin 57) (ns : Word64) (frac : BitVec 16)
  /-- PRX_DELIVER (R581). -/
  | prxDeliver (dmaOk wrOk : Bool)
  /-- MSIX_MOD_TIMER (R585). -/
  | msixModTimer (r : Fin 1024)
  /-- TW_DATA0_READ (R588). -/
  | twData0Read (t : Fin 16)
  /-- PCIE_RESET (R590). -/
  | pcieReset (loss : Bool)
  /-- VF_FLR (R591). -/
  | vfFlr (t : Fin 16)
  /-- FLT_STATUS_CLEAR (R597). -/
  | fltStatusClear (hi : Bool) (v : Word)
  /-- SOURCE_CLASS_WRITE (R594). -/
  | sourceClassWrite (src : Fin 52) (cls : Fin 4)
  /-- FFR_CLEAR (R598). -/
  | ffrClear
  /-- ALIVE_TOGGLE (R599). -/
  | aliveToggle
  /-- FLT_INJ (R609). -/
  | fltInj (src : Fin 64) (sameCycle : Bool)
  /-- QUIET_TIMER_EXPIRE (R605). -/
  | quietTimerExpire
  /-- FLT_RCV_CLR (R607). -/
  | fltRcvClr (v : Word) (late : Bool)
  /-- FLT_LOCK (R612). -/
  | fltLock
  /-- MATE_ALIVE_LOSS (R608). -/
  | mateAliveLoss
  /-- POWER_ON_AON (R618). -/
  | powerOnAon
  /-- POWER_ON_CORE (R618). -/
  | powerOnCore
  /-- PORST (R618). -/
  | porst
  /-- SYSRST (R618). -/
  | sysrst
  /-- SOFTWARE_GLOBAL_RESET (R630). -/
  | softwareGlobalReset (v : Word) (late : Bool)
  /-- WATCHDOG_EXPIRE (R631). -/
  | watchdogExpire
  /-- SUPPLY_OUT_OF_WINDOW (R673). -/
  | supplyOutOfWindow (rail : Fin 16)
  /-- SETT_CHECK (R625). -/
  | settCheck (find : SettFind)
  /-- STRAP_MEASURE (R614). -/
  | strapMeasure (code : Fin 16)
  /-- TRIM_LOAD (R622). -/
  | trimLoad (crcMatch : Bool)
  /-- PLL_LOCK (R621). -/
  | pllLock
  /-- MEMORY_BIST (R623). -/
  | memoryBist (defects : List MemDefect)
  /-- DOMAIN_RELEASE (R619). -/
  | domainRelease (perst : Bool)
  /-- BOOT_ROM (R627). -/
  | bootRom (copyA copyB : BootCheck) (version : Word)
  /-- HOST_LOAD (R628). -/
  | hostLoad (len : BitVec 20) (check : BootCheck) (recovery : Bool) (version : Word)
  /-- OUT_REL (R629). -/
  | outRel (slotA slotB : Option LedgerSlot)
  /-- BLOCK_SOFT_RESET (R635). -/
  | blockSoftReset (mask : BitVec 19)
  /-- BLOCK_RESET_RELEASE (R635). -/
  | blockResetRelease (b : Fin 19)
  /-- QUIET_ENTER (R633). -/
  | quietEnter
  /-- QUIET_EXIT (R633). -/
  | quietExit (why : QuietExit)
  /-- UPLINK_EGRESS_SLEEP (R632). -/
  | uplinkEgressSleep (u : Fin 24) (sending : Bool)
  /-- SNAP_GO (R641). -/
  | snapGo (at_ : Bool)
  /-- SNAP_COPY (R641). -/
  | snapCopy
  /-- THRESHOLD_COMMIT (R643). -/
  | thresholdCommit (k : Fin 64) (v : Word)
  /-- TRACE_MARK (R648). -/
  | traceMark (v : Word)
  /-- TRACE_CTRL_WRITE (R649). -/
  | traceCtrlWrite (v : Word)
  /-- LIFETIME_SECOND (R654). -/
  | lifetimeSecond (second : AonSecond)
  /-- LEDGER_MIRROR (R657). -/
  | ledgerMirror
  /-- MIRROR_NOW (R657). -/
  | mirrorNow (en : Bool)
  /-- MIRROR_WRITE_DONE (R657). -/
  | mirrorWriteDone (ok : Bool)
  /-- LEVEL_CONDITION_ABSENT (R597). -/
  | levelConditionAbsent (src : Fin 52)
  /-- CLK_TS_PLL_RELOCK (R513). -/
  | clkTsPllRelock
  /-- MLK_CLOCK_RETURN (R504). -/
  | mlkClockReturn
  /-- PCS_ALIGNMENT_LOSS (R486). -/
  | pcsAlignmentLoss (u : Fin 24)
  /-- UPLINK_EGRESS_WAKE (R632). -/
  | uplinkEgressWake (u : Fin 24)
  /-- CLK_OUT_EDGE (R526). -/
  | clkOutEdge (o : Fin 2) (rise : Bool)
  /-- TRACE_PORT_SEND (R650). -/
  | tracePortSend
  /-- PCIE_LINK_TRAINED (R564). -/
  | pcieLinkTrained (width8 : Bool) (up : LinkUp)
  deriving DecidableEq, Repr

end Sys2Proof
end

