-- ==== Sys2Proof/Decode.lean ====
section
/-! DEFINITION. The commands that spec/opcode_table.json spells by bits: none of its rows gives any, since a command of this
block is an access, an event of a line or a pin, or an instant. -/

namespace Sys2Proof

/-- The command that a word of nbits bits spells; no row of the table gives bits. -/
def decodeTableWord (_nbits _w : Nat) : Option Instr := none

end Sys2Proof
end

