-- ==== Sys2Proof/Config.lean ====
section
/-! DEFINITION. What one chip fixes (trim, fuses) and what the spec leaves open: free values, constants without a
body, so that no proof can see them. -/

namespace Sys2Proof.Config

/-- The trim value of the T fields of the register at a BAR0 address (R7), loaded at TRIM_LOAD. -/
opaque trimWord : Nat → Word

/-- The payload type byte and the source identifier of the RTP header of a pseudowire packet (R340 gives neither). -/
opaque rtpType : Byte
opaque rtpSource : Nat → Word

/-- The status, less one, of an FDB WRITE to a location that holds another key (R403, Table 12.4 gives none). -/
opaque fdbOccupied : Nat

/-- The standard's counter block for an XGEM payload (Table 15.1, R288): upstream or not, superframe counter, word position. The
spec does not give its layout. -/
opaque counterBlock : Bool → Nat → Nat → BitVec 128

/-- The PON-ID that PSBd carries on a port (Table 08.1); no register or command gives it. -/
opaque ponId : Nat → Word64

/-- The standard's broadcast Alloc-ID (Table 08.2), which the spec does not give. -/
opaque broadcastAlloc : BitVec 14

/-- The standard's broadcast ONU-ID (Table 17.5), which the spec does not give. -/
opaque broadcastOnu : BitVec 10

/-- The HEC of an allocation structure over its other 51 bits (Table 08.2), which DFR computes as the standard defines. -/
opaque mapHec : BitVec 51 → BitVec 13

/-- The error of TSU's arithmetic on a time T, in units of 2^-16 ps (R535 allows 1 ps). -/
opaque todError : Int → Int

/-- Credits of the dual-clock queues of a crossing beyond the first: Table 01.9 gives no depth. -/
opaque queueSlots : Nat → Nat

/-- Values that the spec leaves open each time they are needed: cycles, latencies, draws of an LFSR. -/
opaque freeWord : Nat → Word

/-- Operations of Maeluno's microcode, which Table 06.4 gives by group only: the value that one writes to its destination, if it
writes; the flags Z, N, C and V of arithmetic and logic; status and data of a calendar, context or FIFO port access, if it is one; which sequencing codes end the instruction
or are safe points, and what they leave in the loop counter. -/
opaque microResult : BitVec 6 → Word64 → Word64 → BitVec 8 → Option Word64
opaque microFlags : BitVec 6 → Word64 → Word64 → BitVec 8 → BitVec 4
opaque microPort : BitVec 6 → Word64 → Word64 → BitVec 8 → Option (Word64 × Word64)
opaque microEnds : BitVec 6 → Bool
opaque microSafe : BitVec 6 → Bool
opaque microLoop : BitVec 6 → Word64 → Word64

/-- Cycles of the domain of a source of OBS that fall into one tick of CLK_TS, each time (R19 assumes no relation). -/
opaque cyclesIn : Nat → Nat → Nat

/-- Present content of a list range while its SORT is suspended (R258): the entries by position. -/
opaque partSorted : Nat → Nat → Word64

/-- Physical engines marked defective by fuse repair (R205). -/
opaque fusedOut : BitVec 18

/-- Elements of Table 01.7 that fuses repair, beside engines. -/
inductive FuseKind
  | row | column | bank | pipeline | slice
  deriving DecidableEq, Repr

/-- A fuse repair: its kind, its block and its place: 65,536 × macro + row or column, bank, pipeline or lane. -/
structure FuseRepair where
  kind : FuseKind
  blk : Nat
  loc : Nat
  deriving DecidableEq, Repr

/-- The fuse repairs of the chip but those of engines (R44, Table 01.7). -/
opaque fuseRepairs : List FuseRepair

/-- The runtime repair record as it reads: its format is the maker's (R687). Repairs as kind, element, location; offset. -/
opaque repairWord : List (Nat × Nat × Nat) → Nat → Word

/-- The cycle-tracking state of the ledger as it reads (Table 22.8 gives no format): direction, extreme; offset. -/
opaque thermWord : Bool → Option Int → Nat → Word

end Sys2Proof.Config
end

