-- ==== Sys2Proof/Machine/Addr.lean ====
section
/-! DEFINITION. The BAR0 byte address of every register (Table 23.1 and the offset tables of 02 to 23), under the
register's own name; the arguments are the indices in the order of the strides. -/

namespace Sys2Proof.Machine.Reg

/-! Registers of GLB. -/

def GLB_ID : Nat := 0x0
def GLB_REV : Nat := 0x4
def GLB_DIEID_LO : Nat := 0x8
def GLB_DIEID_HI : Nat := 0xC
def GLB_SCRATCH : Nat := 0x10
def GLB_CNT_RSV : Nat := 0x20
def GLB_RSV_LAST : Nat := 0x24
def GLB_CNT_INRST : Nat := 0x28
/-! Registers of RCP. -/

def RCP_STRAP : Nat := 0x100000
def RCP_CAUSE : Nat := 0x100004
def RCP_STATUS : Nat := 0x100008
def RCP_SWRST : Nat := 0x10000C
def RCP_BLK_RST : Nat := 0x100010
def RCP_PWR : Nat := 0x100014
def RCP_BOOT : Nat := 0x100018
def RCP_HLOAD : Nat := 0x10001C
def RCP_SEAL : Nat := 0x100020
def RCP_CNT_REFUSED : Nat := 0x100024
def RCP_FW_VER : Nat := 0x100028
def RCP_BKP (i : Nat) : Nat := 0x100040 + 4 * i
def RCP_RET_RO (i : Nat) : Nat := 0x110000 + 4 * i
def RCP_RET_USER (i : Nat) : Nat := 0x11D000 + 4 * i
def RCP_RET_TOP (i : Nat) : Nat := 0x11F000 + 4 * i
def RCP_HWIN (i : Nat) : Nat := 0x180000 + 4 * i
/-! Registers of FLT. -/

def FLT_CTRL : Nat := 0x200000
def FLT_STATE : Nat := 0x200004
def FLT_STATUS_LO : Nat := 0x200008
def FLT_STATUS_HI : Nat := 0x20000C
def FLT_INJ_STATUS_LO : Nat := 0x200010
def FLT_INJ_STATUS_HI : Nat := 0x200014
def FLT_INJ : Nat := 0x200018
def FLT_INT : Nat := 0x20001C
def FLT_MATE : Nat := 0x200020
def FLT_RCV_CTRL : Nat := 0x200024
def FLT_RCV_STATUS : Nat := 0x200028
def FLT_RCV_CLR : Nat := 0x20002C
def FLT_CNT_REFUSED : Nat := 0x200030
def FLT_FFR_INFO : Nat := 0x200040
def FLT_FFR_TIME_LO : Nat := 0x200044
def FLT_FFR_TIME_HI : Nat := 0x200048
def FLT_FFR_AON_LO : Nat := 0x20004C
def FLT_FFR_AON_HI : Nat := 0x200050
def FLT_PREV_INFO : Nat := 0x200060
def FLT_PREV_TIME_LO : Nat := 0x200064
def FLT_PREV_TIME_HI : Nat := 0x200068
def FLT_PREV_AON_LO : Nat := 0x20006C
def FLT_PREV_AON_HI : Nat := 0x200070
def FLT_CRED_IDX : Nat := 0x200080
def FLT_CRED_DIFF : Nat := 0x200084
def FLT_CRED_TIME_LO : Nat := 0x200088
def FLT_CRED_TIME_HI : Nat := 0x20008C
def FLT_CRED_CNT : Nat := 0x200090
def FLT_SRC (i : Nat) : Nat := 0x200100 + 4 * i
def FLT_CNT (i : Nat) : Nat := 0x200200 + 4 * i
/-! Registers of OBS. -/

def OBS_CTRL : Nat := 0x300000
def OBS_STATUS : Nat := 0x300004
def OBS_SNAP : Nat := 0x300008
def OBS_SNAP_AT_LO : Nat := 0x300010
def OBS_SNAP_AT_HI : Nat := 0x300014
def OBS_SNAP_TIME_LO : Nat := 0x300018
def OBS_SNAP_TIME_HI : Nat := 0x30001C
def OBS_OVF : Nat := 0x300020
def OBS_SAT : Nat := 0x300024
def OBS_CNT_REFUSED : Nat := 0x300030
def OBS_TD_E_LO (i j : Nat) : Nat := 0x300100 + 64 * i + 8 * j
def OBS_TD_E_HI (i j : Nat) : Nat := 0x300104 + 64 * i + 8 * j
def OBS_TD_P_LO (i j : Nat) : Nat := 0x300600 + 32 * i + 8 * j
def OBS_TD_P_HI (i j : Nat) : Nat := 0x300604 + 32 * i + 8 * j
def OBS_THR_CFG (i : Nat) : Nat := 0x300800 + 16 * i
def OBS_THR_N (i : Nat) : Nat := 0x300804 + 16 * i
def OBS_THR_CNT_LO (i : Nat) : Nat := 0x300808 + 16 * i
def OBS_THR_CNT_HI (i : Nat) : Nat := 0x30080C + 16 * i
def OBS_SMP_CTRL : Nat := 0x301000
def OBS_SMP_MASK : Nat := 0x301004
def OBS_SMP_STATUS : Nat := 0x301008
def OBS_SMP_CNT_LOST : Nat := 0x30100C
def OBS_SMP_RIDX : Nat := 0x301010
def OBS_SMP_RDATA (i : Nat) : Nat := 0x301014 + 4 * i
def OBS_TRC_CTRL : Nat := 0x302000
def OBS_TRC_PMASK : Nat := 0x302004
def OBS_TRC_WPTR : Nat := 0x302008
def OBS_TRC_MARK : Nat := 0x30200C
def OBS_TRC_CNT_LOST : Nat := 0x302010
def OBS_TRC_RIDX : Nat := 0x302014
def OBS_TRC_RDATA (i : Nat) : Nat := 0x302020 + 4 * i
def OBS_LDG_CTRL : Nat := 0x303000
def OBS_LDG_STATUS : Nat := 0x303004
def OBS_LDG_FLASH : Nat := 0x303008
def OBS_LDG_LAST : Nat := 0x30300C
def OBS_TGRANT (i : Nat) : Nat := 0x304000 + 4 * i
def OBS_TEN_LO (i j : Nat) : Nat := 0x305000 + 64 * i + 8 * j
def OBS_TEN_HI (i j : Nat) : Nat := 0x305004 + 64 * i + 8 * j
/-! Registers of HIF. -/

def HIF_CTRL : Nat := 0x400000
def HIF_LINK : Nat := 0x400004
def HIF_NUMVF : Nat := 0x400008
def HIF_CNT_REFUSED : Nat := 0x400010
def HIF_CNT_NORING : Nat := 0x400014
def HIF_CNT_RX_SHARE : Nat := 0x400018
def HIF_CNT_EV_LOST : Nat := 0x40001C
def HIF_CNT_DMA : Nat := 0x400020
def HIF_GRP (i : Nat) : Nat := 0x400100 + 4 * i
def HIF_TP (i : Nat) : Nat := 0x400200 + 4 * i
def HIF_T_CNT_REFUSED (i : Nat) : Nat := 0x400300 + 8 * i
def HIF_T_LAST_REF (i : Nat) : Nat := 0x400304 + 8 * i
def HIF_RING_w0 (i : Nat) : Nat := 0x410000 + 32 * i
def HIF_RING_w1 (i : Nat) : Nat := 0x410004 + 32 * i
def HIF_RING_w2 (i : Nat) : Nat := 0x410008 + 32 * i
def HIF_RING_w3 (i : Nat) : Nat := 0x41000C + 32 * i
def HIF_RING_w4 (i : Nat) : Nat := 0x410010 + 32 * i
def HIF_RING_w5 (i : Nat) : Nat := 0x410014 + 32 * i
def HIF_RING_w6 (i : Nat) : Nat := 0x410018 + 32 * i
def HIF_RING_w7 (i : Nat) : Nat := 0x41001C + 32 * i
def HIF_r_CNT_DONE_LO (i : Nat) : Nat := 0x420000 + 16 * i
def HIF_r_CNT_DONE_HI (i : Nat) : Nat := 0x420004 + 16 * i
def HIF_r_CNT_NOBUF (i : Nat) : Nat := 0x420008 + 16 * i
def HIF_r_CNT_TRUNC (i : Nat) : Nat := 0x42000C + 16 * i
def HIF_PF_MSIX_ADR (i j : Nat) : Nat := 0x440000 + 16 * i + 4 * j
def HIF_PF_MSIX_MASK (i : Nat) : Nat := 0x44000C + 16 * i
def HIF_PF_PBA (i : Nat) : Nat := 0x442000 + 4 * i
/-! Registers of TSU. -/

def TSU_CTRL : Nat := 0x800000
def TSU_STATUS : Nat := 0x800004
def TSU_NOW_FRAC : Nat := 0x800010
def TSU_NOW_LO : Nat := 0x800014
def TSU_NOW_HI : Nat := 0x800018
def TSU_INC_FRAC : Nat := 0x800020
def TSU_INC_NS : Nat := 0x800024
def TSU_SLEW_FRAC : Nat := 0x800028
def TSU_SLEW_NS : Nat := 0x80002C
def TSU_SLEW_TICKS : Nat := 0x800030
def TSU_SET_FRAC : Nat := 0x800040
def TSU_SET_LO : Nat := 0x800044
def TSU_SET_HI : Nat := 0x800048
def TSU_STEP : Nat := 0x80004C
def TSU_REARM : Nat := 0x800050
def TSU_CNT_REFUSED : Nat := 0x800060
def TSU_CNT_TS_BAD : Nat := 0x800064
def TSU_CNT_EV_LOST : Nat := 0x800068
def TSU_CMP_CTRL (i : Nat) : Nat := 0x800100 + 32 * i
def TSU_CMP_TGT_LO (i : Nat) : Nat := 0x800104 + 32 * i
def TSU_CMP_TGT_HI (i : Nat) : Nat := 0x800108 + 32 * i
def TSU_CMP_PERIOD (i : Nat) : Nat := 0x80010C + 32 * i
def TSU_CMP_FIRE_LO (i : Nat) : Nat := 0x800110 + 32 * i
def TSU_CMP_FIRE_HI (i : Nat) : Nat := 0x800114 + 32 * i
def TSU_CMP_CNT_MISS (i : Nat) : Nat := 0x800118 + 32 * i
def TSU_PPO_CTRL (i : Nat) : Nat := 0x800400 + 32 * i
def TSU_PPO_PERIOD (i : Nat) : Nat := 0x800404 + 32 * i
def TSU_PPO_WIDTH (i : Nat) : Nat := 0x800408 + 32 * i
def TSU_PPO_OFS (i : Nat) : Nat := 0x80040C + 32 * i
def TSU_PPO_CMP (i : Nat) : Nat := 0x800410 + 32 * i
def TSU_CKO_CTRL (i : Nat) : Nat := 0x800480 + 32 * i
def TSU_CKO_PER_LO (i : Nat) : Nat := 0x800484 + 32 * i
def TSU_CKO_PER_HI (i : Nat) : Nat := 0x800488 + 32 * i
def TSU_CKO_OFS (i : Nat) : Nat := 0x80048C + 32 * i
def TSU_CKO_CMP (i : Nat) : Nat := 0x800490 + 32 * i
def TSU_PPI_CTRL (i : Nat) : Nat := 0x800500 + 32 * i
def TSU_PPI_CAP_FRAC (i : Nat) : Nat := 0x800504 + 32 * i
def TSU_PPI_CAP_LO (i : Nat) : Nat := 0x800508 + 32 * i
def TSU_PPI_CAP_HI (i : Nat) : Nat := 0x80050C + 32 * i
def TSU_PPI_CMP (i : Nat) : Nat := 0x800510 + 32 * i
def TSU_PPI_CNT_GLITCH (i : Nat) : Nat := 0x800514 + 32 * i
def TSU_TOD_CTRL : Nat := 0x800600
def TSU_TOD_TX : Nat := 0x800604
def TSU_TOD_RX : Nat := 0x800608
def TSU_TOD_STATUS : Nat := 0x80060C
def TSU_TOD_RXSTAMP_LO : Nat := 0x800610
def TSU_TOD_RXSTAMP_HI : Nat := 0x800614
def TSU_MATE_CTRL : Nat := 0x800700
def TSU_MATE_OFS : Nat := 0x800704
def TSU_MATE_DLY : Nat := 0x800708
def MLK_TX_CMP : Nat := 0x80070C
def MLK_RX_CMP : Nat := 0x800710
def TSU_n_TOD_CTRL (i : Nat) : Nat := 0x801000 + 64 * i
def TSU_n_TXD (i : Nat) : Nat := 0x801004 + 64 * i
def TSU_n_RXD (i : Nat) : Nat := 0x801008 + 64 * i
def TSU_n_RSP (i : Nat) : Nat := 0x80100C + 64 * i
def TSU_n_SPLIT (i : Nat) : Nat := 0x801010 + 64 * i
def TSU_n_CNT_SENT (i : Nat) : Nat := 0x801014 + 64 * i
def TSU_n_CNT_SKIP (i : Nat) : Nat := 0x801018 + 64 * i
def TSU_U_RX_CMP (i : Nat) : Nat := 0x802000 + 16 * i
def TSU_U_TX_CMP (i : Nat) : Nat := 0x802004 + 16 * i
def TSU_U_CNT_1S_DOWN (i : Nat) : Nat := 0x802008 + 16 * i
/-! Registers of TPA. -/

def TPA_MODE (i : Nat) : Nat := 0xA00000 + 65536 * i
def TPA_CTRL (i : Nat) : Nat := 0xA00004 + 65536 * i
def TPA_STATUS (i : Nat) : Nat := 0xA00008 + 65536 * i
def TPA_PMA (i : Nat) : Nat := 0xA0000C + 65536 * i
def TPA_BRST (i : Nat) : Nat := 0xA00010 + 65536 * i
def TPA_SD (i : Nat) : Nat := 0xA00014 + 65536 * i
def TPA_TXEN (i : Nat) : Nat := 0xA00018 + 65536 * i
def TPA_CNT_BRST_CLIP (i : Nat) : Nat := 0xA00020 + 65536 * i
def TPA_CNT_BRST_SUPP (i : Nat) : Nat := 0xA00024 + 65536 * i
def TPA_CNT_SD_MISS (i : Nat) : Nat := 0xA00028 + 65536 * i
def TPA_CNT_ROGUE (i : Nat) : Nat := 0xA0002C + 65536 * i
def TPA_CNT_REFUSED (i : Nat) : Nat := 0xA00030 + 65536 * i
def TPA_ROGUE_POS (i : Nat) : Nat := 0xA00034 + 65536 * i
def TPA_I_CFG (i : Nat) : Nat := 0xA08000 + 524288 * i
def TPA_I_CMD (i : Nat) : Nat := 0xA08004 + 524288 * i
def TPA_I_DATA0 (i : Nat) : Nat := 0xA08008 + 524288 * i
def TPA_I_DATA1 (i : Nat) : Nat := 0xA0800C + 524288 * i
def TPA_I_STATUS (i : Nat) : Nat := 0xA08010 + 524288 * i
def TPA_PROT (i : Nat) : Nat := 0xA09000 + 65536 * i
def TPA_PTIM (i : Nat) : Nat := 0xA09004 + 65536 * i
def TPA_PCMD (i : Nat) : Nat := 0xA09008 + 65536 * i
def TPA_PSTAT (i : Nat) : Nat := 0xA0900C + 65536 * i
def TPA_CNT_SWITCH (i : Nat) : Nat := 0xA09010 + 65536 * i
def TPA_CNT_MOVED (i : Nat) : Nat := 0xA09014 + 65536 * i
/-! Registers of BRX. -/

def BRX_CTRL (i : Nat) : Nat := 0xC00000 + 65536 * i
def BRX_ADAPT (i : Nat) : Nat := 0xC00004 + 65536 * i
def BRX_GUARD (i : Nat) : Nat := 0xC00008 + 65536 * i
def BRX_STATUS (i : Nat) : Nat := 0xC0000C + 65536 * i
def BRX_PROF0 (i : Nat) : Nat := 0xC00010 + 65536 * i
def BRX_PROF1 (i : Nat) : Nat := 0xC00014 + 65536 * i
def BRX_PROF2 (i : Nat) : Nat := 0xC00018 + 65536 * i
def BRX_PROF3 (i : Nat) : Nat := 0xC0001C + 65536 * i
def BRX_MEM_CMD (i : Nat) : Nat := 0xC00020 + 65536 * i
def BRX_CNT_WARM_OK (i : Nat) : Nat := 0xC00040 + 65536 * i
def BRX_CNT_COLD_OK (i : Nat) : Nat := 0xC00044 + 65536 * i
def BRX_CNT_WARM_FAIL (i : Nat) : Nat := 0xC00048 + 65536 * i
def BRX_CNT_COLD_FAIL (i : Nat) : Nat := 0xC0004C + 65536 * i
def BRX_CNT_UNCORR (i : Nat) : Nat := 0xC00050 + 65536 * i
def BRX_CNT_WARM_STALE (i : Nat) : Nat := 0xC00054 + 65536 * i
def BRX_CNT_LATE_PAGE (i : Nat) : Nat := 0xC00058 + 65536 * i
def BRX_CNT_WAKE_LATE (i : Nat) : Nat := 0xC0005C + 65536 * i
def BRX_CNT_DRIFT_RESET (i : Nat) : Nat := 0xC00060 + 65536 * i
def BRX_CNT_REFUSED (i : Nat) : Nat := 0xC00064 + 65536 * i
def BRX_MEM_w0 (i j : Nat) : Nat := 0xC08000 + 65536 * i + 8 * j
def BRX_MEM_w1 (i j : Nat) : Nat := 0xC08004 + 65536 * i + 8 * j
/-! Registers of RNG. -/

def RNG_CTRL (i : Nat) : Nat := 0xE00000 + 65536 * i
def RNG_DISC (i : Nat) : Nat := 0xE00008 + 65536 * i
def RNG_TRACK (i : Nat) : Nat := 0xE0000C + 65536 * i
def RNG_TIMERS (i : Nat) : Nat := 0xE00010 + 65536 * i
def RNG_CMD (i : Nat) : Nat := 0xE00014 + 65536 * i
def RNG_PEND_SN0 (i : Nat) : Nat := 0xE00018 + 65536 * i
def RNG_PEND_SN1 (i : Nat) : Nat := 0xE0001C + 65536 * i
def RNG_STATUS (i : Nat) : Nat := 0xE00020 + 65536 * i
def RNG_CNT_SN_OK (i : Nat) : Nat := 0xE00040 + 65536 * i
def RNG_CNT_COLLIDE (i : Nat) : Nat := 0xE00044 + 65536 * i
def RNG_CNT_DUP (i : Nat) : Nat := 0xE00048 + 65536 * i
def RNG_CNT_DUP_PAIR (i : Nat) : Nat := 0xE0004C + 65536 * i
def RNG_CNT_SN_DEFER (i : Nat) : Nat := 0xE00050 + 65536 * i
def RNG_CNT_RANGE_FAIL (i : Nat) : Nat := 0xE00054 + 65536 * i
def RNG_CNT_RANGE_ERR (i : Nat) : Nat := 0xE00058 + 65536 * i
def RNG_CNT_ADJ (i : Nat) : Nat := 0xE0005C + 65536 * i
def RNG_CNT_RERANGE (i : Nat) : Nat := 0xE00060 + 65536 * i
def RNG_CNT_LOST (i : Nat) : Nat := 0xE00064 + 65536 * i
def RNG_CNT_REFUSED (i : Nat) : Nat := 0xE00068 + 65536 * i
def RNG_CTX_w0 (i j : Nat) : Nat := 0xE08000 + 65536 * i + 32 * j
def RNG_CTX_w1 (i j : Nat) : Nat := 0xE08004 + 65536 * i + 32 * j
def RNG_CTX_w2 (i j : Nat) : Nat := 0xE08008 + 65536 * i + 32 * j
def RNG_CTX_w3 (i j : Nat) : Nat := 0xE0800C + 65536 * i + 32 * j
def RNG_CTX_w4 (i j : Nat) : Nat := 0xE08010 + 65536 * i + 32 * j
def RNG_CTX_w5 (i j : Nat) : Nat := 0xE08014 + 65536 * i + 32 * j
def RNG_CTX_w6 (i j : Nat) : Nat := 0xE08018 + 65536 * i + 32 * j
def RNG_CTX_w7 (i j : Nat) : Nat := 0xE0801C + 65536 * i + 32 * j
/-! Registers of GNT. -/

def GNT_CTRL : Nat := 0x1000000
def GNT_STATUS : Nat := 0x1000004
def GNT_LEDG_IDX : Nat := 0x1000010
def GNT_LEDG_DIFF : Nat := 0x1000014
def GNT_LEDG_TIME_LO : Nat := 0x1000018
def GNT_LEDG_TIME_HI : Nat := 0x100001C
def GNT_LEDG_CNT : Nat := 0x1000020
def GNT_CNT_REFUSED : Nat := 0x1000024
def GNT_CNT_RPT_DIS : Nat := 0x1000028
def GNT_RF_CFG (i : Nat) : Nat := 0x1000100 + 16 * i
def GNT_RF_LEVEL (i : Nat) : Nat := 0x1000104 + 16 * i
def GNT_RF_CNT_COAL (i : Nat) : Nat := 0x1000108 + 16 * i
def GNT_RF_CNT_STALL (i : Nat) : Nat := 0x100010C + 16 * i
def GNT_n_CFG (i : Nat) : Nat := 0x1020000 + 256 * i
def GNT_n_STATUS (i : Nat) : Nat := 0x1020004 + 256 * i
def GNT_n_PAY (i j : Nat) : Nat := 0x1020010 + 256 * i + 4 * j
def GNT_n_CNT_ST (i j : Nat) : Nat := 0x1020044 + 256 * i + 4 * j
def GNT_n_CNT_MISS (i : Nat) : Nat := 0x1020080 + 256 * i
def GNT_n_CNT_DEMOTE (i : Nat) : Nat := 0x1020084 + 256 * i
def GNT_n_CNT_DEMOTE_VOID (i : Nat) : Nat := 0x1020088 + 256 * i
def GNT_n_CNT_DEFER (i : Nat) : Nat := 0x102008C + 256 * i
def GNT_n_CNT_QH_CUT (i : Nat) : Nat := 0x1020090 + 256 * i
def GNT_SSW_w0 (i : Nat) : Nat := 0x1080000 + 8 * i
def GNT_SSW_w1 (i : Nat) : Nat := 0x1080004 + 8 * i
def GNT_STR_w0 (i : Nat) : Nat := 0x1100000 + 8 * i
def GNT_STR_w1 (i : Nat) : Nat := 0x1100004 + 8 * i
/-! Registers of MTN. -/

def MTN_CTRL : Nat := 0x1200000
def MTN_STATUS : Nat := 0x1200004
def MTN_UCODE_VER : Nat := 0x1200008
def MTN_PATCH_LVL : Nat := 0x120000C
def MTN_CS_CRC : Nat := 0x1200010
def MTN_CNT_RETIRE : Nat := 0x1200020
def MTN_CNT_PATCH_REFUSED : Nat := 0x1200024
def MTN_CNT_RPT_LOST : Nat := 0x1200028
def MTN_CNT_REFUSED : Nat := 0x120002C
def MTN_L_CTRL (i : Nat) : Nat := 0x1200100 + 32 * i
def MTN_L_MAP (i : Nat) : Nat := 0x1200104 + 32 * i
def MTN_L_MBOX (i : Nat) : Nat := 0x1200108 + 32 * i
def MTN_L_CNT_FT_MISS (i : Nat) : Nat := 0x120010C + 32 * i
def MTN_L_CNT_SUSPEND (i : Nat) : Nat := 0x1200110 + 32 * i
def MTN_L_CNT_SUSP_DISCARD (i : Nat) : Nat := 0x1200114 + 32 * i
def MTN_P_STATUS (i : Nat) : Nat := 0x1200400 + 16 * i
def MTN_P_CNT_TRANSIENT (i : Nat) : Nat := 0x1200404 + 16 * i
def MTN_P_CNT_FAULT (i : Nat) : Nat := 0x1200408 + 16 * i
/-! Registers of DFR. -/

def DFR_CTRL : Nat := 0x1400000
def DFR_FT_OFFSET : Nat := 0x1400004
def DFR_SFC_LO : Nat := 0x1400008
def DFR_SFC_HI : Nat := 0x140000C
def DFR_SFC_SET_LO : Nat := 0x1400010
def DFR_SFC_SET_HI : Nat := 0x1400014
def DFR_CNT_REFUSED : Nat := 0x1400018
def DFR_n_CTRL (i : Nat) : Nat := 0x1410000 + 1024 * i
def DFR_n_STATUS (i : Nat) : Nat := 0x1410004 + 1024 * i
def DFR_n_FT_PHASE (i : Nat) : Nat := 0x1410008 + 1024 * i
def DFR_n_FSTAMP_LO (i : Nat) : Nat := 0x141000C + 1024 * i
def DFR_n_FSTAMP_HI (i : Nat) : Nat := 0x1410010 + 1024 * i
def DFR_n_CNT_FRAMES_LO (i : Nat) : Nat := 0x1410020 + 1024 * i
def DFR_n_CNT_FRAMES_HI (i : Nat) : Nat := 0x1410024 + 1024 * i
def DFR_n_CNT_XGEM_LO (i : Nat) : Nat := 0x1410028 + 1024 * i
def DFR_n_CNT_XGEM_HI (i : Nat) : Nat := 0x141002C + 1024 * i
def DFR_n_CNT_BYTES_LO (i : Nat) : Nat := 0x1410030 + 1024 * i
def DFR_n_CNT_BYTES_HI (i : Nat) : Nat := 0x1410034 + 1024 * i
def DFR_n_CNT_IDLE_LO (i : Nat) : Nat := 0x1410038 + 1024 * i
def DFR_n_CNT_IDLE_HI (i : Nat) : Nat := 0x141003C + 1024 * i
def DFR_n_CNT_EMPTY_MAP (i : Nat) : Nat := 0x1410040 + 1024 * i
def DFR_n_CNT_ROUND (i : Nat) : Nat := 0x1410044 + 1024 * i
def DFR_n_CNT_OVERSIZE (i : Nat) : Nat := 0x1410048 + 1024 * i
def DFR_n_CNT_PLOAM_DEFER (i : Nat) : Nat := 0x141004C + 1024 * i
def DFR_n_CNT_NOPID (i : Nat) : Nat := 0x1410050 + 1024 * i
def DFR_n_CNT_FRAG (i : Nat) : Nat := 0x1410054 + 1024 * i
def DFR_n_CNT_FRAG_DROP (i : Nat) : Nat := 0x1410058 + 1024 * i
def DFR_n_CNT_NOKEY (i : Nat) : Nat := 0x141005C + 1024 * i
def DFR_n_CNT_HOLD (i : Nat) : Nat := 0x1410060 + 1024 * i
def DFR_n_CNT_FT_SLIP (i : Nat) : Nat := 0x1410064 + 1024 * i
def DFR_QMAP (i : Nat) : Nat := 0x1480000 + 4 * i
/-! Registers of UDF. -/

def UDF_STATUS : Nat := 0x1500000
def UDF_CNT_REASM_NOSLOT : Nat := 0x1500010
def UDF_n_CTRL (i : Nat) : Nat := 0x1510000 + 256 * i
def UDF_n_CNT_CW_LO (i : Nat) : Nat := 0x1510008 + 256 * i
def UDF_n_CNT_CW_HI (i : Nat) : Nat := 0x151000C + 256 * i
def UDF_n_CNT_UNCORR (i : Nat) : Nat := 0x1510010 + 256 * i
def UDF_n_CNT_XGEM_HEC (i : Nat) : Nat := 0x1510014 + 256 * i
def UDF_n_CNT_LENERR (i : Nat) : Nat := 0x1510018 + 256 * i
def UDF_n_CNT_REASM_DROP (i : Nat) : Nat := 0x151001C + 256 * i
def UDF_n_CNT_DBRU_ERR (i : Nat) : Nat := 0x1510020 + 256 * i
def UDF_n_CNT_PLOAM_ERR (i : Nat) : Nat := 0x1510024 + 256 * i
def UDF_TSTAT_CW_LO (i : Nat) : Nat := 0x1580000 + 32 * i
def UDF_TSTAT_CW_HI (i : Nat) : Nat := 0x1580004 + 32 * i
def UDF_TSTAT_CORR_CW (i : Nat) : Nat := 0x1580008 + 32 * i
def UDF_TSTAT_UNCORR_CW (i : Nat) : Nat := 0x158000C + 32 * i
def UDF_TSTAT_CORR_BITS (i : Nat) : Nat := 0x1580010 + 32 * i
def UDF_TSTAT_BIP_ERR (i : Nat) : Nat := 0x1580014 + 32 * i
def UDF_TSTAT_HDR_ERR (i : Nat) : Nat := 0x1580018 + 32 * i
def UDF_TSTAT_TRUNC (i : Nat) : Nat := 0x158001C + 32 * i
/-! Registers of TCE. -/

def TCE_CTRL : Nat := 0x1600000
def TCE_STATUS : Nat := 0x1600004
def TCE_SWAP : Nat := 0x1600008
def TCE_PM_BASE_LO : Nat := 0x1600010
def TCE_PM_BASE_HI : Nat := 0x1600014
def TCE_CNT_REFUSED : Nat := 0x1600020
def TCE_CNT_PW_NOBUF : Nat := 0x1600024
def TCE_CNT_PM_DMA : Nat := 0x1600028
def TCE_CIRC_w0 (i : Nat) : Nat := 0x1610000 + 16 * i
def TCE_CIRC_w1 (i : Nat) : Nat := 0x1610004 + 16 * i
def TCE_CIRC_w2 (i : Nat) : Nat := 0x1610008 + 16 * i
def TCE_CIRC_w3 (i : Nat) : Nat := 0x161000C + 16 * i
def TCE_CST_w0 (i : Nat) : Nat := 0x1620000 + 32 * i
def TCE_CST_PJ (i : Nat) : Nat := 0x1620004 + 32 * i
def TCE_CST_NJ (i : Nat) : Nat := 0x1620008 + 32 * i
def TCE_CST_PTR_EVT (i : Nat) : Nat := 0x162000C + 32 * i
def TCE_CST_BIP (i : Nat) : Nat := 0x1620010 + 32 * i
def TCE_CST_SLIP (i : Nat) : Nat := 0x1620014 + 32 * i
def TCE_CST_PW_LOST (i : Nat) : Nat := 0x1620018 + 32 * i
def TCE_CST_w7 (i : Nat) : Nat := 0x162001C + 32 * i
def TCE_PW_w0 (i : Nat) : Nat := 0x1640000 + 8 * i
def TCE_PW_w1 (i : Nat) : Nat := 0x1640004 + 8 * i
def TCE_PWH (i : Nat) : Nat := 0x1650000 + 4 * i
def TCE_CMA (i : Nat) : Nat := 0x1680000 + 4 * i
def TCE_CMS (i : Nat) : Nat := 0x16A0000 + 4 * i
def TCE_PMCUR (i j : Nat) : Nat := 0x1700000 + 32 * i + 4 * j
def TCE_PMCUR_w6 (i : Nat) : Nat := 0x1700018 + 32 * i
def TCE_PMCUR_w7 (i : Nat) : Nat := 0x170001C + 32 * i
/-! Registers of PRS. -/

def PRS_CTRL : Nat := 0x1800000
def PRS_EXC : Nat := 0x1800004
def PRS_CNT_UNPARSED : Nat := 0x1800010
def PRS_CNT_LENERR : Nat := 0x1800014
def PRS_CNT_SHORT : Nat := 0x1800018
def PRS_CNT_NOSEL : Nat := 0x180001C
def PRS_CNT_REFUSED : Nat := 0x1800020
def PRS_SEL_w0 (i : Nat) : Nat := 0x1801000 + 8 * i
def PRS_SEL_w1 (i : Nat) : Nat := 0x1801004 + 8 * i
def PRS_p_CTRL (i : Nat) : Nat := 0x1804000 + 256 * i
def PRS_p_HASH0 (i : Nat) : Nat := 0x1804004 + 256 * i
def PRS_p_HASH1 (i : Nat) : Nat := 0x1804008 + 256 * i
def PRS_p_LEN (i j : Nat) : Nat := 0x1804010 + 256 * i + 4 * j
def PRS_p_EXP_CTL (i j : Nat) : Nat := 0x1804020 + 256 * i + 16 * j
def PRS_p_EXP_MASK (i j : Nat) : Nat := 0x1804024 + 256 * i + 16 * j
def PRS_p_EXP_VALUE (i j : Nat) : Nat := 0x1804028 + 256 * i + 16 * j
def PRS_p_WIN (i j : Nat) : Nat := 0x1804060 + 256 * i + 4 * j
/-! Registers of CLS. -/

def CLS_EPOCH : Nat := 0x1900000
def CLS_HASH_SEED : Nat := 0x1900004
def CLS_INFL : Nat := 0x1900008
def CLS_CNT_MISS : Nat := 0x1900010
def CLS_CNT_WALK_ERR : Nat := 0x1900014
def CLS_CNT_RECIRC_LIM : Nat := 0x1900018
def CLS_CNT_RECIRC_FULL : Nat := 0x190001C
def CLS_CNT_BAD_ACT : Nat := 0x1900020
def CLS_CNT_STRIP : Nat := 0x1900024
def CLS_CNT_DROP : Nat := 0x1900028
def CLS_CNT_REFUSED : Nat := 0x190002C
def CLS_TSHARE (i : Nat) : Nat := 0x1900100 + 4 * i
def CLS_ROOT (i j : Nat) : Nat := 0x1900200 + 32 * i + 4 * j
/-! Registers of FDB. -/

def FDB_CTRL : Nat := 0x1A00000
def FDB_STATUS : Nat := 0x1A00004
def FDB_HASH_SEED : Nat := 0x1A00008
def FDB_USED : Nat := 0x1A0000C
def FDB_CMD : Nat := 0x1A00010
def FDB_CMD_KEY_LO : Nat := 0x1A00014
def FDB_CMD_KEY_HI : Nat := 0x1A00018
def FDB_CMD_LOC : Nat := 0x1A0001C
def FDB_DATA (i : Nat) : Nat := 0x1A00020 + 4 * i
def FDB_CNT_LEARN : Nat := 0x1A00040
def FDB_CNT_MOVE : Nat := 0x1A00044
def FDB_CNT_AGED : Nat := 0x1A00048
def FDB_CNT_EVICT : Nat := 0x1A0004C
def FDB_CNT_NOROOM : Nat := 0x1A00050
def FDB_CNT_LIM_DROP : Nat := 0x1A00054
def FDB_CNT_LIM_FWD : Nat := 0x1A00058
def FDB_CNT_LIM_LATE : Nat := 0x1A0005C
def FDB_CNT_LEARN_OVF : Nat := 0x1A00060
def FDB_CNT_STATIC_MOVE : Nat := 0x1A00064
def FDB_CNT_SA_GROUP : Nat := 0x1A00068
def FDB_CNT_NOFID : Nat := 0x1A0006C
def FDB_CNT_FID_SHARE : Nat := 0x1A00070
def FDB_CNT_SAME : Nat := 0x1A00074
def FDB_CNT_DISCARD : Nat := 0x1A00078
def FDB_CNT_FLOOD : Nat := 0x1A0007C
def FDB_CNT_UNK_DROP : Nat := 0x1A00080
def FDB_CNT_REFUSED : Nat := 0x1A00084
def FDB_CNT_EV_LOST : Nat := 0x1A00088
def FDB_SRCFID (i : Nat) : Nat := 0x1A00100 + 4 * i
def FDB_TSHARE_MAX (i j : Nat) : Nat := 0x1A00300 + 16 * i + 4 * j
def FDB_TSHARE_OPMAX (i : Nat) : Nat := 0x1A00400 + 4 * i
def FDB_TSHARE_CNT (i j : Nat) : Nat := 0x1A00308 + 16 * i + 4 * j
def FDB_PORT (i : Nat) : Nat := 0x1A00600 + 8 * i
def FDB_PORT_LRN (i : Nat) : Nat := 0x1A00604 + 8 * i
def FDB_PROF (i : Nat) : Nat := 0x1A00800 + 4 * i
def FDB_TERM (i : Nat) : Nat := 0x1A10000 + 4 * i
def FDB_FID (i : Nat) : Nat := 0x1A20000 + 4 * i
def FDB_TBL (i j : Nat) : Nat := 0x3000000 + 16 * i + 4 * j
/-! Registers of BPM. -/

def BPM_CTRL : Nat := 0x1B00000
def BPM_STATUS : Nat := 0x1B00004
def BPM_LEDG_IDX : Nat := 0x1B00010
def BPM_LEDG_DIFF : Nat := 0x1B00014
def BPM_LEDG_TIME_LO : Nat := 0x1B00018
def BPM_LEDG_TIME_HI : Nat := 0x1B0001C
def BPM_LEDG_CNT : Nat := 0x1B00020
def BPM_REJ_PTR : Nat := 0x1B00030
def BPM_REJ_INFO : Nat := 0x1B00034
def BPM_CNT_FREE_x (i : Nat) : Nat := 0x1B00044 + 4 * i
def BPM_CNT_DROP_OFF : Nat := 0x1B00060
def BPM_CNT_DROP_SIZE : Nat := 0x1B00064
def BPM_CNT_SHARE_REFUSED : Nat := 0x1B00068
def BPM_CNT_META : Nat := 0x1B0006C
def BPM_CNT_REFUSED : Nat := 0x1B00070
def BPM_0_CFG : Nat := 0x1B00100
def BPM_0_COUNT : Nat := 0x1B00104
def BPM_1_CFG : Nat := 0x1B00140
def BPM_1_COUNT : Nat := 0x1B00144
def BPM_2_CFG : Nat := 0x1B00180
def BPM_2_COUNT : Nat := 0x1B00184
def BPM_3_CFG : Nat := 0x1B001C0
def BPM_3_COUNT : Nat := 0x1B001C4
def BPM_4_CFG : Nat := 0x1B00200
def BPM_4_COUNT : Nat := 0x1B00204
def BPM_5_CFG : Nat := 0x1B00240
def BPM_5_COUNT : Nat := 0x1B00244
def BPM_6_CFG : Nat := 0x1B00280
def BPM_6_COUNT : Nat := 0x1B00284
def BPM_7_CFG : Nat := 0x1B002C0
def BPM_7_COUNT : Nat := 0x1B002C4
def BPM_k_FREE (i : Nat) : Nat := 0x1B00108 + 64 * i
def BPM_k_ALLOC (i : Nat) : Nat := 0x1B0010C + 64 * i
def BPM_k_MIN_FREE (i : Nat) : Nat := 0x1B00110 + 64 * i
def BPM_k_CNT_ALLOC_LO (i : Nat) : Nat := 0x1B00118 + 64 * i
def BPM_k_CNT_ALLOC_HI (i : Nat) : Nat := 0x1B0011C + 64 * i
def BPM_k_CNT_FB_OUT (i : Nat) : Nat := 0x1B00120 + 64 * i
def BPM_k_CNT_FB_IN (i : Nat) : Nat := 0x1B00124 + 64 * i
def BPM_k_CNT_DROP_EMPTY (i : Nat) : Nat := 0x1B00128 + 64 * i
def BPM_k_CNT_DROP_QUOTA (i : Nat) : Nat := 0x1B0012C + 64 * i
def BPM_k_Q (i j : Nat) : Nat := 0x1B00400 + 32 * i + 4 * j
def BPM_k_HELD (i j : Nat) : Nat := 0x1B00600 + 32 * i + 4 * j
/-! Registers of TMG. -/

def TMG_CTRL : Nat := 0x1C00000
def TMG_STATUS : Nat := 0x1C00004
def TMG_LEDG_IDX : Nat := 0x1C00010
def TMG_LEDG_DIFF : Nat := 0x1C00014
def TMG_LEDG_TIME_LO : Nat := 0x1C00018
def TMG_LEDG_TIME_HI : Nat := 0x1C0001C
def TMG_LEDG_CNT : Nat := 0x1C00020
def TMG_SCMD : Nat := 0x1C00030
def TMG_SCMD_IDX : Nat := 0x1C00034
def TMG_SCMD_D (i : Nat) : Nat := 0x1C00038 + 4 * i
def TMG_SCMD_D2 : Nat := 0x1C00040
def TMG_SCMD_D3 : Nat := 0x1C00044
def TMG_CNT_ADM_r (i : Nat) : Nat := 0x1C00054 + 4 * i
def TMG_CNT_REFUSED : Nat := 0x1C00070
def TMG_CNT_RG_EMPTY : Nat := 0x1C00074
def TMG_TLIM_LIMIT (i j : Nat) : Nat := 0x1C00100 + 16 * i + 8 * j
def TMG_TLIM_USED (i j : Nat) : Nat := 0x1C00104 + 16 * i + 8 * j
def TMG_UPQ (i j : Nat) : Nat := 0x1C00400 + 68 * i + 4 * j
def TMG_E_CFG (i : Nat) : Nat := 0x1C01000 + 32 * i
def TMG_E_LEAD (i : Nat) : Nat := 0x1C01004 + 32 * i
def TMG_E_CNT_LATE (i : Nat) : Nat := 0x1C01008 + 32 * i
def TMG_E_CNT_LATE_DROP (i : Nat) : Nat := 0x1C0100C + 32 * i
def TMG_E_CNT_FAR (i : Nat) : Nat := 0x1C01010 + 32 * i
def TMG_E_CNT_GATE_LONG (i : Nat) : Nat := 0x1C01014 + 32 * i
def TMG_E_CNT_DISCARD (i : Nat) : Nat := 0x1C01018 + 32 * i
def TMG_G_CTRL (i : Nat) : Nat := 0x1C04000 + 16 * i
def TMG_G_BASE_LO (i : Nat) : Nat := 0x1C04004 + 16 * i
def TMG_G_BASE_HI (i : Nat) : Nat := 0x1C04008 + 16 * i
def TMG_G_SBY (i j : Nat) : Nat := 0x1C08000 + 1024 * i + 4 * j
def TMG_G_ACT (i j : Nat) : Nat := 0x1C20000 + 1024 * i + 4 * j
def TMG_Q (i : Nat) : Nat := 0x1C40000 + 4 * i
def TMG_QD (i : Nat) : Nat := 0x1C90000 + 4 * i
def TMG_ND (i : Nat) : Nat := 0x1CE0000 + 4 * i
def TMG_GRP (i : Nat) : Nat := 0x1CF8000 + 4 * i
def TMG_RG (i : Nat) : Nat := 0x1CFC000 + 4 * i
def TMG_RM (i : Nat) : Nat := 0x1D00000 + 4 * i
def TMG_SH (i j : Nat) : Nat := 0x1D40000 + 8 * i + 4 * j
def TMG_SMP (i j : Nat) : Nat := 0x1E00000 + 16 * i + 4 * j
/-! Registers of CRY. -/

def CRY_CMD : Nat := 0x2000000
def CRY_CMD_IDX : Nat := 0x2000004
def CRY_CMD_ARG (i : Nat) : Nat := 0x2000008 + 4 * i
def CRY_KEY (i : Nat) : Nat := 0x2000020 + 4 * i
def CRY_CTRL : Nat := 0x2000060
def CRY_PN_TH : Nat := 0x2000064
def CRY_CNT_REFUSED : Nat := 0x2000080
def CRY_CNT_US_NOKEY : Nat := 0x2000084
def CRY_CNT_US_BADIDX : Nat := 0x2000088
def CRY_CNT_EV_LOST : Nat := 0x200008C
def CRY_UP (i : Nat) : Nat := 0x2001000 + 64 * i
def CRY_u_CNT_TX_UNPROT (i : Nat) : Nat := 0x2001004 + 64 * i
def CRY_u_CNT_TX_PN_EXH (i : Nat) : Nat := 0x2001008 + 64 * i
def CRY_u_CNT_RX_BADTAG (i : Nat) : Nat := 0x200100C + 64 * i
def CRY_u_CNT_RX_NOSCI (i : Nat) : Nat := 0x2001010 + 64 * i
def CRY_u_CNT_RX_NOSA (i : Nat) : Nat := 0x2001014 + 64 * i
def CRY_u_CNT_RX_LATE (i : Nat) : Nat := 0x2001018 + 64 * i
def CRY_u_CNT_RX_NOTVALID (i : Nat) : Nat := 0x200101C + 64 * i
def CRY_u_CNT_RX_NOTAG (i : Nat) : Nat := 0x2001020 + 64 * i
def CRY_u_CNT_RX_OK_LO (i : Nat) : Nat := 0x2001024 + 64 * i
def CRY_u_CNT_RX_OK_HI (i : Nat) : Nat := 0x2001028 + 64 * i
def CRY_GSC (i : Nat) : Nat := 0x2002000 + 4 * i
def CRY_TXSC_w0 (i : Nat) : Nat := 0x2004000 + 16 * i
def CRY_TXSC_w1 (i : Nat) : Nat := 0x2004004 + 16 * i
def CRY_TXSC_SCI (i j : Nat) : Nat := 0x2004008 + 16 * i + 4 * j
def CRY_RXSC_w0 (i : Nat) : Nat := 0x2006000 + 16 * i
def CRY_RXSC_w1 (i : Nat) : Nat := 0x2006004 + 16 * i
def CRY_RXSC_SCI (i j : Nat) : Nat := 0x2006008 + 16 * i + 4 * j
def CRY_SA_w0 (i : Nat) : Nat := 0x2010000 + 16 * i
def CRY_SA_PN (i j : Nat) : Nat := 0x2010004 + 16 * i + 4 * j
def CRY_TK_w0 (i : Nat) : Nat := 0x2020000 + 16 * i
def CRY_TK_KCV (i j : Nat) : Nat := 0x2020004 + 16 * i + 4 * j
def CRY_TK_S (i : Nat) : Nat := 0x202000C + 16 * i
/-! Registers of UPL. -/

def UPL_Q (i : Nat) : Nat := 0x2200000 + 4 * i
def UPL_CNT_REFUSED : Nat := 0x2200040
def UPL_GRP (i : Nat) : Nat := 0x2200100 + 4 * i
def UPL_g_CNT_GRP_EMPTY (i : Nat) : Nat := 0x2200180 + 4 * i
def UPL_PG (i : Nat) : Nat := 0x2200200 + 4 * i
def UPL_u_CTRL (i : Nat) : Nat := 0x2201000 + 256 * i
def UPL_u_STATUS (i : Nat) : Nat := 0x2201004 + 256 * i
def UPL_u_CNT_RX_FRAMES_LO (i : Nat) : Nat := 0x2201010 + 256 * i
def UPL_u_CNT_RX_FRAMES_HI (i : Nat) : Nat := 0x2201014 + 256 * i
def UPL_u_CNT_RX_BYTES_LO (i : Nat) : Nat := 0x2201018 + 256 * i
def UPL_u_CNT_RX_BYTES_HI (i : Nat) : Nat := 0x220101C + 256 * i
def UPL_u_CNT_TX_FRAMES_LO (i : Nat) : Nat := 0x2201020 + 256 * i
def UPL_u_CNT_TX_FRAMES_HI (i : Nat) : Nat := 0x2201024 + 256 * i
def UPL_u_CNT_TX_BYTES_LO (i : Nat) : Nat := 0x2201028 + 256 * i
def UPL_u_CNT_TX_BYTES_HI (i : Nat) : Nat := 0x220102C + 256 * i
def UPL_u_CNT_FEC_CORR_LO (i : Nat) : Nat := 0x2201030 + 256 * i
def UPL_u_CNT_FEC_CORR_HI (i : Nat) : Nat := 0x2201034 + 256 * i
def UPL_u_CNT_FEC_UNCORR (i : Nat) : Nat := 0x2201038 + 256 * i
def UPL_u_CNT_RX_FCS (i : Nat) : Nat := 0x220103C + 256 * i
def UPL_u_CNT_RX_SHORT (i : Nat) : Nat := 0x2201040 + 256 * i
def UPL_u_CNT_RX_LONG (i : Nat) : Nat := 0x2201044 + 256 * i
def UPL_u_CNT_RX_MACCTL (i : Nat) : Nat := 0x2201048 + 256 * i
def UPL_u_CNT_TX_DOWN (i : Nat) : Nat := 0x220104C + 256 * i
def UPL_u_CNT_LINK_DOWN (i : Nat) : Nat := 0x2201050 + 256 * i
def UPL_u_CNT_RETRAIN (i : Nat) : Nat := 0x2201054 + 256 * i
def UPL_L_TX (i : Nat) : Nat := 0x2204000 + 64 * i
def UPL_L_RX (i : Nat) : Nat := 0x2204004 + 64 * i
def UPL_L_EQ (i : Nat) : Nat := 0x2204008 + 64 * i
/-! Registers of MLK. -/

def MLK_CTRL : Nat := 0x2400000
def MLK_STATUS : Nat := 0x2400004
def MLK_CNT_RX_DROP : Nat := 0x2400010
def MLK_CNT_TX_DOWN : Nat := 0x2400014
def MLK_CNT_NARROW : Nat := 0x2400018
def MLK_CNT_REFUSED : Nat := 0x240001C
def MLK_l_CMD (i : Nat) : Nat := 0x2400100 + 64 * i
def MLK_l_STATUS (i : Nat) : Nat := 0x2400104 + 64 * i
def MLK_l_TX (i : Nat) : Nat := 0x2400108 + 64 * i
def MLK_l_RX (i : Nat) : Nat := 0x240010C + 64 * i
def MLK_l_CNT_BAD_BLK (i : Nat) : Nat := 0x2400110 + 64 * i
def MLK_l_CNT_FRAMES_LO (i : Nat) : Nat := 0x2400118 + 64 * i
def MLK_l_CNT_FRAMES_HI (i : Nat) : Nat := 0x240011C + 64 * i

/-- BRX_n_PROFk. -/
def BRX_PROF (n k : Nat) : Nat := 0xC00010 + 65536 * n + 4 * k
/-- BPM_k_CFG. -/
def BPM_CFG (k : Nat) : Nat := 0x1B00100 + 64 * k
/-- BPM_k_COUNT. -/
def BPM_COUNT (k : Nat) : Nat := 0x1B00104 + 64 * k
/-- Word w of a RNG_n_CTX context (Table 04.10). -/
def RNG_CTX (n l w : Nat) : Nat := 0xE08000 + 65536 * n + 32 * l + 4 * w
/-- Word w of a HIF_RING_r context (Table 19.3). -/
def HIF_RING (r w : Nat) : Nat := 0x410000 + 32 * r + 4 * w
/-- Word w of a TCE_CIRC_c entry (Table 10.1). -/
def TCE_CIRC (c w : Nat) : Nat := 0x1610000 + 16 * c + 4 * w
/-- Word w of TCE_CST_c_x (Table 10.13), end number 2c + x. -/
def TCE_CST (e w : Nat) : Nat := 0x1620000 + 32 * e + 4 * w
/-- Word w of UDF_TSTAT_t (Table 09.5). -/
def UDF_TSTAT (t w : Nat) : Nat := 0x1580000 + 32 * t + 4 * w
/-- The retained memory at offset o (Table 21.6). -/
def RCP_RET (o : Nat) : Nat := 0x110000 + o
/-- Word w of CRY_SA_a. -/
def CRY_SA (a w : Nat) : Nat := 0x2010000 + 16 * a + 4 * w
/-- Word w of CRY_TK_t. -/
def CRY_TK (t w : Nat) : Nat := 0x2020000 + 16 * t + 4 * w

end Sys2Proof.Machine.Reg
end

