-- ==== Sys2Proof/Machine/Bits.lean ====
section
/-! DEFINITION. Fields of a word, signed readings, and the two operations of a sparse table. -/

namespace Sys2Proof.Machine

/-- NAME[hi:lo] of a number (00, Notation). -/
def fldN (n hi lo : Nat) : Nat := (n >>> lo) % 2 ^ (hi + 1 - lo)

/-- NAME[hi:lo] of a word, as a number. -/
def fldW {w : Nat} (x : BitVec w) (hi lo : Nat) : Nat := fldN x.toNat hi lo

/-- The word with NAME[hi:lo] replaced by v (cut to the field). -/
def setFldW {w : Nat} (x : BitVec w) (hi lo v : Nat) : BitVec w :=
  let m := 2 ^ (hi + 1 - lo)
  BitVec.ofNat w (x.toNat - ((x.toNat >>> lo) % m) * 2 ^ lo + (v % m) * 2 ^ lo)

/-- The word with bit i set to b. -/
def setBitW {w : Nat} (x : BitVec w) (i : Nat) (b : Bool) : BitVec w := setFldW x i i b.toNat

/-- The two's-complement value of the low `bits` bits of n. -/
def signedN (bits n : Nat) : Int :=
  let m := n % 2 ^ bits
  if m < 2 ^ (bits - 1) then (m : Int) else (m : Int) - (2 ^ bits : Nat)

/-- The low `bits` bits of an integer, in two's complement. -/
def wrapN (bits : Nat) (i : Int) : Nat := (i % ((2 ^ bits : Nat) : Int)).toNat

/-- An integer held between the ends of a signed field. -/
def satSigned (bits : Nat) (i : Int) : Int :=
  let m : Int := ((2 ^ (bits - 1) : Nat) : Int)
  if i < -m then -m else if i > m - 1 then m - 1 else i

/-- Words of 32 bits as one number, word 0 lowest. -/
def joinWords : List Word → Nat
  | [] => 0
  | w :: t => w.toNat + 2 ^ 32 * joinWords t

/-- Word i of a number. -/
def wordOf (n i : Nat) : Word := BitVec.ofNat 32 (n >>> (32 * i))

/-- Bytes as one number, byte 0 highest (the order on the wire). -/
def joinBytesBE : List Byte → Nat
  | [] => 0
  | b :: t => b.toNat * 256 ^ t.length + joinBytesBE t

/-- A number as `n` bytes, least significant first. -/
def bytesLE (n v : Nat) : List Byte := (List.range n).map fun i => BitVec.ofNat 8 (v >>> (8 * i))

end Sys2Proof.Machine

namespace Sys2Proof

/-- The entry of key n; d is what an unlisted key reads as. -/
def Tab.look {α : Type} (d : α) : Tab α → Nat → α
  | [], _ => d
  | (k, v) :: t, n => if n = k then v else Tab.look d t n

/-- A listed entry placed in key order. -/
def Tab.place {α : Type} (n : Nat) (v : α) : Tab α → Tab α
  | [] => [(n, v)]
  | (k, w) :: t => if n < k then (n, v) :: (k, w) :: t else (k, w) :: Tab.place n v t

/-- The table without key n. -/
def Tab.drop {α : Type} (n : Nat) : Tab α → Tab α
  | [] => []
  | (k, w) :: t => if n = k then Tab.drop n t else (k, w) :: Tab.drop n t

/-- Writing key n: an entry equal to the default d is not listed. -/
def Tab.put {α : Type} [DecidableEq α] (d : α) (t : Tab α) (n : Nat) (v : α) : Tab α :=
  if v = d then Tab.drop n t else Tab.place n v (Tab.drop n t)

/-- The entries whose key satisfies p. -/
def Tab.keep {α : Type} (p : Nat → Bool) (t : Tab α) : Tab α := t.filter fun e => p e.1

/-- Keys strictly rise. -/
def Tab.rising {α : Type} : Tab α → Bool
  | [] => true
  | [_] => true
  | (k, _) :: (m, w) :: t => decide (k < m) && Tab.rising ((m, w) :: t)

/-- The canonical form: keys strictly rise and no entry equals what its key reads as when unlisted. -/
def Tab.wf {α : Type} [DecidableEq α] (d : Nat → α) (t : Tab α) : Bool :=
  Tab.rising t && t.all fun e => !decide (e.2 = d e.1)

end Sys2Proof
end

