-- ==== Sys2Proof/Machine/RegTable.lean ====
section
/-! DEFINITION. The registers of BAR0 as data: for each group of registers its address, its reset word and which of
its bits have which access type (Table 00.4), from the register tables of 02 to 23 (R660). -/

namespace Sys2Proof.Machine

/-- What a register word counts, if it counts (Table 22.1). -/
inductive CntKind
  | plain | mon | trafLo | trafHi | perfLo | perfHi
  deriving DecidableEq, Repr

/-- A group of equal registers: base + s1*i + s2*j + s3*k, with masks of the bits of each access type. `own` marks
fields whose write has a command of its own; `clamps` are fields (hi, lo, least, greatest) stored within bounds. -/
structure RegD where
  base : Nat
  s1 : Nat := 0
  n1 : Nat := 1
  s2 : Nat := 0
  n2 : Nat := 1
  s3 : Nat := 0
  n3 : Nat := 1
  reset : Nat := 0
  rw : Nat := 0
  w1c : Nat := 0
  rc : Nat := 0
  wo : Nat := 0
  own : Nat := 0
  rwl : Nat := 0
  trim : Nat := 0
  kind : CntKind := .plain
  clamps : List (Nat × Nat × Nat × Nat) := []
  deriving DecidableEq, Repr

/-- Register groups of GLB (23): GLB_ID to GLB_CNT_INRST. -/
def regsGlb : List RegD :=
  [ { base := 0x0, reset := 0x32500001, trim := 0x300 },
    { base := 0x4, trim := 0xFFFF0F },
    { base := 0x8, s1 := 4, n1 := 2, trim := 0xFFFFFFFF },
    { base := 0x10, rw := 0xFFFFFFFF },
    { base := 0x20, rc := 0xFFFFFFFF, kind := .mon },
    { base := 0x24 },
    { base := 0x28, rc := 0xFFFFFFFF, kind := .mon } ]

/-- Register groups of RCP (21): RCP_STRAP to RCP_HWIN. -/
def regsRcp : List RegD :=
  [ { base := 0x100000 },
    { base := 0x100004, w1c := 0xC0 },
    { base := 0x100008 },
    { base := 0x10000C, rw := 0xFFFFFFFF, wo := 0xFFFFFFFF, own := 0xFFFFFFFF },
    { base := 0x100010, own := 0xFFFFFFFF },
    { base := 0x100014, reset := 0x640A, rw := 0x8000FFFF, clamps := [(15, 8, 1, 255), (7, 0, 1, 255)] },
    { base := 0x100018 },
    { base := 0x10001C, rw := 0xFFFFF, own := 0x800FFFFF },
    { base := 0x100020 },
    { base := 0x100024, rc := 0xFFFFFFFF, kind := .mon },
    { base := 0x100028 },
    { base := 0x100040, s1 := 4, n1 := 16, rw := 0xFFFFFFFF },
    { base := 0x110000, s1 := 4, n1 := 13312 },
    { base := 0x11D000, s1 := 4, n1 := 2048, rw := 0xFFFFFFFF },
    { base := 0x11F000, s1 := 4, n1 := 1024 },
    { base := 0x180000, s1 := 4, n1 := 131072, rw := 0xFFFFFFFF, wo := 0xFFFFFFFF } ]

/-- Register groups of FLT (20): FLT_CTRL to FLT_SRC. -/
def regsFlt0 : List RegD :=
  [ { base := 0x200000, reset := 0xA0001F4, rw := 0xF00FFFF, own := 0x80000000, rwl := 0xF00FFFF, clamps := [(15, 0, 100, 10000)] },
    { base := 0x200004, reset := 0x8, w1c := 0x140 },
    { base := 0x200008, w1c := 0xFFFFFFFF, own := 0xFFFFFFFF },
    { base := 0x20000C, w1c := 0xFFFFF, own := 0xFFFFF },
    { base := 0x200010, w1c := 0xFFFFFFFF },
    { base := 0x200014, w1c := 0xFFFFF },
    { base := 0x200018, rw := 0x3F, own := 0x8000003F },
    { base := 0x20001C, reset := 0x10000, rw := 0x81FF01FF },
    { base := 0x200020, reset := 0x5DC, rw := 0xFFFF, rwl := 0xFFFF, clamps := [(15, 0, 1, 65535)] },
    { base := 0x200024, reset := 0x1E0005, rw := 0xFFFF000F, rwl := 0xFFFF000F, clamps := [(31, 16, 1, 3600), (3, 0, 1, 15)] },
    { base := 0x200028 },
    { base := 0x20002C, rw := 0xFFFFFFFF, wo := 0xFFFFFFFF, own := 0xFFFFFFFF },
    { base := 0x200030, rc := 0xFFFFFFFF, kind := .mon },
    { base := 0x200040, w1c := 0x80000000, own := 0x80000000 },
    { base := 0x200044, s1 := 4, n1 := 4 },
    { base := 0x200060, s1 := 4, n1 := 5 },
    { base := 0x200080, s1 := 4, n1 := 4 },
    { base := 0x200090, rc := 0xFFFFFFFF, kind := .mon },
    { base := 0x200100, s1 := 4, n1 := 3, reset := 0x63, rw := 0x8 },
    { base := 0x20010C, s1 := 4, n1 := 3, reset := 0x23, rw := 0x8 },
    { base := 0x200118, reset := 0x41, rw := 0xB, own := 0x3, rwl := 0x3 },
    { base := 0x20011C, s1 := 4, n1 := 2, rw := 0xB, own := 0x3, rwl := 0x3 },
    { base := 0x200124, reset := 0x2, rw := 0xB, own := 0x3, rwl := 0x3 },
    { base := 0x200128, s1 := 4, n1 := 2, rw := 0xB, own := 0x3, rwl := 0x3 } ]

/-- Register groups of FLT (20): FLT_SRC to FLT_SRC. -/
def regsFlt1 : List RegD :=
  [ { base := 0x200130, reset := 0x2, rw := 0xB, own := 0x3, rwl := 0x3 },
    { base := 0x200134, rw := 0xB, own := 0x3, rwl := 0x3 },
    { base := 0x200138, s1 := 4, n1 := 4, reset := 0x12, rw := 0xB, own := 0x3, rwl := 0x3 },
    { base := 0x200148, reset := 0x2, rw := 0xB, own := 0x3, rwl := 0x3 },
    { base := 0x20014C, s1 := 4, n1 := 2, rw := 0xB, own := 0x3, rwl := 0x3 },
    { base := 0x200154, reset := 0x1, rw := 0xB, own := 0x3, rwl := 0x3 },
    { base := 0x200158, s1 := 4, n1 := 3, reset := 0x2, rw := 0xB, own := 0x3, rwl := 0x3 },
    { base := 0x200164, s1 := 4, n1 := 3, reset := 0x1, rw := 0xB, own := 0x3, rwl := 0x3 },
    { base := 0x200170, reset := 0x2, rw := 0xB, own := 0x3, rwl := 0x3 },
    { base := 0x200174, s1 := 4, n1 := 3, reset := 0x1, rw := 0xB, own := 0x3, rwl := 0x3 },
    { base := 0x200180, reset := 0x2, rw := 0xB, own := 0x3, rwl := 0x3 },
    { base := 0x200184, s1 := 4, n1 := 2, rw := 0xB, own := 0x3, rwl := 0x3 },
    { base := 0x20018C, reset := 0x1, rw := 0xB, own := 0x3, rwl := 0x3 },
    { base := 0x200190, s1 := 4, n1 := 2, rw := 0xB, own := 0x3, rwl := 0x3 },
    { base := 0x200198, reset := 0x1, rw := 0xB, own := 0x3, rwl := 0x3 },
    { base := 0x20019C, reset := 0x2, rw := 0xB, own := 0x3, rwl := 0x3 },
    { base := 0x2001A0, s1 := 4, n1 := 3, reset := 0x1, rw := 0xB, own := 0x3, rwl := 0x3 },
    { base := 0x2001AC, reset := 0x2, rw := 0xB, own := 0x3, rwl := 0x3 },
    { base := 0x2001B0, s1 := 4, n1 := 2, rw := 0xB, own := 0x3, rwl := 0x3 },
    { base := 0x2001B8, s1 := 4, n1 := 2, reset := 0x1, rw := 0xB, own := 0x3, rwl := 0x3 },
    { base := 0x2001C0, rw := 0xB, own := 0x3, rwl := 0x3 },
    { base := 0x2001C4, reset := 0x1, rw := 0xB, own := 0x3, rwl := 0x3 },
    { base := 0x2001C8, reset := 0x41, rw := 0xB, own := 0x3, rwl := 0x3 },
    { base := 0x2001CC, rw := 0xB, own := 0x3, rwl := 0x3 } ]

/-- Register groups of FLT (20): FLT_CNT to FLT_CNT. -/
def regsFlt2 : List RegD :=
  [ { base := 0x200200, s1 := 4, n1 := 52, rc := 0xFFFF } ]

/-- All register groups of FLT. -/
def regsFlt : List RegD := regsFlt0 ++ regsFlt1 ++ regsFlt2

/-- Register groups of OBS (22): OBS_CTRL to OBS_TRC_CTRL. -/
def regsObs0 : List RegD :=
  [ { base := 0x300000, rw := 0x800701FF },
    { base := 0x300004, w1c := 0x4 },
    { base := 0x300008, rw := 0x1, own := 0x80000001 },
    { base := 0x300010, rw := 0xFFFFFFFF },
    { base := 0x300014, rw := 0xFF },
    { base := 0x300018, s1 := 4, n1 := 2 },
    { base := 0x300020, w1c := 0x7 },
    { base := 0x300024, w1c := 0x3FFFFE },
    { base := 0x300030, rc := 0xFFFFFFFF, kind := .mon },
    { base := 0x300100, s1 := 64, n1 := 18, s2 := 8, n2 := 4, kind := .perfLo },
    { base := 0x300104, s1 := 64, n1 := 18, s2 := 8, n2 := 4, w1c := 0x80000000, kind := .perfHi },
    { base := 0x300600, s1 := 32, n1 := 5, s2 := 8, n2 := 4, kind := .perfLo },
    { base := 0x300604, s1 := 32, n1 := 5, s2 := 8, n2 := 4, w1c := 0x80000000, kind := .perfHi },
    { base := 0x300800, s1 := 16, n1 := 64, rw := 0xF801FFFF, own := 0xF801FFFF },
    { base := 0x300804, s1 := 16, n1 := 64, rw := 0xFFFFFFFF },
    { base := 0x300808, s1 := 16, n1 := 64, kind := .perfLo },
    { base := 0x30080C, s1 := 16, n1 := 64, w1c := 0x80000000, kind := .perfHi },
    { base := 0x301000, rw := 0xF000FFFF, clamps := [(15, 0, 1, 65535)] },
    { base := 0x301004, rw := 0xFFFF },
    { base := 0x301008 },
    { base := 0x30100C, rc := 0xFFFFFFFF, kind := .mon },
    { base := 0x301010, rw := 0xFFF },
    { base := 0x301014, s1 := 4, n1 := 4 },
    { base := 0x302000, rw := 0xFFFC00FE, own := 0xFFFC00FE } ]

/-- Register groups of OBS (22): OBS_TRC_PMASK to OBS_TEN_HI. -/
def regsObs1 : List RegD :=
  [ { base := 0x302004, rw := 0xFFFFFFFF },
    { base := 0x302008 },
    { base := 0x30200C, rw := 0xFFFFFFFF, wo := 0xFFFFFFFF, own := 0xFFFFFFFF },
    { base := 0x302010, rc := 0xFFFFFFFF, kind := .mon },
    { base := 0x302014, rw := 0x1FFFF },
    { base := 0x302020, s1 := 4, n1 := 8 },
    { base := 0x303000, reset := 0x80000000, rw := 0x80000000, own := 0x1 },
    { base := 0x303004, w1c := 0x2 },
    { base := 0x303008, reset := 0x800000, rw := 0xFFFFFFFF },
    { base := 0x30300C },
    { base := 0x304000, s1 := 4, n1 := 16, rw := 0x1 },
    { base := 0x305000, s1 := 64, n1 := 16, s2 := 8, n2 := 6, kind := .trafLo },
    { base := 0x305004, s1 := 64, n1 := 16, s2 := 8, n2 := 6, kind := .trafHi } ]

/-- All register groups of OBS. -/
def regsObs : List RegD := regsObs0 ++ regsObs1

/-- Register groups of HIF (19): HIF_CTRL to HIF_PF_PBA. -/
def regsHif : List RegD :=
  [ { base := 0x400000, rw := 0x800003FF },
    { base := 0x400004, s1 := 4, n1 := 2 },
    { base := 0x400010, s1 := 4, n1 := 5, rc := 0xFFFFFFFF, kind := .mon },
    { base := 0x400100, s1 := 4, n1 := 64, rw := 0xFF000000, own := 0xFF000000 },
    { base := 0x400200, s1 := 4, n1 := 32, rw := 0x3FF03FF },
    { base := 0x400300, s1 := 8, n1 := 16, rc := 0xFFFFFFFF, kind := .mon },
    { base := 0x400304, s1 := 8, n1 := 16 },
    { base := 0x410000, s1 := 32, n1 := 1024, reset := 0x3000000, rw := 0xFF9001FF, own := 0xFF9001FF },
    { base := 0x410004, s1 := 32, n1 := 1024, reset := 0x1, rw := 0xFFFFFFFF, own := 0xFFFFFFFF },
    { base := 0x410008, s1 := 32, n1 := 1024, reset := 0x8000000 },
    { base := 0x41000C, s1 := 32, n1 := 1024, s2 := 4, n2 := 3 },
    { base := 0x410018, s1 := 32, n1 := 1024, s2 := 4, n2 := 2, rw := 0xFFFFFFFF, own := 0xFFFFFFFF },
    { base := 0x420000, s1 := 16, n1 := 1024, kind := .trafLo },
    { base := 0x420004, s1 := 16, n1 := 1024, kind := .trafHi },
    { base := 0x420008, s1 := 16, n1 := 1024, s2 := 4, n2 := 2, rc := 0xFFFFFFFF, kind := .mon },
    { base := 0x440000, s1 := 16, n1 := 512, s2 := 4, n2 := 3, rw := 0xFFFFFFFF },
    { base := 0x44000C, s1 := 16, n1 := 512, reset := 0x1, rw := 0xFFFFFFFF },
    { base := 0x442000, s1 := 4, n1 := 16 } ]

/-- Register groups of TSU (17): TSU_CTRL to TSU_CKO_CTRL. -/
def regsTsu0 : List RegD :=
  [ { base := 0x800000, rw := 0x8FFC0003, own := 0x2 },
    { base := 0x800004, reset := 0x4, w1c := 0x2 },
    { base := 0x800010, s1 := 4, n1 := 3 },
    { base := 0x800020, reset := 0x9999999A, rw := 0xFFFFFFFF },
    { base := 0x800024, reset := 0x1, rw := 0xFF, own := 0xFF },
    { base := 0x800028, rw := 0xFFFFFFFF },
    { base := 0x80002C, rw := 0xFF },
    { base := 0x800030, rw := 0xFFFFFFFF, own := 0xFFFFFFFF },
    { base := 0x800040, s1 := 4, n1 := 3, rw := 0xFFFFFFFF, rwl := 0xFFFFFFFF },
    { base := 0x80004C, own := 0x1 },
    { base := 0x800050, rw := 0xFFFFFFFF, wo := 0xFFFFFFFF, own := 0xFFFFFFFF },
    { base := 0x800060, s1 := 4, n1 := 3, rc := 0xFFFFFFFF, kind := .mon },
    { base := 0x800100, s1 := 32, n1 := 16, rw := 0xFF000000, w1c := 0xE },
    { base := 0x800104, s1 := 32, n1 := 16, rw := 0xFFFFFFFF },
    { base := 0x800108, s1 := 32, n1 := 16, rw := 0xFF, own := 0xFF },
    { base := 0x80010C, s1 := 32, n1 := 16, reset := 0x3E8, rw := 0xFFFFFFFF },
    { base := 0x800110, s1 := 32, n1 := 16, s2 := 4, n2 := 2 },
    { base := 0x800118, s1 := 32, n1 := 16, rc := 0xFFFFFFFF, kind := .mon },
    { base := 0x800400, s1 := 32, n1 := 2, rw := 0x80000000 },
    { base := 0x800404, s1 := 32, n1 := 2, reset := 0x3B9ACA00, rw := 0xFFFFFFFF, own := 0xFFFFFFFF },
    { base := 0x800408, s1 := 32, n1 := 2, reset := 0x5F5E100, rw := 0xFFFFFFFF, own := 0xFFFFFFFF },
    { base := 0x80040C, s1 := 32, n1 := 2, rw := 0xFFFFFFFF, own := 0xFFFFFFFF },
    { base := 0x800410, s1 := 32, n1 := 2, rw := 0xFFFFFFFF },
    { base := 0x800480, s1 := 32, n1 := 2, rw := 0x80000000 } ]

/-- Register groups of TSU (17): TSU_CKO_PER_LO to TSU_U_CNT_1S_DOWN. -/
def regsTsu1 : List RegD :=
  [ { base := 0x800484, s1 := 32, n1 := 2, reset := 0x640000, rw := 0xFFFFFFFF },
    { base := 0x800488, s1 := 32, n1 := 2, rw := 0xFFFF },
    { base := 0x80048C, s1 := 32, n1 := 2, s2 := 4, n2 := 2, rw := 0xFFFFFFFF },
    { base := 0x800500, s1 := 32, n1 := 2, rw := 0xE0000000, w1c := 0x2 },
    { base := 0x800504, s1 := 32, n1 := 2, s2 := 4, n2 := 3 },
    { base := 0x800510, s1 := 32, n1 := 2, rw := 0xFFFFFFFF },
    { base := 0x800514, s1 := 32, n1 := 2, rc := 0xFFFFFFFF, kind := .mon },
    { base := 0x800600, reset := 0x1531, rw := 0xFFFFFFFF, clamps := [(15, 0, 16, 65535)] },
    { base := 0x800604, rw := 0xFF, wo := 0xFF, own := 0xFF },
    { base := 0x800608, s1 := 4, n1 := 4 },
    { base := 0x800700, reset := 0x3E8, rw := 0x8000FFFF, clamps := [(15, 0, 1, 65535)] },
    { base := 0x800704, s1 := 4, n1 := 2 },
    { base := 0x80070C, s1 := 4, n1 := 2, rw := 0xFFFFFFFF },
    { base := 0x801000, s1 := 64, n1 := 32, reset := 0x80003E8, rw := 0xFF00FFFF, clamps := [(29, 24, 2, 63), (15, 0, 1, 65535)] },
    { base := 0x801004, s1 := 64, n1 := 32, s2 := 4, n2 := 2, rw := 0xFFFFFF },
    { base := 0x80100C, s1 := 64, n1 := 32, reset := 0x2160EC0, rw := 0xFFFFFFFF },
    { base := 0x801010, s1 := 64, n1 := 32, reset := 0x80000000, rw := 0xFFFFFFFF },
    { base := 0x801014, s1 := 64, n1 := 32, s2 := 4, n2 := 2, rc := 0xFFFFFFFF, kind := .mon },
    { base := 0x802000, s1 := 16, n1 := 24, s2 := 4, n2 := 2, rw := 0xFFFFFFFF },
    { base := 0x802008, s1 := 16, n1 := 24, rc := 0xFFFFFFFF, kind := .mon } ]

/-- All register groups of TSU. -/
def regsTsu : List RegD := regsTsu0 ++ regsTsu1

/-- Register groups of TPA (02): TPA_MODE to TPA_CNT_SWITCH. -/
def regsTpa : List RegD :=
  [ { base := 0xA00000, s1 := 65536, n1 := 32, reset := 0x20, rw := 0x7B, own := 0x7B },
    { base := 0xA00004, s1 := 65536, n1 := 32, rw := 0x7, own := 0x3 },
    { base := 0xA00008, s1 := 65536, n1 := 32, reset := 0x1, w1c := 0x30 },
    { base := 0xA0000C, s1 := 65536, n1 := 32, reset := 0x8F0, rw := 0xFFFF, own := 0xC000 },
    { base := 0xA00010, s1 := 65536, n1 := 32, reset := 0x20604, rw := 0x7F3FFF, clamps := [(13, 8, 1, 63)] },
    { base := 0xA00014, s1 := 65536, n1 := 32, reset := 0x400808, rw := 0x8FFFFFFF, clamps := [(27, 16, 1, 4095)] },
    { base := 0xA00018, s1 := 65536, n1 := 32, reset := 0x64, rw := 0xFFFF },
    { base := 0xA00020, s1 := 65536, n1 := 32, s2 := 4, n2 := 5, rc := 0xFFFFFFFF, kind := .mon },
    { base := 0xA00034, s1 := 65536, n1 := 32 },
    { base := 0xA08000, s1 := 524288, n1 := 4, reset := 0xE11900, rw := 0xFFFF01, clamps := [(15, 8, 1, 255)] },
    { base := 0xA08004, s1 := 524288, n1 := 4, reset := 0x500001, rw := 0x7FFFF0F, own := 0x87FFFF0F },
    { base := 0xA08008, s1 := 524288, n1 := 4, s2 := 4, n2 := 2, rw := 0xFFFFFFFF },
    { base := 0xA08010, s1 := 524288, n1 := 4 },
    { base := 0xA09000, s1 := 65536, n1 := 32, rw := 0xFF3FFFFF, own := 0xFF000000 },
    { base := 0xA09004, s1 := 65536, n1 := 32, reset := 0x40005DC, rw := 0xFF00FFFF, clamps := [(31, 24, 1, 255), (15, 0, 1, 65535)] },
    { base := 0xA09008, s1 := 65536, n1 := 32, rw := 0x3, own := 0x80000003 },
    { base := 0xA0900C, s1 := 65536, n1 := 32, w1c := 0x80 },
    { base := 0xA09010, s1 := 65536, n1 := 32, s2 := 4, n2 := 2, rc := 0xFFFFFFFF, kind := .mon } ]

/-- Register groups of BRX (03): BRX_CTRL to BRX_MEM_w0. -/
def regsBrx : List RegD :=
  [ { base := 0xC00000, s1 := 65536, n1 := 32, reset := 0x7D04406, rw := 0xFFFFFF06, own := 0xFFFFFF06, clamps := [(31, 16, 1, 65535), (11, 8, 1, 15)] },
    { base := 0xC00004, s1 := 65536, n1 := 32, reset := 0x100200C, rw := 0x3FFFF1F },
    { base := 0xC00008, s1 := 65536, n1 := 32, reset := 0x9, rw := 0xFF, own := 0xFF, clamps := [(7, 0, 1, 255)] },
    { base := 0xC0000C, s1 := 65536, n1 := 32 },
    { base := 0xC00010, s1 := 65536, n1 := 32, reset := 0x1F40040, rw := 0xE3FFF0FF, own := 0xE3FFF0FF },
    { base := 0xC00014, s1 := 65536, n1 := 32, reset := 0x2027D040, rw := 0xE3FFF0FF, own := 0xE3FFF0FF },
    { base := 0xC00018, s1 := 65536, n1 := 32, reset := 0x40FA0040, rw := 0xE3FFF0FF, own := 0xE3FFF0FF },
    { base := 0xC0001C, s1 := 65536, n1 := 32, reset := 0x6013F040, rw := 0xE3FFF0FF, own := 0xE3FFF0FF },
    { base := 0xC00020, s1 := 65536, n1 := 32, rw := 0x101FF, own := 0x800101FF },
    { base := 0xC00040, s1 := 65536, n1 := 32, s2 := 4, n2 := 10, rc := 0xFFFFFFFF, kind := .mon },
    { base := 0xC08000, s1 := 65536, n1 := 32, s2 := 8, n2 := 512, s3 := 4, n3 := 2 } ]

/-- Register groups of RNG (04): RNG_CTRL to RNG_CTX_w7. -/
def regsRng : List RegD :=
  [ { base := 0xE00000, s1 := 65536, n1 := 32, reset := 0x3E80A18, rw := 0xFFFFFF3F, own := 0x3F, clamps := [(31, 16, 1, 65535), (15, 8, 1, 255)] },
    { base := 0xE00008, s1 := 65536, n1 := 32, reset := 0xFA0C3C, rw := 0x3FF0FFF, own := 0x3FF0FFF },
    { base := 0xE0000C, s1 := 65536, n1 := 32, reset := 0x43180810, rw := 0xFFFFFFFF, own := 0xFFFFFFFF, clamps := [(31, 28, 1, 15), (7, 0, 1, 255)] },
    { base := 0xE00010, s1 := 65536, n1 := 32, reset := 0x640032, rw := 0xFFFFFFFF, clamps := [(31, 16, 1, 65535), (15, 0, 1, 65535)] },
    { base := 0xE00014, s1 := 65536, n1 := 32, rw := 0x70001FF, own := 0x870001FF },
    { base := 0xE00018, s1 := 65536, n1 := 32, s2 := 4, n2 := 3 },
    { base := 0xE00040, s1 := 65536, n1 := 32, s2 := 4, n2 := 11, rc := 0xFFFFFFFF, kind := .mon },
    { base := 0xE08000, s1 := 65536, n1 := 32, s2 := 32, n2 := 512, s3 := 4, n3 := 7 },
    { base := 0xE0801C, s1 := 65536, n1 := 32, s2 := 32, n2 := 512, rw := 0x80FFFFFF } ]

/-- Register groups of GNT (05): GNT_CTRL to GNT_STR_w1. -/
def regsGnt : List RegD :=
  [ { base := 0x1000000, reset := 0xF0000, rw := 0xFF0000, clamps := [(23, 16, 12, 60)] },
    { base := 0x1000004, w1c := 0x1 },
    { base := 0x1000010, s1 := 4, n1 := 4 },
    { base := 0x1000020, s1 := 4, n1 := 3, rc := 0xFFFFFFFF, kind := .mon },
    { base := 0x1000100, s1 := 16, n1 := 8, reset := 0xC8, rw := 0xFFFFF, clamps := [(15, 0, 1, 65535)] },
    { base := 0x1000104, s1 := 16, n1 := 8 },
    { base := 0x1000108, s1 := 16, n1 := 8, s2 := 4, n2 := 2, rc := 0xFFFFFFFF, kind := .mon },
    { base := 0x1020000, s1 := 256, n1 := 32, reset := 0x11800, rw := 0xF03FF00, own := 0xFF00 },
    { base := 0x1020004, s1 := 256, n1 := 32 },
    { base := 0x1020010, s1 := 256, n1 := 32, s2 := 4, n2 := 4, rw := 0xFFFFFF, own := 0xFFFFFF },
    { base := 0x1020044, s1 := 256, n1 := 32, s2 := 4, n2 := 12, rc := 0xFFFFFFFF, kind := .mon },
    { base := 0x1020080, s1 := 256, n1 := 32, s2 := 4, n2 := 5, rc := 0xFFFFFFFF, kind := .mon },
    { base := 0x1080000, s1 := 8, n1 := 2048, reset := 0x90000, rw := 0xFFFFFFFF, own := 0xFFFFFFFF },
    { base := 0x1080004, s1 := 8, n1 := 2048, reset := 0x2000000, rw := 0xFFF8FFFF, own := 0xFFF8FFFF },
    { base := 0x1100000, s1 := 8, n1 := 65536, reset := 0xFFFFF001, rw := 0xFFFFF000, own := 0xFFFFF000 },
    { base := 0x1100004, s1 := 8, n1 := 65536, reset := 0x38000000, rw := 0xFFF03FFF, own := 0xFFF03FFF } ]

/-- Register groups of MTN (06): MTN_CTRL to MTN_P_CNT_TRANSIENT. -/
def regsMtn : List RegD :=
  [ { base := 0x1200000, reset := 0x1, rw := 0x1 },
    { base := 0x1200004, w1c := 0x2, trim := 0x300 },
    { base := 0x1200008, s1 := 4, n1 := 3 },
    { base := 0x1200020, s1 := 4, n1 := 4, rc := 0xFFFFFFFF, kind := .mon },
    { base := 0x1200100, s1 := 32, n1 := 16, reset := 0x2, rw := 0x3, own := 0x1 },
    { base := 0x1200104, s1 := 32, n1 := 16, trim := 0x8000001F },
    { base := 0x1200108, s1 := 32, n1 := 16, rw := 0xC3FF03FF, own := 0xC3FF03FF },
    { base := 0x120010C, s1 := 32, n1 := 16, s2 := 4, n2 := 3, rc := 0xFFFFFFFF, kind := .mon },
    { base := 0x1200400, s1 := 16, n1 := 18, trim := 0xFA00 },
    { base := 0x1200404, s1 := 16, n1 := 18, s2 := 4, n2 := 2, rc := 0xFFFFFFFF, kind := .mon } ]

/-- Register groups of DFR (08): DFR_CTRL to DFR_QMAP. -/
def regsDfr : List RegD :=
  [ { base := 0x1400000, reset := 0x641400, rw := 0xFFFFFF00, own := 0x1, clamps := [(31, 16, 1, 65535), (15, 8, 1, 255)] },
    { base := 0x1400004, rw := 0x1FFFF, own := 0x1FFFF },
    { base := 0x1400008, s1 := 4, n1 := 2 },
    { base := 0x1400010, rw := 0xFFFFFFFF },
    { base := 0x1400014, rw := 0x7FFFF },
    { base := 0x1400018, rc := 0xFFFFFFFF, kind := .mon },
    { base := 0x1410000, s1 := 1024, n1 := 32, reset := 0x40080240, rw := 0xF1FFC7FF, own := 0x80000000, clamps := [(19, 14, 1, 63), (10, 8, 1, 4)] },
    { base := 0x1410004, s1 := 1024, n1 := 32, w1c := 0x5 },
    { base := 0x1410008, s1 := 1024, n1 := 32, s2 := 4, n2 := 3 },
    { base := 0x1410020, s1 := 1024, n1 := 32, kind := .trafLo },
    { base := 0x1410024, s1 := 1024, n1 := 32, kind := .trafHi },
    { base := 0x1410028, s1 := 1024, n1 := 32, kind := .trafLo },
    { base := 0x141002C, s1 := 1024, n1 := 32, kind := .trafHi },
    { base := 0x1410030, s1 := 1024, n1 := 32, kind := .trafLo },
    { base := 0x1410034, s1 := 1024, n1 := 32, kind := .trafHi },
    { base := 0x1410038, s1 := 1024, n1 := 32, kind := .trafLo },
    { base := 0x141003C, s1 := 1024, n1 := 32, kind := .trafHi },
    { base := 0x1410040, s1 := 1024, n1 := 32, s2 := 4, n2 := 10, rc := 0xFFFFFFFF, kind := .mon },
    { base := 0x1480000, s1 := 4, n1 := 65536, rw := 0xE000FFFF } ]

/-- Register groups of UDF (09): UDF_STATUS to UDF_TSTAT_CORR_CW. -/
def regsUdf : List RegD :=
  [ { base := 0x1500000 },
    { base := 0x1500010, rc := 0xFFFFFFFF, kind := .mon },
    { base := 0x1510000, s1 := 256, n1 := 32, reset := 0x80C, rw := 0xFF0F, clamps := [(15, 8, 1, 255), (3, 0, 1, 13)] },
    { base := 0x1510008, s1 := 256, n1 := 32, kind := .trafLo },
    { base := 0x151000C, s1 := 256, n1 := 32, kind := .trafHi },
    { base := 0x1510010, s1 := 256, n1 := 32, s2 := 4, n2 := 6, rc := 0xFFFFFFFF, kind := .mon },
    { base := 0x1580000, s1 := 32, n1 := 16384, kind := .trafLo },
    { base := 0x1580004, s1 := 32, n1 := 16384, kind := .trafHi },
    { base := 0x1580008, s1 := 32, n1 := 16384, s2 := 4, n2 := 6, rc := 0xFFFFFFFF, kind := .mon } ]

/-- Register groups of TCE (10): TCE_CTRL to TCE_PMCUR_w6. -/
def regsTce : List RegD :=
  [ { base := 0x1600000, rw := 0xFF, clamps := [(6, 0, 0, 95)] },
    { base := 0x1600004 },
    { base := 0x1600008, own := 0x1 },
    { base := 0x1600010, rw := 0xFFFFF000 },
    { base := 0x1600014, rw := 0xFFFFFFFF },
    { base := 0x1600020, s1 := 4, n1 := 3, rc := 0xFFFFFFFF, kind := .mon },
    { base := 0x1610000, s1 := 16, n1 := 2048, rw := 0xFFFFFFFC, own := 0xFFFFFFFC },
    { base := 0x1610004, s1 := 16, n1 := 2048, s2 := 4, n2 := 2, rw := 0xFFFCFFFF, own := 0xFFFCFFFF },
    { base := 0x161000C, s1 := 16, n1 := 2048, reset := 0x1F041, rw := 0xFFFFFFC3, own := 0xFFFFFFC3 },
    { base := 0x1620000, s1 := 32, n1 := 4096 },
    { base := 0x1620004, s1 := 32, n1 := 4096, s2 := 4, n2 := 6, rc := 0xFFFFFFFF, kind := .mon },
    { base := 0x162001C, s1 := 32, n1 := 4096, rc := 0xFFFFFFFF },
    { base := 0x1640000, s1 := 8, n1 := 2048, rw := 0xFFFE0000, own := 0xFFFE0000 },
    { base := 0x1640004, s1 := 8, n1 := 2048, reset := 0x200240FA, rw := 0xFFFFFFFF, own := 0xFFFFFFFF },
    { base := 0x1650000, s1 := 4, n1 := 32768, rw := 0xFFFFFFFF },
    { base := 0x1680000, s1 := 4, n1 := 32768, reset := 0xFF },
    { base := 0x16A0000, s1 := 4, n1 := 32768, reset := 0xFF, rw := 0x87FFF0FF },
    { base := 0x1700000, s1 := 32, n1 := 20504, s2 := 4, n2 := 6 },
    { base := 0x1700018, s1 := 32, n1 := 20504, s2 := 4, n2 := 2 } ]

/-- Register groups of PRS (11): PRS_CTRL to PRS_p_WIN. -/
def regsPrs : List RegD :=
  [ { base := 0x1800000, rw := 0x3F3F },
    { base := 0x1800004, rw := 0x3FF03FF },
    { base := 0x1800010, s1 := 4, n1 := 5, rc := 0xFFFFFFFF, kind := .mon },
    { base := 0x1801000, s1 := 8, n1 := 256, rw := 0xFFFFFFFF, own := 0xFFFFFFFF },
    { base := 0x1801004, s1 := 8, n1 := 256, rw := 0xFFFFF000, own := 0xFFFFF000 },
    { base := 0x1804000, s1 := 256, n1 := 64, rw := 0x7FFFFF00, own := 0x7FFFFF00, clamps := [(17, 15, 0, 4), (9, 8, 0, 2)] },
    { base := 0x1804004, s1 := 256, n1 := 64, rw := 0xF8003FFF, own := 0xF8003FFF },
    { base := 0x1804008, s1 := 256, n1 := 64, rw := 0xFFE03FFF, own := 0xFFE03FFF },
    { base := 0x1804010, s1 := 256, n1 := 64, s2 := 4, n2 := 2, rw := 0xFFFFF000, own := 0xFFFFF000 },
    { base := 0x1804020, s1 := 256, n1 := 64, s2 := 16, n2 := 4, rw := 0xFF03, own := 0xFF03 },
    { base := 0x1804024, s1 := 256, n1 := 64, s2 := 16, n2 := 4, s3 := 4, n3 := 2, rw := 0xFFFFFFFF, own := 0xFFFFFFFF },
    { base := 0x1804060, s1 := 256, n1 := 64, s2 := 4, n2 := 24, rw := 0xFFF07F, own := 0xFFF07F } ]

/-- Register groups of CLS (11): CLS_EPOCH to CLS_ROOT. -/
def regsCls : List RegD :=
  [ { base := 0x1900000, reset := 0x2 },
    { base := 0x1900004, reset := 0xFFFFFFFF, rw := 0xFFFFFFFF },
    { base := 0x1900008 },
    { base := 0x1900010, s1 := 4, n1 := 8, rc := 0xFFFFFFFF, kind := .mon },
    { base := 0x1900100, s1 := 4, n1 := 16, rw := 0xFFFF7FFF },
    { base := 0x1900200, s1 := 32, n1 := 2, s2 := 4, n2 := 8 } ]

/-- Register groups of FDB (12): FDB_CTRL to FDB_TBL. -/
def regsFdb : List RegD :=
  [ { base := 0x1A00000, reset := 0x12C0010, rw := 0xFFFFFFF0 },
    { base := 0x1A00004 },
    { base := 0x1A00008, reset := 0xFFFFFFFF, rw := 0xFFFFFFFF, own := 0xFFFFFFFF },
    { base := 0x1A0000C },
    { base := 0x1A00010, rw := 0x70000, own := 0x80070000 },
    { base := 0x1A00014, rw := 0xFFFFFFFF },
    { base := 0x1A00018, rw := 0xFFFFFFF },
    { base := 0x1A0001C, rw := 0x7FFFF },
    { base := 0x1A00020, s1 := 4, n1 := 4, rw := 0xFFFFFFFF },
    { base := 0x1A00040, s1 := 4, n1 := 19, rc := 0xFFFFFFFF, kind := .mon },
    { base := 0x1A00100, s1 := 4, n1 := 57, rw := 0xFFF },
    { base := 0x1A00300, s1 := 16, n1 := 16, s2 := 4, n2 := 2, rw := 0x7FFFF },
    { base := 0x1A00400, s1 := 4, n1 := 2, reset := 0x40800, rw := 0x7FFFF },
    { base := 0x1A00308, s1 := 16, n1 := 17, s2 := 4, n2 := 2 },
    { base := 0x1A00600, s1 := 8, n1 := 32, reset := 0x90002000, rw := 0xFFC7FFFF },
    { base := 0x1A00604, s1 := 8, n1 := 32 },
    { base := 0x1A00800, s1 := 4, n1 := 64, reset := 0x300, rw := 0x807F3FFF },
    { base := 0x1A10000, s1 := 4, n1 := 16384 },
    { base := 0x1A20000, s1 := 4, n1 := 4096, rw := 0xFF000FFF, own := 0x3E000000 } ]

/-- Register groups of BPM (13): BPM_CTRL to BPM_k_FREE. -/
def regsBpm0 : List RegD :=
  [ { base := 0x1B00000, rw := 0x1, own := 0x1 },
    { base := 0x1B00004, w1c := 0x2 },
    { base := 0x1B00010, s1 := 4, n1 := 4 },
    { base := 0x1B00020, rc := 0xFFFFFFFF, kind := .mon },
    { base := 0x1B00030, s1 := 4, n1 := 2 },
    { base := 0x1B00044, s1 := 4, n1 := 5, rc := 0xFFFFFFFF, kind := .mon },
    { base := 0x1B00060, s1 := 4, n1 := 5, rc := 0xFFFFFFFF, kind := .mon },
    { base := 0x1B00100, rw := 0x8007FFFF, own := 0x8007FFFF },
    { base := 0x1B00104, reset := 0x4000, rw := 0x7FFFF, own := 0x7FFFF },
    { base := 0x1B00140, reset := 0x30000, rw := 0x8007FFFF, own := 0x8007FFFF },
    { base := 0x1B00144, reset := 0x4000, rw := 0x7FFFF, own := 0x7FFFF },
    { base := 0x1B00180, reset := 0x4000, rw := 0x8007FFFF, own := 0x8007FFFF },
    { base := 0x1B00184, reset := 0x3800, rw := 0x7FFFF, own := 0x7FFFF },
    { base := 0x1B001C0, reset := 0x34000, rw := 0x8007FFFF, own := 0x8007FFFF },
    { base := 0x1B001C4, reset := 0x3800, rw := 0x7FFFF, own := 0x7FFFF },
    { base := 0x1B00200, reset := 0x20000, rw := 0x8007FFFF, own := 0x8007FFFF },
    { base := 0x1B00204, reset := 0x400, rw := 0x7FFFF, own := 0x7FFFF },
    { base := 0x1B00240, reset := 0x50000, rw := 0x8007FFFF, own := 0x8007FFFF },
    { base := 0x1B00244, reset := 0x400, rw := 0x7FFFF, own := 0x7FFFF },
    { base := 0x1B00280, reset := 0x2A000, rw := 0x8007FFFF, own := 0x8007FFFF },
    { base := 0x1B00284, reset := 0x180, rw := 0x7FFFF, own := 0x7FFFF },
    { base := 0x1B002C0, reset := 0x5A000, rw := 0x8007FFFF, own := 0x8007FFFF },
    { base := 0x1B002C4, reset := 0x180, rw := 0x7FFFF, own := 0x7FFFF },
    { base := 0x1B00108, s1 := 64, n1 := 8, s2 := 4, n2 := 2 } ]

/-- Register groups of BPM (13): BPM_k_MIN_FREE to BPM_k_HELD. -/
def regsBpm1 : List RegD :=
  [ { base := 0x1B00110, s1 := 64, n1 := 8, reset := 0x7FFFF, rc := 0x7FFFF },
    { base := 0x1B00118, s1 := 64, n1 := 8, kind := .trafLo },
    { base := 0x1B0011C, s1 := 64, n1 := 8, kind := .trafHi },
    { base := 0x1B00120, s1 := 64, n1 := 8, s2 := 4, n2 := 4, rc := 0xFFFFFFFF, kind := .mon },
    { base := 0x1B00400, s1 := 32, n1 := 8, s2 := 4, n2 := 8, reset := 0x7FFFF, rw := 0x7FFFF },
    { base := 0x1B00600, s1 := 32, n1 := 8, s2 := 4, n2 := 8 } ]

/-- All register groups of BPM. -/
def regsBpm : List RegD := regsBpm0 ++ regsBpm1

/-- Register groups of TMG (14): TMG_CTRL to TMG_Q. -/
def regsTmg0 : List RegD :=
  [ { base := 0x1C00000, reset := 0x3E803E8, rw := 0xFFFFFFFF, clamps := [(31, 16, 1, 65535), (15, 0, 1, 65535)] },
    { base := 0x1C00004, w1c := 0x1 },
    { base := 0x1C00010, s1 := 4, n1 := 4 },
    { base := 0x1C00020, rc := 0xFFFFFFFF, kind := .mon },
    { base := 0x1C00030, rw := 0x30000, own := 0x80030000 },
    { base := 0x1C00034, rw := 0x1FFFF },
    { base := 0x1C00038, s1 := 4, n1 := 2, rw := 0xFFFFFFFF },
    { base := 0x1C00040, s1 := 4, n1 := 2 },
    { base := 0x1C00054, s1 := 4, n1 := 5, rc := 0xFFFFFFFF, kind := .mon },
    { base := 0x1C00070, s1 := 4, n1 := 2, rc := 0xFFFFFFFF, kind := .mon },
    { base := 0x1C00100, s1 := 16, n1 := 17, s2 := 8, n2 := 2, reset := 0x18000, rw := 0x1FFFF },
    { base := 0x1C00104, s1 := 16, n1 := 17, s2 := 8, n2 := 2 },
    { base := 0x1C00400, s1 := 68, n1 := 25, s2 := 4, n2 := 17, rw := 0x800001FF },
    { base := 0x1C01000, s1 := 32, n1 := 32, reset := 0x800A421, rw := 0xFF0FFFFF, clamps := [(19, 0, 1, 1048575)] },
    { base := 0x1C01400, s1 := 32, n1 := 24, reset := 0x140186A0, rw := 0xFF0FFFFF, clamps := [(19, 0, 1, 1048575)] },
    { base := 0x1C01700, s1 := 32, n1 := 1, reset := 0x140C3500, rw := 0xFF0FFFFF, clamps := [(19, 0, 1, 1048575)] },
    { base := 0x1C01004, s1 := 32, n1 := 57, trim := 0xFFFFFFFF },
    { base := 0x1C01008, s1 := 32, n1 := 57, s2 := 4, n2 := 5, rc := 0xFFFFFFFF, kind := .mon },
    { base := 0x1C04000, s1 := 16, n1 := 56, reset := 0x1, rw := 0x7FF, own := 0x80000000, clamps := [(8, 0, 1, 256)] },
    { base := 0x1C04004, s1 := 16, n1 := 56, rw := 0xFFFFFFFF },
    { base := 0x1C04008, s1 := 16, n1 := 56, rw := 0xFF },
    { base := 0x1C08000, s1 := 1024, n1 := 56, s2 := 4, n2 := 256, rw := 0xFFFFFFFF },
    { base := 0x1C20000, s1 := 1024, n1 := 56, s2 := 4, n2 := 256 },
    { base := 0x1C40000, s1 := 4, n1 := 69632, reset := 0x40020100, rw := 0xBFFFFFFF, own := 0x80000000, clamps := [(26, 17, 1, 1023)] } ]

/-- Register groups of TMG (14): TMG_QD to TMG_SMP. -/
def regsTmg1 : List RegD :=
  [ { base := 0x1C90000, s1 := 4, n1 := 69632 },
    { base := 0x1CE0000, s1 := 4, n1 := 57, reset := 0x40040000, rw := 0xBFFC0000, own := 0x80000000, clamps := [(27, 18, 1, 1023)] },
    { base := 0x1CE0100, s1 := 68, n1 := 57, s2 := 4, n2 := 16, reset := 0x40040000, rw := 0xBFFFE000, own := 0x80000000, clamps := [(27, 18, 1, 1023)] },
    { base := 0x1CE0140, s1 := 68, n1 := 57, reset := 0x40040000, rw := 0xBFFC0000, own := 0x80000000, clamps := [(27, 18, 1, 1023)] },
    { base := 0x1CE2000, s1 := 4, n1 := 16896, reset := 0x40040000, rw := 0xBFFC0000, own := 0x80000000, clamps := [(27, 18, 1, 1023)] },
    { base := 0x1CF8000, s1 := 4, n1 := 512, rw := 0xFFC00000, own := 0xFFC00000 },
    { base := 0x1CFC000, s1 := 4, n1 := 4096, rw := 0x9FFFFFFF },
    { base := 0x1D00000, s1 := 4, n1 := 65536, rw := 0xE0003FFF },
    { base := 0x1D40000, s1 := 8, n1 := 69689, s2 := 4, n2 := 2 },
    { base := 0x1DC8200, s1 := 8, n1 := 969, s2 := 4, n2 := 2 },
    { base := 0x1DCC000, s1 := 8, n1 := 17152, s2 := 4, n2 := 2 },
    { base := 0x1E00000, s1 := 16, n1 := 69632, s2 := 4, n2 := 4, rc := 0xFFFFFFFF } ]

/-- All register groups of TMG. -/
def regsTmg : List RegD := regsTmg0 ++ regsTmg1

/-- Register groups of CRY (15): CRY_CMD to CRY_TK_S. -/
def regsCry : List RegD :=
  [ { base := 0x2000000, rw := 0xF0000, own := 0x800F0000 },
    { base := 0x2000004, rw := 0xFFFF },
    { base := 0x2000008, s1 := 4, n1 := 2, rw := 0xFFFFFFFF },
    { base := 0x2000020, s1 := 4, n1 := 11, rw := 0xFFFFFFFF, wo := 0xFFFFFFFF },
    { base := 0x2000060, rw := 0x800003FF },
    { base := 0x2000064, reset := 0xC0000000, rw := 0xFFFFFFFF },
    { base := 0x2000080, s1 := 4, n1 := 4, rc := 0xFFFFFFFF, kind := .mon },
    { base := 0x2001000, s1 := 64, n1 := 24, rw := 0xE000FFFF },
    { base := 0x2001004, s1 := 64, n1 := 24, s2 := 4, n2 := 8, rc := 0xFFFFFFFF, kind := .mon },
    { base := 0x2001024, s1 := 64, n1 := 24, kind := .trafLo },
    { base := 0x2001028, s1 := 64, n1 := 24, kind := .trafHi },
    { base := 0x2002000, s1 := 4, n1 := 512, rw := 0x800000FF, own := 0x800000FF },
    { base := 0x2004000, s1 := 16, n1 := 256, rw := 0x3, own := 0x3 },
    { base := 0x2004004, s1 := 16, n1 := 256, rw := 0xFC00001F },
    { base := 0x2004008, s1 := 16, n1 := 256, s2 := 4, n2 := 2, rw := 0xFFFFFFFF },
    { base := 0x2006000, s1 := 16, n1 := 256 },
    { base := 0x2006004, s1 := 16, n1 := 256, rw := 0xFC00001F },
    { base := 0x2006008, s1 := 16, n1 := 256, s2 := 4, n2 := 2, rw := 0xFFFFFFFF },
    { base := 0x2010000, s1 := 16, n1 := 2048 },
    { base := 0x2010004, s1 := 16, n1 := 2048, s2 := 4, n2 := 3 },
    { base := 0x2020000, s1 := 16, n1 := 16384 },
    { base := 0x2020004, s1 := 16, n1 := 16384, s2 := 4, n2 := 2 },
    { base := 0x202000C, s1 := 16, n1 := 16384 } ]

/-- Register groups of UPL (16): UPL_Q to UPL_L_EQ. -/
def regsUpl : List RegD :=
  [ { base := 0x2200000, s1 := 4, n1 := 6, rw := 0x17, own := 0x7 },
    { base := 0x2200040, rc := 0xFFFFFFFF, kind := .mon },
    { base := 0x2200100, s1 := 4, n1 := 24, rw := 0x80FFFFFF, own := 0x80FFFFFF },
    { base := 0x2200180, s1 := 4, n1 := 24, rc := 0xFFFFFFFF, kind := .mon },
    { base := 0x2200200, s1 := 4, n1 := 24, rw := 0xC0000000, own := 0xC0000000 },
    { base := 0x2201000, s1 := 256, n1 := 24, reset := 0x2400, rw := 0x80007FFF, own := 0x80000000, clamps := [(14, 0, 64, 16388)] },
    { base := 0x2201004, s1 := 256, n1 := 24 },
    { base := 0x2201010, s1 := 256, n1 := 24, kind := .trafLo },
    { base := 0x2201014, s1 := 256, n1 := 24, kind := .trafHi },
    { base := 0x2201018, s1 := 256, n1 := 24, kind := .trafLo },
    { base := 0x220101C, s1 := 256, n1 := 24, kind := .trafHi },
    { base := 0x2201020, s1 := 256, n1 := 24, kind := .trafLo },
    { base := 0x2201024, s1 := 256, n1 := 24, kind := .trafHi },
    { base := 0x2201028, s1 := 256, n1 := 24, kind := .trafLo },
    { base := 0x220102C, s1 := 256, n1 := 24, kind := .trafHi },
    { base := 0x2201030, s1 := 256, n1 := 24, kind := .trafLo },
    { base := 0x2201034, s1 := 256, n1 := 24, kind := .trafHi },
    { base := 0x2201038, s1 := 256, n1 := 24, s2 := 4, n2 := 8, rc := 0xFFFFFFFF, kind := .mon },
    { base := 0x2204000, s1 := 64, n1 := 24, reset := 0x30238000, rw := 0xBFFFFFFF },
    { base := 0x2204004, s1 := 64, n1 := 24, reset := 0x82000004, rw := 0xC3FF0000 },
    { base := 0x2204008, s1 := 64, n1 := 24 } ]

/-- Register groups of MLK (16): MLK_CTRL to MLK_l_CNT_FRAMES_HI. -/
def regsMlk : List RegD :=
  [ { base := 0x2400000, rw := 0xC00000FF, own := 0xC0000000 },
    { base := 0x2400004 },
    { base := 0x2400010, s1 := 4, n1 := 4, rc := 0xFFFFFFFF, kind := .mon },
    { base := 0x2400100, s1 := 64, n1 := 8, own := 0x1 },
    { base := 0x2400104, s1 := 64, n1 := 8, w1c := 0x200 },
    { base := 0x2400108, s1 := 64, n1 := 8, reset := 0x30238000, rw := 0xBFFFFFFF },
    { base := 0x240010C, s1 := 64, n1 := 8, reset := 0x82000004, rw := 0xC3FF0000 },
    { base := 0x2400110, s1 := 64, n1 := 8, rc := 0xFFFFFFFF, kind := .mon },
    { base := 0x2400118, s1 := 64, n1 := 8, kind := .trafLo },
    { base := 0x240011C, s1 := 64, n1 := 8, kind := .trafHi } ]

/-- The FDB table view (R660, Table 23.1). -/
def regsFdbTbl : RegD := { base := 0x3000000, s1 := 16, n1 := 264192, s2 := 4, n2 := 4 }

/-- The offset lies at a multiple of the stride, and the rest of the way within the inner strides. -/
def hitDim (s n rest : Nat) : Option Nat :=
  if n = 1 then some rest
  else if s = 0 then none
  else
    let i := rest / s
    if i < n then some (rest - s * i) else some (rest - s * (n - 1))

/-- Does the group hold the word at this address (outer stride first)? -/
def RegD.hit (d : RegD) (a : Nat) : Bool :=
  if a < d.base then false
  else match hitDim d.s1 d.n1 (a - d.base) with
    | none => false
    | some r1 => match hitDim d.s2 d.n2 r1 with
      | none => false
      | some r2 => match hitDim d.s3 d.n3 r2 with
        | none => false
        | some r3 => r3 == 0

/-- The register groups of the MiB window that holds an address (Table 23.1). -/
def regsNear (a : Nat) : List RegD :=
  match a / 0x100000 with
  | 0 => regsGlb
  | 1 => regsRcp
  | 2 => regsFlt
  | 3 => regsObs
  | 4 => regsHif
  | 8 => regsTsu
  | 10 | 11 => regsTpa
  | 12 | 13 => regsBrx
  | 14 | 15 => regsRng
  | 16 | 17 => regsGnt
  | 18 => regsMtn
  | 20 => regsDfr
  | 21 => regsUdf
  | 22 | 23 => regsTce
  | 24 => regsPrs
  | 25 => regsCls
  | 26 => regsFdb
  | 27 => regsBpm
  | 28 | 29 | 30 | 31 => regsTmg
  | 32 => regsCry
  | 34 => regsUpl
  | 36 => regsMlk
  | 48 | 49 | 50 | 51 | 52 => [regsFdbTbl]
  | _ => []

/-- The register group of an address; none where the address is reserved (R660, R664). -/
def regAt (a : Nat) : Option RegD := (regsNear a).find? fun d => d.hit a

/-- The reset word of an address, trim fields apart. -/
def resetWord (a : Nat) : Word :=
  match regAt a with
  | none => 0
  | some d => BitVec.ofNat 32 d.reset

end Sys2Proof.Machine
end

