-- ==== Sys2Proof/Machine/State.lean ====
section
/-! DEFINITION. The state of the OV3250: every register of BAR0 (`regs`, one word per address, reset words apart),
the state that no register shows, block by block, and the queue of waiting commands. All of it is plain data. -/

namespace Sys2Proof.Machine

/-- Why a command ends a run. There is no such reason: the spec gives every command of the block an effect in every state, if
only to be ignored, refused and counted, or dropped, and an access to an address that holds no register completes (R664). -/
inductive Fault
  deriving DecidableEq, Repr

/-- Why the model does not answer a command. -/
inductive Refusal
  /-- For exec's arm of a command that has no meaning yet; no arm raises it now. Safe: nothing is claimed of it. -/
  | notModelled (mnemonic : String)
  deriving DecidableEq, Repr

/-! Fault collection (20) and the latches beside the sources (R18). -/

/-- A credit mismatch as its producer holds it (R611): block and queue, signed difference, low 40 bits of the clock. -/
structure CredRec where
  blk : Nat := 0
  queue : Nat := 0
  diff : Word := 0
  time : Nat := 0
  deriving DecidableEq, Repr

/-- The latch beside one fault source: held events not yet acknowledged, their count, the INFO of the first, and
whether a base-image refusal is among them (R18, R595, R596). -/
structure Latch where
  count : Nat := 0
  info : Nat := 0
  base : Bool := false
  creds : List CredRec := []
  /-- Tree ports named by the INFO of the held events (R545, PORT). -/
  ports : BitVec 32 := 0
  deriving DecidableEq, Repr

/-- What FLT holds that its registers do not show (20). -/
structure Flt where
  /-- Latches beside the 52 sources, by source index (R18). -/
  latch : Tab Latch := []
  /-- Level sources whose condition is present (R597). -/
  active : BitVec 52 := 0
  /-- The Fatal state is in force (R602). -/
  fatal : Bool := false
  /-- Present level of ALIVE (R599). -/
  alive : Bool := false
  /-- FLT_CTRL.LOCK (R612). -/
  lock : Bool := false
  /-- A base-image event of MTN_F_UCODE has been latched since its bit was last cleared (R595). -/
  ucodeBase : Bool := false
  /-- The first key of FLT_RCV_CLR has been written (R607). -/
  clrKey : Bool := false
  /-- Source of the last injection, and the sources acknowledged last: for "in the same cycle" (R596, R610). -/
  lastInj : Option Nat := none
  lastAck : BitVec 52 := 0
  /-- The source that the last acknowledgement put into the first-fault record (R610). -/
  lastRec : Option Nat := none
  /-- The 48-bit count of CLK_AON cycles. -/
  aon : BitVec 48 := 0
  deriving DecidableEq, Repr

/-! Reset, clocks and power (21), self-repair (R37 to R45). -/

/-- The reset sources of Table 21.2 that reset more than one block, in the order of R620, smallest extent first. -/
inductive ResetSrc
  | watchdog | software | sysrst | porst | faultRecovery | powerCore | powerAon
  deriving DecidableEq, Repr

/-- A repair held in the runtime repair record: kind of Table 22.9, element, location (R44, R45). -/
structure RepairRec where
  kind : Nat
  blk : Nat
  loc : Nat
  deriving DecidableEq, Repr

/-- What RCP holds that its registers do not show (21; 01 R37 to R45). -/
structure Rcp where
  /-- The phase of Table 21.3 the device is in, 1 to 10. -/
  phase : Nat := 2
  /-- The reset that is asserted or releasing, until phase 7 ends (R620). -/
  releasing : Option ResetSrc := some .powerAon
  /-- Step of phase 7 reached: clock domains released so far (Table 21.4), 0 to 6. -/
  domains : Nat := 0
  /-- Blocks held in reset, by RCP_BLK_RST bit (R635, R667). -/
  inReset : BitVec 19 := BitVec.allOnes 19
  /-- Blocks under a soft reset that R29 has not yet let go (R635). -/
  soft : BitVec 19 := 0
  /-- Which repeated steps the reset in progress has (Table 21.2). -/
  trimFails : Nat := 0
  /-- Three latches of the reset cause (R626). -/
  cause : List Nat := [1, 1, 1]
  /-- VDD_AON was lost (R625). -/
  aonLost : Bool := true
  /-- MIRROR_SEQ of the images in the two flash slots of the ledger, as last read or written (R657, R658). -/
  slotSeq : Option Word × Option Word := (none, none)
  /-- The management watchdog is armed (R631). -/
  wdArmed : Bool := false
  /-- The first key of RCP_SWRST has been written (R630). -/
  swKey : Bool := false
  /-- Bytes of the host load window, by word address (R628). -/
  hwin : Tab Word := []
  /-- Spare rows used, by memory macro (R37). -/
  rowsUsed : Tab Nat := []
  /-- Row copies in progress: block, macro, row (R39). -/
  copying : List (Nat × Nat × Nat) := []
  /-- The fuse repairs have been found and logged once (R656). -/
  fusesLogged : Bool := false
  /-- The CLK_TS PLL has lost lock and not regained it (R513). -/
  tsPllLost : Bool := false
  /-- Pipelines in service, retired, and watched for a second error (R38, R40). -/
  pipes : BitVec 5 := 0b01111
  pipesRetired : BitVec 5 := 0
  pipeWatch : BitVec 5 := 0
  /-- Spare SerDes slices used, by group of 8 lanes: 0-3 tree, 4-6 UL, 7 ML (Table 01.7). -/
  slices : BitVec 8 := 0
  /-- The lanes on a spare slice: block, lane (SPARE of UPL_L_l_RX and MLK_l_RX). -/
  spared : List (Nat × Nat) := []
  /-- The runtime repair record of the Sett (R45, R687). -/
  repairs : List RepairRec := []
  /-- Uplink egress power states U0 to U2, by egress port (Table 21.9). -/
  upow : Tab Nat := []
  /-- The clock when the device last left Quiet, and the ports on which no discovery window has run since (R633). -/
  quietLeft : Option Int := none
  needDisc : BitVec 32 := 0
  deriving DecidableEq, Repr

/-! Observation (22). -/

/-- An update of the lifetime ledger: a counter that rises, or a log entry with the values of its event (R656, R657). -/
inductive LedgerUpd
  | add (o n : Nat)
  | entry (kind blk loc value : Nat) (tset : Bool) (time : Nat)
  deriving DecidableEq, Repr

/-- What the laser seconds rest on (R65, R654): cycles of CLK_AON of light that do not yet make a second, by port; the ports
whose PON_TXEN has been high at some time since the last second ended, and those whose PON_TXEN has been low. -/
structure Light where
  acc : Tab Nat := []
  high : BitVec 32 := 0
  low : BitVec 32 := BitVec.allOnes 32
  deriving DecidableEq, Repr

/-- What OBS holds that its registers do not show. -/
structure Obs where
  /-- Shadows of the counters, by register address; the instant of the snapshot that is pending (R641). -/
  shadow : Tab Word := []
  snapAt : Nat := 0
  /-- Sample buffer, oldest first, each 4 words; records written so far (R647). -/
  samples : List (List Word) := []
  smpNext : Nat := 0
  /-- Trace records by index modulo 131,072, records written since the buffer was emptied, next SEQ, readers'
  pointers and losses (R648, R649). -/
  trace : Tab (List Word) := []
  written : Nat := 0
  seq : Nat := 0
  portPtr : Nat := 0
  hostPtr : Nat := 0
  portLost : Nat := 0
  hostLost : Nat := 0
  /-- Records the trace port has sent since its last SYNC (R650). -/
  sinceSync : Nat := 0
  /-- The account of light (R654). -/
  lit : Light := {}
  /-- Thermal-cycle tracking: direction up, extreme (R655). -/
  thermUp : Bool := true
  thermRef : Option Int := none
  /-- A pass of the ledger mirror is in progress; updates waiting for it, at most 16 (R657). -/
  mirroring : Bool := false
  waiting : List LedgerUpd := []
  /-- The image that firmware is writing to flash: PON_S at its pass, and its words by Sett offset, those that are zero
  left out (R657). -/
  image : Option (Nat × Tab Word) := none
  /-- A mirror failed since the last success or release (R657). -/
  mirrorFailed : Bool := false
  deriving DecidableEq, Repr

/-! Host interface (19) and the dual-clock queues (R20 to R24). -/

/-- A descriptor the device has fetched and not yet completed: ring, index, its 32 bytes (byte i in bits 8i+7:8i). -/
structure Desc where
  ring : Nat
  idx : Nat
  data : BitVec 256
  deriving DecidableEq, Repr

/-- Words held until a commit: the address of word 0 of the entry, and the words written, by word number (R684). -/
structure HeldSet where
  entry : Nat := 0
  words : Tab Word := []
  deriving DecidableEq, Repr

/-- What HIF holds that its registers do not show (19; 23 R684). -/
structure Hif where
  /-- Held sets by 32 × function + block number (R684). -/
  held : Tab HeldSet := []
  /-- Latched words by 32 × function + block number: words 1 and on of the group or pair read last (R637, R684). -/
  latch : Tab (List Word) := []
  /-- Words of the tenant pages by 0x10000 × tenant + offset (Table 19.11). -/
  ten : Tab Word := []
  /-- Descriptors in the device, oldest first (R574, R576). -/
  fetched : List Desc := []
  /-- Those of transmit rings whose frame or message has been taken (R572). -/
  taken : List Desc := []
  /-- Completions or records written and not yet signalled, by ring (R585). -/
  modCnt : Tab Nat := []
  /-- PLOAM messages from the host, by port, oldest first: descriptor and 48 bytes (R579). -/
  ploams : Tab (List (Desc × List Byte)) := []
  /-- Frames bound for host rings dropped while HIF was in reset (R590). -/
  lostInReset : Nat := 0
  deriving DecidableEq, Repr

/-- A downstream PLOAM message (Table 08.3), in a queue towards DFR or in a frame sent. -/
inductive PMsg
  /-- ONU-ID assignment: local index and serial number (R138). -/
  | assign (l sn : Nat)
  /-- Ranging time carrying an equalisation delay in RB (R142, R145, R148). -/
  | rangingTime (l : Nat) (eqd : Int)
  /-- Deactivation of an ONU-ID; `event` posts DEACTIVATED when it is sent (Table 04.3). -/
  | deactivate (l : Nat) (event : Bool)
  /-- Deactivation of the broadcast ONU-ID (R685). -/
  | broadcast
  /-- Time of day: the addressee's ONU-ID, N, seconds, nanoseconds and FRAC (Table 17.5). -/
  | timeOfDay (onu : BitVec 10) (frame : BitVec 51) (sec : BitVec 48) (ns : BitVec 32) (frac : BitVec 16)
  /-- Announcement of burst profile k: its BRX_n_PROFk word, and that FEC is on (R282, R297). -/
  | profile (k : Nat) (v : Word) (fec : Bool)
  /-- Ranging time for the path of the other member (R556), and the protection-control message (R557). -/
  | pathTime (l : Nat) (eqd : Int)
  | protection
  /-- A control message of the host, 48 bytes (R579). -/
  | host (data : List Byte)
  deriving DecidableEq, Repr

/-- One action of an I2C master: a START; a byte sent, and whether it was acknowledged; a byte read, and whether the master
acknowledges it; a STOP; the nine SCL
pulses and the STOP that free a stuck bus (Table 02.5, R77, R79). -/
inductive I2cAct
  | start
  | sent (b : Byte) (ack : Bool)
  | got (b : Byte) (ack : Bool)
  | stop
  | freed
  deriving DecidableEq, Repr

/-- What the device sends outside: PCIe writes, line frames, pins. Oldest first (model's own record of the outputs). -/
inductive Out
  /-- One posted write into slot idx of a ring, of its bytes from `lo` on, with the requester ID of a function (R566, R577). -/
  | slot (fn : Fn) (ring idx lo : Nat) (data : List Byte)
  /-- A read of host memory with the requester ID of a function (R566). -/
  | read (fn : Fn) (addr len : Nat)
  /-- An MSI-X message of a function (R585). -/
  | msix (fn : Fn) (vec : Nat)
  /-- Data written to host memory (R566, R581). -/
  | host (fn : Fn) (addr : Nat) (data : List Byte)
  /-- A downstream line frame of a port: superframe number and PON-ID of PSBd, map entries (Table 08.2 without the HEC), the PD
  that a discovery grant of the map announces (R131), PLOAM messages, XGEM frames: header fields and payload, encrypted where
  the header names a key (08). -/
  | line (port : Nat) (frame : Nat) (ponId : Word64) (map : List Word64) (pd : Int) (ploams : List PMsg)
      (xgem : List (Word64 × List Byte))
  /-- A PON_BRST pulse: port, first cycle, width (R67). -/
  | brst (port start width : Nat)
  /-- A frame on an uplink port's lanes, without FCS: egress, bytes with the SecTAG and the ICV of MACsec where it is protected (16). -/
  | frame (egress : Nat) (data : List Byte)
  /-- A 256-bit block on a mate lane (Table 16.3). -/
  | block (lane : Nat) (b : BitVec 256)
  /-- A pulse of a PPS output: clock time of its rise and its width in ns, and the shift by CMP in ps (R525). -/
  | pps (o at_ width : Nat) (cmp : Int)
  /-- A PPS output goes low before its pulse ends, or a clock output before its falling edge, at a clock time in units of
  2^-16 ns: EN clears, the Fatal state, a reset (R525, R526, Table 20.3). -/
  | low (clkOut : Bool) (o at_ : Nat)
  /-- An edge of a clock output: clock time in units of 2^-16 ns, and the shift by CMP in ps (R526). -/
  | clkOut (o : Nat) (rise : Bool) (at_ : Nat) (cmp : Int)
  /-- Bytes on the time-of-day output (R530). -/
  | tod (data : List Byte) (delayUs div : Nat)
  /-- One record on the trace port (R650). -/
  | traced (rec : List Word)
  /-- A ledger image that firmware has written to flash: the address of the slot, the device identifier, the CRC-32C of the image,
  MIRROR_SEQ, words by Sett offset (R657). -/
  | flash (addr : Nat) (id : Word64) (crc : Word) (seq : Nat) (image : Tab Word)
  /-- What a master did on its I2C bus in one command, in order (R76, R77, R79). -/
  | i2c (master : Nat) (acts : List I2cAct)
  deriving DecidableEq, Repr

/-! Tree ports (02) and the I2C masters. -/

/-- What TPA holds of one port that its registers do not show (02). -/
structure TpaPort where
  /-- AMP, POST, PRE and POL in force on the line (R57). -/
  pma : Word := 0x8F0
  /-- The framer is still completing the frame in progress after EN was cleared (Table 02.3). -/
  shutting : Bool := false
  /-- End cycle F of the previous granted burst, counted from superframe 0 (R68, R73). -/
  fPrev : Option Nat := none
  /-- A rogue event has been counted in the present quiet interval (R74). -/
  rogued : Bool := false
  /-- Clock time in ns up to which rogue events are not counted: TEQ + 125 µs after DFR_RUN cleared with EN = 1
  (R688), or after the last frame sent with a held map (R290). -/
  hush : Nat := 0
  deriving DecidableEq, Repr

/-- What an I2C master holds (R76 to R79). -/
structure I2cM where
  /-- The multiplexer channel last selected; none after a failed command (R78). -/
  chan : Option Nat := none
  deriving DecidableEq, Repr

/-- TPA's state beside its registers. -/
structure Tpa where
  port : Tab TpaPort := []
  i2c : Tab I2cM := []
  deriving DecidableEq, Repr

/-! Burst receivers (03). -/

/-- A terminal memory entry (Table 03.1). `since` is the millisecond count at the last update, from which AGE is
computed (R91); `epoch` counts invalidations (R111). -/
structure MemEnt where
  drift : Int := 0
  failRun : Nat := 0
  valid : Bool := false
  lastOk : Bool := false
  rate : Nat := 0
  phase : Nat := 0
  peak : Nat := 0
  since : Nat := 0
  epoch : Nat := 0
  deriving DecidableEq, Repr

/-- The verdict on a burst (R92): bad, or good with the code at lock and the shadow PEAK at its end. -/
inductive Verdict
  | bad
  | good (found peak : Nat)
  deriving DecidableEq, Repr

/-- A burst from its snapshot to its verdict (R102, R110): where its page stands, whose it is, and what was read. -/
structure Snap where
  frame : Nat
  k : Nat
  loc : Nat
  warm : Bool
  rate : Nat
  ent : MemEnt
  age : Nat
  est : Nat
  /-- Abandoned by the SD check (R72). -/
  abandoned : Bool := false
  /-- Locked at this phase, and the arrival offset δ64 measured there (R127). -/
  found : Option Nat := none
  off : Int := 0
  /-- UDF found it bad: an uncorrectable codeword, a truncation or a failed header (R92, R298, R302). -/
  bad : Bool := false
  /-- Power state before the wake (Table 22.6). -/
  from_ : Nat := 0
  /-- CTLE setting: at the snapshot COLD_PEAK, or PEAK of a valid entry for a warm burst; once a cold burst has locked, the
  code its search found. The shadow PEAK starts there (Tables 03.4, 03.5, R107). -/
  peak : Nat := 0
  /-- What the expected position of the delimiter rests on, as it stood at the snapshot (R102, R128): the equalisation delay
  in RB; for a ranging grant δ_exp and RNG_WIN (R139); and while ADJ_PEND is 1 the Δ of the widened search (R146). -/
  eqd : Int := 0
  exp : Int := 0
  win : Nat := 0
  adj : Option Int := none
  gen : Nat := 0
  /-- The time of the origin A (Table 22.6). -/
  origin : Nat := 0
  /-- The verdict, while it waits for that of an earlier burst of the terminal (R109). -/
  judged : Option Verdict := none
  deriving DecidableEq, Repr

/-- A calendar entry (Table 05.5), and on the head of a burst what GNT and BRX fix of the whole burst: first cycle of
its span (START, but for a ranging grant), end cycle F, the kind taken at the write (R179), and once final the kind and
the profile index (R96). -/
structure CalEnt where
  stream : Nat := 0
  start : Nat := 0
  grant : Nat := 0
  kind : Nat := 0
  cont : Bool := false
  cold : Bool := false
  dbru : Bool := false
  ploam : Bool := false
  void : Bool := false
  first : Int := 0
  fin : Nat := 0
  asWarm : Bool := false
  warm : Bool := false
  prof : Nat := 0
  deriving DecidableEq, Repr

/-- A granted and announced burst that is not received: its frame, its profile and its granted bytes for the trace, and its
snapshot. -/
structure MissedBurst where
  frame : Nat
  prof : Nat
  grant : Nat
  snap : Snap
  deriving DecidableEq, Repr

/-- What BRX holds of one port that its registers do not show. -/
structure BrxPort where
  /-- Bursts between their snapshot and their verdict, oldest first. -/
  snaps : List Snap := []
  /-- The plan of recent frames: frame, and whether its sealed page is followed (R118). -/
  plans : List (Nat × Bool) := []
  /-- Bursts of a frame that are not received, by their frame, each bad in its place among the bursts of its terminal
  (R92, R109, R120, R195). -/
  missed : List MissedBurst := []
  /-- Consecutive granted bursts that failed lock (BRX_F_DEAF, Table 20.1). -/
  deaf : Nat := 0
  /-- Ranging grants and discovery windows of pages already released, whose spans may still run (R135, R139): frame,
  number of the burst, entry. -/
  spans : List (Nat × Nat × CalEnt) := []
  /-- A discovery window is being received (DISC_ACTIVE). -/
  inDisc : Bool := false
  /-- Bursts for which BRX is awake, oldest first: frame, number, and whether it is a discovery window (R114, R116). -/
  awake : List (Nat × Nat × Bool) := []
  deriving DecidableEq, Repr

/-- What RNG has told BRX of a terminal (Table 01.9): its equalisation delay, the Δ of an adjustment that awaits
confirmation, δ_exp and RNG_WIN in RB for a ranging grant (R128, R139, R146), and its number of entries to FREE and RANGING (R154). -/
structure Expect where
  gen : Nat := 0
  eqd : Int := 0
  adj : Option Int := none
  exp : Int := 0
  win : Nat := 0
  deriving DecidableEq, Repr

/-- BRX's state beside its registers. -/
structure Brx where
  /-- Memory entries by 512 × port + local index. -/
  ents : Tab MemEnt := []
  /-- Millisecond boundaries crossed (R91). -/
  ms : Nat := 0
  port : Tab BrxPort := []
  /-- RNG's values as they have arrived, by 512 × port + local index (R46). -/
  expect : Tab Expect := []
  deriving DecidableEq, Repr

/-! Ranging (04). -/

/-- What RNG holds of a terminal that its context (Table 04.10) does not show. -/
structure Term where
  /-- RTD_prov (R138, Table 04.3). -/
  prov : Int := 0
  /-- Consecutive failed ranging attempts (R143). -/
  fails : Nat := 0
  /-- The ONU-ID assignment has not yet been sent (R139, R686). -/
  assigning : Bool := false
  /-- A ranging grant is requested, placed or in flight (R139). -/
  asked : Bool := false
  /-- A message that a state change is tied to waits in the queue (R686). -/
  waiting : Bool := false
  /-- A deactivation message waits to be sent (R686). -/
  leaving : Bool := false
  /-- EQD and OFF_F that take effect when the waiting ranging-time message of a terminal in RANGING is sent (R142, R686). -/
  newEqd : Int := 0
  newOff : Int := 0
  /-- The adjustment sent or waiting to be sent: Δ in RB, and messages sent for it (R145, R148). -/
  delta : Int := 0
  sends : Nat := 0
  /-- No good burst yet on the path taken over by protection, so REC_VALID stays 0 (R557). -/
  unproven : Bool := false
  /-- OFF_F at the last publication (R157). -/
  pubOff : Int := 0
  /-- Entries to FREE and RANGING so far: results of bursts that began before the last are discarded (R154). -/
  gen : Nat := 0
  deriving DecidableEq, Repr

/-- A burst's result on its way to RNG: local index, whether of a ranging grant, δ64, where none is a failed lock, and the
terminal's number of entries to FREE and RANGING that BRX knew of at the snapshot (R105, R129, R143, R154). -/
structure RngResult where
  l : Nat
  ranging : Bool
  off : Option Int
  gen : Nat := 0
  deriving DecidableEq, Repr

/-- What UDF tells RNG of a good burst of a discovery window: the serial number, the random delay reported in nanoseconds, and δ64
(R127, R136). -/
structure SnReport where
  sn : Nat
  rnd : Nat
  off : Int
  deriving DecidableEq, Repr

/-- A terminal's record for TSU (R157). -/
structure TimeRec where
  rtd64 : Int := 0
  xgs : Bool := false
  cal : Bool := false
  tcal : Int := 0
  upd : Word := 0
  valid : Bool := false
  deriving DecidableEq, Repr

/-- What RNG holds of one port. -/
structure RngPort where
  /-- Messages to DFR: written and not yet visible, and visible (R21, R281). -/
  hidden : List PMsg := []
  queue : List PMsg := []
  /-- Credits of the queue towards DFR that are spent, and messages that wait in RNG for one (R20). -/
  used : Nat := 0
  waiting : List PMsg := []
  /-- Broadcast deactivations still to be sent (R685). -/
  bcast : Nat := 0
  /-- Of the pending serial number: δ64 and the random delay in RB (R137, R138). -/
  pendOff : Int := 0
  pendRnd : Nat := 0
  /-- Results not yet handled, in the order of arrival (R154). -/
  results : List RngResult := []
  /-- Terminals with a ranging grant in a page that GNT has released, and no result of it yet (R139). -/
  flying : List Nat := []
  /-- Ranging and serial-number messages of terminals that UDF has passed on, by local index, oldest first (R314). -/
  heard : List (Nat × List Byte) := []
  deriving DecidableEq, Repr

/-- RNG's state beside its registers. Terminals and records by 512 × port + local index. -/
structure Rng where
  term : Tab Term := []
  recs : Tab TimeRec := []
  port : Tab RngPort := []
  /-- TPA_n_MODE, TPA_n_CTRL, TPA_n_STATUS, TPA_n_PROT and TPA_n_PSTAT and BRX_n_ADAPT as they have arrived, by address; one at its
  reset word is left out (R46). -/
  copy : Tab Word := []
  deriving DecidableEq, Repr

/-! Grant scheduling and the calendar (05). -/

/-- Where a page stands in its life (Table 05.4). -/
inductive PageSt
  | opened | closed | final
  deriving DecidableEq, Repr

/-- A page of the grant calendar: the plan of one port for one frame (R174 to R184). -/
structure Page where
  frame : Nat
  owner : Nat := 0
  st : PageSt := .opened
  /-- Entries in the order they were stored: those of GNT first, then the policy's. -/
  ents : List CalEnt := []
  /-- Reservations carried in: first and end cycle (R185, R186). -/
  resv : List (Int × Nat) := []
  /-- SEAL_LEAD taken at the opening (Table 05.11). -/
  lead : Nat := 15
  qh : Nat := 0
  /-- DFR sent the frame with the map of this page (R118, R278, R290, R688). -/
  announced : Bool := false
  /-- Bursts DFR left out of the map (R280), by number of the burst. -/
  leftOut : List Nat := []
  /-- UDF's counts: stream, received, unused, lost; none until delivered (R200). -/
  counts : Option (List (Nat × Nat × Nat × Nat)) := none
  /-- Every granted byte is lost-burst, whatever UDF counts (R201). -/
  allLost : Bool := false
  /-- The page of a frame that a TAKING member holds: every entry is void, also one stored later (R552). -/
  held : Bool := false
  deriving DecidableEq, Repr

/-- What GNT holds of one port. -/
structure GntPort where
  /-- Live pages, oldest frame first. -/
  pages : List Page := []
  /-- Reservations carried into pages not yet open: frame, first and end cycle (R186). -/
  carry : List (Nat × Int × Nat) := []
  /-- Local indices waiting for a ranging grant, in order (R187). -/
  rngQ : List Nat := []
  /-- Length in cycles of the pending discovery window (R186, R187). -/
  disc : Option Nat := none
  /-- Quiet horizons sealed: each covers the frames above the first and up to the second of its two (R191). -/
  horizon : List (Nat × Nat) := []
  deriving DecidableEq, Repr

/-- One report FIFO and its coalescing store (R167 to R172). -/
structure RptFifo where
  /-- Items visible to the engines, in the order written (Table 05.3). -/
  items : List Word64 := []
  /-- Items UDF has written that are not yet visible (R21). -/
  hidden : List Word64 := []
  /-- Full coalescing slots, by stream. -/
  slots : Tab Word64 := []
  /-- Credits of UDF that are spent, of 4,096 (R170). -/
  used : Nat := 0
  /-- The stream of the last slot drained. -/
  lastSlot : Option Nat := none
  /-- The logical engine whose read stalls (R169). -/
  stalled : Option Nat := none
  deriving DecidableEq, Repr

/-- GNT's state beside its registers. -/
structure Gnt where
  port : Tab GntPort := []
  fifo : Tab RptFifo := []
  /-- Policy words 1 to 3 of the stream contexts by 4 × stream + word, and of the terminal contexts by
  4 × terminal + word (Table 07.3, R244). -/
  spol : Tab Word64 := []
  tpol : Tab Word64 := []
  /-- The copy of R180, as it has arrived: memory entries by 512 × port + local index, the count of milliseconds by port,
  and BRX_n_PROFk, BRX_n_CTRL, BRX_n_GUARD, TPA_n_MODE, TPA_n_CTRL and TPA_n_STATUS by address. -/
  ents : Tab MemEnt := []
  ms : Tab Nat := []
  copy : Tab Word := []
  deriving DecidableEq, Repr

/-! Marten engines (06) and the Scheduler Instruction Set (07). -/

/-- The suspend frame of a long instruction (R223, R224): its address, the operand values it goes on with (range start,
count, mode or DISP, destination register), entries of the range as they were, and how far it has come. -/
structure Susp where
  pc : Nat := 0
  op : Nat := 0
  base : Word64 := 0
  count : Word64 := 0
  mode : Nat := 0
  disp : Nat := 0
  dst : Nat := 0
  /-- Entries whose range is locked: first, and one past the last (R258). -/
  lockLo : Nat := 0
  lockHi : Nat := 0
  entries : List Word64 := []
  /-- Contexts already scanned, and the next list entry. -/
  seen : Nat := 0
  next : Nat := 0
  /-- CALI: the entry, and the page operand. -/
  ent : Word64 := 0
  page : Word64 := 0
  deriving DecidableEq, Repr

/-- A call of tenant code (R262, R263): address after the CALLX, destination register, budget left, and the address of
the last tenant instruction that ran or faulted. -/
structure Call where
  ret : Nat
  dst : Nat
  left : Nat
  last : Nat
  deriving DecidableEq, Repr

/-- A PLOAD held until the engine's next WAITFT (R265): segment, offset, instructions, and its descriptor. -/
structure HeldLoad where
  seg : Nat
  off : Nat
  words : List Word64
  desc : Desc
  deriving DecidableEq, Repr

/-- Where a logical engine's program stands: stopped; to start at the next frame tick (R236); running; waiting in
WAITFT for register d (R260); waiting in a blocking MBR (R221). -/
inductive EngSt
  | stopped | starting | running
  | waitTick (d : Nat)
  | waitMail
  deriving DecidableEq, Repr

/-- What a logical engine holds (Table 07.1), and its pending events (R219). -/
structure Engine where
  st : EngSt := .stopped
  /-- General registers but G0, which reads zero; the shadow bank by register number. -/
  g : Tab Word64 := []
  shadow : Tab Word64 := []
  pc : Nat := 0
  flags : BitVec 8 := 0
  emask : BitVec 3 := 0
  epc : Nat := 0
  ecause : Nat := 0
  cwb : Word := 0
  frame : Nat := 0
  fnote : Word := 0
  /-- Program memory by instruction, the owner of each segment (0 OP, n + 1 Tn), and list memory. -/
  prog : Tab Word64 := []
  owner : Tab Nat := []
  list : Tab Word64 := []
  call : Option Call := none
  susp : Option Susp := none
  held : List HeldLoad := []
  /-- Pending bits FAULT, FT, INTR (R219). -/
  pend : BitVec 3 := 0
  /-- The instruction at the program counter has been dispatched and has not ended (R646); the address of one that runs again after a
  transient fault (Table 22.4). -/
  begun : Bool := false
  rerun : Option Nat := none
  /-- The sample down-counter, the address of the tagged instruction in progress, and the cycles since its dispatch (R646, R647). -/
  down : Nat := 0
  tagged : Option Nat := none
  lat : Nat := 0
  /-- The report item that an instruction holds for its re-run (R218); RUN was cleared during a stall, and the program stops at the
  boundary that follows (R169, R236). -/
  item : Option Word64 := none
  stopping : Bool := false
  deriving DecidableEq, Repr

/-- What MTN holds that its registers do not show. -/
structure Mtn where
  eng : Tab Engine := []
  /-- The base image has passed its checks and the load goes on (R213). -/
  loading : Bool := false
  /-- Copies to a spare: by logical engine, 32 × the retired engine + the spare it will be bound to + 1 (R229). -/
  moving : Tab Nat := []
  /-- The control stores, by physical engine and word (R211, Table 06.5). -/
  stores : Tab (Tab Word) := []
  deriving DecidableEq, Repr

/-! Upstream deframing (09). -/

/-- A part of a burst still to come (Table 09.1): 0 header, 1 PLOAMu, 2 allocation, 3 trailer. `left` counts its bytes
still to come, `dbru` says that a DBRu still comes first, `begun` that a byte of it has been taken, `fresh` that no XGEM
frame of it has been taken (R310), and `dead` that delineation was abandoned (R307). -/
structure Seg where
  kind : Nat := 0
  stream : Nat := 0
  left : Nat := 0
  dbru : Bool := false
  begun : Bool := false
  fresh : Bool := true
  dead : Bool := false
  deriving DecidableEq, Repr

/-- A burst that BRX has locked on and UDF takes apart. -/
structure UdfBurst where
  frame : Nat
  k : Nat
  loc : Nat := 0
  /-- Bytes of the FEC-protected length delivered so far, and that length L (R296). -/
  pos : Nat := 0
  len : Nat := 0
  segs : List Seg := []
  /-- Bytes of the structure now being taken. -/
  acc : List Byte := []
  /-- Failed R298, and uncorrectable codewords so far, a truncation included (R303). -/
  bad : Bool := false
  uncorr : Nat := 0
  /-- Truncated (R303). -/
  cut : Bool := false
  deriving DecidableEq, Repr

/-- Counts of one stream in one frame (R306): received, and reported-unused. -/
structure UdfCount where
  frame : Nat
  /-- Number of the burst within its page. -/
  k : Nat := 0
  stream : Nat
  rx : Nat := 0
  unused : Nat := 0
  deriving DecidableEq, Repr

/-- A partial frame in a reassembly slot (R309 to R311). -/
structure Partial where
  portId : Nat
  data : List Byte
  buf : Option Nat := none
  frame : Nat := 0
  deriving DecidableEq, Repr

/-- What UDF holds of one port. -/
structure UdfPort where
  bursts : List UdfBurst := []
  counts : List UdfCount := []
  deriving DecidableEq, Repr

/-- UDF's state beside its registers: ports, reassembly slots by stream, and per terminal the values of the present
second: blocks, errored blocks, defect (R316). -/
structure Udf where
  port : Tab UdfPort := []
  parts : Tab Partial := []
  second : Tab (Nat × Nat × Bool) := []
  /-- Word 1 of the grant-stream entries as it has arrived from GNT, by address; one at its reset word is left out (R46). -/
  strs : Tab Word := []
  deriving DecidableEq, Repr

/-! Frames on their way (11 to 16, 19). -/

/-- Where a frame goes once it has a buffer: an egress queue, a group of uplink ports, the mate link, a replication group,
a host receive ring with its reason, the reassembly slot of a stream, a pseudowire with the offset of the control word, or the partner by the mate link for a terminal queue
of a STANDBY member (R558). -/
inductive Dest
  | queue (q : Nat)
  | uplink (g : Nat)
  | mate
  | flood (g : Nat)
  | ring (r reason : Nat)
  | reasm (st : Nat)
  | pw (w off : Nat)
  deriving DecidableEq, Repr

/-- A packet between its ingress and its last pass (Table 11.2). Source kind 0 tree port, 1 uplink port, 2 mate link. -/
structure Pkt where
  kind : Nat := 0
  port : Nat := 0
  down : Bool := false
  data : List Byte := []
  tenant : Option Nat := none
  term : Nat := 0xFFFF
  cls : Nat := 0
  /-- Ingress timestamp: nanoseconds and fraction in 2^-16 ns (R516). -/
  stamp : Option (Nat × Nat) := none
  /-- Buffer held by UDF reassembly. -/
  buf : Option Nat := none
  /-- Passes made, the profile of a recirculated pass, the epoch taken, and flags of the last pass. -/
  pass : Nat := 0
  prof : Option Nat := none
  epoch : Bool := false
  lenErr : Bool := false
  hash : Nat := 0
  deriving DecidableEq, Repr

/-- A frame bound for a buffer, or holding one (Table 13.2, R433, R434). `holder` is the code of Table 13.3 that presents
its free; `desc` is a host transmit descriptor that still waits for its completion (R578). -/
structure Frm where
  pkt : Pkt := {}
  dest : Dest := .mate
  buf : Nat := 0
  holder : Nat := 0
  queue : Nat := 0
  launch : Option Nat := none
  late : Bool := false
  desc : Option Desc := none
  stamp : Nat := 0
  deriving DecidableEq, Repr

/-! Parsing and classification (11). -/

/-- What PRS and CLS hold. -/
structure Cls where
  /-- Packets waiting for a first pass, oldest first, and the recirculation queue of each pipeline (R374). -/
  ingress : List Pkt := []
  recirc : Tab (List Pkt) := []
  /-- Tree nodes by 131,072 × bank + address and rules by 32,768 × bank + index (R363, R365). -/
  nodes : Tab (BitVec 256) := []
  rules : Tab (BitVec 512) := []
  /-- The ESWAP descriptor that waits for the swap point (R372). -/
  swap : Option Desc := none
  deriving DecidableEq, Repr

/-! Forwarding database (12). -/

/-- A learn request (R396). -/
structure Learn where
  fid : Nat
  mac : Nat
  dkind : Nat
  dest : Nat
  deriving DecidableEq, Repr

/-- What FDB holds. -/
structure Fdb where
  /-- Entries by location (Table 12.1, R389). -/
  ents : Tab (BitVec 128) := []
  learns : List Learn := []
  deriving DecidableEq, Repr

/-! Buffer pools (13). -/

/-- The metadata of an allocated buffer (Table 13.2). -/
structure Meta where
  req : Nat
  owner : Nat
  shared : Bool := false
  refcnt : Nat := 0
  last : Nat := 0
  /-- The word is uncorrectable: the buffer stays allocated (R424). -/
  stuck : Bool := false
  deriving DecidableEq, Repr

/-- A request waiting for a buffer (R412, R416). -/
structure Want where
  req : Nat
  len : Nat
  up : Bool
  frm : Frm
  deriving DecidableEq, Repr

/-- What BPM holds that its registers do not show. -/
structure Bpm where
  /-- Metadata of allocated buffers by pointer. -/
  bufs : Tab (Option Meta) := []
  /-- Last-owner lists by egress code (R421). -/
  lasts : Tab (List Nat) := []
  /-- The REQ that the word of a free buffer still records (R410, R424). -/
  lastReq : Tab Nat := []
  wants : List Want := []
  deriving DecidableEq, Repr

/-! Traffic management (14). -/

/-- The token ledger of a shaper since its last change (R444). -/
structure Tok where
  t : Int := 0
  t0 : Int := 0
  ticks : Nat := 0
  added : Nat := 0
  spent : Int := 0
  capped : Nat := 0
  deriving DecidableEq, Repr

/-- A gate list in force, and one that waits (R448, R449): the instant at which entry 0 last began, the entry open now, the
entries of the list; the takeover instant and the entries of the list that waits. -/
structure Gate where
  start : Int := 0
  pos : Nat := 0
  len : Nat := 0
  next : Option Nat := none
  nextLen : Nat := 0
  deriving DecidableEq, Repr

/-- A frame with a timestamp or launch request that leaves or was dropped, and waits for its completion (R517, R578): egress,
frame, the bytes on the line, the transmit SA that protects it, status of Table 19.6. -/
structure Leaving where
  egress : Nat
  frm : Frm
  bytes : List Byte := []
  sa : Option Nat := none
  status : Nat := 0
  deriving DecidableEq, Repr

/-- What TMG holds that its registers do not show. -/
structure Tmg where
  /-- Frames with a buffer that wait for admission, oldest first (R433). -/
  arrivals : List Frm := []
  /-- Queued frames by queue, oldest first. -/
  queues : Tab (List Frm) := []
  /-- Deficits by child (queue q, or 131,072 + node), and the child whose turn it is by node (R437). -/
  deficit : Tab Int := []
  turn : Tab Nat := []
  tok : Tab Tok := []
  gates : Tab Gate := []
  /-- Owners of terminal nodes, taken when EN was set: 0 for OP, n + 1 for Tn (R430). -/
  owners : Tab Nat := []
  leaving : List Leaving := []
  /-- End of the last launch frame's transmission, by egress (R455). -/
  launchEnd : Tab Nat := []
  deriving DecidableEq, Repr

/-! Tributary carriage (10). -/

/-- What TCE holds of one circuit end that TCE_CST does not show; ends are numbered 2c for A and 2c + 1 for B. -/
structure TceEnd where
  /-- Received bits not yet done with, and the stream number of the first (R321, Table 10.5). -/
  bits : List Bool := []
  base : Nat := 0
  /-- Bit the search or the next frame starts at; the candidate; words or frames checked for it (R332, R333). -/
  pos : Nat := 0
  cand : Nat := 0
  found : Nat := 0
  /-- Expected MFI; consecutive bad words; consecutive unexpected MFIs. -/
  mfi : Nat := 0
  badWord : Nat := 0
  badMfi : Nat := 0
  /-- Pointer expected of the next frame; the same other value received, and how often; frames without a match (R329). -/
  expect : Nat := 0
  seen : Option (Nat × Nat) := none
  miss : Nat := 0
  /-- Consecutive valid frames that contradict AIS_RX and RDI_RX (R335). -/
  ais : Nat := 0
  rdi : Nat := 0
  /-- BIP-8 over the previous received frame (Table 10.3). -/
  bip : Option Byte := none
  /-- Received data on its way to the other end or the interchange (R324); the last block taken; blocks to be sent by a
  slot circuit (R336, R337). -/
  store : List Byte := []
  block : List Byte := []
  out : List Byte := []
  /-- As sender: PTR and BIP-8 of the next frame, and frames still to be sent with NDF new (R327, R331). -/
  sendPtr : Nat := 0
  sendBip : Byte := 0
  ndf : Nat := 0
  /-- Pseudowire: payload of the packet being built; the next sequence number sent; E; consecutive drops, inserted and accepted packets; loss state (R340 to
  R342). -/
  asm : List Byte := []
  seq : Nat := 0
  due : Nat := 0
  drops : Nat := 0
  inserted : Nat := 0
  accepted : Nat := 0
  loss : Bool := false
  /-- Errored blocks and a defect in the present second (Table 10.8). -/
  err : Nat := 0
  defect : Bool := false
  deriving DecidableEq, Repr

/-- What TCE holds that its registers do not show. -/
structure Tce where
  ends : Tab TceEnd := []
  /-- Circuits whose EN was cleared and that run until the next FT (R325). -/
  closing : List Nat := []
  /-- Clock time of the SWAP request (R338). -/
  swapAt : Nat := 0
  /-- Received pseudowire packets: pseudowire, offset of the control word, frame (R341). -/
  packets : List (Nat × Nat × Frm) := []
  /-- Errored seconds not yet committed, by entity: second, and whether severely errored (R345); entities in unavailable
  time (R346). -/
  seconds : Tab (List (Nat × Bool)) := []
  unavail : List Nat := []
  /-- The bins that hold a count: the start of the bin in TCE_PMCUR_e of each kind, by 2e + kind, 1 for 24 hours (R347). -/
  bins : Tab (Option Nat) := []
  /-- What makes bins PARTIAL (R348): the spans of seconds in which PM_EN was 0, with the seconds of steps; the second at which
  PM_EN was last cleared; the second a step led to; the seconds at which each entity was enabled, disabled or reset. -/
  gaps : List (Nat × Nat) := []
  pmOff : Nat := 0
  stepTo : Nat := 0
  marks : Tab (List Nat) := []
  deriving DecidableEq, Repr

/-! Ciphers (15). -/

/-- What CRY holds that its registers do not show. Keys never leave it (R464). -/
structure Cry where
  /-- Keys of the terminals' slots by 2 × terminal + slot − 1, four words each (R466). -/
  tkeys : Tab (List Word) := []
  /-- Pending switches by terminal: slot and superframe number S (R468). -/
  switches : Tab (Nat × Nat) := []
  /-- Keys of the SAs, eight words, three of salt and the SSCI; their initial packet numbers (R463, R472). -/
  sakeys : Tab (List Word) := []
  saFirst : Tab Nat := []
  /-- Highest accepted packet number of each receive SA (R475). -/
  highest : Tab Nat := []
  /-- Transmit SAs disabled and waiting for their last frames (R474). -/
  closing : List Nat := []
  /-- Frames selected on a transmit SA and not yet sent, by SA (R474). -/
  flying : Tab Nat := []
  /-- Key words written, by 16 × function + word (function 0 is OP, n + 1 is Tn). -/
  words : Tab Word := []
  deriving DecidableEq, Repr

/-! Downstream framing (08). -/

/-- What DFR holds of one port that its registers do not show. -/
structure DfrPort where
  /-- Number of the next line frame, once framing has started. -/
  next : Nat := 0
  /-- The next line frame is the first since framing started (R273, R282). -/
  first : Bool := false
  /-- The map read for a frame: its number, and the entries of its page, or none for an empty map (R277, R278); the frame whose
  page was sealed and final at its read, readable or not (R292). -/
  read : Option (Nat × Option (List Word64)) := none
  readFinal : Option Nat := none
  /-- The last map sent (R289). -/
  last : Option (List Word64) := none
  /-- Burst-profile announcements waiting (R281, R282). -/
  announce : List PMsg := []
  /-- Time-of-day messages waiting: the mode each was queued for, and its terminal, none for the broadcast (R537). -/
  tods : List (Nat × Option Nat) := []
  /-- Frames TMG has presented, oldest first; that a fragment of the first has been sent, and the bytes it carried (R284,
  R285). -/
  ready : List Frm := []
  cut : Bool := false
  sent : Nat := 0
  /-- XGEM payloads of carrier frames that wait for space, oldest first, with their ends (R322). -/
  carriers : List (Nat × List Byte) := []
  /-- Frames of the present hold; that a switch-over begins it at the next frame; that it has expired (R289, R292,
  R293). -/
  held : Nat := 0
  starting : Bool := false
  expired : Bool := false
  /-- Frames of a switch-over that must be held: up to this number (R552). -/
  holdTo : Option Nat := none
  deriving DecidableEq, Repr

/-- DFR's state beside its registers. -/
structure Dfr where
  port : Tab DfrPort := []
  /-- Maps of the partner's ports received over the mate link (R289): the map whole, and the one arriving. -/
  mate : Tab (List Word64) := []
  arriving : Tab (List Word64) := []
  /-- A load of the superframe counter waits for the next frame tick (R272). -/
  load : Bool := false
  deriving DecidableEq, Repr

/-! Uplinks and mate link (16). -/

/-- What UPL holds that its registers do not show. -/
structure Upl where
  /-- Ports (lowest lanes) that lost a lane or their alignment in the present second (Table 10.8). -/
  lost : List Nat := []
  /-- Ports in the second retrain, after a spare slice was switched in (Table 16.2). -/
  second : List Nat := []
  /-- Ports that have left UP, with a frame in reception that may still be cut off (R487). -/
  cutting : BitVec 24 := 0
  /-- Protected groups whose change of selection waits until no gap is open (Table 18.6). -/
  deferred : List Nat := []
  deriving DecidableEq, Repr

/-- What MLK holds of one lane: consecutive bad blocks; consecutive TRAIN or WIDTH blocks at this boundary (R496, R498);
the frame in reception: its header and bytes, and whether a block of it was bad; DATA of a frame whose START was bad (R494). -/
structure MateLane where
  bad : Nat := 0
  tp : Nat := 0
  head : Option (List Byte) := none
  data : List Byte := []
  broken : Bool := false
  headless : Bool := false
  deriving DecidableEq, Repr

/-- What MLK holds that its registers do not show. -/
structure Mlk where
  lane : Tab MateLane := []
  /-- TRAIN = 0 has been written since the link last trained (R497). -/
  announcing : Bool := false
  /-- LANES of the partner's announcement (R497). -/
  partner : Option Nat := none
  /-- The lane set to which the link narrows (R499). -/
  target : Option Nat := none
  /-- Lanes that left the set and wait for their background retrain; those tried once (R503). -/
  retrain : List Nat := []
  tried : List Nat := []
  /-- Received CONTROL blocks, oldest first: their DATA, and the clock at the reference point: nanoseconds, fraction. -/
  control : List (List Byte × Nat × Nat) := []
  deriving DecidableEq, Repr

/-! Time (17). -/

/-- The precision clock: nanoseconds and the fraction in units of 2^-32 ns (R506). -/
structure Clk where
  ns : BitVec 64 := 0
  frac : BitVec 32 := 0
  deriving DecidableEq, Repr

/-- What TSU holds that its registers do not show. -/
structure Tsu where
  /-- The increment in force, in units of 2^-32 ns, and a commit stored while a slew runs (R508, R509). -/
  inc : Nat := 6871947674
  stored : Option Nat := none
  /-- The increment of the slew in progress; its ticks left are TSU_SLEW_TICKS (R509). -/
  slew : Option Nat := none
  /-- A step is pending; the SET registers are locked; the first key of TSU_REARM has been written (R510, R511). -/
  step : Bool := false
  locked : Bool := false
  key : Bool := false
  /-- REF_SEL as read at the last release (R513). -/
  refSel : Bool := false
  /-- Compare units whose target was already past at its commit, and whose target a step passed (R521). -/
  late : BitVec 16 := 0
  stepped : BitVec 16 := 0
  /-- The settings in force of each PPS output: period, width, offset (R525). -/
  pps : Tab (Nat × Nat × Nat) := []
  /-- The clock that the outputs follow while HOLDING, and its increment (R527). -/
  hold : Clk := {}
  holdInc : Nat := 0
  /-- The pulse in progress of each PPS output: the time of its fall, in ns of the clock that the outputs follow (R525). -/
  ppsFall : Tab Nat := []
  /-- Clock outputs that are high (R526). -/
  ckoHigh : BitVec 2 := 0
  /-- Last captured edge of each PPS input, in units of 2^-16 ns (R529). -/
  ppsIn : Tab (Option Int) := []
  /-- FIFOs of the time-of-day port, oldest first (R530). -/
  tx : List Byte := []
  rx : List Byte := []
  /-- DFR_n_FT_PHASE of every port as it has arrived, by address; one at its reset word is left out (R46). -/
  copy : Tab Word := []
  /-- Mate time exchange: SEQ of the next block, T_TX of the last 16 blocks sent, T_TX and arrival of the last block
  received; times in units of 2^-8 ns (Table 17.3, R532). -/
  seq : Nat := 0
  sent : List Nat := []
  echo : Nat × Nat := (0, 0)
  deriving DecidableEq, Repr

/-! Protection (18). -/

/-- A shadow context of a STANDBY member (R559). -/
structure Shadow where
  st : Nat := 0
  sn : Nat := 0
  eqd : Nat := 0
  offF : Word := 0
  tcal : Nat := 0
  cal : Bool := false
  deriving DecidableEq, Repr

/-- What protection holds that TPA_n_PROT, TPA_n_PTIM and TPA_n_PSTAT do not show. -/
structure Prot where
  /-- TAKING members whose PON_TXEN has risen, at X or on a DARK block (R549, R550). -/
  lit : BitVec 32 := 0
  /-- X of an open switch-over, by taking member of this device, and by releasing member of this device (R548). -/
  taking : Tab Nat := []
  releasing : Tab Nat := []
  /-- Shadow contexts by 512 × port + local index. -/
  shadow : Tab Shadow := []
  /-- Consecutive silent frames (Table 18.3): the run, and of the frame now judged: its number, whether it holds a
  granted burst, and whether every SD check in it failed. -/
  silent : Tab Nat := []
  judged : Tab (Nat × Bool) := []
  /-- Causes detected during an open gap, by port (Table 18.4). -/
  waiting : Tab Nat := []
  /-- Members whose next frame carries the protection-control message first (R557). -/
  control : BitVec 32 := 0
  /-- Of the partner's last STATE block: role, ACTIVE members, members in a gap, and the clock when it came (R545). -/
  mateRole : Nat := 0
  mateActive : Word := 0
  mateGap : Word := 0
  mateHeard : Option Int := none
  /-- Ports whose mate pair has its ACTIVE member on the partner, as last known (Table 18.3, MATE). -/
  away : BitVec 32 := 0
  deriving DecidableEq, Repr

/-- Frames and PLOAM messages bound for host receive rings, oldest first: the ring, and the frame; a PLOAM message has
its port and no buffer (R314, R581). -/
inductive Rx
  | frame (r reason : Nat) (f : Frm)
  | ploam (r port : Nat) (data : List Byte)
  deriving DecidableEq, Repr

/-! Crossings between planes (R20 to R24, R46, Table 01.9). -/

/-- An item of a crossing: a burst's result; what BRX is to expect of a terminal, and the invalidation of its entry; a memory
entry; the count of milliseconds; the kinds of a page's bursts, each with its profile; a PLOAMu of a terminal and a burst of a
discovery window for RNG; UDF's counts of a page; a message of TSU; the end of a terminal's keys; a register word. -/
inductive DcqItem
  | result (r : RngResult)
  | expect (l : Nat) (e : Expect)
  | inval (l : Nat)
  | mem (l : Nat) (e : MemEnt)
  | ms (v : Nat)
  | kinds (frame : Nat) (ks : List (Bool × Option Nat))
  | ploam (l : Nat) (data : List Byte)
  | serial (x : Option SnReport)
  | counts (frame : Nat) (c : List (Nat × Nat × Nat × Nat))
  | tod (x : Nat × Option Nat)
  | wipe (t : Nat)
  | reg (a : Nat) (v : Word)
  deriving DecidableEq, Repr

/-- A dual-clock queue: its items, oldest first, the credits of the producer that are spent, and what waits for a credit in the
producer's domain, oldest first (R20, Table 01.6). -/
structure Dcq where
  items : List DcqItem := []
  used : Nat := 0
  wait : List DcqItem := []
  deriving DecidableEq, Repr

/-- The whole machine. -/
structure State where
  /-- Commands waiting, first in first out. -/
  pending : List Instr := []
  /-- Every BAR0 register word that differs from its reset word, by byte address. -/
  regs : Tab Word := []
  /-- The precision clock, which only TSU writes (R15). -/
  clk : Clk := {}
  flt : Flt := {}
  rcp : Rcp := {}
  obs : Obs := {}
  hif : Hif := {}
  tpa : Tpa := {}
  brx : Brx := {}
  rng : Rng := {}
  gnt : Gnt := {}
  udf : Udf := {}
  tce : Tce := {}
  cls : Cls := {}
  fdb : Fdb := {}
  bpm : Bpm := {}
  tmg : Tmg := {}
  cry : Cry := {}
  dfr : Dfr := {}
  prot : Prot := {}
  upl : Upl := {}
  mlk : Mlk := {}
  mtn : Mtn := {}
  tsu : Tsu := {}
  /-- The queues of the crossings of Table 01.9, by 32 × crossing + port. -/
  dcq : Tab Dcq := []
  /-- What the last read command returned (model's own). -/
  rdata : Word := 0
  /-- What the device has sent outside, oldest first (model's own). -/
  outs : List Out := []
  /-- Bound for host receive rings (R581). -/
  rx : List Rx := []
  /-- Count of free values taken so far (model's own). -/
  freeN : Nat := 0
  deriving DecidableEq, Repr

/-- The machine right after reset: the origin of a power-on AON reset (21 R618, R621, R626). Every block is in reset,
memory lists nothing, and the cause register shows the reset. -/
def State.reset : State :=
  { regs := [(0x100004, 0x41)] }

end Sys2Proof.Machine
end

