-- ==== Sys2Proof/Machine/Ops.lean ====
section
/-! DEFINITION. The named operations every meaning is built from: reading and writing register words and fields,
counters by class (R636), raising a fault (R18), the clock, posting records on rings (R577, R584, R585), the trace and
the lifetime ledger (R648, R656). -/

namespace Sys2Proof.Machine

/-! Register words. -/

/-- The stored word at a BAR0 address (an unlisted one holds its reset word). -/
def State.rd (s : State) (a : Nat) : Word := s.regs.look (resetWord a) a

/-- Storing a word at a BAR0 address, whatever its access type. -/
def State.wr (s : State) (a : Nat) (w : Word) : State := { s with regs := s.regs.put (resetWord a) a w }

/-- Field [hi:lo] of a register, as a number. -/
def State.fld (s : State) (a hi lo : Nat) : Nat := fldW (s.rd a) hi lo

/-- Bit i of a register. -/
def State.bit (s : State) (a i : Nat) : Bool := (s.rd a).getLsbD i

/-- Storing a field. -/
def State.setF (s : State) (a hi lo v : Nat) : State := s.wr a (setFldW (s.rd a) hi lo v)

/-- Storing one bit. -/
def State.setB (s : State) (a i : Nat) (b : Bool) : State := s.wr a (setBitW (s.rd a) i b)

/-- A signed 32-bit register. -/
def State.rdInt (s : State) (a : Nat) : Int := (s.rd a).toInt

/-! Counters (R636). -/

/-- The number of a block in Table 01.1 by the window of Table 23.1; 21 is OBS, 0 is GLB. -/
def blockNo (a : Nat) : Nat :=
  match a / 0x100000 with
  | 1 => 20
  | 2 => 19
  | 3 => 21
  | 4 | 5 | 6 | 7 => 18
  | 8 | 9 => 16
  | 10 | 11 => 1
  | 12 | 13 => 2
  | 14 | 15 => 3
  | 16 | 17 => 4
  | 18 | 19 => 5
  | 20 => 6
  | 21 => 7
  | 22 | 23 => 8
  | 24 => 9
  | 25 => 10
  | 26 | 48 | 49 | 50 | 51 | 52 => 11
  | 27 => 12
  | 28 | 29 | 30 | 31 => 13
  | 32 | 33 => 14
  | 34 | 35 => 15
  | 36 | 37 => 17
  | _ => 0

/-- A monitoring counter rises by n and stays at 0xFFFF_FFFF, where the block's bit of OBS_SAT sets (R636, R640). -/
def State.incN (s : State) (a n : Nat) : State :=
  let v := (s.rd a).toNat + n
  if 0xFFFFFFFF ≤ v then
    let s := s.wr a 0xFFFFFFFF
    if blockNo a = 0 then s else s.setB Reg.OBS_SAT (blockNo a) true
  else s.wr a (BitVec.ofNat 32 v)

/-- One event of a monitoring counter. -/
def State.inc (s : State) (a : Nat) : State := s.incN a 1

/-- One event when c holds. -/
def State.incIf (s : State) (c : Bool) (a : Nat) : State := if c then s.inc a else s

/-- A counter field of fewer than 32 bits that saturates at its top. -/
def State.satField (s : State) (a hi lo n : Nat) : State :=
  s.setF a hi lo (min (s.fld a hi lo + n) (2 ^ (hi + 1 - lo) - 1))

/-- A 64-bit traffic counter rises by n and wraps; low word at a, high word at a + 4 (R636). -/
def State.add64 (s : State) (a n : Nat) : State :=
  let v := (s.rd a).toNat + 2 ^ 32 * (s.rd (a + 4)).toNat + n
  (s.wr a (wordOf v 0)).wr (a + 4) (wordOf v 1)

/-- Sending an outside action. -/
def State.emit (s : State) (o : Out) : State := { s with outs := s.outs ++ [o] }

/-- What a word of a tenant page that nothing has written reads as: the mask bit of a vector resets to 1, all else to 0. -/
def tenWord (k : Nat) : Word :=
  let o := k % 0x10000
  if 0x800 ≤ o && o < 0xE00 && o % 16 = 12 then 1 else 0

/-- A word of the tenant pages, by 0x10000 × tenant + offset (Table 19.11), and storing it. -/
def State.ten (s : State) (k : Nat) : Word := s.hif.ten.look (tenWord k) k
def State.setTen (s : State) (k : Nat) (w : Word) : State :=
  { s with hif := { s.hif with ten := s.hif.ten.put (tenWord k) k w } }

/-- Block b (RCP_BLK_RST bit) is out of reset. -/
def State.up (s : State) (b : Nat) : Bool := !s.rcp.inReset.getLsbD b

/-- Signalling a vector of a function: a masked vector sets its pending bit (R585). -/
def State.signal (s : State) (fn : Fn) (vec : Nat) : State :=
  if !s.up 17 then s
  else match fn with
  | .op =>
    if s.bit (Reg.HIF_PF_MSIX_MASK vec) 0 then s.setB (Reg.HIF_PF_PBA (vec / 32)) (vec % 32) true
    else s.emit (.msix .op vec)
  | .t n =>
    let k := 0x10000 * n.val
    let m := k + 0x800 + 16 * vec + 12
    let p := k + 0xE00 + 4 * (vec / 32)
    if (s.ten m).getLsbD 0 then s.setTen p (setBitW (s.ten p) (vec % 32) true)
    else s.emit (.msix (.t n) vec)

/-- A 48-bit performance counter rises by n; at a wrap OVF sets and the first wrap of its group signals OVF_VEC
(R636, R639). Groups: 0 engine slots, 1 pipeline slots, 2 threshold events. -/
def State.add48 (s : State) (a n grp : Nat) : State :=
  let v := (s.rd a).toNat + 2 ^ 32 * s.fld (a + 4) 15 0 + n
  let s1 := (s.wr a (wordOf v 0)).setF (a + 4) 15 0 (v >>> 32)
  if v < 2 ^ 48 then s1
  else
    let s2 := s1.setB (a + 4) 31 true
    if s2.bit Reg.OBS_CTRL (16 + grp) && !s2.bit Reg.OBS_OVF grp then
      (s2.setB Reg.OBS_OVF grp true).signal .op (s2.fld Reg.OBS_CTRL 8 0)
    else s2

/-! The clock (R15, R506). -/

/-- The precision clock in nanoseconds. -/
def State.now (s : State) : Nat := s.clk.ns.toNat

/-- TSU is out of reset, so that the precision clock runs (RCP_BLK_RST bit 15). -/
def State.tsuUp (s : State) : Bool := !s.rcp.inReset.getLsbD 15

/-- A clock reading in units of 2^-32 ns, and the reading of such a number. -/
def Clk.units (c : Clk) : Nat := c.ns.toNat * 2 ^ 32 + c.frac.toNat
def clkOf (u : Nat) : Clk := { ns := BitVec.ofNat 64 (u / 2 ^ 32), frac := BitVec.ofNat 32 (u % 2 ^ 32) }

/-- The outputs' shadow clock after the precision clock has gained u units by the increment in force, which a slew replaces: at
the increment in force when OUT_HOLD was set; after OUT_HOLD has cleared, closing on the precision clock by 100 ppm (R527). -/
def State.holdGain (s : State) (u : Nat) : State :=
  if !s.bit Reg.TSU_STATUS 3 then s
  else
    let h := s.tsu.hold.units
    let h1 := if s.bit Reg.TSU_CTRL 1 then h + u * s.tsu.holdInc / s.tsu.slew.getD s.tsu.inc
      else
        let c := s.clk.units
        if h ≤ c then c + u - (c - h - u / 10000) else c + u + (h - c - u / 10000)
    { s with tsu := { s.tsu with hold := clkOf h1 } }

/-- Ticks of a slew in progress that pass while the clock gains u units (R509). -/
def State.slewGain (s : State) (u : Nat) : State :=
  match s.tsu.slew with
  | none => s
  | some v => s.wr Reg.TSU_SLEW_TICKS (BitVec.ofNat 32 ((s.rd Reg.TSU_SLEW_TICKS).toNat - u / v))

/-- Low 40 bits of the clock in nanoseconds (R32, Table 00.2). -/
def State.now40 (s : State) : Nat := s.now % 2 ^ 40

/-! Faults (R18, R596). -/

/-- An event of a source, held beside it until FLT acknowledges it (R18, R595); of the credit mismatches of a producer the first is
kept with it (R611). -/
def State.raiseWith (s : State) (src info : Nat) (base : Bool) (cred : Option CredRec) : State :=
  let l := s.flt.latch.look {} src
  let l' : Latch :=
    { count := min (l.count + 1) 0xFFFF, info := if l.count = 0 then info else l.info, base := l.base || base
      ports := if info < 32 then setBitW l.ports info true else l.ports
      creds := match cred with
        | none => l.creds
        | some c => if l.creds.any fun x => x.blk == c.blk then l.creds else l.creds ++ [c] }
  { s with flt := { s.flt with latch := s.flt.latch.put {} src l' } }

/-- An event of a source with its INFO. -/
def State.raise (s : State) (src info : Nat) : State := s.raiseWith src info false none

/-- The condition of a level source asserts: one event, unless it was already present (R597). -/
def State.raiseLevel (s : State) (src : Fin 52) (info : Nat) : State :=
  if s.flt.active.getLsbD src.val then s
  else ({ s with flt := { s.flt with active := setBitW s.flt.active src.val true } } : State).raise src.val info

/-! Free values (model's own): values that the spec leaves open after a command that goes on. -/

/-- The free value that comes next. -/
def State.fresh (s : State) : Word := Config.freeWord s.freeN

/-- The next free value has been taken. -/
def State.taken (s : State) : State := { s with freeN := s.freeN + 1 }

/-- A timestamp of 80 bits that the spec leaves open, from three free values. -/
def State.freshStamp (s : State) : Nat :=
  s.fresh.toNat + 2 ^ 32 * s.taken.fresh.toNat + 2 ^ 64 * (s.taken.taken.fresh.toNat % 2 ^ 16)

/-! Rings (R573, R577, R584, R585). -/

/-- The function that owns a ring, by HIF_GRP_j (R567). -/
def State.ringOwner (s : State) (r : Nat) : Fn :=
  let g := s.rd (Reg.HIF_GRP (r / 16))
  if g.getLsbD 31 then .t ⟨fldW g 30 27 % 16, Nat.mod_lt _ (by decide)⟩ else .op

/-- TYPE of a ring when it is enabled and not stopped on an error, else 0 (OFF). -/
def State.ringType (s : State) (r : Nat) : Nat :=
  if s.bit (Reg.HIF_RING r 0) 31 && !s.bit (Reg.HIF_RING r 2) 31 then s.fld (Reg.HIF_RING r 0) 30 28 else 0

/-- S = 2^LOG2SZ. -/
def State.ringSize (s : State) (r : Nat) : Nat := 2 ^ s.fld (Reg.HIF_RING r 0) 27 23

/-- The phase bit that index x carries (R573). -/
def State.ringPhase (s : State) (r x : Nat) : Bool := !Nat.testBit x (s.fld (Reg.HIF_RING r 0) 27 23)

/-- Completions or records of a ring raise its vector at MOD_CNT (R585). -/
def State.ringCount (s : State) (r : Nat) : State :=
  let s := s.add64 (Reg.HIF_r_CNT_DONE_LO r) 1
  if s.bit (Reg.HIF_RING r 0) 20 then
    let c := s.hif.modCnt.look 0 r + 1
    if s.fld (Reg.HIF_RING r 1) 15 0 ≤ c then
      ({ s with hif := { s.hif with modCnt := s.hif.modCnt.put 0 r 0 } } : State).signal (s.ringOwner r)
        (s.fld (Reg.HIF_RING r 0) 8 0)
    else { s with hif := { s.hif with modCnt := s.hif.modCnt.put 0 r c } }
  else s

/-- The tail word of a slot: TAG, STATUS and the phase, with bit 6 of byte 31 (Descriptors; R577, R583). -/
def tailWord (tag status : Nat) (exc phase : Bool) : Nat :=
  tag % 65536 + 65536 * (status % 256) + 2 ^ 30 * exc.toNat + 2 ^ 31 * phase.toNat

/-- Can a device-fed ring of this type take one more record (R573, R584)? -/
def State.ringRoom (s : State) (r ty : Nat) : Bool :=
  s.ringType r = ty &&
    (s.fld (Reg.HIF_RING r 2) 16 0 + 131072 - s.fld (Reg.HIF_RING r 3) 16 0) % 131072 < s.ringSize r

/-- A record or completion in the slot of index x of a ring: bytes 0 to 27 where `whole`, then bytes 28 to 31 (R573, R577). -/
def State.postSlot (s : State) (r x : Nat) (whole : Bool) (d : BitVec 256) : State :=
  let b := bytesLE 32 d.toNat
  let post := fun (lo : Nat) (v : List Byte) (s : State) => s.emit (.slot (s.ringOwner r) r (x % s.ringSize r) lo v)
  post 28 (b.drop 28) (if whole then post 0 (b.take 28) s else s)

/-- A read of len bytes at a host address that a ring's descriptor names (R566). -/
def State.dmaRead (s : State) (r addr len : Nat) : State := s.emit (.read (s.ringOwner r) addr len)

/-- A record of bytes 0 to 27 written into the next slot of a device-fed ring that has room (R577). -/
def State.ringPut (s : State) (r : Nat) (body : Nat) (tag : Nat) (exc : Bool) : State :=
  let x := s.fld (Reg.HIF_RING r 2) 16 0
  let d := BitVec.ofNat 256 (body % 2 ^ 224 + 2 ^ 224 * tailWord tag 0 exc (s.ringPhase r x))
  ((s.postSlot r x true d).setF (Reg.HIF_RING r 2) 16 0 ((x + 1) % 131072)).ringCount r

/-- An event record on an EVT ring, or its loss counted at lossCnt (R584). -/
def State.postEvent (s : State) (r : Nat) (body lossCnt : Nat) : State :=
  if s.ringRoom r 4 then s.ringPut r body 0 false
  else if s.up 17 || lossCnt ≠ Reg.HIF_CNT_EV_LOST then s.inc lossCnt
  else s

/-- DRAINED of a ring: no descriptor of it remains in the device (R572). -/
def State.ringSettle (s : State) (r : Nat) : State :=
  s.setB (Reg.HIF_RING r 2) 27 (!(s.hif.fetched.any fun d => d.ring == r))

/-- A descriptor leaves the device. -/
def State.dropDesc (s : State) (d : Desc) : State :=
  { s with hif := { s.hif with fetched := s.hif.fetched.erase d, taken := s.hif.taken.erase d } }

/-- The completion of a fetched descriptor in its own slot: bytes 0 to 27 are body where whole, TAG copied back
(R576, R577). A ring stopped on an error writes nothing (R572); a descriptor that a reset of HIF has dropped has no slot. -/
def State.complete (s : State) (d : Desc) (whole : Bool) (body status : Nat) : State :=
  let tag := fldW d.data 239 224
  let x := BitVec.ofNat 256 (body % 2 ^ 224 + 2 ^ 224 * tailWord tag status false (s.ringPhase d.ring d.idx))
  if !s.hif.fetched.contains d then s
  else
    let s1 := if s.bit (Reg.HIF_RING d.ring 2) 31 then s
      else (s.postSlot d.ring d.idx whole x).ringCount d.ring
    (s1.dropDesc d).ringSettle d.ring

/-- A completion with STATUS DMA counts; a request that was answered with an error raises HIF_F_DMA (Tables 19.14, 19.16). -/
def State.dmaFail (s : State) (answered : Bool) : State :=
  let s := s.inc Reg.HIF_CNT_DMA
  if answered then s.raise 46 0 else s

/-- A ring error stops the ring, raises HIF_F_RING and posts a HIF record (R572). -/
def State.ringError (s : State) (r code : Nat) : State :=
  let s := (s.setB (Reg.HIF_RING r 2) 31 true).setF (Reg.HIF_RING r 2) 30 28 code
  let s := s.raise 44 r
  let n := match s.ringOwner r with
    | .op => 0
    | .t m => m.val
  if s.bit Reg.HIF_CTRL 31 then
    s.postEvent (s.fld Reg.HIF_CTRL 9 0) (0x05 + 256 * 0x01 + 2 ^ 16 * r + 2 ^ 32 * code + 2 ^ 40 * n)
      Reg.HIF_CNT_EV_LOST
  else s

/-- A refused access of tenant n at offset o of its page (R589). -/
def State.tenantRefused (s : State) (n : Fin 16) (wr : Bool) (o : Nat) : State :=
  let last : Word := BitVec.ofNat 32 (2 ^ 31 * wr.toNat + o % 65536)
  let k := 0x10000 * n.val
  let c := (s.ten (k + 4)).toNat
  let s := (s.setTen (k + 4) (BitVec.ofNat 32 (min (c + 1) 0xFFFFFFFF))).setTen (k + 8) last
  let s := if 0xFFFFFFFF ≤ c + 1 then s.setB Reg.OBS_SAT (blockNo Reg.HIF_CTRL) true else s
  let s := (s.inc (Reg.HIF_T_CNT_REFUSED n)).wr (Reg.HIF_T_LAST_REF n) last
  let s := s.raise 45 n.val
  if s.bit Reg.HIF_CTRL 31 then
    s.postEvent (s.fld Reg.HIF_CTRL 9 0) (0x05 + 256 * 0x02 + 2 ^ 40 * n.val + 2 ^ 64 * (o % 65536))
      Reg.HIF_CNT_EV_LOST
  else s

/-! Trace (R648, R649). -/

/-- Records of the trace buffer. -/
def traceSize : Nat := 131072

/-- Records not yet taken by a reader with pointer p: all that were written since. -/
def State.unread (s : State) (p : Nat) : Nat := s.obs.written - p

/-- A record of 32 bytes as 8 words (Table 22.5). -/
def traceWords (k src at_ payload seq : Nat) : List Word :=
  let r : Nat := k % 256 + 256 * (src % 256) + 65536 * (at_ % 2 ^ 48) + 2 ^ 64 * (payload % 2 ^ 160) + 2 ^ 224 * (seq % 2 ^ 32)
  (List.range 8).map (wordOf r)

/-- A trace record in the next slot of the host reader's ring: bytes 0 to 27, and TAG from its SEQ (R651). -/
def State.traceSlot (s : State) (r : List Word) : State :=
  s.ringPut (s.fld Reg.OBS_TRC_CTRL 27 18) (joinWords (r.take 7)) ((r.getD 7 0).toNat % 65536) false

/-- The host reader takes at most k records, while its ring has room; after a loss a LOSS record first, whose SEQ the spec
leaves open (R649, R651). -/
def State.hostTrace : Nat → State → State
  | 0, s => s
  | k + 1, s =>
    let c := s.rd Reg.OBS_TRC_CTRL
    if !c.getLsbD 28 || !s.ringRoom (fldW c 27 18) 4 then s
    else if 0 < s.obs.hostLost && c.getLsbD 6 then
      let s1 := s.traceSlot (traceWords 6 0 s.now s.obs.hostLost s.fresh.toNat)
      hostTrace k ({ s1 with obs := { s1.obs with hostLost := 0 } } : State).taken
    else if s.obs.hostPtr < s.obs.written then
      let s1 := s.traceSlot (s.obs.trace.look [] (s.obs.hostPtr % traceSize))
      hostTrace k ({ s1 with obs := { s1.obs with hostPtr := s1.obs.hostPtr + 1 } } : State)
    else s

/-- The host reader takes what its ring has room for. -/
def State.hostDrain (s : State) : State := s.hostTrace (s.unread s.obs.hostPtr + 1)

/-- A record of kind k and source src, stamped with a time, with its payload bytes 8 to 27, if its kind (and port) is enabled
(R648); a record that would overwrite one an enabled reader has not taken is dropped, or overwrites with WRAP (R649). -/
def State.traceAt (s : State) (at_ k src : Nat) (payload : Nat) : State :=
  let c := s.rd Reg.OBS_TRC_CTRL
  let on := s.up 18 && c.getLsbD 31 && c.getLsbD k && (decide (3 < k) || (s.rd Reg.OBS_TRC_PMASK).getLsbD src)
  if !on then s
  else
    let pOn := c.getLsbD 29
    let hOn := c.getLsbD 28
    let pFull := pOn && decide (traceSize ≤ s.unread s.obs.portPtr)
    let hFull := hOn && decide (traceSize ≤ s.unread s.obs.hostPtr)
    if (pFull || hFull) && !c.getLsbD 30 then
      ({ s with obs := { s.obs with portLost := s.obs.portLost + pOn.toNat, hostLost := s.obs.hostLost + hOn.toNat } }
        : State).inc Reg.OBS_TRC_CNT_LOST |>.raise 48 0
    else
      let n := s.obs.written
      let s1 := { s with obs := { s.obs with
        trace := s.obs.trace.put [] (n % traceSize) (traceWords k src at_ payload s.obs.seq)
        written := n + 1, seq := s.obs.seq + 1
        portPtr := if pFull then s.obs.portPtr + 1 else s.obs.portPtr
        hostPtr := if hFull then s.obs.hostPtr + 1 else s.obs.hostPtr
        portLost := s.obs.portLost + pFull.toNat, hostLost := s.obs.hostLost + hFull.toNat } }
      let s2 := s1.wr Reg.OBS_TRC_WPTR (BitVec.ofNat 32 ((n + 1) % traceSize))
      (if pFull || hFull then (s2.inc Reg.OBS_TRC_CNT_LOST).raise 48 0 else s2).hostDrain

/-- A record stamped with the present time. -/
def State.trace (s : State) (k src : Nat) (payload : Nat) : State := s.traceAt s.now k src payload

/-! The lifetime ledger in the retained memory (R654, R656). -/

/-- Offset of a ledger word of the Sett. -/
def ldg (o : Nat) : Nat := Reg.RCP_RET o

/-- A lifetime counter rises by n, stays at its top and sets SAT (R636, Table 22.8). -/
def State.ldgBump (s : State) (o n : Nat) : State :=
  let v := (s.rd (ldg o)).toNat + n
  if 0xFFFFFFFF ≤ v then (s.wr (ldg o) 0xFFFFFFFF).setB (ldg 0x1204) 0 true
  else s.wr (ldg o) (BitVec.ofNat 32 v)

/-- One update of the ledger: a counter, or a log entry (Table 22.9), which counts in LOG_OVF when the log is full (R656). -/
def State.ldgApply (s : State) : LedgerUpd → State
  | .add o n => s.ldgBump o n
  | .entry kind blk loc value tset time =>
    let s := s.ldgBump (0x1310 + 4 * kind) 1
    let n := s.fld (ldg 0x120C) 31 0
    if 1024 ≤ n then s.ldgBump 0x1210 1
    else
      let e := 0x1600 + 32 * n
      let s := s.wr (ldg e) (BitVec.ofNat 32 (kind + 256 * tset.toNat + 65536 * blk))
      let s := s.wr (ldg (e + 4)) (BitVec.ofNat 32 loc)
      let s := (s.wr (ldg (e + 8)) (wordOf time 0)).wr (ldg (e + 12)) (wordOf time 1)
      let s := (s.wr (ldg (e + 16)) (s.rd (ldg 0x1240))).wr (ldg (e + 20)) (BitVec.ofNat 32 value)
      let s := s.wr (ldg 0x120C) (BitVec.ofNat 32 (n + 1))
      if n + 1 = 1024 then s.setB (ldg 0x1204) 1 true else s

/-- The pass of the mirror is over: the updates that waited for it are applied, in their order (R657). -/
def State.endPass (s : State) : State :=
  s.obs.waiting.foldl State.ldgApply { s with obs := { s.obs with mirroring := false, waiting := [] } }

/-- An update of the ledger; during a pass of the mirror it waits, in a queue of 16 (R657). -/
def State.ldgUpd (s : State) (u : LedgerUpd) : State :=
  if s.obs.mirroring then
    if s.obs.waiting.length < 16 then { s with obs := { s.obs with waiting := s.obs.waiting ++ [u] } }
    else s.endPass.ldgApply u
  else s.ldgApply u

/-- A lifetime counter counts n. -/
def State.ldgAdd (s : State) (o n : Nat) : State := s.ldgUpd (.add o n)

/-- One event of Table 22.9: one log entry, and COUNT_k (R656). TSET is 1 when STEP_ARMED is 0. -/
def State.ledgerLog (s : State) (kind blk loc value : Nat) : State :=
  s.ldgUpd (.entry kind blk loc value (!s.bit Reg.TSU_STATUS 2) s.now)

/-- A repair: one Notice, one repair event, one entry of the runtime repair record (R44, R45). -/
def State.repairDone (s : State) (kind blk loc : Nat) : State :=
  let s := (s.raise 10 0).ledgerLog kind blk loc 0
  { s with rcp := { s.rcp with repairs := s.rcp.repairs ++ [{ kind := kind, blk := blk, loc := loc }] } }

/-! Roles and phases. -/

/-- The device is in phase 10, outputs released (R624, R629). -/
def State.outRel (s : State) : Bool := s.bit Reg.RCP_STATUS 7

/-- What a block does on an output that stays at its level of Table 21.5 until OUT_REL. -/
def State.drive (s : State) (o : Out) : State := if s.outRel then s.emit o else s

/-- The device is in Quiet (R633). -/
def State.quiet (s : State) : Bool := s.bit Reg.RCP_STATUS 6

/-- The device has a mate role (Table 21.11). -/
def State.mateRole (s : State) : Bool := s.fld Reg.RCP_STRAP 11 10 = 1 || s.fld Reg.RCP_STRAP 11 10 = 2

/-! Accesses of the host (R663, R664, R667). -/

/-- What a command answers. -/
abbrev Res := Host.Outcome State Fault Refusal

/-- The bit of RCP_BLK_RST of the block whose window holds an address (Table 23.1, R635). -/
def blkBit (a : Nat) : Option Nat :=
  match a / 0x100000 with
  | 3 => some 18
  | 4 | 5 | 6 | 7 => some 17
  | 8 | 9 => some 15
  | 10 | 11 => some 0
  | 12 | 13 => some 1
  | 14 | 15 => some 2
  | 16 | 17 => some 3
  | 18 | 19 => some 4
  | 20 => some 5
  | 21 => some 6
  | 22 | 23 => some 7
  | 24 => some 8
  | 25 => some 9
  | 26 | 48 | 49 | 50 | 51 => some 10
  | 52 => if a < 0x3408000 then some 10 else none
  | 27 => some 11
  | 28 | 29 | 30 | 31 => some 12
  | 32 | 33 => some 13
  | 34 | 35 => some 14
  | 36 | 37 => some 16
  | _ => none

/-- The block whose window holds the address is in reset, or its clock domain is not released (R667). -/
def State.windowShut (s : State) (a : Nat) : Bool := (blkBit a).any fun b => !s.up b

/-- A refused access of the operator: counted, and recorded in GLB_RSV_LAST (Table 23.5). -/
def State.refuseAt (s : State) (cnt a : Nat) (wr : Bool) : State :=
  (s.inc cnt).wr Reg.GLB_RSV_LAST (BitVec.ofNat 32 (2 ^ 31 * wr.toNat + a % 2 ^ 26))

/-- A write of a function to a register with a command of its own acts only while HIF runs and the block is out of reset
(R667). -/
def State.fnWrite (s : State) (fn : Fn) (a : Nat) (r : Res) : Res :=
  if !s.up 17 then .next s
  else if s.windowShut a then
    match fn with
    | .op => .next (s.refuseAt Reg.GLB_CNT_INRST a true)
    | .t _ => .next s
  else r

/-- A write of the operator to a register with a command of its own. -/
def State.opWrite (s : State) (a : Nat) (r : Res) : Res := s.fnWrite .op a r

end Sys2Proof.Machine
end

