-- ==== Sys2Proof/Machine/Cycles.lean ====
section
/-! DEFINITION. What passes with time while no command is carried out: the cycles that threshold units and pipelines count in a tick of
CLK_TS or up to an instant that a command names (R19, R643, R645). -/

namespace Sys2Proof.Machine

/-! Cycles of the other clocks that pass with time (R643, R645). -/

/-- Items not yet done with between the device's and the host's index of a ring. -/
def State.ringOut (s : State) (r : Nat) : Nat :=
  let dev := s.fld (Reg.HIF_RING r 2) 16 0
  let host := s.fld (Reg.HIF_RING r 3) 16 0
  match s.fld (Reg.HIF_RING r 0) 30 28 with
  | 0 | 7 => 0
  | 4 | 6 => (dev + 131072 - host) % 131072
  | _ => (host + 131072 - dev) % 131072 + (s.hif.fetched.filter fun d => d.ring == r).length

/-- Trace records unread by the slower enabled reader. -/
def State.slowUnread (s : State) : Nat :=
  let c := s.rd Reg.OBS_TRC_CTRL
  max (if c.getLsbD 29 then s.unread s.obs.portPtr else 0) (if c.getLsbD 28 then s.unread s.obs.hostPtr else 0)

/-- The occupancy that a source and an index name (Table 22.2). -/
def State.occupancy (s : State) (src i : Nat) : Nat :=
  match src with
  | 0 => (s.gnt.fifo.look {} i).items.length
  | 1 => s.fld (Reg.TMG_QD i) 26 0
  | 2 => match (s.gnt.port.look {} i).pages.find? fun g => g.st == .opened with
    | some g => g.ents.length
    | none => 0
  | 3 => s.fld (Reg.BPM_COUNT i) 18 0 - s.fld (Reg.BPM_k_FREE i) 18 0
  | 4 => s.ringOut i
  | 5 => s.fdb.learns.length
  | 6 => (s.cls.recirc.look [] i).length
  | 7 => s.udf.parts.length
  | _ => s.slowUnread

/-- Cycles of the domain of a source of Table 22.2 in a span of time: free, for no relation of the clocks is assumed (R19). -/
def State.tickCycles (s : State) (src : Nat) : Nat := Config.cyclesIn src s.freeN

/-- A threshold unit counts the cycles of a span of time (R643). -/
def State.thresholdTick (s : State) (k : Nat) : State :=
  let c := s.rd (Reg.OBS_THR_CFG k)
  if c.getLsbD 31 && decide ((s.rd (Reg.OBS_THR_N k)).toNat < s.occupancy (fldW c 30 27) (fldW c 16 0)) then
    s.add48 (Reg.OBS_THR_CNT_LO k) (s.tickCycles (fldW c 30 27)) 2
  else s

/-- A pipeline in service starts no pass while time passes: it is front-starved where no pass is offered, else back-starved (Table
22.3). -/
def State.starve (s : State) (p : Nat) : State :=
  if s.rcp.pipes.getLsbD p then
    let offered := !(s.cls.ingress.isEmpty && (s.cls.recirc.look [] p).isEmpty)
    s.add48 (Reg.OBS_TD_P_LO p (2 + offered.toNat)) (s.tickCycles 6) 1
  else s

/-- What OBS counts while time passes with no command. -/
def State.countCycles (s : State) : State :=
  if !s.up 18 then s
  else
    let s1 := (List.range 64).foldl (fun s k => s.thresholdTick k) s
    let s2 := if s1.up 8 && s1.up 9 then (List.range 5).foldl (fun s p => s.starve p) s1 else s1
    s2.taken

/-- An event at clock instant t: the clock is at t, or later where it has already passed t. -/
def State.advanceTo (s : State) (t : Nat) : State :=
  if s.tsuUp && s.now < t && t < 2 ^ 64 then
    let u := t * 2 ^ 32 - s.clk.units
    let s1 := (s.holdGain u).slewGain u
    ({ s1 with clk := { ns := BitVec.ofNat 64 t, frac := 0 } } : State).countCycles
  else s

end Sys2Proof.Machine
end

