-- ==== Sys2Proof/Machine/Faults.lean ====
section
/-! DEFINITION. Fault collection and reaction (20): latching, the first-fault record, ALIVE, FAULT_N, the Fatal state
and the recovery from it; and the self-repair of memories and pipelines (01 R37 to R45). -/

namespace Sys2Proof.Machine

/-- The class of a source now: its CLASS field, but for MTN_F_UCODE the class its events carried (R594, R595). -/
def State.clsOf (s : State) (src : Nat) : Nat :=
  if src = 22 && !s.flt.ucodeBase then 0 else s.fld (Reg.FLT_SRC src) 1 0

/-- Is bit src of FLT_STATUS latched? -/
def State.latched (s : State) (src : Nat) : Bool :=
  if src < 32 then s.bit Reg.FLT_STATUS_LO src else s.bit Reg.FLT_STATUS_HI (src - 32)

/-- Is bit src of FLT_INJ_STATUS set? -/
def State.injected (s : State) (src : Nat) : Bool :=
  if src < 32 then s.bit Reg.FLT_INJ_STATUS_LO src else s.bit Reg.FLT_INJ_STATUS_HI (src - 32)

/-- Sources of a reset that clears FLT (Table 21.2). -/
def ResetSrc.clearsFlt (r : ResetSrc) : Bool := r == .powerAon || r == .powerCore || r == .faultRecovery

/-- Some latched bit has a class at or above the threshold. -/
def State.latchedAtLeast (s : State) (th : Nat) : Bool :=
  (List.range 52).any fun i => s.latched i && decide (th ≤ s.clsOf i)

/-- ALIVE toggles: no Fatal state and no latched bit at or above ALIVE_TH, outputs released (R599, Table 21.5). -/
def State.aliveRun (s : State) : Bool :=
  s.outRel && !s.flt.fatal && !s.latchedAtLeast (s.fld Reg.FLT_CTRL 27 26)

/-- FAULT_N is asserted: before phase 10 by Table 21.5, and by R600. -/
def State.faultN (s : State) : Bool :=
  !s.outRel || s.flt.fatal || s.latchedAtLeast (s.fld Reg.FLT_CTRL 25 24)

/-- INT_N is asserted (R601; released in reset by Table 21.5). -/
def State.intN (s : State) : Bool :=
  s.outRel && s.bit Reg.FLT_INT 31 &&
    (List.range 52).any fun i => (s.latched i || s.injected i) && s.bit (Reg.FLT_SRC i) 3

/-- The highest class among the latched bits; none when no bit is latched (FLT_STATE.HIGH, HIGH_V). -/
def State.highClass (s : State) : Option Nat :=
  ((List.range 52).filter s.latched).foldl
    (fun (m : Option Nat) i => match m with
      | none => some (s.clsOf i)
      | some c => some (max c (s.clsOf i))) none

/-- The number of history entries less than 86,400 s before the present CLK_AON count (R606). -/
def State.recoveriesIn24h (s : State) : Nat :=
  let n := s.fld (Reg.RCP_RET 0x1000) 4 0
  ((List.range n).filter fun i =>
    let e := (s.rd (Reg.RCP_RET (0x1008 + 8 * i))).toNat + 2 ^ 32 * s.fld (Reg.RCP_RET (0x100C + 8 * i)) 15 0
    decide ((s.flt.aon.toNat + 2 ^ 48 - e) % 2 ^ 48 < 2160000000000)).length

/-- What the registers of FLT that show a present condition read as (Tables 20.7, 20.10, 20.11). -/
def fltView (s : State) (a : Nat) : Option Word :=
  if a = Reg.FLT_CTRL then some (setBitW (s.rd a) 31 s.flt.lock)
  else if a = Reg.FLT_STATE then
    let hi := s.highClass
    let w := setBitW (setBitW (setBitW (s.rd a) 7 s.flt.fatal) 5 (s.flt.active.getLsbD 50)) 4 s.aliveRun
    let w := setBitW (setBitW w 3 s.faultN) 2 hi.isSome
    some (setFldW w 1 0 (hi.getD 0))
  else if a = Reg.FLT_RCV_STATUS then
    let p := s.rd (Reg.RCP_RET 0x1000)
    some (BitVec.ofNat 32 (2 ^ 31 * fldW p 31 31 + 65536 * fldW p 23 16 + 256 * min s.recoveriesIn24h 15))
  else if 0x200060 ≤ a && a < 0x200074 then some (s.rd (Reg.RCP_RET (0x1100 + (a - 0x200060))))
  else if 0x200100 ≤ a && a < 0x2001D0 then
    some (setBitW (s.rd a) 7 (s.flt.active.getLsbD ((a - 0x200100) / 4)))
  else none

/-- Setting bit src of FLT_STATUS. -/
def State.setLatched (s : State) (src : Nat) : State :=
  if src < 32 then s.setB Reg.FLT_STATUS_LO src true else s.setB Reg.FLT_STATUS_HI (src - 32) true

/-- The class that the held events of a source carry (R595): of MTN_F_UCODE, Notice while no base image is among them. -/
def State.heldClass (s : State) (src : Nat) : Nat :=
  if src = 22 && !(s.flt.latch.look {} 22).base then 0 else s.fld (Reg.FLT_SRC src) 1 0

/-- The first-fault record takes an event of a class (R598). -/
def State.recordFault (s : State) (src cls info : Nat) (coinc : Bool) : State :=
  let tv := s.tsuUp
  let w := 2 ^ 31 + 2 ^ 30 * coinc.toNat + 2 ^ 29 * tv.toNat + 2 ^ 22 * cls + 2 ^ 16 * src + info % 65536
  let t := if tv then s.now else 0
  let s1 := (s.wr Reg.FLT_FFR_INFO (BitVec.ofNat 32 w)).wr Reg.FLT_FFR_TIME_LO (wordOf t 0)
  ((s1.wr Reg.FLT_FFR_TIME_HI (wordOf t 1)).wr Reg.FLT_FFR_AON_LO (wordOf s.flt.aon.toNat 0)).wr
    Reg.FLT_FFR_AON_HI (wordOf s.flt.aon.toNat 1)

/-- The credit record takes the mismatch of lowest block and queue; the others count (R611). -/
def State.recordCredits (s : State) (l : Latch) : State :=
  match l.creds with
  | [] => s
  | c :: cs =>
    if s.bit Reg.FLT_STATE 8 then s.incN Reg.FLT_CRED_CNT l.count
    else
      let m := cs.foldl (fun (x y : CredRec) =>
        if y.blk < x.blk || (y.blk = x.blk && y.queue < x.queue) then y else x) c
      let s := (s.setB Reg.FLT_STATE 8 true).wr Reg.FLT_CRED_IDX (BitVec.ofNat 32 (65536 * m.blk + m.queue % 65536))
      let s := (s.wr Reg.FLT_CRED_DIFF m.diff).wr Reg.FLT_CRED_TIME_LO (wordOf m.time 0)
      (s.wr Reg.FLT_CRED_TIME_HI (wordOf m.time 1)).incN Reg.FLT_CRED_CNT (l.count - 1)

/-- One acknowledged latch: the status bit, its count, the credit record, the vector of an INT source and the trace
record (R596, R601, R611, R648). -/
def State.ackOne (s : State) (coinc : Bool) (src : Nat) : State :=
  let l := s.flt.latch.look {} src
  let cls := s.heldClass src
  let s := { s with flt := { s.flt with
    latch := s.flt.latch.put {} src {}, ucodeBase := if src = 22 then s.flt.ucodeBase || l.base else s.flt.ucodeBase } }
  let s := (s.setLatched src).satField (Reg.FLT_CNT src) 15 0 l.count
  let s := s.recordCredits l
  let s := if s.bit (Reg.FLT_SRC src) 3 then s.signal .op (s.fld Reg.FLT_INT 8 0) else s
  s.trace 4 src (cls + 256 * (2 * coinc.toNat) + 65536 * (l.info % 65536))

/-- The candidate for the record among the acknowledged sources: highest class, then lowest index (R598). -/
def bestFault (cls : Nat → Nat) : List Nat → Option Nat
  | [] => none
  | i :: t => match bestFault cls t with
    | none => some i
    | some j => if cls i < cls j then some j else some i

/-- LASER_KILL: LASER_EN clears on every port (R63). -/
def State.laserKill (s : State) : State :=
  (List.range 32).foldl (fun s n => s.setB (Reg.TPA_CTRL n) 1 false) s

/-- FLT acknowledges, at one CLK_AON edge, the held latches among srcs (R596, R598, R602, R610). -/
def State.ackAll (s : State) (srcs : BitVec 52) (sameCycle : Bool) : State :=
  let held := (List.range 52).filter fun i => srcs.getLsbD i && decide (0 < (s.flt.latch.look {} i).count)
  let hit := fun i => sameCycle && s.flt.lastInj == some i
  let infos := held.map fun i => (i, (s.flt.latch.look {} i).info)
  let classes : Tab Nat := held.map fun i => (i, s.heldClass i)
  let cls := fun i => classes.look 0 i
  let s := held.foldl (fun s i => s.ackOne (hit i) i) s
  let s := { s with flt := { s.flt with lastAck := held.foldl (fun b i => setBitW b i true) 0, lastRec := none } }
  let s := if held.any hit then s.setB Reg.FLT_STATE 6 true else s
  match bestFault cls held with
  | none => s
  | some i =>
    let info := ((infos.find? fun e => e.1 == i).map (·.2)).getD 0
    let s1 := if !s.bit Reg.FLT_FFR_INFO 31 || decide (s.fld Reg.FLT_FFR_INFO 23 22 < cls i) then
        let s := s.recordFault i (cls i) info (hit i)
        { s with flt := { s.flt with lastRec := some i } }
      else s
    if cls i = 3 && !s1.flt.fatal then { s1.laserKill with flt := { s1.laserKill.flt with fatal := true } }
    else s1

end Sys2Proof.Machine
end

