-- ==== Sys2Proof/Machine/Ports.lean ====
section
/-! DEFINITION. The tree ports as every block sees them: mode and pairing (R47 to R55), PON_TXEN (R61), the timing
units of a port (R66, R123 to R126), and the per-port records of the hidden state. -/

namespace Sys2Proof.Machine

/-! Per-port records. -/

def State.tport (s : State) (n : Nat) : TpaPort := s.tpa.port.look {} n
def State.setTport (s : State) (n : Nat) (p : TpaPort) : State :=
  { s with tpa := { s.tpa with port := s.tpa.port.put {} n p } }
def State.bport (s : State) (n : Nat) : BrxPort := s.brx.port.look {} n
def State.setBport (s : State) (n : Nat) (p : BrxPort) : State :=
  { s with brx := { s.brx with port := s.brx.port.put {} n p } }
def State.gport (s : State) (n : Nat) : GntPort := s.gnt.port.look {} n
def State.setGport (s : State) (n : Nat) (p : GntPort) : State :=
  { s with gnt := { s.gnt with port := s.gnt.port.put {} n p } }
def State.rport (s : State) (n : Nat) : RngPort := s.rng.port.look {} n
def State.setRport (s : State) (n : Nat) (p : RngPort) : State :=
  { s with rng := { s.rng with port := s.rng.port.put {} n p } }
def State.term (s : State) (n l : Nat) : Term := s.rng.term.look {} (512 * n + l)
def State.setTerm (s : State) (n l : Nat) (t : Term) : State :=
  { s with rng := { s.rng with term := s.rng.term.put {} (512 * n + l) t } }
/-- The memory entry of local index l of port n (Table 03.1). -/
def State.ent (s : State) (n l : Nat) : MemEnt := s.brx.ents.look {} (512 * n + l)
def State.setEnt (s : State) (n l : Nat) (e : MemEnt) : State :=
  { s with brx := { s.brx with ents := s.brx.ents.put {} (512 * n + l) e } }

/-! Mode and pairing. -/

/-- TPA_n_MODE.MODE: 0 Off, 1 50G-PON, 2 XGS-PON (Table 02.1). -/
def State.portMode (s : State) (n : Nat) : Nat := s.fld (Reg.TPA_MODE n) 1 0

/-- The port is in XGS-PON mode. -/
def State.xgs (s : State) (n : Nat) : Bool := s.portMode n == 2

/-- MODE_ERR: reserved MODE, or no upstream rate in 50G-PON mode (R47, R49). -/
def State.modeErr (s : State) (n : Nat) : Bool :=
  s.portMode n == 3 || (s.portMode n == 1 && s.fld (Reg.TPA_MODE n) 5 3 == 0)

/-- The other port of n's pair of adjacent ports. -/
def pairOf (n : Nat) : Nat := if n % 2 = 0 then n + 1 else n - 1

/-- PAIR is set on the even port of n's pair (R52). -/
def State.paired (s : State) (n : Nat) : Bool := s.bit (Reg.TPA_MODE (n - n % 2)) 6

/-- The pair is valid: one member 50G-PON, the other XGS-PON (R53). -/
def State.pairValid (s : State) (n : Nat) : Bool :=
  s.paired n && ((s.portMode n == 1 && s.portMode (pairOf n) == 2) || (s.portMode n == 2 && s.portMode (pairOf n) == 1))

/-- PAIR_ERR (R53). -/
def State.pairErr (s : State) (n : Nat) : Bool := s.paired n && !s.pairValid n

/-- TPA_n_CTRL.EN. -/
def State.en (s : State) (n : Nat) : Bool := s.bit (Reg.TPA_CTRL n) 0

/-- TPA_n_STATUS.DRAINED. -/
def State.drained (s : State) (n : Nat) : Bool := s.bit (Reg.TPA_STATUS n) 0

/-- TPA_n_STATUS.DFR_RUN. -/
def State.dfrRun (s : State) (n : Nat) : Bool := s.bit (Reg.TPA_STATUS n) 1

/-- A write that R100, R126 or R178 restricts is accepted: EN is 0 and DRAINED is 1. -/
def State.idlePort (s : State) (n : Nat) : Bool := !s.en n && s.drained n

/-- PATTERN of TPA_n_PMA (R59). -/
def State.pattern (s : State) (n : Nat) : Nat := s.fld (Reg.TPA_PMA n) 15 14

/-- Protection holds the port dark: STANDBY, or TAKING before its light (Table 18.2, R549). -/
def State.heldDark (s : State) (n : Nat) : Bool :=
  s.fld (Reg.TPA_PSTAT n) 1 0 == 2 || (s.fld (Reg.TPA_PSTAT n) 1 0 == 3 && !s.prot.lit.getLsbD n)

/-- PON_TXEN of port n: the conditions of Table 02.3, with the outputs released (Table 21.5). -/
def State.txen (s : State) (n : Nat) : Bool :=
  s.outRel && s.up 0 && s.bit Reg.RCP_STATUS 3 && (s.portMode n == 1 || s.portMode n == 2) && !s.modeErr n &&
    !s.pairErr n && s.bit (Reg.TPA_CTRL n) 1 && (s.en n || s.pattern n != 0 || (s.tport n).shutting) &&
    !s.flt.fatal && !s.heldDark n

/-- The account of light sees PON_TXEN of every port as it is now (R65). -/
def State.seeLight (s : State) : State :=
  let m := BitVec.ofNat 32 ((List.range 32).map fun n => if s.txen n then 2 ^ n else 0).sum
  { s with obs := { s.obs with lit := { s.obs.lit with high := s.obs.lit.high ||| m, low := s.obs.lit.low ||| ~~~m } } }

/-- The bits of TPA_n_STATUS that show present conditions (Table 02.11). -/
def tpaView (s : State) (a : Nat) : Option Word :=
  if 0xA00000 ≤ a && a < 0xC00000 && a % 0x10000 = 8 then
    let n := (a - 0xA00000) / 0x10000
    let w := setBitW (setBitW (s.rd a) 7 (s.modeErr n)) 6 (s.pairErr n)
    some (setBitW (setBitW w 3 s.flt.fatal) 2 (s.txen n))
  else none

/-- The device leaves Quiet where it is in it: every BRX starts to wake, and a discovery window has to run on every enabled port
before the next stay (R633). -/
def State.leaveQuiet (s : State) : State :=
  if !s.quiet then s
  else
    let s : State := { s with rcp := { s.rcp with quietLeft := some (s.now : Int), needDisc := BitVec.allOnes 32 } }
    (List.range 32).foldl (fun s n => if s.en n then s.setF (Reg.BRX_STATUS n) 1 0 0 else s) (s.setB Reg.RCP_STATUS 6 false)

/-- The first millisecond after Quiet, in which RNG requests no discovery window (R633). -/
def State.justLeftQuiet (s : State) : Bool :=
  s.rcp.quietLeft.any fun (t : Int) => decide (t ≤ s.now) && decide ((s.now : Int) < t + 1000000)

/-! Rates and time units. -/

/-- A rate code of Table 03.3 is enabled on the port (R48). -/
def State.rateOn (s : State) (n rate : Nat) : Bool :=
  if s.xgs n then rate == 3
  else s.portMode n == 1 && decide (rate < 3) && s.bit (Reg.TPA_MODE n) (5 - rate)

/-- Upstream bits in one port transmit clock cycle, by rate code (02, Port modes). -/
def bitsPerCycle (rate : Nat) : Nat := match rate with
  | 0 => 160
  | 1 => 80
  | 2 => 40
  | _ => 32

/-- k: RB in one bit of a rate (R127). -/
def rbPerBit (rate : Nat) : Nat := match rate with
  | 1 => 2
  | 2 => 4
  | _ => 1

/-- The fastest and the slowest enabled rate codes of the port. -/
def State.fastRate (s : State) (n : Nat) : Nat :=
  if s.xgs n then 3 else if s.rateOn n 0 then 0 else if s.rateOn n 1 then 1 else 2
def State.slowRate (s : State) (n : Nat) : Nat :=
  if s.xgs n then 3 else if s.rateOn n 2 then 2 else if s.rateOn n 1 then 1 else 0

/-- Hundredths of an RB in one microsecond (R123): 49,766.4 or 9,953.28 RB. -/
def State.rbHundredths (s : State) (n : Nat) : Nat := if s.xgs n then 995328 else 4976640

/-- Microseconds in RB, rounded down (R131): 49,766.4 or 9,953.28 RB per microsecond. -/
def State.usToRb (s : State) (n us : Nat) : Nat :=
  if s.xgs n then us * 995328 / 100 else us * 497664 / 10

/-- RB in one port transmit clock cycle. -/
def State.rbPerCycle (s : State) (n : Nat) : Nat := if s.xgs n then 32 else 160

/-- TEQ in RB (R124). -/
def State.teq (s : State) (n : Nat) : Nat :=
  s.fld (Reg.RNG_CTRL n) 5 0 * (if s.xgs n then 248832 else 1244160)

/-- TEQ in nanoseconds. -/
def State.teqNs (s : State) (n : Nat) : Nat := s.fld (Reg.RNG_CTRL n) 5 0 * 25000

/-- RTD_MIN and RTD_MAX in RB (R131). -/
def State.rtdMin (s : State) (n : Nat) : Nat := s.usToRb n (s.fld (Reg.RNG_DISC n) 9 0)
def State.rtdMax (s : State) (n : Nat) : Nat := s.usToRb n (s.fld (Reg.RNG_DISC n) 25 16)

/-- PD, the preassigned delay, in RB (R131). -/
def State.pd (s : State) (n : Nat) : Int := (s.teq n : Int) - s.rtdMin n

/-- Cycles of one frame (05, Calendar pages). -/
def frameCycles : Nat := 38880

/-- ⌈a ÷ b⌉. -/
def cdiv (a b : Nat) : Nat := (a + b - 1) / b

/-- The superframe counter (R271). -/
def State.sfc (s : State) : Nat := (s.rd Reg.DFR_SFC_LO).toNat + 2 ^ 32 * s.fld Reg.DFR_SFC_HI 18 0

/-! Instants of the frame tick. -/

/-- FT_OFFSET. -/
def State.ftOffset (s : State) : Nat := s.fld Reg.DFR_FT_OFFSET 16 0

/-- The last instant of the grid of R270 at or before the clock. -/
def State.ftBase (s : State) : Int := (s.now : Int) - ((s.now + 125000 - s.ftOffset) % 125000 : Nat)

/-- FT of a superframe number near the present one, before or after it; the counter wraps (R270, R271). -/
def State.ftAt (s : State) (frame : Nat) : Int :=
  s.ftBase + 125000 * signedN 51 ((frame + 2 ^ 51 - s.sfc) % 2 ^ 51)

/-- One counted refused write of a TPA register. -/
def State.tpaRefused (s : State) (n : Nat) : State := s.inc (Reg.TPA_CNT_REFUSED n)

/-! Uplink ports and their lanes (16). -/

/-- One quad of the octet of quad q holds code 0x4 and the other does not: both behave as Off (R478). -/
def State.loneHalf (s : State) (q : Nat) : Bool :=
  (s.fld (Reg.UPL_Q (q - q % 2)) 2 0 == 4) != (s.fld (Reg.UPL_Q (q - q % 2 + 1)) 2 0 == 4)

/-- MODE of a quad as it behaves: reserved codes and an octet with one half at 800GbE behave as Off (R477, R478). -/
def State.quadMode (s : State) (q : Nat) : Nat :=
  let m := s.fld (Reg.UPL_Q q) 2 0
  if m ≤ 4 && !s.loneHalf q then m else 0

/-- Lanes of the port whose lowest lane is u; 0 when u is not the lowest lane of a port (Table 16.1, R479). -/
def State.portLanes (s : State) (u : Nat) : Nat :=
  match s.quadMode (u / 4) with
  | 1 => 1
  | 2 => if u % 2 = 0 then 2 else 0
  | 3 => if u % 4 = 0 then 4 else 0
  | 4 => if u % 8 = 0 then 8 else 0
  | _ => 0

/-! Per-port registers of a lane that is not a port's lowest are unused (R479). -/

/-- The lane that a per-port register of UPL, CRY or TMG names: TMG_UPQ_u_o and the node TMG_ND_(32 + u) of a port too (R432,
R479). -/
def laneOf (a : Nat) : Option Nat :=
  if 0x2201000 ≤ a && a < 0x2202800 then some ((a - 0x2201000) / 0x100)
  else if 0x2001000 ≤ a && a < 0x2001600 then some ((a - 0x2001000) / 64)
  else if 0x1C01400 ≤ a && a < 0x1C01700 then some ((a - 0x1C01400) / 32)
  else if 0x1C00400 ≤ a && a < 0x1C00A60 then some ((a - 0x1C00400) / 68)
  else if 0x1CE0080 ≤ a && a < 0x1CE00E0 then some ((a - 0x1CE0080) / 4)
  else if 0x1C04200 ≤ a && a < 0x1C04380 then some ((a - 0x1C04200) / 16)
  else if 0x1C10000 ≤ a && a < 0x1C16000 then some ((a - 0x1C10000) / 1024)
  else if 0x1C28000 ≤ a && a < 0x1C2E000 then some ((a - 0x1C28000) / 1024)
  else none

def State.unusedLane (s : State) (a : Nat) : Bool := (laneOf a).any fun u => s.portLanes u == 0

/-! Performance monitoring (10). -/

/-- The second of the precision clock. -/
def State.nowSec (s : State) : Nat := s.now / 1000000000

/-- An entity is enabled, disabled or reset in the present second: the bins that contain it are PARTIAL (R348). -/
def State.pmPartial (s : State) (en : Nat) : State :=
  let l := s.tce.marks.look [] en
  if s.up 7 && !l.contains s.nowSec then { s with tce := { s.tce with marks := s.tce.marks.put [] en (l ++ [s.nowSec]) } } else s

/-- A codeword that the decoder needs this many iterations for is correctable: within MAX_ITER in 50G-PON mode (R300); none is one
that no number of iterations corrects. -/
def State.correctable (s : State) (n : Nat) (need : Option (Fin 16)) : Bool :=
  match need with
  | none => false
  | some i => s.xgs n || decide (i.val ≤ s.fld (Reg.UDF_n_CTRL n) 3 0)

end Sys2Proof.Machine
end

