-- ==== Sys2Proof/Machine/Cross.lean ====
section
/-! DEFINITION. The crossings between planes (01 R20 to R26, R46, Table 01.9): each has a queue of whole items and the
producer's credits; an item arrives when DCQ_ITEM_VISIBLE makes it visible, and a copy of another plane's state is what has
arrived. The registers and memories of BRX, TPA and GNT that such copies show are read by the other plane only through
them. -/

namespace Sys2Proof.Machine

/-! The queues. The number of a queue is 32 × crossing + port: 0 results, 1 expect, 2 memory, 3 port, 4 streams,
5 messages, 6 counts, 7 tods, 8 stamps, 9 wipes. DESIGN CHOICE: R149, R150, R470 and R556 need DLM_WIN and a member's state and DIFF in RNG
and the end of a terminal's keys in CRY, and Table 01.9 lists no crossing for them; they go by 0, 3 and 9 (log 71). -/

/-- The producer of a crossing, as its number in Table 01.1. -/
def crossBlk (c : Nat) : Nat := match c with
  | 0 | 2 => 2
  | 1 | 9 => 3
  | 3 => 1
  | 5 | 6 => 7
  | 7 => 16
  | 8 => 6
  | _ => 4

/-- The blocks at the two ends of a crossing, by RCP_BLK_RST bit. -/
def crossEnds (c : Nat) : List Nat := match c with
  | 0 | 1 => [1, 2]
  | 2 => [1, 3]
  | 3 => [0, 2, 3]
  | 5 => [2, 6]
  | 7 | 8 => [5, 15]
  | 9 => [2, 13]
  | _ => [3, 6]

/-- Both ends of a crossing are out of reset. -/
def State.crossUp (s : State) (c : Nat) : Bool := (crossEnds c).all s.up

def State.crossing (s : State) (q : Nat) : Dcq := s.dcq.look {} q
def State.setCrossing (s : State) (q : Nat) (d : Dcq) : State := { s with dcq := s.dcq.put {} q d }

/-- The credit ledger of a queue after a change: credits held + items in flight = limit, so that the credits spent are the
items in flight (Table 01.6); a mismatch is an event of source 14 with its record (R30, R32, R611). -/
def State.creditCheck (s : State) (blk queue used flying : Nat) : State :=
  if used = flying then s
  else s.raiseWith 14 blk false
    (some { blk := blk, queue := queue, diff := BitVec.ofInt 32 ((flying : Int) - used), time := s.now40 })

/-- A queue after a change of its credits, with the ledger's check. -/
def State.settleQueue (s : State) (q : Nat) (d : Dcq) : State :=
  (s.setCrossing q d).creditCheck (crossBlk (q / 32)) q d.used d.items.length

/-- Credits of a queue of a crossing: at least one (R20). -/
def slots (c : Nat) : Nat := 1 + Config.queueSlots c

/-- Both key slots of a terminal empty, and any pending switch cancelled (R470). -/
def State.wipeKeys (s : State) (t : Nat) : State :=
  let s := { s with cry := { s.cry with
    tkeys := (s.cry.tkeys.drop (2 * t)).drop (2 * t + 1), switches := s.cry.switches.drop t } }
  (((s.wr (Reg.CRY_TK t 0) 0).wr (Reg.CRY_TK t 1) 0).wr (Reg.CRY_TK t 2) 0).wr (Reg.CRY_TK t 3) 0

/-- What an item does to what its consumer holds. Kinds of bursts and serial numbers are handled as they come (`consume`), and the
invalidation of an entry in BRX. -/
def State.arrive (s : State) (c n : Nat) (i : DcqItem) : State :=
  match i with
  | .inval _ | .kinds .. | .serial _ => s
  | .counts f x => s.setGport n { s.gport n with pages := (s.gport n).pages.map fun g =>
      if g.frame == f && g.counts.isNone then { g with counts := some x } else g }
  | .tod x =>
    let d := s.dfr.port.look {} n
    { s with dfr := { s.dfr with port := s.dfr.port.put {} n { d with tods := d.tods ++ [x] } } }
  | .wipe l => s.wipeKeys (512 * n + l)
  | .result r => s.setRport n { s.rport n with
      results := (s.rport n).results ++ [r]
      flying := if r.ranging then (s.rport n).flying.filter fun x => x != r.l else (s.rport n).flying }
  | .expect l e => { s with brx := { s.brx with expect := s.brx.expect.put {} (512 * n + l) e } }
  | .mem l e => { s with gnt := { s.gnt with ents := s.gnt.ents.put {} (512 * n + l) e } }
  | .ploam l d => s.setRport n { s.rport n with heard := (s.rport n).heard ++ [(l, d)] }
  | .ms v => { s with gnt := { s.gnt with ms := s.gnt.ms.put 0 n v } }
  | .reg a v =>
    if c = 4 then { s with udf := { s.udf with strs := s.udf.strs.put (resetWord a) a v } }
    else if c = 8 then { s with tsu := { s.tsu with copy := s.tsu.copy.put (resetWord a) a v } }
    else if c = 0 then { s with rng := { s.rng with copy := s.rng.copy.put (resetWord a) a v } }
    else
      let s1 : State := { s with gnt := { s.gnt with copy := s.gnt.copy.put (resetWord a) a v } }
      if c = 3 then { s1 with rng := { s1.rng with copy := s1.rng.copy.put (resetWord a) a v } } else s1

/-- The item carries a value of which its consumer keeps a copy. -/
def DcqItem.isCopy : DcqItem → Bool
  | .expect .. | .mem .. | .ms _ | .reg .. => true
  | _ => false

/-- The producer writes an item, for which it spends a credit; where it holds none, the item waits in the producer's domain (R20). DESIGN CHOICE: while an end is in reset the queue stays empty, and a
copy takes its value at once, so that it is the present one at the release (log 71). -/
def State.cross (s : State) (c n : Nat) (i : DcqItem) : State :=
  if s.crossUp c then
    let d := s.crossing (32 * c + n)
    if d.used = 0 ∨ d.used < slots c then s.settleQueue (32 * c + n) { d with items := d.items ++ [i], used := d.used + 1 }
    else s.setCrossing (32 * c + n) { d with wait := d.wait ++ [i] }
  else if i.isCopy then s.arrive c n i
  else s

/-- The queue after its oldest item is taken: the credit returns, and what has waited longest for one is written with it. -/
def Dcq.take1 (d : Dcq) : Dcq :=
  match d.wait with
  | [] => { items := d.items.drop 1, used := d.used - 1 }
  | w :: r => { items := d.items.drop 1 ++ [w], used := d.used - 1 + 1, wait := r }

/-- The oldest item becomes visible, is taken, and its credit returns (R20, R21). -/
def State.crossVisible (s : State) (c n : Nat) : State :=
  let d := s.crossing (32 * c + n)
  match d.items with
  | [] => s
  | i :: _ => (s.settleQueue (32 * c + n) d.take1).arrive c n i

/-- A queue of one port emptied, its credits restored. -/
def State.emptyQueue (s : State) (c n : Nat) : State := { s with dcq := s.dcq.drop (32 * c + n) }

/-- The producer sends the present word of a register. -/
def State.tell (s : State) (c n a : Nat) : State := s.cross c n (.reg a (s.rd a))

/-- A memory entry takes a value, and GNT's copy is told of it (R180). -/
def State.putEnt (s : State) (n l : Nat) (e : MemEnt) : State := (s.setEnt n l e).cross 2 n (.mem l e)

/-! What the control plane sees of the data plane. -/

/-- Registers of TPA and BRX of which GNT keeps a copy, and of TPA of which RNG does (R180, Table 01.9). -/
def tpaCopied (a : Nat) : Bool :=
  let o := a % 0x10000
  decide (0xA00000 ≤ a) && decide (a < 0xC00000) && (decide (o ≤ 8) || o == 0x9000 || o == 0x900C)
def brxCopied (a : Nat) : Bool :=
  let o := a % 0x10000
  decide (0xC00000 ≤ a) && decide (a < 0xE00000) && (o == 0 || o == 8 || (decide (0x10 ≤ o) && decide (o < 0x20)))

/-- Registers of port n and of its pair as a copy shows them. -/
def State.overlay (s : State) (copy : Tab Word) (as : List Nat) : State :=
  as.foldl (fun t a => t.wr a (copy.look (resetWord a) a)) s

def tpaRegs (n : Nat) : List Nat :=
  [Reg.TPA_MODE n, Reg.TPA_MODE (pairOf n), Reg.TPA_CTRL n, Reg.TPA_STATUS n, Reg.TPA_PROT n, Reg.TPA_PSTAT n]

/-- The state as GNT sees it for port n: TPA's and BRX's values are those of its copy (R46, R180). -/
def State.gntSees (s : State) (n : Nat) : State :=
  let t := s.overlay s.gnt.copy (tpaRegs n ++
    [Reg.BRX_CTRL n, Reg.BRX_GUARD n, Reg.BRX_PROF n 0, Reg.BRX_PROF n 1, Reg.BRX_PROF n 2, Reg.BRX_PROF n 3])
  { t with brx := { t.brx with ents := s.gnt.ents, ms := s.gnt.ms.look 0 n } }

/-- The state as RNG sees it for port n: the values of TPA and BRX are those of its copy (R46). -/
def State.rngSees (s : State) (n : Nat) : State := s.overlay s.rng.copy (tpaRegs n ++ [Reg.BRX_ADAPT n])

/-- FT_PHASE of port n as TSU sees it (R46). -/
def State.tsuPhase (s : State) (n : Nat) : Int := (s.tsu.copy.look (resetWord (Reg.DFR_n_FT_PHASE n)) (Reg.DFR_n_FT_PHASE n)).toInt

/-- Word 1 of a grant-stream entry as UDF sees it (R46, R166, R312). -/
def State.udfStr (s : State) (st : Nat) : Word := s.udf.strs.look (resetWord (Reg.GNT_STR_w1 st)) (Reg.GNT_STR_w1 st)

/-! Resets (R24). -/

/-- A queue emptied, its credits restored. -/
def State.emptyQueues (s : State) (c : Nat) : State :=
  { s with dcq := s.dcq.filter fun x => x.1 / 32 != c }

/-- The copies that a crossing carries take the values of their owner as they stand. -/
def State.recopy (s : State) (c : Nat) : State :=
  match c with
  | 0 => { s with rng := { s.rng with
      copy := (s.rng.copy.filter fun x => tpaCopied x.1) ++ s.regs.filter fun x =>
        decide (0xC00000 ≤ x.1) && decide (x.1 < 0xE00000) && x.1 % 0x10000 == 4 } }
  | 2 => { s with gnt := { s.gnt with
      ents := s.brx.ents
      copy := (s.gnt.copy.filter fun x => tpaCopied x.1) ++ s.regs.filter fun x => brxCopied x.1
      ms := if s.brx.ms = 0 then [] else (List.range 32).map fun n => (n, s.brx.ms) } }
  | 3 =>
    let tpa := s.regs.filter fun x => tpaCopied x.1
    { s with gnt := { s.gnt with copy := tpa ++ s.gnt.copy.filter fun x => brxCopied x.1 }
             rng := { s.rng with copy := tpa ++ s.rng.copy.filter fun x => !tpaCopied x.1 } }
  | 8 => { s with tsu := { s.tsu with
      copy := s.regs.filter fun x => decide (0x1410000 ≤ x.1) && decide (x.1 < 0x1418000) && x.1 % 1024 == 8 } }
  | 4 => { s with udf := { s.udf with
      strs := s.regs.filter fun x => decide (0x1100000 ≤ x.1) && decide (x.1 < 0x1180000) && x.1 % 8 == 4 } }
  | _ => s

/-- After a reset of block b the queues of its crossings are empty, and the copies they carry are the present values (R24; log 71). -/
def State.resync (s : State) (b : Nat) : State :=
  ((List.range 10).filter fun c => (crossEnds c).contains b).foldl (fun s c => (s.emptyQueues c).recopy c) s

end Sys2Proof.Machine
end

