-- ==== Sys2Proof/Machine/Calendar.lean ====
section
/-! DEFINITION. The grant calendar (05): streams and windows, bursts and their spans, the checks of a calendar write,
placement by GNT, the seal, demotion and the ledger record; with the warm test and the profiles of BRX (03) that they
rest on. -/

namespace Sys2Proof.Machine

/-! Grant streams (Table 05.2) and terminals (Table 00.5). -/

def strPort (st : Nat) : Nat := st / 2048
def strLocal (st : Nat) : Nat := st / 4 % 512
def State.strEn (s : State) (st : Nat) : Bool := s.bit (Reg.GNT_STR_w1 st) 31
def State.strSS (s : State) (st : Nat) : Bool := s.bit (Reg.GNT_STR_w1 st) 30
def State.strRate (s : State) (st : Nat) : Nat := s.fld (Reg.GNT_STR_w1 st) 21 20
def State.strMaxg (s : State) (st : Nat) : Nat := s.fld (Reg.GNT_STR_w0 st) 31 12
/-- The stream lies in tenant t's share (Table 05.2). -/
def State.strOf (s : State) (st t : Nat) : Bool := s.bit (Reg.GNT_STR_w1 st) 26 && s.fld (Reg.GNT_STR_w1 st) 25 22 == t

/-- STATE of a terminal's context (Table 04.2). -/
def State.termSt (s : State) (n l : Nat) : Nat := s.fld (Reg.RNG_CTX n l 0) 31 28

/-! Profiles and the warm test. -/

/-- The profile BRX uses at a rate for a kind: the lowest-numbered that matches (R98, Table 03.3). -/
def State.profFor (s : State) (n rate : Nat) (warm : Bool) : Option Nat :=
  (List.range 4).find? fun k =>
    s.fld (Reg.BRX_PROF n k) 31 30 == rate && s.bit (Reg.BRX_PROF n k) 29 == warm && (s.xgs n == (rate == 3))

/-- Preamble and delimiter of profile k, in bits. -/
def State.profBits (s : State) (n k : Nat) : Nat := s.fld (Reg.BRX_PROF n k) 25 12 + s.fld (Reg.BRX_PROF n k) 7 0

/-- AGE of an entry now (R91). -/
def State.ageOf (s : State) (e : MemEnt) : Nat := min (s.brx.ms - e.since) 0xFFFF

/-- The test of R95 on a terminal's entry at a rate, KIND and COLD apart. -/
def State.warmTest (s : State) (n l rate : Nat) : Bool :=
  let e := s.ent n l
  s.bit (Reg.BRX_CTRL n) 1 && e.valid && e.lastOk && e.rate == rate &&
    decide (s.ageOf e + 2 < s.fld (Reg.BRX_CTRL n) 31 16) && (s.profFor n rate true).isSome

/-- PAY of a rate on a port, in bytes per 1,024 cycles. -/
def State.pay (s : State) (n rate : Nat) : Nat := s.fld (Reg.GNT_n_PAY n rate) 23 0

def State.guard (s : State) (n : Nat) : Nat := s.fld (Reg.BRX_GUARD n) 7 0
def State.ovh (s : State) (n : Nat) : Nat := s.fld (Reg.GNT_n_CFG n) 15 8

/-- The RATE check of Table 05.6 (status 0x5). -/
def State.rateOk (s : State) (n rate : Nat) : Bool :=
  s.rateOn n rate && (s.profFor n rate false).isSome && s.pay n rate != 0

/-- Cycles of preamble and delimiter of a burst of a kind at a rate. -/
def State.headCycles (s : State) (n rate : Nat) (warm : Bool) : Nat :=
  cdiv (s.profBits n ((s.profFor n rate warm).getD 0)) (bitsPerCycle rate)

/-- F − A of a burst of g payload bytes (R177). -/
def State.burstLen (s : State) (n rate : Nat) (warm : Bool) (g : Nat) : Nat :=
  s.headCycles n rate warm + cdiv ((s.ovh n + g) * 1024) (s.pay n rate)

/-! Bursts of a page. -/

/-- The bursts of a page: each head entry with its CONT entries (R177). -/
def burstsOf : List CalEnt → List (List CalEnt)
  | [] => []
  | e :: t => match burstsOf t with
    | (h :: r) :: bs => if h.cont then (e :: h :: r) :: bs else [e] :: (h :: r) :: bs
    | bs => [e] :: bs

/-- The head of a burst. -/
def headOf (b : List CalEnt) : CalEnt := b.headD {}

/-- Some entry of the burst is not void. -/
def liveBurst (b : List CalEnt) : Bool := b.any fun e => !e.void

/-- G: the bytes of the entries that are not void. -/
def grantOf (b : List CalEnt) : Nat := (b.map fun e => if e.void then 0 else e.grant).sum

/-- The page of a frame, if live. -/
def GntPort.page (p : GntPort) (frame : Nat) : Option Page := p.pages.find? fun g => g.frame == frame

def State.page (s : State) (n frame : Nat) : Option Page := (s.gport n).page frame

/-- Replacing the page of the same frame. -/
def GntPort.setPage (p : GntPort) (g : Page) : GntPort :=
  { p with pages := p.pages.map fun x => if x.frame == g.frame then g else x }

def State.setPage (s : State) (n : Nat) (g : Page) : State := s.setGport n ((s.gport n).setPage g)

/-- Burst k of a page. -/
def Page.burst (g : Page) (k : Nat) : Option (List CalEnt) := (burstsOf g.ents)[k]?

/-- The page is sealed (closed or final). -/
def Page.sealed (g : Page) : Bool := g.st != .opened

/-- What occupies cycles of a page, shifted by off cycles: live bursts, windows and reservations. -/
def Page.items (g : Page) (off : Int) : List (Int × Int) :=
  ((burstsOf g.ents).filter liveBurst).map (fun b => ((headOf b).first + off, ((headOf b).fin : Int) + off)) ++
    g.resv.map fun r => (r.1 + off, (r.2 : Int) + off)

/-- The span from a to f, widened by g cycles on each side, touches an item. -/
def touches (g : Nat) (a f : Int) (i : Int × Int) : Bool := !(decide (a - g ≥ i.2) || decide (i.1 ≥ f + g))

/-- A quiet horizon sealed in an earlier page covers the frame (R191). -/
def GntPort.covered (p : GntPort) (frame : Nat) : Bool :=
  p.horizon.any fun h => decide (h.1 < frame) && decide (frame ≤ h.2)

/-! Scheduled-service windows (R196, Table 05.8). -/

/-- Enabled windows, by number. -/
def State.liveWindows (s : State) : List Nat :=
  (s.regs.filter fun e => decide (0x1080004 ≤ e.1) && decide (e.1 < 0x1084000) && e.1 % 8 == 4 && e.2.getLsbD 31).map
    fun e => (e.1 - 0x1080004) / 8

def State.wStream (s : State) (w : Nat) : Nat := s.fld (Reg.GNT_SSW_w1 w) 15 0
def State.wOffset (s : State) (w : Nat) : Nat := s.fld (Reg.GNT_SSW_w0 w) 31 16
def State.wGrant (s : State) (w : Nat) : Nat := 4 * s.fld (Reg.GNT_SSW_w0 w) 15 0
def State.wEvery (s : State) (w : Nat) : Nat :=
  if s.fld (Reg.GNT_SSW_w1 w) 30 25 = 0 then 64 else s.fld (Reg.GNT_SSW_w1 w) 30 25
def State.wPhase (s : State) (w : Nat) : Nat := s.fld (Reg.GNT_SSW_w1 w) 24 19

/-- The terminal may have grants of its streams: OPER or LOST (R151). -/
def State.grantable (s : State) (st : Nat) : Bool :=
  s.termSt (strPort st) (strLocal st) == 2 || s.termSt (strPort st) (strLocal st) == 3

/-- Window w of port n is due in a frame (R196), and its terminal is in OPER or LOST (R151). DESIGN CHOICE: a window that only R151
keeps out is counted nowhere, as one whose stream has EN = 0 (log 70). -/
def State.windowDue (s : State) (n frame w : Nat) : Bool :=
  let st := s.wStream w
  strPort st == n && s.strEn st && s.strSS st && s.grantable st && frame % s.wEvery w == s.wPhase w % s.wEvery w

/-- End of a window, sized as cold (R196). -/
def State.windowEnd (s : State) (n w : Nat) : Nat :=
  s.wOffset w + (s.gntSees n).burstLen n (s.strRate (s.wStream w)) false (s.wGrant w)

/-- The RATE check of a window's stream, on GNT's copies. -/
def State.windowRateOk (s : State) (n w : Nat) : Bool := (s.gntSees n).rateOk n (s.strRate (s.wStream w))

/-- The windows due in a page not yet open, shifted. -/
def State.dueItems (s : State) (n frame : Nat) (off : Int) : List (Int × Int) :=
  (s.liveWindows.filter fun w => s.windowDue n frame w && s.windowRateOk n w).map
    fun w => ((s.wOffset w : Int) + off, (s.windowEnd n w : Int) + off)

/-! Calendar writes (R181). -/

/-- Who writes: a logical engine, and the tenant whose program it runs. -/
structure Writer where
  eng : Nat
  tenant : Option Nat := none
  deriving DecidableEq, Repr

/-- The entries of KIND 0b00 in the order stored. -/
def policyEnts (g : Page) : List CalEnt := g.ents.filter fun e => e.kind == 0

/-- The burst that a write of e makes or extends: its head with CAP and OVERLAP's F filled in. At each write the kind is taken
anew, by GNT's copy of the memory (R179, R180). -/
def State.newHead (s : State) (n : Nat) (g : Page) (e : CalEnt) : CalEnt :=
  let c := s.gntSees n
  let rate := s.strRate e.stream
  let warm := c.warmTest n (strLocal e.stream) rate
  if e.cont then
    let b := (burstsOf g.ents).getLastD []
    let h := headOf b
    let warm := !h.cold && warm
    { h with asWarm := warm, fin := h.start + c.burstLen n rate warm (grantOf b + e.grant) }
  else
    let warm := !e.cold && warm
    { e with first := e.start, asWarm := warm, fin := e.start + c.burstLen n rate warm e.grant }

/-- The page with e stored: a CONT entry is appended and its burst's head takes the new F. In a held page it is void (R552). -/
def storeEnt (g : Page) (e h : CalEnt) : Page :=
  let e := { e with void := e.void || g.held }
  let h := { h with void := h.void || g.held }
  if e.cont then
    let bs := burstsOf g.ents
    { g with ents := (bs.dropLast ++ [h :: (bs.getLastD []).drop 1 ++ [e]]).flatten }
  else { g with ents := g.ents ++ [h] }

/-- The items that a burst of page g may not touch: other bursts, windows and reservations of the page, and the bursts
of pages P − 1 and P + 1 (Table 05.6, OVERLAP). -/
def State.overlapItems (s : State) (n : Nat) (g : Page) (cont : Bool) : List (Int × Int) :=
  let own := if cont then { g with ents := ((burstsOf g.ents).dropLast).flatten } else g
  let before := match s.page n (g.frame - 1) with
    | some b => if 0 < g.frame then b.items (-frameCycles) else []
    | none => []
  let after := match s.page n (g.frame + 1) with
    | some b => b.items frameCycles
    | none => []
  own.items 0 ++ before ++ after

/-- The first failing check of Table 05.6 for a write of e into the page of a frame; 0 is OK. -/
def State.calCheck (s : State) (n frame : Nat) (wr : Writer) (e : CalEnt) : Nat :=
  match s.page n frame with
  | none => 1
  | some g =>
    let rate := s.strRate e.stream
    let prev := (policyEnts g).getLast?
    let prevHead := ((policyEnts g).filter fun x => !x.cont).getLast?
    let h := s.newHead n g e
    let sum := ((g.ents.filter fun x => x.stream == e.stream && !x.void).map (·.grant)).sum
    let c := s.gntSees n
    if g.sealed then 1
    else if g.owner != wr.eng then 2
    else if (wr.tenant.any fun t => !s.strOf e.stream t) then 3
    else if !s.strEn e.stream || !(s.termSt n (strLocal e.stream) == 2 || s.termSt n (strLocal e.stream) == 3) then 4
    else if !c.rateOk n rate then 5
    else if e.cont && !(prev.any fun p => p.stream / 4 == e.stream / 4 && s.strRate p.stream == rate) then 6
    else if !e.cont && (prevHead.any fun p => decide (e.start < p.start)) then 7
    else if 512 ≤ g.ents.length then 8
    else if s.strMaxg e.stream < sum + e.grant then 9
    else if frameCycles < h.fin then 10
    else if (s.overlapItems n g e.cont).any (touches (c.guard n) h.first h.fin) then 11
    else if (s.gport n).covered frame then 12
    else 0

/-- A calendar write: its status, and the state after it (R181, R182). -/
def State.calWrite (s : State) (n frame : Nat) (wr : Writer) (e : CalEnt) : Nat × State :=
  let c := s.calCheck n frame wr e
  if c = 0 then
    match s.page n frame with
    | none => (1, s)
    | some g => (0, s.setPage n (storeEnt g e (s.newHead n g e)))
  else (c, s.inc (Reg.GNT_n_CNT_ST n (c - 1)))

/-! Placement by GNT at a page's opening (R185 to R187, R196). -/

/-- The due windows placed in order of their numbers. -/
def State.placeWindows (s : State) (n : Nat) (g : Page) : List Nat → Page × State
  | [] => (g, s)
  | w :: ws =>
    if !s.windowDue n g.frame w then s.placeWindows n g ws
    else
      let st := s.wStream w
      if !s.windowRateOk n w then (s.inc (Reg.GNT_n_CNT_ST n 4)).placeWindows n g ws
      else
        let f := s.windowEnd n w
        if g.resv.any fun r => touches ((s.gntSees n).guard n) (s.wOffset w) f (r.1, (r.2 : Int)) then
          (s.inc (Reg.GNT_n_CNT_ST n 10)).placeWindows n g ws
        else
          let e : CalEnt :=
            { stream := st, start := s.wOffset w, grant := s.wGrant w, kind := 3, first := s.wOffset w, fin := f }
          s.placeWindows n { g with ents := g.ents ++ [e] } ws

/-- Frames into which a span may run. -/
def spanFrames : List Nat := [1, 2, 3, 4, 5, 6, 7, 8, 9]

/-- What a span placed in page g may not touch: the page's items, those of page P − 1, which a span that begins before its
START can reach (R139), and in later pages the reservations carried and the windows that will be placed (R186). -/
def State.spanItems (s : State) (n : Nat) (g : Page) : List (Int × Int) :=
  let before := match s.page n (g.frame - 1) with
    | some b => if 0 < g.frame then b.items (-frameCycles) else []
    | none => []
  g.items 0 ++ before ++ (spanFrames.map fun j =>
    let off : Int := (frameCycles * j : Nat)
    (((s.gport n).carry.filter fun r => r.1 == g.frame + j).map fun r => (r.2.1 + off, (r.2.2 : Int) + off)) ++
      s.dueItems n (g.frame + j) off).flatten

/-- The lowest cycle c ≥ GUARD at which the span from c + lo to c + hi fits (R186). -/
def fitAt (g : Nat) (lo hi : Int) (items : List (Int × Int)) : Option Nat :=
  let cands := g :: (items.map fun i => (i.2 + g - lo).toNat)
  let ok := cands.filter fun c => decide (g ≤ c) && decide (c < frameCycles) &&
    !items.any (touches g (c + lo) (c + hi))
  ok.foldl (fun m c => match m with
    | none => some c
    | some x => some (min x c)) none

/-- Carrying the part of a span beyond the page into the following pages (R186). -/
def carryOf (frame : Nat) (a f : Int) : List (Nat × Int × Nat) :=
  (spanFrames.filter fun j => decide ((frameCycles * j : Nat) < f)).filterMap fun j =>
    let off : Int := (frameCycles * j : Nat)
    let a' := max 0 (a - off)
    let f' := min frameCycles (f - off).toNat
    if a' < f' then some (frame + j, a', f') else none

/-- δ_exp of a terminal in RANGING, in RB (R139). -/
def State.deltaExp (s : State) (n l : Nat) : Int :=
  let c := s.rngSees n
  (s.term n l).prov + c.pd n - c.teq n

/-- RNG_WIN in RB (Table 04.8). -/
def State.rngWin (s : State) (n : Nat) : Nat := 256 * s.fld (Reg.RNG_TRACK n) 7 0

/-- First and last cycle of the span of a ranging grant, from its START (R139). -/
def State.rngSpan (s : State) (n l : Nat) : Int × Int :=
  let d := s.deltaExp n l
  let w : Int := s.rngWin n
  let c := s.rngSees n
  let per : Int := c.rbPerCycle n
  ((d - w) / per, ((d + w) * 100 + c.rbHundredths n + 100 * per - 1) / (100 * per))

/-- Placing one entry that GNT makes, with what it carries over. -/
def State.placeSpan (s : State) (n : Nat) (g : Page) (e : CalEnt) (c : Nat) (lo hi : Int) : Page × State :=
  let a : Int := c + lo
  let f : Int := c + hi
  let p := s.gport n
  ({ g with ents := g.ents ++ [{ e with start := c, first := a, fin := f.toNat }] },
    s.setGport n { p with carry := p.carry ++ carryOf g.frame a f })

/-- The pending ranging grant, or else the pending discovery window (R185, R187). Neither is placed while no cold profile has the
slowest enabled rate (R98, R134). DESIGN CHOICE: what is refused so stays pending, and counts with status 5 (log 70). -/
def State.placePending (s : State) (n : Nat) (g : Page) : Page × State :=
  let p := s.gport n
  let c := s.gntSees n
  if p.covered g.frame || (p.rngQ.isEmpty && p.disc.isNone) then (g, s)
  else if (c.profFor n (c.slowRate n) false).isNone then (g, s.inc (Reg.GNT_n_CNT_ST n 4))
  else
    let items := s.spanItems n g
    let disc := fun (g : Page) (s : State) => match p.disc with
      | none => (g, s)
      | some w => match fitAt (c.guard n) 0 w items with
        | none => (g, s.inc (Reg.GNT_n_CNT_DEFER n))
        | some x =>
          let (g1, s1) := s.placeSpan n g { stream := 2048 * n, kind := 2, ploam := true } x 0 w
          (g1, s1.setGport n { s1.gport n with disc := none })
    match p.rngQ with
    | [] => disc g s
    | l :: rest =>
      let (lo, hi) := s.rngSpan n l
      match fitAt (c.guard n) lo hi items with
      | none => disc g (s.inc (Reg.GNT_n_CNT_DEFER n))
      | some x =>
        let (g1, s1) := s.placeSpan n g { stream := 2048 * n + 4 * l, kind := 1, ploam := true } x lo hi
        (g1, s1.setGport n { s1.gport n with rngQ := rest })

/-- FT(P − 2): page P of port n opens when EN is 1, as GNT sees it (R174, R184, R185). -/
def State.openPage (s : State) (n frame : Nat) : State :=
  if !(s.gntSees n).en n || (s.page n frame).isSome then s
  else
    let p := s.gport n
    let g : Page := { frame := frame, owner := s.fld (Reg.GNT_n_CFG n) 27 24, lead := s.fld Reg.GNT_CTRL 23 16
                      resv := (p.carry.filter fun r => r.1 == frame).map (·.2) }
    let s := s.setGport n { p with carry := p.carry.filter fun r => decide (frame < r.1) }
    let (g, s) := s.placeWindows n g s.liveWindows
    let (g, s) := s.placePending n g
    s.setGport n { s.gport n with pages := (s.gport n).pages ++ [g] }

/-! The seal (R183, R191, R193). -/

/-- A page of the quiet horizon may hold nothing (R191). -/
def State.quietPage (s : State) (n frame : Nat) : Bool :=
  let p := s.gport n
  let live := p.page frame
  let due := match live with
    | some g => g.ents.any fun e => e.kind != 0
    | none => s.liveWindows.any fun w => s.windowDue n frame w && s.windowRateOk n w
  let resv := match live with
    | some g => !g.resv.isEmpty
    | none => p.carry.any fun r => r.1 == frame
  !due && !resv && (p.rngQ.isEmpty || live.isSome)

/-- QH reduced to the largest value that R191 allows. -/
def State.allowedQh (s : State) (n frame h : Nat) : Nat :=
  (((List.range h).takeWhile fun i => s.quietPage n (frame + 1 + i))).length

/-- Sealing an open page with a quiet horizon. -/
def State.sealPage (s : State) (n : Nat) (g : Page) (qh : Nat) : State :=
  let h := s.allowedQh n g.frame qh
  let s := s.incIf (decide (h < qh)) (Reg.GNT_n_CNT_QH_CUT n)
  let s := s.setPage n { g with st := .closed, qh := h }
  let p := s.gport n
  let late := (s.bport n).plans.any fun x => x.1 == g.frame
  let s := if 0 < h then
      s.setGport n { p with horizon := (p.horizon.filter fun x => decide (g.frame < x.2 + 16)) ++ [(g.frame, g.frame + h)] }
    else s
  s.incIf late (Reg.BRX_CNT_LATE_PAGE n)

/-- A seal by an engine: 0 OK, 1 LATE, 2 OWNER (R183). -/
def State.sealBy (s : State) (n frame qh : Nat) (eng : Nat) : Nat × State :=
  match s.page n frame with
  | none => (1, s)
  | some g => if g.sealed then (1, s) else if g.owner != eng then (2, s) else (0, s.sealPage n g qh)

/-- A page without the policy's entries. -/
def Page.stripped (g : Page) : Page := { g with ents := g.ents.filter fun e => e.kind != 0 }

/-- Entries copied by REPEAT, each checked as a write of the page's owner (Table 05.7). -/
def State.repeatEnts (s : State) (n frame owner : Nat) : List CalEnt → State
  | [] => s
  | e :: t =>
    let e' : CalEnt :=
      { stream := e.stream, start := e.start, grant := e.grant, cont := e.cont, cold := e.cold, dbru := e.dbru
        ploam := e.ploam }
    let (_, s1) := s.calWrite n frame ⟨owner, none⟩ e'
    s1.repeatEnts n frame owner t

/-- A page still open at its seal deadline (R193). -/
def State.missPage (s : State) (n : Nat) (g : Page) : State :=
  let s := s.inc (Reg.GNT_n_CNT_MISS n)
  let pol := s.fld (Reg.GNT_n_CFG n) 17 16
  let s := match pol with
    | 2 => s
    | 1 =>
      let s := s.setPage n g.stripped
      match (if g.frame = 0 then none else s.page n (g.frame - 1)) with
      | none => s
      | some b => s.repeatEnts n g.frame g.owner (policyEnts b)
    | _ => s.setPage n g.stripped
  match s.page n g.frame with
  | none => s
  | some g => s.sealPage n g 0

/-! Kinds and demotion (R95, R96, R188). -/

/-- Taking r bytes from the entries of a burst, last entry first. -/
def takeBytes : List CalEnt → Nat → List CalEnt × Nat
  | [], r => ([], r)
  | e :: t, r =>
    let (t', r') := takeBytes t r
    if e.void then (e :: t', r') else ({ e with grant := e.grant - r' } :: t', r' - e.grant)

/-- Rate code of a burst: its stream's, or that of R134 for ranging and discovery. -/
def State.burstRate (s : State) (n : Nat) (h : CalEnt) : Nat :=
  if h.kind = 1 || h.kind = 2 then s.slowRate n else s.strRate h.stream

/-- The kind of a burst as BRX fixes it, and its profile, if one matches (R95, R96, R98). -/
def State.kindOf (s : State) (n : Nat) (b : List CalEnt) : Bool × Option Nat :=
  let h := headOf b
  let rate := s.burstRate n h
  let warm := h.kind == 0 && !h.cold && s.warmTest n (strLocal h.stream) rate
  (warm, s.profFor n rate warm)

/-- One burst with the kind and profile that BRX has fixed, as GNT `s` sees the port; demoted when it was taken as warm and is cold. A
burst for which no profile matches is refused (R98): it is void. Second: was it demoted, third: was it voided in that. -/
def State.fixBurst (s : State) (n : Nat) (b : List CalEnt) (kind : Bool × Option Nat) : List CalEnt × Bool × Bool :=
  let h := headOf b
  let rate := s.burstRate n h
  let (warm, prof) := kind
  let mark := fun (b : List CalEnt) => match b with
    | [] => []
    | x :: t => { x with warm := warm, prof := prof.getD 0 } :: t
  if prof.isNone then (mark (b.map fun e => { e with void := true }), false, false)
  else if liveBurst b && h.asWarm && !warm then
    let room := (h.fin - h.start - s.headCycles n rate false) * s.pay n rate / 1024
    let g := grantOf b
    if room < s.ovh n || h.fin < h.start + s.headCycles n rate false then
      (mark (b.map fun e => { e with void := true }), true, true)
    else (mark (takeBytes b (g - (room - s.ovh n))).1, true, false)
  else (mark b, false, false)

/-- All bursts of a page fixed by their kinds, with the counts of R188. -/
def State.fixBursts (s : State) (n : Nat) : List (List CalEnt × (Bool × Option Nat)) → List CalEnt × State
  | [] => ([], s)
  | (b, k) :: t =>
    let (b', d, v) := (s.gntSees n).fixBurst n b k
    let s := (s.incIf d (Reg.GNT_n_CNT_DEMOTE n)).incIf v (Reg.GNT_n_CNT_DEMOTE_VOID n)
    let (t', s) := s.fixBursts n t
    (b' ++ t', s)

/-- The kinds of a page's bursts reach GNT, and the page is final (R96, R188). -/
def State.kindsSeen (s : State) (n frame : Nat) (ks : List (Bool × Option Nat)) : State :=
  match s.page n frame with
  | none => s
  | some g =>
    if g.st != .closed then s
    else
      let (ents, s) := s.fixBursts n ((burstsOf g.ents).zip ks)
      s.setPage n { g with st := .final, ents := ents }

/-! The ledger of granted bytes (R200 to R202, R32). -/

/-- Bytes granted per stream of a page, in the order of the streams' first entries. -/
def grantsOf : List CalEnt → List (Nat × Nat)
  | [] => []
  | e :: t =>
    let r := grantsOf t
    if e.void || e.kind == 1 || e.kind == 2 then r
    else match r.find? fun x => x.1 == e.stream with
      | some x => (e.stream, x.2 + e.grant) :: r.filter fun y => y.1 != e.stream
      | none => (e.stream, e.grant) :: r

/-- A mismatch of a Weld ledger whose registers start at base (STATUS bit vbit, IDX, DIFF, TIME_LO, TIME_HI, CNT as in
Table 05.10): first record, then count (R32), and the fault (R30). -/
def State.ledgerMismatch (s : State) (status vbit idxReg src idx : Nat) (diff : Int) : State :=
  let s1 :=
    if s.bit status vbit then s.inc (idxReg + 16)
    else
      let s := (s.setB status vbit true).wr idxReg (BitVec.ofNat 32 idx)
      let s := (s.wr (idxReg + 4) (BitVec.ofInt 32 diff)).wr (idxReg + 8) (wordOf s.now40 0)
      s.wr (idxReg + 12) (wordOf s.now40 1)
  s1.raise src idx

/-- The check of each stream of a page at the ledger close. -/
def State.checkGrants (s : State) (g : Page) (counts : List (Nat × Nat × Nat × Nat)) : List (Nat × Nat) → State
  | [] => s
  | (st, granted) :: t =>
    let s1 := if g.allLost then s
      else match counts.find? fun c => c.1 == st with
        | none => s.ledgerMismatch Reg.GNT_STATUS 0 Reg.GNT_LEDG_IDX 17 st granted
        | some (_, rx, un, lost) =>
          if granted = rx + un + lost then s
          else s.ledgerMismatch Reg.GNT_STATUS 0 Reg.GNT_LEDG_IDX 17 st ((granted : Int) - (rx + un + lost : Nat))
    s1.checkGrants g counts t

/-- DRAINED of a stream: no sealed page holds a non-void entry of it whose ledger is open (Table 05.2). -/
def State.strDrained (s : State) (st : Nat) : Bool :=
  !(s.gport (strPort st)).pages.any fun g => g.sealed && g.ents.any fun e =>
    e.stream == st && !e.void && (e.kind == 0 || e.kind == 3)

end Sys2Proof.Machine
end

