-- ==== Sys2Proof/Machine/Pools.lean ====
section
/-! DEFINITION. Buffer pools (13): allocation with fallback and quotas, the checked free, sharing and the last-owner lists,
the buffer ledger, and the configuration of BPM. -/

namespace Sys2Proof.Machine

/-- Class sizes in 256-byte units (13, Pools and layout). -/
def classUnits (c : Nat) : Nat := match c with
  | 0 => 1
  | 1 => 8
  | 2 => 40
  | _ => 64

/-- The smallest class that holds L bytes. -/
def classFor (len : Nat) : Nat := if len ≤ 256 then 0 else if len ≤ 2048 then 1 else if len ≤ 10240 then 2 else 3

def poolClass (k : Nat) : Nat := k / 2
def State.poolCount (s : State) (k : Nat) : Nat := s.fld (Reg.BPM_COUNT k) 18 0
def State.poolBase (s : State) (k : Nat) : Nat := s.fld (Reg.BPM_CFG k) 18 0
def State.poolFree (s : State) (k : Nat) : Nat := s.fld (Reg.BPM_k_FREE k) 18 0
def State.poolEnd (s : State) (k : Nat) : Nat := s.poolBase k + s.poolCount k * classUnits (poolClass k)

/-- The metadata of an allocated buffer. -/
def State.buf (s : State) (ptr : Nat) : Option Meta := s.bpm.bufs.look none ptr
def State.setBuf (s : State) (ptr : Nat) (m : Option Meta) : State :=
  { s with bpm := { s.bpm with bufs := s.bpm.bufs.put none ptr m } }

/-- The pool a pointer lies in (Table 13.5, RANGE). -/
def State.poolOf (s : State) (ptr : Nat) : Option Nat :=
  (List.range 8).find? fun k => decide (0 < s.poolCount k) && decide (s.poolBase k ≤ ptr) && decide (ptr < s.poolEnd k)

/-- The code of requester j (Table 13.3). -/
def reqCode (j : Nat) : Nat := match j with
  | 5 => 0x45
  | 6 => 0x3A
  | 7 => 0x46
  | _ => 0x40 + j

/-- An identity of Table 13.3 that is not reserved. -/
def codeOk (c : Nat) : Bool := decide (c ≤ 0x3A) || (decide (0x40 ≤ c) && decide (c ≤ 0x46))

/-- The ledger of pool k: free + allocated = COUNT (R422). -/
def State.checkPool (s : State) (k : Nat) : State :=
  let sum := s.poolFree k + s.fld (Reg.BPM_k_ALLOC k) 18 0
  if sum = s.poolCount k then s
  else s.ledgerMismatch Reg.BPM_STATUS 1 Reg.BPM_LEDG_IDX 15 k ((sum : Int) - s.poolCount k)

/-! Allocation (R412 to R415). -/

/-- Pool k refuses requester j: no free buffer, or quota reached. -/
def State.poolEmpty (s : State) (k : Nat) : Bool := s.poolFree k == 0
def State.poolQuota (s : State) (k j : Nat) : Bool :=
  s.bit (Reg.BPM_CFG k) 31 && decide (s.fld (Reg.BPM_k_Q k j) 18 0 ≤ s.fld (Reg.BPM_k_HELD k j) 18 0)

/-- The free buffer of pool k at or cyclically after buffer i: the order of the free list is the command's choice. -/
def State.freeFrom (s : State) (k : Nat) : Nat → Nat → Option Nat
  | 0, _ => none
  | fuel + 1, i =>
    let ptr := s.poolBase k + (i % s.poolCount k) * classUnits (poolClass k)
    if (s.buf ptr).isNone then some ptr else s.freeFrom k fuel (i + 1)

/-- BPM_k_MIN_FREE follows the free count down (Table 13.7). -/
def State.lowFree (s : State) (k : Nat) : State :=
  s.setF (Reg.BPM_k_MIN_FREE k) 18 0 (min (s.poolFree k) (s.fld (Reg.BPM_k_MIN_FREE k) 18 0))

/-- Buffer ptr of pool k leaves the free list: held by requester j. -/
def State.holdBuf (s : State) (k ptr : Nat) (m : Meta) : State :=
  let j := m.req
  let s := s.setBuf ptr (some m)
  let f := s.poolFree k - 1
  let s := (s.setF (Reg.BPM_k_FREE k) 18 0 f).setF (Reg.BPM_k_ALLOC k) 18 0 (s.fld (Reg.BPM_k_ALLOC k) 18 0 + 1)
  let s := s.setF (Reg.BPM_k_HELD k j) 18 0 (s.fld (Reg.BPM_k_HELD k j) 18 0 + 1)
  s.lowFree k

/-- Buffer ptr of pool k goes to requester j. -/
def State.grantBuf (s : State) (k j ptr : Nat) : State := s.holdBuf k ptr { req := j, owner := reqCode j }

/-- A metadata error (R424). -/
def State.metaError (s : State) : State := (s.inc Reg.BPM_CNT_META).raise 18 0

/-- The metadata word of buffer ptr of pool k is uncorrectable: the buffer is treated as allocated and held by its recorded REQ,
which is that of its last allocation, and never returned (R424). -/
def State.stickBuf (s : State) (k ptr : Nat) : State :=
  (match s.buf ptr with
  | some m => s.setBuf ptr (some { m with stuck := true })
  | none =>
    let j := s.bpm.lastReq.look 0 ptr
    (s.holdBuf k ptr { req := j, owner := reqCode j, stuck := true }).checkPool k).metaError

/-- An allocation by requester j of L bytes: the buffer, or the reason of Table 13.4. With metaBad the first buffer chosen
has an uncorrectable metadata word and stays allocated; the next one serves (R424). -/
def State.alloc (s : State) (j len : Nat) (up : Bool) (pick : Nat) (metaBad : Bool) : (Nat ⊕ Nat) × State :=
  let pools := ((List.range 4).filter fun c => decide (classFor len ≤ c)).map fun c => 2 * c + up.toNat
  if 16384 < len then (.inr 4, s.inc Reg.BPM_CNT_DROP_SIZE)
  else if !s.bit Reg.BPM_CTRL 0 || !s.bit Reg.BPM_STATUS 0 || pools.all fun k => s.poolCount k == 0 then
    (.inr 3, s.inc Reg.BPM_CNT_DROP_OFF)
  else
    let take := fun (s : State) => pools.find? fun k => !s.poolEmpty k && !s.poolQuota k j
    let one := fun (s : State) => match take s with
      | none => none
      | some k => (s.freeFrom k (s.bpm.bufs.length + 1) pick).map fun p => (k, p)
    let s := if metaBad then match one s with
        | some (k, p) => s.stickBuf k p
        | none => s
      else s
    match one s with
    | some (k, p) =>
      let s' := s.grantBuf k j p
      let want := 2 * classFor len + up.toNat
      let s' := s'.add64 (Reg.BPM_k_CNT_ALLOC_LO k) 1
      let s' := if k = want then s' else (s'.inc (Reg.BPM_k_CNT_FB_OUT want)).inc (Reg.BPM_k_CNT_FB_IN k)
      (.inl p, s'.checkPool k)
    | none =>
      let top := 6 + up.toNat
      if pools.any s.poolEmpty then (.inr 1, s.inc (Reg.BPM_k_CNT_DROP_EMPTY top))
      else (.inr 2, s.inc (Reg.BPM_k_CNT_DROP_QUOTA top))

/-! Frees (R417 to R421). -/

/-- The buffer returns to its pool's free list; its REQ stays recorded. -/
def State.returnBuf (s : State) (k ptr : Nat) (m : Meta) : State :=
  let s := s.setBuf ptr none
  let s : State := { s with bpm := { s.bpm with lastReq := s.bpm.lastReq.put 0 ptr m.req } }
  let s := (s.setF (Reg.BPM_k_FREE k) 18 0 (s.poolFree k + 1)).setF (Reg.BPM_k_ALLOC k) 18 0
    (s.fld (Reg.BPM_k_ALLOC k) 18 0 - 1)
  (s.setF (Reg.BPM_k_HELD k m.req) 18 0 (s.fld (Reg.BPM_k_HELD k m.req) 18 0 - 1)).checkPool k

/-- The first failing check of Table 13.5; 0 is none. -/
def State.freeCheck (s : State) (ptr code : Nat) : Nat :=
  match s.poolOf ptr with
  | none => 1
  | some k =>
    if (ptr - s.poolBase k) % classUnits (poolClass k) ≠ 0 then 2
    else match s.buf ptr with
      | none => 3
      | some m =>
        if !codeOk code || (!m.shared && m.owner != code) || (m.shared && m.refcnt == 1 && m.last != code) then 4
        else if m.shared && decide (1 < m.refcnt) && m.last == code then 5
        else 0

/-- The pointers of an egress that has finished with them and is LAST. The first 256 are its last-owner list; DESIGN CHOICE: where frames
are discarded while it is full, theirs wait in the egress behind it, in order (R421, log 77). -/
def State.lastList (s : State) (code : Nat) : List Nat := s.bpm.lasts.look [] code
def State.setLasts (s : State) (code : Nat) (l : List Nat) : State :=
  { s with bpm := { s.bpm with lasts := s.bpm.lasts.put [] code l } }

/-- A free presented by an identity (R417, R418, R420). REFCNT reaching 1 tells the egress named LAST, which presents the
free it holds (R421). The word of a buffer that is stuck is uncorrectable at each free (R424). -/
def State.free (s : State) (ptr code : Nat) : State :=
  let c := s.freeCheck ptr code
  if (s.buf ptr).any (·.stuck) then s.metaError
  else if c ≠ 0 then
    let s := (s.inc (Reg.BPM_CNT_FREE_x (c - 1))).wr Reg.BPM_REJ_PTR (BitVec.ofNat 32 ptr)
    (s.wr Reg.BPM_REJ_INFO (BitVec.ofNat 32 (256 * c + code % 128))).raise 19 ((s.poolOf ptr).getD 0)
  else match s.poolOf ptr, s.buf ptr with
    | some k, some m =>
      if m.shared && decide (1 < m.refcnt) then
        let m1 := { m with refcnt := m.refcnt - 1 }
        let s := s.setBuf ptr (some m1)
        if m1.refcnt = 1 && (s.lastList m.last).contains ptr then
          (s.setLasts m.last ((s.lastList m.last).erase ptr)).returnBuf k ptr m1
        else s
      else s.returnBuf k ptr m
    | _, _ => s

/-- An egress has finished with a buffer: its free, or its place in the last-owner list while copies remain (R421). -/
def State.finish (s : State) (ptr code : Nat) : State :=
  match s.buf ptr with
  | some m =>
    if m.shared && !m.stuck && m.last == code && decide (1 < m.refcnt) then s.setLasts code (s.lastList code ++ [ptr])
    else s.free ptr code
  | none => s.free ptr code

/-- A partial frame of a stream is discarded, its buffer returned and counted (R311). -/
def State.dropPartial (s : State) (st : Nat) : State :=
  match s.udf.parts.find? fun e => e.1 == st with
  | none => s
  | some (_, p) =>
    let s := { s with udf := { s.udf with parts := s.udf.parts.drop st } }
    let s := s.inc (Reg.UDF_n_CNT_REASM_DROP (strPort st))
    match p.buf with
    | some b => s.free b 0x45
    | none => s

/-- Allocations that are lost-burst from their start discard the partial frames of their streams (R311). -/
def State.lostAllocs (s : State) (ents : List CalEnt) : State :=
  ents.foldl (fun s e => if !e.void && (e.kind == 0 || e.kind == 3) then s.dropPartial e.stream else s) s

/-- OWNER of a buffer that is not shared (R411). -/
def State.setOwner (s : State) (ptr code : Nat) : State :=
  match s.buf ptr with
  | some m => if m.shared then s else s.setBuf ptr (some { m with owner := code })
  | none => s

/-- SHARE: accepted or not (R419). -/
def State.share (s : State) (ptr code n last : Nat) : Option State :=
  match s.buf ptr with
  | some m =>
    if !m.shared && m.owner == code && decide (2 ≤ n) && decide (n ≤ 4096) then
      some (s.setBuf ptr (some { m with shared := true, refcnt := n, last := last }))
    else none
  | none => none

/-- Asking for a buffer (R416). -/
def State.want (s : State) (j len : Nat) (up : Bool) (f : Frm) : State :=
  { s with bpm := { s.bpm with wants := s.bpm.wants ++ [{ req := j, len := len, up := up, frm := f }] } }

/-- The rebuild of every pool from its configuration (R410, R426). -/
def State.rebuildPools (s : State) : State :=
  let reqs := s.bpm.bufs.foldl (fun (t : Tab Nat) x => t.put 0 x.1 ((x.2.map Meta.req).getD 0)) s.bpm.lastReq
  let s := { s with bpm := { s.bpm with bufs := [], lasts := [], lastReq := reqs } }
  (List.range 8).foldl (fun s k =>
    let s := (s.setF (Reg.BPM_k_FREE k) 18 0 (s.poolCount k)).setF (Reg.BPM_k_ALLOC k) 18 0 0
    ((List.range 8).foldl (fun s j => s.setF (Reg.BPM_k_HELD k j) 18 0 0) s).lowFree k) s

/-- The enabled pools meet R409. -/
def State.layoutOk (s : State) : Bool :=
  let ks := (List.range 8).filter fun k => decide (0 < s.poolCount k)
  ks.all fun k => decide (s.poolEnd k ≤ 393216) &&
    ks.all fun m => m == k || decide (s.poolEnd k ≤ s.poolBase m) || decide (s.poolEnd m ≤ s.poolBase k)

/-- The completion of a host transmit descriptor without an egress timestamp (Tables 19.5, 19.6): TS_VALID is 0, and the
bytes of the timestamp, which the spec leaves open, are a free value. -/
def State.ptxDone (s : State) (d : Option Desc) (status reason : Nat) : State :=
  match d with
  | none => s
  | some d => (s.complete d true (s.freshStamp + 2 ^ 88 * reason) status).taken.taken.taken

end Sys2Proof.Machine
end

