-- ==== Sys2Proof/Machine/RngOps.lean ====
section
/-! DEFINITION. What ranging does to a terminal (04): context fields, entry to FREE and RANGING, the messages that
state changes are tied to (R686), events (R156) and publication (R157). -/

namespace Sys2Proof.Machine

/-! The context of local index l of port n (Table 04.10). -/

def State.eqd (s : State) (n l : Nat) : Nat := s.fld (Reg.RNG_CTX n l 1) 27 0
def State.offF (s : State) (n l : Nat) : Int := s.rdInt (Reg.RNG_CTX n l 3)
def State.sn (s : State) (n l : Nat) : Nat := (s.rd (Reg.RNG_CTX n l 4)).toNat + 2 ^ 32 * (s.rd (Reg.RNG_CTX n l 5)).toNat
def State.adjPend (s : State) (n l : Nat) : Bool := s.bit (Reg.RNG_CTX n l 0) 16
def State.setOffF (s : State) (n l : Nat) (v : Int) : State := s.wr (Reg.RNG_CTX n l 3) (BitVec.ofInt 32 v)
def State.setEqd (s : State) (n l : Nat) (v : Int) : State := s.setF (Reg.RNG_CTX n l 1) 27 0 (wrapN 28 v)

/-- REC_VALID by R159: in OPER with ADJ_PEND = 0, and by R557 after the first good burst on a new path. -/
def State.recValid (s : State) (n l : Nat) : Bool :=
  s.termSt n l == 2 && !s.adjPend n l && !(s.term n l).unproven

/-- REC_VALID in the context, and in the record that TSU reads, follows R159, R153. -/
def State.settleRec (s : State) (n l : Nat) : State :=
  let v := s.recValid n l
  let s := s.setB (Reg.RNG_CTX n l 0) 17 v
  { s with rng := { s.rng with recs := s.rng.recs.put {} (512 * n + l) { s.rng.recs.look {} (512 * n + l) with valid := v } } }

/-- What BRX is to expect of a terminal, by what is in force now (R128, R139, R146). -/
def State.expectOf (s : State) (n l : Nat) : Expect :=
  { gen := (s.term n l).gen, eqd := s.eqd n l, adj := if s.adjPend n l then some (s.term n l).delta else none
    exp := s.deltaExp n l, win := s.rngWin n }

/-- BRX is told so, through its crossing (Table 01.9). -/
def State.tellExpect (s : State) (n l : Nat) : State := s.cross 1 n (.expect l (s.expectOf n l))

/-- N_OPER counts the indices in OPER; REC_VALID follows the state. A terminal link that enters or leaves FREE is enabled or
disabled for TCE (R348). -/
def State.setTermSt (s : State) (n l st : Nat) : State :=
  let was := s.termSt n l
  let s1 := s.setF (Reg.RNG_CTX n l 0) 31 28 st
  let c := s1.fld (Reg.RNG_STATUS n) 25 16
  let s2 := if was = 2 ∧ st ≠ 2 then s1.setF (Reg.RNG_STATUS n) 25 16 (c - 1)
    else if was ≠ 2 ∧ st = 2 then s1.setF (Reg.RNG_STATUS n) 25 16 (c + 1) else s1
  let s3 := if was = 0 ∧ st ≠ 0 ∨ was ≠ 0 ∧ st = 0 then s2.pmPartial (4096 + 512 * n + l) else s2
  s3.settleRec n l

/-- Invalidation of a memory entry in BRX (Table 03.2); later verdicts of bursts snapped before it are discarded (R111). -/
def State.invalidate (s : State) (n l : Nat) : State :=
  let e := s.ent n l
  s.putEnt n l { e with valid := false, lastOk := false, drift := 0, epoch := e.epoch + 1 }

/-- One more millisecond in every AGE, which GNT's copies are told of (R91, R180). -/
def State.ageAll (s : State) : State :=
  let s1 : State := { s with brx := { s.brx with ms := s.brx.ms + 1 } }
  (List.range 32).foldl (fun s n => s.cross 2 n (.ms s.brx.ms)) s1

/-- RNG's order to invalidate the entry, through its crossing to BRX (R93, Table 01.9). -/
def State.tellInvalid (s : State) (n l : Nat) : State := s.cross 1 n (.inval l)

/-- An event of Table 04.4 on the port's event ring, with its trace record of kind RANGE (R156, R584, Table 22.6). -/
def State.rngEvent (s : State) (n code l sn : Nat) (eqd : Nat) : State :=
  let body := 1 + 256 * code + 2 ^ 16 * n + 2 ^ 32 * l + 2 ^ 64 * sn + 2 ^ 128 * eqd
  let s := s.postEvent (s.fld (Reg.HIF_TP n) 25 16) body Reg.HIF_CNT_EV_LOST
  s.trace 3 n (code + 2 ^ 16 * l + 2 ^ 32 * sn + 2 ^ 96 * eqd + 2 ^ 128 * wrapN 32 (s.offF n l))

/-- An event that carries code, port and local index only. -/
def State.rngPlain (s : State) (n code l : Nat) : State := s.rngEvent n code l 0 0

/-- The queue of messages to DFR after a change, with the check of its credits (R20, Table 01.6). -/
def State.settlePloams (s : State) (n : Nat) (p : RngPort) : State :=
  (s.setRport n p).creditCheck 3 n p.used (p.hidden.length + p.queue.length)

/-- A PLOAM message of RNG queued for DFR, for which a credit is spent, or which waits for one (R20); it becomes visible by R21. -/
def State.rngSend (s : State) (n : Nat) (m : PMsg) : State :=
  let p := s.rport n
  if p.used = 0 ∨ p.used < slots 7 then s.settlePloams n { p with hidden := p.hidden ++ [m], used := p.used + 1 }
  else s.setRport n { p with waiting := p.waiting ++ [m] }

/-- DFR takes the k oldest messages, whose credits return to those that wait for one. -/
def State.takePloams (s : State) (n k : Nat) : State :=
  let p := s.rport n
  let k := min k p.queue.length
  let back := min k p.waiting.length
  s.settlePloams n { p with queue := p.queue.drop k, used := p.used - k + back
                            hidden := p.hidden ++ p.waiting.take back, waiting := p.waiting.drop back }

/-- The queue of messages emptied, its credits restored (R24, R82); the broadcasts of R685 stay due. -/
def State.emptyPloams (s : State) (n : Nat) : State :=
  s.setRport n { s.rport n with hidden := [], queue := [], used := 0, waiting := [] }

/-- k broadcast deactivations are still to be sent (R685). -/
def State.dueBroadcasts (s : State) (n k : Nat) : State := s.setRport n { s.rport n with bcast := k }

/-- No ranging grant of the terminal is pending any more. -/
def State.dropRanging (s : State) (n l : Nat) : State :=
  let p := s.gport n
  s.setGport n { p with rngQ := p.rngQ.filter fun x => x != l }

/-- Entry to FREE: SN, RTD, EQD and OFF_F stay, REC_VALID clears, the BRX entry is invalidated and the keys are wiped
(R152, R153, R470). -/
def State.toFree (s : State) (n l : Nat) : State :=
  let s := (s.setF (Reg.RNG_CTX n l 0) 27 24 0).setB (Reg.RNG_CTX n l 0) 16 false
  let t := s.term n l
  let s := ((s.setTermSt n l 0).setTerm n l { pubOff := t.pubOff, gen := t.gen + 1 }).dropRanging n l
  ((s.tellInvalid n l).tellExpect n l).cross 9 n (.wipe l)

/-- Entry to RANGING from OPER or LOST: the row of Table 04.3 for a drift re-range, also taken for the RERANGE command. DESIGN
CHOICE: OFF_F ÷ 64 in RTD_prov is rounded down, and LOB_RUN clears (log 70). -/
def State.rerange (s : State) (n l : Nat) : State :=
  let t := s.term n l
  let prov : Int := ((s.rngSees n).teq n : Int) - s.eqd n l + s.offF n l / 64
  let s := (s.setF (Reg.RNG_CTX n l 0) 27 24 0).setB (Reg.RNG_CTX n l 0) 16 false
  let s := (s.setTermSt n l 1).setTerm n l { prov := prov, leaving := t.leaving, pubOff := t.pubOff, gen := t.gen + 1 }
  (((s.tellInvalid n l).tellExpect n l).inc (Reg.RNG_CNT_RERANGE n)).rngPlain n 9 l

/-- δ − R + TEQ − PD: assignment of index l (R138); δ64 and the random delay in RB come from the response. DESIGN CHOICE: RTD, EQD and
OFF_F of the index keep the values of its former holder until it is ranged: R152 keeps them readable to here, and no rule clears
them (log 70). -/
def State.assignIdx (s : State) (n l sn : Nat) (delta64 : Int) (r : Nat) : State :=
  let c := s.rngSees n
  let prov : Int := delta64 / 64 - r + c.teq n - c.pd n
  let t := s.term n l
  let s := ((s.tellInvalid n l).wr (Reg.RNG_CTX n l 4) (wordOf sn 0)).wr (Reg.RNG_CTX n l 5) (wordOf sn 1)
  let s := (s.setF (Reg.RNG_CTX n l 0) 27 24 0).setB (Reg.RNG_CTX n l 0) 16 false
  let t' : Term := { prov := prov, assigning := true, pubOff := t.pubOff, gen := t.gen + 1 }
  (((s.setTermSt n l 1).setTerm n l t').tellExpect n l).rngSend n (.assign l sn)

/-- The lowest FREE index of the port. -/
def State.lowestFree (s : State) (n : Nat) : Option Nat := (List.range 512).find? fun l => s.termSt n l == 0

/-- A non-FREE index of the port holds this serial number. -/
def State.snOn (s : State) (n sn : Nat) : Option Nat :=
  (List.range 512).find? fun l => s.termSt n l != 0 && s.sn n l == sn

/-- Publication of a terminal's record to TSU (R157). -/
def State.publish (s : State) (n l : Nat) : State :=
  let s := (s.settleRec n l).wr (Reg.RNG_CTX n l 6) (wordOf s.now 0)
  let r : TimeRec :=
    { rtd64 := 64 * (((s.rngSees n).teq n : Int) - s.eqd n l) + s.offF n l, xgs := (s.rngSees n).xgs n
      cal := s.bit (Reg.RNG_CTX n l 7) 31, tcal := signedN 24 (s.fld (Reg.RNG_CTX n l 7) 23 0)
      upd := s.rd (Reg.RNG_CTX n l 6), valid := s.recValid n l }
  let s := { s with rng := { s.rng with recs := s.rng.recs.put {} (512 * n + l) r } }
  s.setTerm n l { s.term n l with pubOff := s.offF n l }

/-- Deactivation: the message is queued, and the entry to FREE waits until it is sent (R686). -/
def State.deactivate (s : State) (n l : Nat) (event : Bool) : State :=
  (s.setTerm n l { s.term n l with leaving := true }).rngSend n (.deactivate l event)

/-- Rounding δ = OFF_F ÷ 64 to the nearest multiple of k, halves away from zero (R145). -/
def roundTo (k : Nat) (off : Int) : Int :=
  let m : Int := 64 * k
  let a := (2 * (off.natAbs : Int) + m) / (2 * m)
  (if off < 0 then -a else a) * k

/-- The path EQD of the partner goes with every EQD that a protected ACTIVE member sends (R556); RNG knows STATE and DIFF by its
copy. -/
def State.sendEqd (s : State) (n l : Nat) (eqd : Int) : State :=
  let s := s.rngSend n (.rangingTime l eqd)
  let c := s.rngSees n
  if c.fld (Reg.TPA_PSTAT n) 1 0 = 1 then
    s.rngSend n (.pathTime l (eqd + signedN 22 (c.fld (Reg.TPA_PROT n) 21 0)))
  else s

/-- DLM_WIN × k_fast, as RNG knows it (R149). -/
def State.driftTop (s : State) (n : Nat) : Nat :=
  let c := s.rngSees n
  c.fld (Reg.BRX_ADAPT n) 15 8 * rbPerBit (c.fastRate n)

/-- The effective DRIFT_LIM (R150). DESIGN CHOICE: with DLM_WIN = 0, where DLM_WIN × k_fast − 1 would be −1, it is 0 (log 70). -/
def State.driftLim (s : State) (n : Nat) : Nat :=
  let top := s.driftTop n
  let d := s.fld (Reg.RNG_TRACK n) 23 16
  if top ≤ d then top - 1 else d

/-- The filter of R144, and the adjustment of R145 when |OFF_F| reaches ADJ_TH × 64; ADJ_PEND and its count wait for the
sending (R686). -/
def State.filterOff (s : State) (n l : Nat) (d : Int) : State :=
  let o := s.offF n l
  let o' := o + (d - o) / (2 ^ s.fld (Reg.RNG_TRACK n) 27 24 : Nat)
  let s := s.setOffF n l o'
  let t := s.term n l
  if 64 * s.fld (Reg.RNG_TRACK n) 15 8 ≤ o'.natAbs && !t.waiting then
    let delta := roundTo (rbPerBit ((s.rngSees n).slowRate n)) o'
    let s := s.setTerm n l { t with delta := delta, sends := 0, waiting := true }
    s.sendEqd n l ((s.eqd n l : Int) - delta)
  else s

/-- What takes effect when DFR places a message of RNG in a frame (R686). -/
def State.ploamSent (s : State) (n : Nat) (m : PMsg) : State :=
  match m with
  | .assign l _ => s.setTerm n l { s.term n l with assigning := false }
  | .rangingTime l e =>
    let t := s.term n l
    if !t.waiting then s
    else if s.termSt n l = 1 then
      if e ≠ t.newEqd then s
      else
      let s := (s.setEqd n l t.newEqd).setOffF n l t.newOff
      let s := (s.setTermSt n l 2).setTerm n l { leaving := t.leaving, pubOff := t.pubOff, gen := t.gen }
      let s := (s.tellExpect n l).rngEvent n 4 l 0 (s.eqd n l)
      s.publish n l
    else if e ≠ (s.eqd n l : Int) - t.delta then s
    else
      let s := (s.setB (Reg.RNG_CTX n l 0) 16 true).incIf (t.sends == 0) (Reg.RNG_CNT_ADJ n)
      ((s.setTerm n l { t with waiting := false, sends := t.sends + 1 }).settleRec n l).tellExpect n l
  | .deactivate l event =>
    if !(s.term n l).leaving then s
    else
      let s := s.toFree n l
      if event then s.rngPlain n 11 l else s
  | .broadcast => s.dueBroadcasts n ((s.rport n).bcast - 1)
  | _ => s

end Sys2Proof.Machine
end

