-- ==== Sys2Proof/Machine/Brx.lean ====
section
/-! DEFINITION. Burst receivers (03): profiles and controls, invalidation, the plan of a frame, power states, and each
burst from its snapshot over its acquisition to its verdict. -/

namespace Sys2Proof.Machine

/-! Profiles and controls (R98 to R100, R178). -/

/-- Preamble bounds of R99 for one profile word at a WSRCH: in units of 0.01 ns against bits at the profile's rate
(49,766,400 bits per millisecond and its half and quarter, 9,953,280). -/
def profOk (wsrch : Nat) (w : Word) : Bool :=
  let bitsPerMs := match fldW w 31 30 with
    | 0 => 49766400
    | 1 => 24883200
    | 2 => 12441600
    | _ => 9953280
  let need := if w.getLsbD 29 then 550 + 80 * (2 * wsrch + 1) else 15000
  decide (need * bitsPerMs ≤ fldW w 25 12 * 100000000) && decide (8 ≤ fldW w 7 0)

/-- Four profiles meet R99 at a WSRCH. -/
def profsOk (wsrch : Nat) (f : Nat → Word) : Bool :=
  (List.range 4).all fun k => profOk wsrch (f k)

/-- BRX_PROF_WRITE (R100). -/
def execBrxProfWrite (n : Fin 32) (k : Fin 4) (v : Word) (s : State) : Res :=
  s.opWrite (Reg.BRX_PROF n k) <|
  let v' : Word := v &&& 0xE3FFF0FF
  let ok := s.idlePort n && profsOk (s.fld (Reg.BRX_CTRL n) 11 8) fun j => if j = k then v' else s.rd (Reg.BRX_PROF n j)
  .next (if ok then (s.wr (Reg.BRX_PROF n k) v').tell 2 n (Reg.BRX_PROF n k) else s.inc (Reg.BRX_CNT_REFUSED n))

/-- PS_EN = 0 holds BRX in B0, but for Quiet, which holds it in B3 (R117, R633). -/
def State.holdB0 (s : State) (n : Nat) : State :=
  if s.bit (Reg.BRX_CTRL n) 2 || s.quiet then s else s.setF (Reg.BRX_STATUS n) 1 0 0

/-- BRX_CTRL_WRITE: a change of WSRCH only under R100; zeros stored as 1 (Table 03.9). -/
def execBrxCtrlWrite (n : Fin 32) (v : Word) (s : State) : Res :=
  s.opWrite (Reg.BRX_CTRL n) <|
  let v1 : Word := v &&& 0xFFFFFF06
  let v2 := if fldW v1 31 16 = 0 then setFldW v1 31 16 1 else v1
  let v3 := if fldW v2 11 8 = 0 then setFldW v2 11 8 1 else v2
  let ws := fldW v3 11 8
  let ok := ws == s.fld (Reg.BRX_CTRL n) 11 8 ||
    (s.idlePort n && profsOk ws fun j => s.rd (Reg.BRX_PROF n j))
  .next (if ok then ((s.wr (Reg.BRX_CTRL n) v3).tell 2 n (Reg.BRX_CTRL n)).holdB0 n else s.inc (Reg.BRX_CNT_REFUSED n))

/-! Invalidation by software and AGE (R91, R112). -/

/-- BRX_n_MEM_CMD is busy. -/
def State.memBusy (s : State) (n : Nat) : Bool := s.bit (Reg.BRX_MEM_CMD n) 31

/-- MEM_INVALIDATE_ONE: GO with ALL = 0; ignored while BUSY, and counted by R122's row of CNT_REFUSED. -/
def execMemInvalidateOne (n : Fin 32) (l : Fin 512) (s : State) : Res :=
  s.opWrite (Reg.BRX_MEM_CMD n) <|
  .next (if s.memBusy n then s.inc (Reg.BRX_CNT_REFUSED n)
    else (s.wr (Reg.BRX_MEM_CMD n) (BitVec.ofNat 32 (2 ^ 31 + l))).invalidate n l)

/-- Every entry of a port invalid. -/
def State.invalidateAll (s : State) (n : Nat) : State :=
  (List.range 512).foldl (fun s l => s.invalidate n l) s

/-- MEM_INVALIDATE_ALL: GO with ALL = 1; LOCAL is stored as written (R112, Table 03.12). -/
def execMemInvalidateAll (all : MemAll) (s : State) : Res :=
  s.opWrite (Reg.BRX_MEM_CMD all.n) <|
  .next (if s.memBusy all.n then s.inc (Reg.BRX_CNT_REFUSED all.n)
    else (s.wr (Reg.BRX_MEM_CMD all.n) (BitVec.ofNat 32 (0x80010000 + all.l))).invalidateAll all.n)

/-- MEM_CMD_DONE: BUSY clears (R112). -/
def execMemCmdDone (n : Fin 32) (s : State) : Res :=
  .next (s.setB (Reg.BRX_MEM_CMD n) 31 false)

/-- AGE_TICK: the clock crosses a millisecond boundary (R91); entries of BRX in reset stay as they are. -/
def execAgeTick (s : State) : Res := .next (if s.up 1 then s.ageAll else s)

/-! The plan (R118 to R120) and power states (R113 to R117). -/

/-- BRX follows the sealed page of a frame. -/
def State.planned (s : State) (n frame : Nat) : Bool := (s.bport n).plans.any fun x => x == (frame, true)

/-- The plan of a frame takes a value; plans of frames long past are forgotten. -/
def State.plan (s : State) (n frame : Nat) (v : Bool) : State :=
  let p := s.bport n
  s.setBport n { p with plans := (p.plans.filter fun x => decide (frame < x.1 + 16) && x.1 != frame) ++ [(frame, v)] }

/-- A result for RNG, through its crossing (R105, R129, R143). -/
def State.rngResult (s : State) (n : Nat) (r : RngResult) : State := s.cross 0 n (.result r)

/-- Ranging grants of a page that BRX does not receive: the burst does not arrive in its span, so the attempt fails (R143);
`ok` says that the page is followed. It stands among the results of BRX, so that none is overtaken (R46). -/
def State.missRanging (s : State) (n : Nat) (g : Page) (ok : Bool) : State :=
  let bs := burstsOf g.ents
  (List.range bs.length).foldl (fun s k =>
    let h := headOf (bs.getD k [])
    if h.kind = 1 && (!ok || g.leftOut.contains k) then
      let l := strLocal h.stream
      s.rngResult n { l := l, ranging := true, off := none, gen := (s.brx.expect.look {} (512 * n + l)).gen }
    else s) s

/-- Is frame P's page sealed, or covered by a quiet horizon (R115)? -/
def State.knownFrame (s : State) (n frame : Nat) : Bool :=
  (s.gport n).covered frame || (match s.page n frame with
    | some g => g.sealed
    | none => false)

/-- The origin of the next known burst at or after a cycle counted from frame 0, or the reference of the first frame not
known, whichever comes first; a frame inside a quiet horizon counts as one with no bursts (R115). -/
def State.nextKnown (s : State) (n cyc : Nat) : Nat :=
  let f0 := cyc / frameCycles
  let open_ := f0 + ((List.range 300).takeWhile fun i => s.knownFrame n (f0 + i)).length
  let pages := (s.gport n).pages.filter fun g => g.sealed && !(s.gport n).covered g.frame
  let starts := (pages.flatMap fun g =>
    ((burstsOf g.ents).filter liveBurst).map fun b => ((headOf b).first + (frameCycles * g.frame : Nat)).toNat) ++
    (s.bport n).spans.map fun x => (x.2.2.first + ((frameCycles * x.1 : Nat) : Int)).toNat
  (starts.filter fun a => decide (cyc ≤ a)).foldl min (frameCycles * open_)

/-- The deepest state that fits a gap in cycles (Table 03.6, R114): 3125 ÷ 972 ns per cycle. -/
def deepest (gap : Nat) : Nat :=
  if 1000000 * 972 ≤ gap * 3125 then 3 else if 2000 * 972 ≤ gap * 3125 then 2 else if 200 * 972 ≤ gap * 3125 then 1 else 0

/-- The state of a port that has nothing to receive from a cycle on; B0 while PS_EN is 0 (R117). -/
def State.restState (s : State) (n cyc : Nat) : Nat :=
  if s.bit (Reg.BRX_CTRL n) 2 then deepest (s.nextKnown n cyc - cyc) else 0

/-- BRX_SLEEP: a burst has ended at a cycle counted from frame 0; BRX stays in B0 where it is already awake for the next one
(R114), and Quiet holds it in B3 (R633). A discovery window that ends has run (R633). -/
def execBrxSleep (n : Fin 32) (cycle : BitVec 64) (s : State) : Res :=
  let p := s.bport n
  let rest := p.awake.drop 1
  let d := if rest.isEmpty then s.restState n cycle.toNat else 0
  let s : State := if (p.awake.take 1).any fun x => x.2.2 then
      { s with rcp := { s.rcp with needDisc := setBitW s.rcp.needDisc n false } }
    else s
  let d := if s.quiet then 3 else d
  .next (((s.setB (Reg.BRX_STATUS n) 2 false).setF (Reg.BRX_STATUS n) 1 0 d).setBport n
    { p with awake := rest, inDisc := rest.any fun x => x.2.2 })

/-- BRX is awake for a burst, or about to be in one (R116). -/
def State.isAwake (s : State) (n : Nat) : Bool := s.bit (Reg.BRX_STATUS n) 2 || !(s.bport n).awake.isEmpty

/-- BURST_KINDS_FIXED: BRX fixes kinds and profiles of a sealed page, of which GNT is told by its crossing; and the deeper state
that the new gap allows, at the cycle when it happens (R95, R96, R116, R188). -/
def execBurstKindsFixed (n : Fin 32) (frame : BitVec 51) (cycle : BitVec 64) (s : State) : Res :=
  match s.page n frame.toNat with
  | none => .next s
  | some g =>
    if g.st != .closed then .next s
    else
      let s := s.cross 2 n (.kinds frame.toNat ((burstsOf g.ents).map fun b => s.kindOf n b))
      let d := s.restState n cycle.toNat
      .next (if !s.isAwake n && decide (s.fld (Reg.BRX_STATUS n) 1 0 < d) then
        s.setF (Reg.BRX_STATUS n) 1 0 d else s)

/-! A burst (R102 to R111). -/

/-- Rounding a ÷ b half away from zero. -/
def roundDiv (a : Int) (b : Nat) : Int :=
  let m := (2 * (a.natAbs : Int) + b) / (2 * b : Nat)
  if a < 0 then -m else m

/-- The estimated phase (R102). -/
def estPhase (e : MemEnt) (age : Nat) : Nat := ((e.phase + roundDiv (e.drift * age) 65536) % 64).toNat

/-- The signed distance of phase code a from code b, -32 to 31 (R108). -/
def wrap64 (a b : Nat) : Int :=
  let x := ((a : Int) - b) % 64
  if 32 ≤ x then x - 64 else x

/-- The ranging grant or discovery window that burst k of a released page was. -/
def BrxPort.span (p : BrxPort) (frame k : Nat) : Option CalEnt :=
  (p.spans.find? fun x => x.1 == frame && x.2.1 == k).map fun x => x.2.2

/-- A burst that BRX receives: its page is followed, and DFR did not leave the burst out (R118). The span of a ranging grant
or a discovery window may outlast its page. -/
def State.received (s : State) (n frame k : Nat) : Option (List CalEnt) :=
  match s.page n frame with
  | none => if s.planned n frame then ((s.bport n).span frame k).map fun e => [e] else none
  | some g => if s.planned n frame && !g.leftOut.contains k then (g.burst k).filter liveBurst else none

/-- A burst that BRX wakes for: one that it receives, or, before the planning point of its frame, a live burst of a final page
that no quiet horizon covers (R102, R114, R118). -/
def State.wakesFor (s : State) (n frame k : Nat) : Option (List CalEnt) :=
  if (s.bport n).plans.any fun x => x.1 == frame then s.received n frame k
  else match s.page n frame with
    | some g => if g.st == .final && !(s.gport n).covered frame then (g.burst k).filter liveBurst else none
    | none => none

/-- The time of the precision clock at the origin A of a burst: the crossing of its line frame, TEQ, and A's cycles of 3,125 ÷ 972 ns
(R125, R177). -/
def State.originAt (s : State) (n frame : Nat) (h : CalEnt) : Nat :=
  (s.ftAt frame + s.rdInt (Reg.DFR_n_FT_PHASE n) / 1000 + s.teqNs n + h.first * 3125 / 972).toNat

/-- The snapshot of a burst: the memory entry, the estimated phase, the CTLE setting, and the values on which the expected
position of the delimiter rests (R102, R128, Tables 03.4 and 03.5). -/
def State.snapOf (s : State) (n frame k : Nat) (h : CalEnt) : Snap :=
  let l := strLocal h.stream
  let e := s.ent n l
  let age := s.ageOf e
  let x := s.brx.expect.look {} (512 * n + l)
  { frame := frame, k := k, loc := l, warm := h.warm, rate := s.burstRate n h, ent := e, age := age
    est := if e.valid then estPhase e age else 0, from_ := s.fld (Reg.BRX_STATUS n) 1 0
    peak := if h.warm && e.valid then e.peak else s.fld (Reg.BRX_ADAPT n) 4 0
    eqd := x.eqd, adj := x.adj, exp := x.exp, win := x.win, origin := s.originAt n frame h, gen := x.gen }

def BrxPort.snap (p : BrxPort) (frame k : Nat) : Option Snap := p.snaps.find? fun x => x.frame == frame && x.k == k
def BrxPort.dropSnap (p : BrxPort) (frame k : Nat) : BrxPort :=
  { p with snaps := p.snaps.filter fun x => !(x.frame == frame && x.k == k) }
def BrxPort.setSnap (p : BrxPort) (sn : Snap) : BrxPort :=
  { p with snaps := p.snaps.map fun x => if x.frame == sn.frame && x.k == sn.k then sn else x }

/-! Verdicts on the memory (R92, R93, R108 to R111). -/

/-- An entry after a bad burst (Table 03.2). -/
def badBurst (e : MemEnt) : MemEnt := { e with lastOk := false, failRun := min (e.failRun + 1) 255 }

/-- An entry after a good burst at a rate, locked at `found` with shadow peaking `peak`; the flag says that the drift was
restarted (R108, R110). -/
def goodBurst (e : MemEnt) (sn : Snap) (found peak shift ms : Nat) : MemEnt × Bool :=
  let base := fun (d : Int) => { e with
    drift := d, failRun := 0, valid := true, lastOk := true, rate := sn.rate, phase := found, peak := peak, since := ms }
  if sn.ent.valid && sn.ent.rate == sn.rate then
    if 1 ≤ sn.age then
      let err := wrap64 found sn.est
      if err.natAbs ≤ 16 then
        let moved := roundDiv (sn.ent.drift * sn.age) 65536 + err
        let meas := roundDiv (moved * 65536) sn.age
        (base (satSigned 24 (e.drift + (meas - e.drift) / (2 ^ shift : Nat))), false)
      else (base 0, true)
    else (base e.drift, false)
  else (base 0, false)

/-- A verdict on the entry, unless the entry was invalidated after the burst's snapshot (R108, R111). -/
def State.applyVerdict (s : State) (n : Nat) (sn : Snap) (v : Verdict) : State :=
  let e := s.ent n sn.loc
  if e.epoch ≠ sn.ent.epoch then s
  else match v with
    | .bad => s.putEnt n sn.loc (badBurst e)
    | .good found peak =>
      let x := goodBurst e sn found peak (s.fld (Reg.BRX_CTRL n) 15 12) s.brx.ms
      (s.putEnt n sn.loc x.1).incIf x.2 (Reg.BRX_CNT_DRIFT_RESET n)

/-- The verdicts of a terminal's bursts that can be applied: each waits for those of the bursts that arrived before it
(R109). -/
def State.settleVerdicts (s : State) (n l : Nat) : Nat → State
  | 0 => s
  | fuel + 1 =>
    match (s.bport n).snaps.find? fun x => x.loc == l with
    | none => s
    | some sn => match sn.judged with
      | none => s
      | some v => ((s.setBport n ((s.bport n).dropSnap sn.frame sn.k)).applyVerdict n sn v).settleVerdicts n l fuel

/-- The verdict on a burst. -/
def State.judge (s : State) (n : Nat) (sn : Snap) (v : Verdict) : State :=
  let s := s.setBport n ((s.bport n).setSnap { sn with judged := some v })
  s.settleVerdicts n sn.loc (s.bport n).snaps.length

/-- One burst record of the trace, stamped at the burst's origin A (Table 22.6). -/
def State.traceBurst (s : State) (n : Nat) (sn : Snap) (prof outcome peak uncorr granted : Nat) : State :=
  s.traceAt sn.origin 2 n (sn.loc + 2 ^ 16 * prof + 2 ^ 24 * outcome + 2 ^ 32 * sn.from_ + 2 ^ 40 * sn.found.getD 0 +
    2 ^ 48 * peak + 2 ^ 64 * wrapN 32 sn.off + 2 ^ 96 * (uncorr % 65536) + 2 ^ 128 * granted)

/-- A burst that is not received, with its snapshot taken now: bad. DESIGN CHOICE: no rule gives it a snapshot point; it is where
BRX finds that it will not receive the burst, so R111 looks at invalidations from there on (log 77). -/
def State.missedOf (s : State) (n frame k : Nat) (b : List CalEnt) : MissedBurst :=
  let h := headOf b
  { frame := frame, prof := h.prof, grant := grantOf b, snap := { s.snapOf n frame k h with judged := some .bad } }

/-- Bursts of a frame are missed, by their number in the page: each is bad (R92, R120, R195) in its place among the bursts of its
terminal (R109), for which it waits. -/
def State.miss (s : State) (n frame : Nat) (lost : List (List CalEnt × Nat)) : State :=
  let p := s.bport n
  s.setBport n { p with missed := p.missed ++ lost.map fun x => s.missedOf n frame x.2 x.1
                        snaps := p.snaps.filter fun x => x.judged.isSome || !lost.any fun y => x.frame == frame && x.k == y.2 }

/-- All bursts of a page but discovery windows are missed, except those that DFR left out. -/
def State.missPageBursts (s : State) (n : Nat) (g : Page) : State :=
  s.miss n g.frame <| (burstsOf g.ents).zipIdx.filter fun x =>
    liveBurst x.1 && (headOf x.1).kind != 2 && !g.leftOut.contains x.2

/-- The missed bursts of the frames that `due` names have their verdicts and their records in the trace: every burst that arrived
before them has its snapshot by now (R109, R648). -/
def State.missedDue (s : State) (n : Nat) (due : Nat → Bool) : State :=
  let p := s.bport n
  let come := p.missed.filter fun x => due x.frame
  let s := s.setBport n { p with missed := p.missed.filter fun x => !due x.frame, snaps := p.snaps ++ come.map (·.snap) }
  let s := come.foldl (fun s x => s.traceBurst n x.snap x.prof 5 0 0 x.grant) s
  come.foldl (fun s x => s.settleVerdicts n x.snap.loc (s.bport n).snaps.length) s

/-- Snapshots taken of bursts that, by the plan of their frame, BRX does not receive, go (R118). -/
def State.unsnap (s : State) (n frame : Nat) : State :=
  let p := s.bport n
  let stays := fun (f k : Nat) => f != frame || (s.received n f k).isSome
  s.setBport n { p with snaps := p.snaps.filter fun x => x.judged.isSome || stays x.frame x.k
                        awake := p.awake.filter fun x => stays x.1 x.2.1
                        inDisc := p.inDisc && p.awake.any fun x => x.2.2 && stays x.1 x.2.1 }

/-- PLANNING_POINT (R118, R120, R290, R688): BRX follows the page only if it is sealed and DFR announced it; bursts inside
a quiet horizon are counted and not received. With `copyBad` the delivery of the page to BRX failed (R195). With EN = 0 none is
received (R82). Bursts that were announced and are not received are bad (R92). -/
def execPlanningPoint (n : Fin 32) (frame : BitVec 51) (copyBad : Bool) (s : State) : Res :=
  let f := frame.toNat
  let s := s.missedDue n fun x => decide (x < f)
  match s.page n f with
  | none => .next ((s.plan n f false).unsnap n f)
  | some g =>
    let quiet := (s.gport n).covered f
    let ok := g.sealed && g.announced && !quiet && !copyBad && s.en n
    let s := if g.sealed && quiet then
        s.incN (Reg.BRX_CNT_WAKE_LATE n) ((burstsOf g.ents).filter liveBurst).length else s
    let s := if ok then s else (s.setPage n { g with allLost := true }).lostAllocs g.ents
    let s := ((s.plan n f ok).unsnap n f).missRanging n g ok
    .next (if g.sealed && g.announced && !ok then s.missPageBursts n g else s)

/-- BRX_WAKE: BRX wakes for burst k of a frame, which is its snapshot point; or, with no burst, for the upstream reference of a frame
that is not known, where that reference stood for the origin A (R102, R110, R114, R115). After EN is cleared no further
burst is received: its bytes are lost-burst, and it is bad (R82, R92). A discovery window has no terminal, so nothing is snapped for
it. DESIGN CHOICE: a burst is in reception at the write of EN = 0 where BRX has woken for it before (R82 does not say when a
reception begins; log 77). -/
def execBrxWake (n : Fin 32) (frame : BitVec 51) (k : Option (Fin 512)) (s : State) : Res :=
  let f := frame.toNat
  if s.quiet then .next s
  else if !s.en n then
    match k.bind fun j => (s.wakesFor n f j).map fun b => (b, j.val) with
    | some x => .next (if (headOf x.1).kind == 2 then s else (((s.lostAllocs x.1).miss n f [x]).missedDue n fun y => decide (y ≤ f)))
    | none => .next s
  else match k with
  | none => .next (if s.knownFrame n f then s else s.setF (Reg.BRX_STATUS n) 1 0 0)
  | some k =>
    match s.wakesFor n f k with
    | none => .next s
    | some b =>
      let h := headOf b
      let s := s.missedDue n fun x => decide (x ≤ f)
      let p := s.bport n
      let disc := h.kind == 2
      let p := { p with awake := p.awake ++ [(f, k.val, disc)], inDisc := p.inDisc || disc
                        snaps := if disc then p.snaps else p.snaps ++ [s.snapOf n f k h] }
      .next ((s.setBport n p).setF (Reg.BRX_STATUS n) 1 0 0)

/-- The terminal had a burst in this second that failed lock, was truncated or failed R298 (R316). -/
def State.udfDefect (s : State) (t : Nat) : State :=
  let x := s.udf.second.look (0, 0, false) t
  { s with udf := { s.udf with second := s.udf.second.put (0, 0, false) t (x.1, x.2.1, true) } }

/-- The parts of a burst after its delimiter (Table 09.1, R296); an allocation of no bytes, such as that of a ranging grant, is
none. -/
def segsOf (b : List CalEnt) : List Seg :=
  let live := b.filter fun e => !e.void
  let pl := (live.headD {}).ploam
  [{ kind := 0, left := 4 }] ++ (if pl then [{ kind := 1, left := 48 }] else []) ++
    ((live.filter fun e => decide (4 ≤ e.grant)).map fun e =>
      ({ kind := 2, stream := e.stream, left := 4 * (e.grant / 4), dbru := e.dbru } : Seg)) ++
    [{ kind := 3, left := 4 }]

/-- UDF starts on a burst that locked. -/
def State.udfStart (s : State) (n : Nat) (sn : Snap) (b : List CalEnt) : State :=
  let segs := segsOf b
  let u : UdfBurst := { frame := sn.frame, k := sn.k, loc := sn.loc, len := (segs.map (·.left)).sum, segs := segs }
  let p := s.udf.port.look {} n
  { s with udf := { s.udf with port := s.udf.port.put {} n { p with bursts := p.bursts ++ [u] } } }

/-- The burst that UDF takes apart goes, and with it what it counted of it: its granted bytes are lost-burst (R105). -/
def State.udfDrop (s : State) (n frame k : Nat) : State :=
  let p := s.udf.port.look {} n
  { s with udf := { s.udf with port := s.udf.port.put {} n { p with
    bursts := p.bursts.filter fun u => !(u.frame == frame && u.k == k)
    counts := p.counts.filter fun c => !(c.frame == frame && c.k == k) } } }

/-- The delimiter is found where it is sought (R104, R146), by the values of the snapshot; for a ranging grant the offset
counts from S (R140). -/
def State.delimOk (s : State) (n : Nat) (h : CalEnt) (sn : Snap) (d : Int) (off : Int) : Bool :=
  if h.kind = 1 then
    decide (sn.exp - sn.win ≤ off / 64) && decide (off / 64 * 100 ≤ (sn.exp + sn.win) * 100 + s.rbHundredths n)
  else
    let w : Int := s.fld (Reg.BRX_ADAPT n) 15 8
    let near := fun (x : Int) => decide (-w ≤ x) && decide (x ≤ w)
    near d || sn.adj.any fun delta => near (d + delta / rbPerBit sn.rate)

/-- A burst that failed lock (R105, R143, R316). -/
def State.lockFail (s : State) (n : Nat) (sn : Snap) (b : List CalEnt) : State :=
  let h := headOf b
  let s := s.inc (if sn.warm then Reg.BRX_CNT_WARM_FAIL n else Reg.BRX_CNT_COLD_FAIL n)
  let s := s.judge n sn .bad
  let s := (s.rngResult n { l := sn.loc, ranging := h.kind == 1, off := none, gen := sn.gen }).udfDefect (512 * n + sn.loc)
  let s := s.lostAllocs b
  let p := s.bport n
  let s := s.setBport n { p with deaf := p.deaf + 1 }
  let s := if s.en n && p.deaf + 1 = 64 then s.raise 29 n else s
  s.traceBurst n sn h.prof (if sn.abandoned then 2 else 1) 0 0 (grantOf b)

/-- The SD check of a burst has failed with SD_GATE = 1: BRX abandons it, which fails its lock, also where the delimiter has
been found before (R72, R104). DESIGN CHOICE: of a burst so short that its verdict has been given by then the verdict stands, and
its bytes are lost-burst (log 77). -/
def State.abandonBurst (s : State) (n frame k : Nat) : State :=
  let over_ := match s.received n frame k with
    | some b => (s.udfDrop n frame k).lostAllocs b
    | none => s
  match (s.bport n).snap frame k with
  | none => over_
  | some sn =>
    if sn.judged.isSome then over_
    else
      let sn := { sn with abandoned := true }
      match sn.found, s.received n frame k with
      | some _, some b => (s.udfDrop n frame k).lockFail n sn b
      | _, _ => s.setBport n ((s.bport n).setSnap sn)

/-- BURST_ACQUIRE: `eye` says that some position of the fine search passes the eye check, `found` is where
the search ends, `delim` the offset of the delimiter in bits from its expected
position (R103 to R106, R127). A warm burst whose phase lies more than WSRCH from the estimate fails lock (R121). DESIGN CHOICE: IN_BURST reads 1
from here to BRX_SLEEP, also for a burst that fails lock, and never in a discovery window (log 69). -/
def execBurstAcquire (n : Fin 32) (frame : BitVec 51) (k : Fin 512) (eye : Bool) (found : SearchEnd)
    (delim : Option Int) (s : State) : Res :=
  match (s.bport n).snap frame.toNat k, s.received n frame.toNat k with
  | some sn, some b =>
    let h := headOf b
    if h.kind = 2 || sn.found.isSome || sn.judged.isSome then .next s
    else
      let s := if sn.warm && !sn.ent.valid then s.inc (Reg.BRX_CNT_WARM_STALE n) else s
      let s := s.setB (Reg.BRX_STATUS n) 2 true
      let near := decide ((wrap64 found.code sn.est).natAbs ≤ s.fld (Reg.BRX_CTRL n) 11 8)
      match delim with
      | none => .next (s.lockFail n sn b)
      | some d =>
        let kk := rbPerBit sn.rate
        let off : Int := 64 * kk * d + kk * found.code
        if sn.abandoned || (sn.warm && !(eye && near)) || !s.delimOk n h sn d off then .next (s.lockFail n sn b)
        else
          let sn := { sn with found := some found.code.val, off := off, peak := if sn.warm then sn.peak else found.peak }
          let p := (s.bport n).setSnap sn
          .next ((s.setBport n { p with deaf := 0 }).udfStart n sn b)
  | _, _ => .next s

/-- Codes by which the shadow PEAK can have moved over payload blocks of 1,024 bits with these transitions: at most one in each
4,096 bits, and none where every block holds fewer than TD_MIN (R107). -/
def peakMoves (tdMin : Nat) : List (BitVec 11) → Nat
  | [] => 0
  | [a] => (decide (tdMin ≤ a.toNat)).toNat
  | [a, b] => (decide (tdMin ≤ a.toNat) || decide (tdMin ≤ b.toNat)).toNat
  | [a, b, c] => ([a, b, c].any fun x => decide (tdMin ≤ x.toNat)).toNat
  | a :: b :: c :: d :: r => ([a, b, c, d].any fun x => decide (tdMin ≤ x.toNat)).toNat + peakMoves tdMin r

/-- The shadow PEAK at the end of a payload: the code given, as near as adaptation from the starting code allows (R107). -/
def shadowPeak (start peak moves : Nat) : Nat := max (start - moves) (min (start + moves) peak)

/-- Payload blocks of a burst that fit between its origin and its end (R107). -/
def State.payloadBlocks (_s : State) (sn : Snap) (h : CalEnt) : Nat :=
  cdiv (((h.fin : Int) - h.first).toNat * bitsPerCycle sn.rate) 1024

/-- BURST_VERDICT: UDF's verdict reaches BRX after the delivery of the burst's last codeword, with the shadow peaking at the
burst's end and the transitions in each 1,024-bit block of its payload (R92, R105, R107 to R111, R302). A burst of which UDF
has lost its account in a reset has no report of clean codewords, and is bad. DESIGN CHOICE: a verdict that R111 discards still counts
the burst in CNT_WARM_OK, CNT_COLD_OK or CNT_UNCORR (log 69). -/
def execBurstVerdict (n : Fin 32) (frame : BitVec 51) (k : Fin 512) (payload : PayloadEnd) (s : State) : Res :=
  match (s.bport n).snap frame.toNat k, s.received n frame.toNat k with
  | some sn, some b =>
    let rec_ := (s.udf.port.look {} n).bursts.find? fun u => u.frame == sn.frame && u.k == sn.k
    match sn.found, sn.judged with
    | some ph, none =>
      if rec_.any fun u => decide (u.pos < u.len) then .next s
      else
      let h := headOf b
      let unc := (rec_.map (·.uncorr)).getD 0
      let moves := peakMoves (s.fld (Reg.BRX_ADAPT n) 25 16) (payload.blocks.take (s.payloadBlocks sn h))
      let pk := shadowPeak sn.peak payload.peak moves
      let up := s.udf.port.look {} n
      let up' := { up with bursts := up.bursts.filter fun u => !(u.frame == sn.frame && u.k == sn.k) }
      let s := { s with udf := { s.udf with port := s.udf.port.put {} n up' } }
      if sn.bad || rec_.isNone then
        let s := (s.judge n sn .bad).incIf (decide (0 < unc)) (Reg.BRX_CNT_UNCORR n)
        let s := if h.kind = 1 then s.rngResult n { l := sn.loc, ranging := true, off := none, gen := sn.gen } else s
        .next (s.traceBurst n sn h.prof (if rec_.any (·.cut) then 4 else 3) pk unc (grantOf b))
      else
        let s := (s.judge n sn (.good ph pk)).inc (if sn.warm then Reg.BRX_CNT_WARM_OK n else Reg.BRX_CNT_COLD_OK n)
        let s := s.rngResult n { l := sn.loc, ranging := h.kind == 1, off := some sn.off, gen := sn.gen }
        .next (s.traceBurst n sn h.prof 0 pk unc (grantOf b))
    | _, _ => .next s
  | _, _ => .next s

end Sys2Proof.Machine
end

