-- ==== Sys2Proof/Machine/Held.lean ====
section
/-! DEFINITION. Words held until the write that commits an entry (R684), and the word that a write stores in a register:
its writable fields, within their bounds (Table 00.4). -/

namespace Sys2Proof.Machine

/-- The clamped fields of a word within their bounds: below the least value the least is stored, above the greatest the
greatest. -/
def clampWord : List (Nat × Nat × Nat × Nat) → Word → Word
  | [], w => w
  | (hi, lo, least, most) :: t, w =>
    let v := fldW w hi lo
    clampWord t (if v < least then setFldW w hi lo least else if most < v then setFldW w hi lo most else w)

/-- The word that a write of v leaves at an address that holds `old`. -/
def fitWord (a : Nat) (old v : Word) : Word :=
  match regAt a with
  | none => old
  | some d =>
    let m := BitVec.ofNat 32 (d.rw ||| d.own)
    clampWord d.clamps ((old &&& ~~~m) ||| (v &&& m))

/-- Functions in order: OP is 0, Tn is n + 1. -/
def fnNo : Fn → Nat
  | .op => 0
  | .t n => n.val + 1

/-- The key of the held set of a function in a block. -/
def heldKey (fn : Fn) (blk : Nat) : Nat := 32 * fnNo fn + blk

/-- Word i of the entry at `entry`, as the commit of its last word takes it: the held word if one is held for this entry,
else the word stored (R163, R684). -/
def State.heldWord (s : State) (fn : Fn) (blk entry i : Nat) : Word :=
  let h := s.hif.held.look {} (heldKey fn blk)
  if h.entry = entry then
    match h.words.find? fun e => e.1 == i with
    | some (_, w) => w
    | none => s.rd (entry + 4 * i)
  else s.rd (entry + 4 * i)

/-- The held set of a function in a block is empty: after a commit, a discard, or a write of another entry (R684). -/
def State.dropHeld (s : State) (fn : Fn) (blk : Nat) : State :=
  { s with hif := { s.hif with held := s.hif.held.drop (heldKey fn blk) } }

end Sys2Proof.Machine
end

