-- ==== Sys2Proof/Machine/CmdSet.lean ====
section
/-! DEFINITION. The command register sets that each function has of its own: the operator's in the blocks' windows, a
tenant's in its tenant page (R403, R447, R463, Table 19.11). -/

namespace Sys2Proof.Machine

/-- Offset in the tenant page of the word at a BAR0 address of a command set (Table 19.11). -/
def tenOff (a : Nat) : Nat :=
  if a < 0x1B00000 then 0x2000 + (a - Reg.FDB_CMD) else if a < 0x1D00000 then 0x3000 + (a - Reg.TMG_SCMD)
  else 0x4000 + (a - Reg.CRY_CMD)

/-- A word of a function's own command set, named by the operator's address. -/
def State.cs (s : State) (fn : Fn) (a : Nat) : Word :=
  match fn with
  | .op => s.rd a
  | .t n => s.ten (0x10000 * n.val + tenOff a)

/-- Storing a word of a function's own command set. -/
def State.setCs (s : State) (fn : Fn) (a : Nat) (w : Word) : State :=
  match fn with
  | .op => s.wr a w
  | .t n => s.setTen (0x10000 * n.val + tenOff a) w

/-- The tenant of a function. -/
def fnTenant : Fn → Option Nat
  | .op => none
  | .t n => some n.val

/-- The tenant that a ring belongs to. -/
def State.ringTenant (s : State) (r : Nat) : Option Nat := fnTenant (s.ringOwner r)

end Sys2Proof.Machine
end

