-- ==== Sys2Proof/Machine/Crc.lean ====
section
/-! DEFINITION. The check codes that the device computes on bytes: the CRC-8 of the carrier frame (Table 10.3), the
reflected CRC-32C of the load-spreading hash and of the ledger (R380), and BIP-8. -/

namespace Sys2Proof.Machine

/-- `n` shifts of the CRC-8 register with polynomial x⁸ + x² + x + 1. -/
def crc8Shift : Nat → Nat → Nat
  | 0, c => c
  | n + 1, c => crc8Shift n (if 128 ≤ c then (2 * c - 256) ^^^ 7 else 2 * c)

/-- CRC-8 over bytes in order, from a register value. -/
def crc8 : List Byte → Nat → Nat
  | [], c => c
  | b :: t, c => crc8 t (crc8Shift 8 (c ^^^ b.toNat))

/-- `n` shifts of the reflected CRC-32C register (polynomial 0x1EDC_6F41). -/
def crc32Shift : Nat → Nat → Nat
  | 0, c => c
  | n + 1, c => crc32Shift n (if c % 2 = 1 then (c / 2) ^^^ 0x82F63B78 else c / 2)

/-- The reflected CRC-32C register after bytes in order. -/
def crc32Reg : List Byte → Nat → Nat
  | [], c => c
  | b :: t, c => crc32Reg t (crc32Shift 8 (c ^^^ b.toNat))

/-- CRC-32C of bytes with an initial value, XORed with 0xFFFF_FFFF. -/
def crc32c (init : Nat) (bytes : List Byte) : Nat := crc32Reg bytes init ^^^ 0xFFFFFFFF

/-- BIP-8: the exclusive or of bytes, even parity in each bit position. -/
def bip8 (bytes : List Byte) : Byte := bytes.foldl (· ^^^ ·) 0

/-- The bits of a byte, most significant first. -/
def bitsOf (b : Byte) : List Bool := (List.range 8).map fun i => b.getLsbD (7 - i)

/-- Bytes read from bits, most significant first; a rest of fewer than 8 bits is left out. -/
def bytesOf : List Bool → List Byte
  | a :: b :: c :: d :: e :: f :: g :: h :: t =>
    BitVec.ofNat 8 (128 * a.toNat + 64 * b.toNat + 32 * c.toNat + 16 * d.toNat + 8 * e.toNat + 4 * f.toNat +
      2 * g.toNat + h.toNat) :: bytesOf t
  | _ => []

/-- A number as `n` bytes, most significant first. -/
def bytesBE (n v : Nat) : List Byte := (List.range n).map fun i => BitVec.ofNat 8 (v >>> (8 * (n - 1 - i)))

/-- Bytes as a number, byte 0 lowest. -/
def joinBytesLE : List Byte → Nat
  | [] => 0
  | b :: t => b.toNat + 256 * joinBytesLE t

end Sys2Proof.Machine
end

