-- ==== Sys2Proof/Machine/FdbOps.lean ====
section
/-! DEFINITION. The forwarding database (12): entries and their counts, the bucket hash, placement and eviction, events,
and the lookups of a pass. -/

namespace Sys2Proof.Machine

/-! Entries (Table 12.1). -/

def eValid (e : BitVec 128) : Bool := e.getLsbD 127
def eStatic (e : BitVec 128) : Bool := e.getLsbD 126
/-- The owner of an entry: a tenant, or 16 for the operator. -/
def eOwner (e : BitVec 128) : Nat := if e.getLsbD 125 then fldW e 124 121 else 16
def eFid (e : BitVec 128) : Nat := fldW e 120 109
def eMac (e : BitVec 128) : Nat := fldW e 108 61
def eKind (e : BitVec 128) : Nat := fldW e 60 58
def eDest (e : BitVec 128) : Nat := fldW e 57 41
def eStamp (e : BitVec 128) : Nat := fldW e 40 25

/-- A valid entry of these fields. -/
def mkEntry (static : Bool) (owner fid mac kind dest stamp : Nat) : BitVec 128 :=
  BitVec.ofNat 128 (2 ^ 127 + 2 ^ 126 * static.toNat + 2 ^ 125 * (owner != 16).toNat + 2 ^ 121 * (owner % 16) +
    2 ^ 109 * (fid % 4096) + 2 ^ 61 * (mac % 2 ^ 48) + 2 ^ 58 * (kind % 8) + 2 ^ 41 * (dest % 131072) + 2 ^ 25 * (stamp % 65536))

/-- The entry at a location; LOC below 262,144 is a bucket slot, above it the overflow store (R389). -/
def State.fdbAt (s : State) (loc : Nat) : BitVec 128 := s.fdb.ents.look 0 loc

/-- FDB_SEC. -/
def State.fdbSec (s : State) : Nat := s.fld Reg.FDB_STATUS 31 16

/-- The owner of a FID. -/
def State.fidOwner (s : State) (f : Nat) : Nat := if s.bit (Reg.FDB_FID f) 29 then s.fld (Reg.FDB_FID f) 28 25 else 16

/-- A FID lies in tenant n's share. -/
def State.fidIn (s : State) (f n : Nat) : Bool := s.fidOwner f == n

/-- Words 2 and 3 of FDB_TSHARE: ENT and LRN of an owner; words 0 and 1 its limits. -/
def tshare (o w : Nat) : Nat := 0x1A00300 + 16 * o + 4 * w

/-- Changing a count by one. -/
def State.bump (s : State) (a hi : Nat) (up : Bool) : State :=
  s.setF a hi 0 (if up then s.fld a hi 0 + 1 else s.fld a hi 0 - 1)

/-- The counts of R393 take in, or give up, an entry. -/
def State.fdbCount (s : State) (e : BitVec 128) (up : Bool) : State :=
  let s := (s.bump Reg.FDB_USED 18 up).bump (tshare (eOwner e) 2) 18 up
  if eStatic e then s
  else
    let s := s.bump (tshare (eOwner e) 3) 18 up
    if eKind e = 0 then (s.bump (Reg.FDB_TERM (eDest e)) 8 up).bump (Reg.FDB_PORT_LRN (eDest e / 512)) 18 up else s

/-- A location takes a value; the counts follow (R393). -/
def State.fdbPut (s : State) (loc : Nat) (e : BitVec 128) : State :=
  let old := s.fdbAt loc
  let s := if eValid old then s.fdbCount old false else s
  let s : State := { s with fdb := { s.fdb with ents := s.fdb.ents.put 0 loc (if eValid e then e else 0) } }
  if eValid e then s.fdbCount e true else s

/-- The bucket of a key (R390). -/
def State.bucket (s : State) (fid mac : Nat) : Nat :=
  let c := crc32c (s.rd Reg.FDB_HASH_SEED).toNat (bytesBE 2 fid ++ bytesBE 6 mac)
  (c / 65536) ^^^ (c % 65536)

/-- The location of a key: its bucket's slots, then the overflow store (R391). -/
def State.fdbFind (s : State) (fid mac : Nat) : Option Nat :=
  (s.fdb.ents.find? fun x => eValid x.2 && eFid x.2 == fid && eMac x.2 == mac).map (·.1)

/-- An event record (Table 12.6): the MAC in wire order. -/
def State.fdbEvent (s : State) (code fid mac kind dest : Nat) : State :=
  if s.bit Reg.FDB_CTRL 5 then
    s.postEvent (s.fld Reg.FDB_CTRL 15 6)
      (2 + 256 * code + 2 ^ 16 * fid + 2 ^ 32 * joinBytesLE (bytesBE 6 mac) + 2 ^ 80 * kind + 2 ^ 96 * dest)
      Reg.FDB_CNT_EV_LOST
  else s

def State.fdbEventOf (s : State) (code : Nat) (e : BitVec 128) : State :=
  s.fdbEvent code (eFid e) (eMac e) (eKind e) (eDest e)

/-! Placement (R397, R398). -/

/-- Slots of the key's bucket whose entry may be evicted for an owner; a command of the operator may evict any learned
entry. -/
def State.evictable (s : State) (b owner : Nat) (opCmd : Bool) : List Nat :=
  ((List.range 4).map fun i => 4 * b + i).filter fun loc =>
    let e := s.fdbAt loc
    eValid e && !eStatic e && (opCmd || eOwner e == owner)

/-- The age of an entry in seconds, modulo 65,536. -/
def State.fdbAge (s : State) (loc : Nat) : Nat := (s.fdbSec + 65536 - eStamp (s.fdbAt loc)) % 65536

/-- The oldest of some slots, the lower on a tie. -/
def State.oldest (s : State) : List Nat → Option Nat
  | [] => none
  | a :: t => match s.oldest t with
    | none => some a
    | some b => if s.fdbAge a < s.fdbAge b then some b else some a

/-- The victim of R398; `draw` is the value of the LFSR. -/
def State.victim (s : State) (b owner : Nat) (opCmd : Bool) (draw : Nat) : Option Nat :=
  let l := s.evictable b owner opCmd
  if s.bit Reg.FDB_CTRL 4 then s.oldest l else if l.isEmpty then none else l[draw % l.length]?

/-- The lowest free overflow location, from location i on. -/
def State.freeOver (s : State) : Nat → Nat → Option Nat
  | 0, _ => none
  | n + 1, loc => if eValid (s.fdbAt loc) then s.freeOver n (loc + 1) else some loc

/-- An insert: the location taken, and the state with the entry in place; an evicted entry is counted and reported. -/
def State.fdbInsert (s : State) (e : BitVec 128) (opCmd : Bool) (draw : Nat) : Option (Nat × State) :=
  let b := s.bucket (eFid e) (eMac e)
  match (List.range 4).find? fun i => !eValid (s.fdbAt (4 * b + i)) with
  | some i => some (4 * b + i, s.fdbPut (4 * b + i) e)
  | none => match s.freeOver 2048 262144 with
    | some loc => some (loc, s.fdbPut loc e)
    | none => match s.victim b (eOwner e) opCmd draw with
      | none => none
      | some loc =>
        let old := s.fdbAt loc
        let s := ((s.fdbPut loc 0).inc Reg.FDB_CNT_EVICT).fdbEventOf 4 old
        some (loc, s.fdbPut loc e)

/-! Passes (R385 to R396). -/

/-- The source of a pass as a destination: kind and index; none for an uplink port of no enabled group. -/
def State.srcDest (s : State) (p : Pkt) : Option (Nat × Nat) :=
  match p.kind with
  | 0 => some (0, p.term)
  | 1 => ((List.range 24).find? fun g => s.bit (Reg.UPL_GRP g) 31 && s.bit (Reg.UPL_GRP g) p.port).map fun g => (1, g)
  | _ => some (2, 0)

/-- The source index of FDB_SRCFID (Table 12.8). -/
def srcIdx (p : Pkt) : Nat := match p.kind with
  | 0 => p.port
  | 1 => 32 + p.port
  | _ => 56

/-- The terminal of the other member of a local protected pair (R558). -/
def State.peerTerm (s : State) (t : Nat) : Option Nat :=
  let n := t / 512
  if s.bit (Reg.TPA_PROT n) 31 && !s.bit (Reg.TPA_PROT n) 30 then some (512 * s.fld (Reg.TPA_PROT n) 29 25 + t % 512)
  else none

/-- Two destinations are one source: the same, or terminals that are one by R558. -/
def State.sameDest (s : State) (a b : Nat × Nat) : Bool :=
  a == b || (a.1 == 0 && b.1 == 0 && s.peerTerm a.2 == some b.2)

/-- Limits allow learning for an owner and a source (R394). -/
def State.limitsAllow (s : State) (owner : Nat) (src : Nat × Nat) : Bool :=
  decide (s.fld (tshare owner 2) 18 0 < s.fld (tshare owner 0) 18 0) &&
    decide (s.fld (tshare owner 3) 18 0 < s.fld (tshare owner 1) 18 0) &&
    (src.1 != 0 ||
      (decide (s.fld (Reg.FDB_TERM src.2) 8 0 < s.fld (Reg.FDB_PORT (src.2 / 512)) 30 22) &&
        decide (s.fld (Reg.FDB_PORT_LRN (src.2 / 512)) 18 0 < s.fld (Reg.FDB_PORT (src.2 / 512)) 18 0)))

/-- A group address: the lowest bit of its first byte is 1. -/
def groupMac (mac : Nat) : Bool := Nat.testBit mac 40

/-- STAMP of an entry takes FDB_SEC. -/
def State.refresh (s : State) (loc : Nat) : State :=
  let e := setFldW (s.fdbAt loc) 40 25 s.fdbSec
  { s with fdb := { s.fdb with ents := s.fdb.ents.put 0 loc e } }

/-- The source lookup of a pass (R394 to R396): true when the pass is dropped. DESIGN CHOICE: a source that is no destination, an
uplink port of no enabled group, is the place of no entry, is not learned, and is zero in the record of the move (log 73). -/
def State.sourceLookup (s : State) (fid mac : Nat) (p : Pkt) : Bool × State :=
  let here := s.srcDest p
  if groupMac mac then (false, s.inc Reg.FDB_CNT_SA_GROUP)
  else
    let hit := s.fdbFind fid mac
    let same := hit.any fun loc => here.any fun src => s.sameDest (eKind (s.fdbAt loc), eDest (s.fdbAt loc)) src
    let stat := hit.any fun loc => eStatic (s.fdbAt loc)
    if same then (false, match hit with
      | some loc => s.refresh loc
      | none => s)
    else if stat then (false, s.inc Reg.FDB_CNT_STATIC_MOVE)
    else
      let s := match hit with
        | some loc => ((s.fdbPut loc 0).inc Reg.FDB_CNT_MOVE).fdbEvent 2 fid mac (here.getD (0, 0)).1 (here.getD (0, 0)).2
        | none => s
      match here with
      | none => (false, s)
      | some src =>
        if s.limitsAllow (s.fidOwner fid) src then
          if 512 ≤ s.fdb.learns.length then (false, (s.inc Reg.FDB_CNT_LEARN_OVF).raise 36 0)
          else
            (false, { s with fdb := { s.fdb with
              learns := s.fdb.learns ++ [{ fid := fid, mac := mac, dkind := src.1, dest := src.2 }] } })
        else
          let s := s.fdbEvent 5 fid mac src.1 src.2
          if p.kind = 0 && !s.bit (Reg.FDB_PORT p.port) 31 then (true, s.inc Reg.FDB_CNT_LIM_DROP)
          else (false, s.inc Reg.FDB_CNT_LIM_FWD)

/-- The destination lookup (Table 12.3): a destination, or none when the pass is dropped. -/
def State.destLookup (s : State) (fid mac : Nat) (p : Pkt) : Option Dest × State :=
  match s.fdbFind fid mac with
  | none =>
    if s.bit (Reg.FDB_FID fid) 24 then (none, s.inc Reg.FDB_CNT_UNK_DROP)
    else (some (.flood (s.fld (Reg.FDB_FID fid) 11 0)), s.inc Reg.FDB_CNT_FLOOD)
  | some loc =>
    let e := s.fdbAt loc
    if eKind e = 4 then (none, s.inc Reg.FDB_CNT_DISCARD)
    else if s.srcDest p == some (eKind e, eDest e) then (none, s.inc Reg.FDB_CNT_SAME)
    else match eKind e with
      | 0 => (some (.queue (4 * eDest e + p.cls)), s)
      | 1 => (some (.uplink (eDest e)), s)
      | 2 => (some .mate, s)
      | _ => (some (.ring (eDest e) 0), s)

/-- A forwarded pass (R385 to R394): `sa` is none for a pass that makes no source lookup. -/
def State.fdbPass (s : State) (fid da : Nat) (sa : Option Nat) (p : Pkt) : Option Dest × State :=
  if !s.bit (Reg.FDB_FID fid) 31 then (none, s.inc Reg.FDB_CNT_NOFID)
  else if p.tenant.any fun n => !s.fidIn fid n then (none, s.inc Reg.FDB_CNT_FID_SHARE)
  else
    let (d, s) := s.destLookup fid da p
    match sa with
    | none => (d, s)
    | some m =>
      if s.bit (Reg.FDB_FID fid) 30 then
        let (drop, s) := s.sourceLookup fid m p
        (if drop then none else d, s)
      else (d, s)

end Sys2Proof.Machine
end

