-- ==== Sys2Proof/Machine/Shares.lean ====
section
/-! DEFINITION. What lies in a tenant's share: terminals (R242), host rings (R568), queues (R431). -/

namespace Sys2Proof.Machine

/-- The stream number 0 of terminal t lies in tenant n's share (R242). -/
def State.termIn (s : State) (t n : Nat) : Bool := s.strOf (4 * t) n

/-- A host ring lies in tenant n's share (R568). -/
def State.ringIn (s : State) (r n : Nat) : Bool :=
  match s.ringOwner r with
  | .t m => m.val == n
  | .op => false

/-- A queue lies in tenant n's share (R431). -/
def State.queueIn (s : State) (q n : Nat) : Bool :=
  if q < 65536 then s.termIn (q / 4) n
  else s.bit (Reg.TMG_GRP ((q - 65536) / 8)) 31 && s.fld (Reg.TMG_GRP ((q - 65536) / 8)) 30 27 == n

end Sys2Proof.Machine
end

