-- ==== Sys2Proof/Machine/Fdb.lean ====
section
/-! DEFINITION. The commands of the forwarding database (12): learning, aging, the command sets, and the guarded
registers. A command of a set runs at once on the set's words; GO reads back 0. -/

namespace Sys2Proof.Machine

/-- LEARN_PLACE: the learn engine takes the oldest request (R396 to R398). -/
def execLearnPlace (draw : Word) (s : State) : Res :=
  match s.fdb.learns with
  | [] => .next s
  | q :: rest =>
    let s : State := { s with fdb := { s.fdb with learns := rest } }
    match s.fdbFind q.fid q.mac with
    | some loc =>
      let e := s.fdbAt loc
      .next (if (eKind e, eDest e) == (q.dkind, q.dest) then s.refresh loc else s)
    | none =>
      let owner := s.fidOwner q.fid
      if !s.limitsAllow owner (q.dkind, q.dest) then
        .next ((s.inc Reg.FDB_CNT_LIM_LATE).fdbEvent 5 q.fid q.mac q.dkind q.dest)
      else
        match s.fdbInsert (mkEntry false owner q.fid q.mac q.dkind q.dest s.fdbSec) false draw.toNat with
        | none => .next (s.inc Reg.FDB_CNT_NOROOM)
        | some (_, s) => .next ((s.inc Reg.FDB_CNT_LEARN).fdbEvent 1 q.fid q.mac q.dkind q.dest)

/-- AGE_OUT: the aging engine visits a location (R400, R401). -/
def execAgeOut (loc : Fin 264192) (s : State) : Res :=
  let lim := s.fld Reg.FDB_CTRL 31 16
  let e := s.fdbAt loc
  .next (if lim != 0 && eValid e && !eStatic e && decide (lim ≤ s.fdbAge loc) then
      ((s.fdbPut loc 0).inc Reg.FDB_CNT_AGED).fdbEventOf 3 e
    else s)

/-! The command sets (R403 to R405). -/

/-- A command ends with its STATUS; a refused one counts. -/
def State.fdbDone (s : State) (fn : Fn) (op status : Nat) : State :=
  (s.setCs fn Reg.FDB_CMD (BitVec.ofNat 32 (2 ^ 24 * status + 2 ^ 16 * op))).incIf (status != 0) Reg.FDB_CNT_REFUSED

def State.fdbLoc (s : State) (fn : Fn) : Nat := fldW (s.cs fn Reg.FDB_CMD_LOC) 18 0
def State.fdbKeyMac (s : State) (fn : Fn) : Nat :=
  (s.cs fn Reg.FDB_CMD_KEY_LO).toNat + 2 ^ 32 * fldW (s.cs fn Reg.FDB_CMD_KEY_HI) 15 0
def State.fdbKeyFid (s : State) (fn : Fn) : Nat := fldW (s.cs fn Reg.FDB_CMD_KEY_HI) 27 16

/-- The entry in the data registers. -/
def State.fdbData (s : State) (fn : Fn) : BitVec 128 :=
  BitVec.ofNat 128 (joinWords ((List.range 4).map fun w => s.cs fn (Reg.FDB_DATA w)))

/-- The data registers take an entry. -/
def State.setFdbData (s : State) (fn : Fn) (e : BitVec 128) : State :=
  (List.range 4).foldl (fun s w => s.setCs fn (Reg.FDB_DATA w) (wordOf e.toNat w)) s

/-- A FID that a function may touch. -/
def State.fidFor (s : State) (fn : Fn) (f : Nat) : Bool :=
  match fn with
  | .op => true
  | .t n => s.fidIn f n

/-- The entry as a command writes it: static, and of the tenant's share when a tenant writes (R405, Table 12.1). -/
def cmdEntry (fn : Fn) (e : BitVec 128) : BitVec 128 :=
  let e := e &&& ~~~(0x1FFFFFF : BitVec 128)
  let e := if eValid e then setBitW e 126 true else e
  match fn with
  | .op => e
  | .t n => setFldW (setBitW e 125 true) 124 121 n

/-- DKIND and DEST are in their ranges (Table 12.2). -/
def destOk (e : BitVec 128) : Bool :=
  match eKind e with
  | 0 => decide (eDest e < 16384)
  | 1 => decide (eDest e < 24)
  | 2 => eDest e == 0
  | 3 => decide (eDest e < 1024)
  | 4 => eDest e == 0
  | _ => false

/-- A destination that a function may write (R405). -/
def State.destFor (s : State) (fn : Fn) (e : BitVec 128) : Bool :=
  match fn with
  | .op => true
  | .t n => match eKind e with
    | 0 => s.termIn (eDest e) n
    | 3 => s.ringIn (eDest e) n
    | 4 => true
    | _ => false

/-- The owner's ENT has room for one more entry. -/
def State.entRoom (s : State) (e : BitVec 128) : Bool :=
  decide (s.fld (tshare (eOwner e) 2) 18 0 < s.fld (tshare (eOwner e) 0) 18 0)

/-- READ. -/
def execFdbRead (fn : Fn) (s : State) : Res :=
  s.fnWrite fn Reg.FDB_CMD <|
  let loc := s.fdbLoc fn
  let e := s.fdbAt loc
  .next (if 264191 < loc then s.fdbDone fn 0 4
    else if eValid e && !s.fidFor fn (eFid e) then (s.setFdbData fn 0).fdbDone fn 0 5
    else (s.setFdbData fn e).fdbDone fn 0 0)

/-- WRITE: status by the checks of Table 12.4 and 12.5, the same for an entry with VALID = 0, which empties the location of its key. -/
def State.fdbWriteStatus (s : State) (fn : Fn) (loc : Nat) (e : BitVec 128) : Nat :=
  let old := s.fdbAt loc
  let held := s.fdbFind (eFid e) (eMac e)
  let sameKey := eValid old && eFid old == eFid e && eMac old == eMac e
  let bucketOk := decide (262144 ≤ loc) || loc / 4 == s.bucket (eFid e) (eMac e)
  if 264191 < loc || !destOk e || !bucketOk then 4
  else if !s.fidFor fn (eFid e) || (eValid old && !s.fidFor fn (eFid old)) || !s.destFor fn e then 5
  else if held.any fun l => l != loc then 2
  else if eValid old && !sameKey then 1 + Config.fdbOccupied % 6
  else if !eValid e then 0
  else if !(eValid old && eOwner old == eOwner e) && !s.entRoom e then 6
  else 0

def execFdbWrite (fn : Fn) (s : State) : Res :=
  s.fnWrite fn Reg.FDB_CMD <|
  let loc := s.fdbLoc fn
  let e := cmdEntry fn (s.fdbData fn)
  let st := s.fdbWriteStatus fn loc e
  .next (if st = 0 then (s.fdbPut loc e).fdbDone fn 1 0 else s.fdbDone fn 1 st)

/-- INSERT (R397, R398): the data registers become a valid entry; one that evicts an entry of its owner leaves ENT as it is; `draw` is the value of the LFSR. -/
def execFdbInsert (fn : Fn) (draw : Word) (s : State) : Res :=
  s.fnWrite fn Reg.FDB_CMD <|
  let e := cmdEntry fn (setBitW (s.fdbData fn) 127 true)
  .next (if !destOk e then s.fdbDone fn 2 4
    else if !s.fidFor fn (eFid e) || !s.destFor fn e then s.fdbDone fn 2 5
    else if (s.fdbFind (eFid e) (eMac e)).isSome then s.fdbDone fn 2 2
    else match s.fdbInsert e (fn == .op) draw.toNat with
      | none => s.fdbDone fn 2 3
      | some (loc, s1) =>
        let a := tshare (eOwner e) 2
        if !s.entRoom e && decide (s.fld a 18 0 < s1.fld a 18 0) then s.fdbDone fn 2 6
        else (s1.setCs fn Reg.FDB_CMD_LOC (BitVec.ofNat 32 loc)).fdbDone fn 2 0)

/-- DELETE. -/
def execFdbDelete (fn : Fn) (s : State) : Res :=
  s.fnWrite fn Reg.FDB_CMD <|
  .next (if !s.fidFor fn (s.fdbKeyFid fn) then s.fdbDone fn 3 5
    else match s.fdbFind (s.fdbKeyFid fn) (s.fdbKeyMac fn) with
      | none => s.fdbDone fn 3 1
      | some loc => (s.fdbPut loc 0).fdbDone fn 3 0)

/-- SEARCH. -/
def execFdbSearch (fn : Fn) (s : State) : Res :=
  s.fnWrite fn Reg.FDB_CMD <|
  .next (if !s.fidFor fn (s.fdbKeyFid fn) then s.fdbDone fn 4 5
    else match s.fdbFind (s.fdbKeyFid fn) (s.fdbKeyMac fn) with
      | none => s.fdbDone fn 4 1
      | some loc =>
        ((s.setFdbData fn (s.fdbAt loc)).setCs fn Reg.FDB_CMD_LOC (BitVec.ofNat 32 loc)).fdbDone fn 4 0)

/-- Every count of R393 is zero. -/
def State.fdbZero (s : State) : State :=
  let isCnt := fun (a : Nat) => a == Reg.FDB_USED ||
    (decide (0x1A00300 ≤ a) && decide (a < 0x1A00410) && decide (8 ≤ a % 16)) ||
    (decide (0x1A00600 ≤ a) && decide (a < 0x1A00700) && a % 8 == 4) || (decide (0x1A10000 ≤ a) && decide (a < 0x1A20000))
  { s with regs := s.regs.filter fun e => !isCnt e.1, fdb := { s.fdb with ents := [] } }

/-- FDB_SEED_WRITE: the hash changes and the table empties (R390, Table 12.8). -/
def execFdbSeedWrite (v : Word) (s : State) : Res := s.opWrite Reg.FDB_HASH_SEED <| .next (s.wr Reg.FDB_HASH_SEED v).fdbZero

/-- FID_WRITE (R408). -/
def execFidWrite (f : BitVec 12) (v : Word) (s : State) : Res :=
  s.opWrite (Reg.FDB_FID f.toNat) <|
  let v : Word := v &&& 0xFF000FFF
  let a := Reg.FDB_FID f.toNat
  let changed := fldW v 29 25 != s.fld a 29 25
  let used := s.fdb.ents.any fun x => eValid x.2 && eFid x.2 == f.toNat
  .next (if changed && used then s.inc Reg.FDB_CNT_REFUSED else s.wr a v)

end Sys2Proof.Machine
end

