-- ==== Sys2Proof/Machine/Bpm.lean ====
section
/-! DEFINITION. The commands of the buffer pools (13). -/

namespace Sys2Proof.Machine

/-- A frame that has its buffer goes on: to a reassembly slot, to the host interface, or to admission. A frame of the host
whose bytes could not be read has none, gives its buffer back and completes with DMA (R578, Table 19.6). -/
def State.withBuf (s : State) (f : Frm) (j ptr : Nat) : State :=
  let f := { f with buf := ptr, holder := reqCode j }
  match f.dest with
  | .reasm st =>
    match s.udf.parts.find? fun e => e.1 == st with
    | some (_, p) =>
      if p.buf.isSome then s.free ptr (reqCode j)
      else { s with udf := { s.udf with parts := Tab.place st { p with buf := some ptr } (s.udf.parts.drop st) } }
    | none => s.free ptr (reqCode j)
  | .ring r reason =>
    let s := s.setOwner ptr 0x39
    { s with rx := s.rx ++ [.frame r reason { f with holder := 0x39 }] }
  | .pw w off =>
    let s := s.setOwner ptr 0x3A
    { s with tce := { s.tce with packets := s.tce.packets ++ [(w, off, { f with holder := 0x3A })] } }
  | _ =>
    if f.desc.isSome && f.pkt.data.isEmpty then ((s.free ptr (reqCode j)).dmaFail true).ptxDone f.desc 3 0
    else { s with tmg := { s.tmg with arrivals := s.tmg.arrivals ++ [f] } }

/-- BUFFER_ALLOC: the oldest request of requester j; `pick` is the place in the free list from which the buffer comes, an
order that the spec leaves open (R412 to R416, R424). -/
def execBufferAlloc (j : Fin 8) (pick : BitVec 19) (metaBad : Bool) (s : State) : Res :=
  match s.bpm.wants.find? fun w => w.req == j.val with
  | none => .next s
  | some w =>
    let s := { s with bpm := { s.bpm with wants := s.bpm.wants.erase w } }
    match s.alloc j w.len w.up pick.toNat metaBad with
    | (.inl p, s) => .next (s.withBuf w.frm j p)
    | (.inr r, s) =>
      match w.frm.dest with
      | .reasm st =>
        .next { s with udf := { s.udf with parts := s.udf.parts.filter fun e => !(e.1 == st && e.2.buf.isNone) } }
      | _ => .next ((s.incIf (j.val == 6) Reg.TCE_CNT_PW_NOBUF).ptxDone w.frm.desc 4 r)

/-- BUFFER_FREE: a free presented by any identity (R417, R418, R420, R421, R424). A pointer that names no buffer has no word that
could be uncorrectable. -/
def execBufferFree (ptr : BitVec 19) (code : BitVec 8) (metaBad : Bool) (s : State) : Res :=
  let p := ptr.toNat
  .next (match (if metaBad && s.freeCheck p code.toNat != 1 && s.freeCheck p code.toNat != 2 then s.poolOf p else none) with
    | some k => s.stickBuf k p
    | none => s.free p code.toNat)

/-- BUFFER_SHARE (R419). -/
def execBufferShare (ptr : BitVec 19) (code : BitVec 8) (copies : BitVec 13) (last : BitVec 7) (s : State) : Res :=
  match s.share ptr.toNat code.toNat copies.toNat last.toNat with
  | some s' => .next s'
  | none => .next (s.inc Reg.BPM_CNT_SHARE_REFUSED)

/-- BPM_ENABLE: a write of BPM_CTRL.EN (R409, R410, R428). -/
def execBpmEnable (en : Bool) (s : State) : Res :=
  s.opWrite Reg.BPM_CTRL <|
  if en then
    if s.bit Reg.BPM_CTRL 0 then .next s
    else if s.layoutOk then .next ((s.setB Reg.BPM_CTRL 0 true).setB Reg.BPM_STATUS 0 false).rebuildPools
    else .next (s.inc Reg.BPM_CNT_REFUSED)
  else if (List.range 8).all fun k => s.fld (Reg.BPM_k_ALLOC k) 18 0 == 0 then
    .next ((s.setB Reg.BPM_CTRL 0 false).setB Reg.BPM_STATUS 0 false)
  else .next (s.inc Reg.BPM_CNT_REFUSED)

/-- BPM_INIT_DONE (R428). -/
def execBpmInitDone (s : State) : Res :=
  .next (if s.bit Reg.BPM_CTRL 0 then s.setB Reg.BPM_STATUS 0 true else s)

/-- BPM_CFG_WRITE: BPM_k_CFG, or BPM_k_COUNT with count (R428). -/
def execBpmCfgWrite (k : Fin 8) (count : Bool) (v : Word) (s : State) : Res :=
  s.opWrite (if count then Reg.BPM_COUNT k else Reg.BPM_CFG k) <|
  .next (if s.bit Reg.BPM_CTRL 0 then s.inc Reg.BPM_CNT_REFUSED
    else if count then s.wr (Reg.BPM_COUNT k) (v &&& 0x0007FFFF) else s.wr (Reg.BPM_CFG k) (v &&& 0x8007FFFF))

end Sys2Proof.Machine
end

