-- ==== Sys2Proof/Machine/Parse.lean ====
section
/-! DEFINITION. The parser (11): profile selection, the key, expectation and length checks, and the load-spreading hash. -/

namespace Sys2Proof.Machine

/-- Big-endian number of n bytes of a frame from an offset; none where they run past its end. -/
def beAt (d : List Byte) (off n : Nat) : Option Nat :=
  if off + n ≤ d.length then some (joinBytesBE ((d.drop off).take n)) else none

/-! Selection (R351, R352). -/

/-- Selection entry i matches a packet. -/
def State.selMatch (s : State) (p : Pkt) (i : Nat) : Bool :=
  let w1 := s.rd (Reg.PRS_SEL_w1 i)
  let w0 := s.rd (Reg.PRS_SEL_w0 i)
  let dir := fldW w1 30 29
  let src := fldW w1 28 26
  let net := fldW w1 19 18
  w1.getLsbD 31 && (dir == 2 || dir == p.down.toNat) && (src == 3 || (src == p.kind && decide (src < 3))) &&
    (w1.getLsbD 25 || fldW w1 24 20 == p.port) && net != 3 &&
    (net == 0 || beAt p.data 12 2 == some (fldW w0 31 16)) && (net != 2 || beAt p.data 16 2 == some (fldW w0 15 0))

/-- The profile of a first pass, and whether no entry matched. -/
def State.selectProf (s : State) (p : Pkt) : Nat × Bool :=
  match (List.range 256).find? (s.selMatch p) with
  | some i => (s.fld (Reg.PRS_SEL_w1 i) 17 12, false)
  | none => (if p.down then s.fld Reg.PRS_CTRL 13 8 else s.fld Reg.PRS_CTRL 5 0, true)

/-! The profile's fields (Tables 11.10, 11.11). -/

def State.pNwin (s : State) (p : Nat) : Nat := s.fld (Reg.PRS_p_CTRL p) 14 10
def State.pNexp (s : State) (p : Nat) : Nat := s.fld (Reg.PRS_p_CTRL p) 17 15
def State.pNlen (s : State) (p : Nat) : Nat := s.fld (Reg.PRS_p_CTRL p) 9 8
def State.winOff (s : State) (p w : Nat) : Nat := s.fld (Reg.PRS_p_WIN p w) 23 16
def State.winLen (s : State) (p w : Nat) : Nat := s.fld (Reg.PRS_p_WIN p w) 15 12 + 1
def State.winKey (s : State) (p w : Nat) : Nat := s.fld (Reg.PRS_p_WIN p w) 6 0

/-! Checks (R356, R357, R359 to R361). -/

/-- Expectation check x passes. -/
def State.expOk (s : State) (p : Nat) (d : List Byte) (x : Nat) : Bool :=
  let n := s.fld (Reg.PRS_p_EXP_CTL p x) 1 0 + 1
  match beAt d (s.fld (Reg.PRS_p_EXP_CTL p x) 15 8) n with
  | none => false
  | some v =>
    let m := (s.rd (Reg.PRS_p_EXP_MASK p x)).toNat
    v &&& m == (s.rd (Reg.PRS_p_EXP_VALUE p x)).toNat &&& m

/-- The implied end E_k; none where the field lies beyond the end of the frame. -/
def State.lenEnd (s : State) (p : Nat) (d : List Byte) (k : Nat) : Option Nat :=
  let a := Reg.PRS_p_LEN p k
  let scale := match s.fld a 15 14 with
    | 0 => 1
    | 1 => 4
    | _ => 8
  (beAt d (s.fld a 31 24) 2).map fun v => s.fld a 23 16 + scale * v

/-- Length check k holds (R360). -/
def State.lenOk (s : State) (p : Nat) (d : List Byte) (k : Nat) : Bool :=
  let a := Reg.PRS_p_LEN p k
  let ref := s.bit a 13
  match s.lenEnd p d k, (if ref then s.lenEnd p d 0 else some d.length) with
  | some e, some lim =>
    if s.bit a 12 then e == lim || (!ref && d.length == 60 && decide (e < 60)) else decide (e ≤ lim)
  | _, _ => false

/-- Some length check of the pass fails. -/
def State.lenFails (s : State) (p : Nat) (d : List Byte) : Bool :=
  (List.range (s.pNlen p)).any fun k => !s.lenOk p d k

/-! The key (R354, Table 11.2). -/

/-- A window lies partly beyond the end of the frame. -/
def State.short (s : State) (p : Nat) (d : List Byte) : Bool :=
  (List.range (s.pNwin p)).any fun w => decide (d.length < s.winOff p w + s.winLen p w)

/-- Byte j of the windows' part of the key. -/
def State.winByte (s : State) (p : Nat) (d : List Byte) (j : Nat) : Byte :=
  match (List.range (s.pNwin p)).find? fun w => decide (s.winKey p w ≤ j) && decide (j < s.winKey p w + s.winLen p w) with
  | some w => d.getD (s.winOff p w + (j - s.winKey p w)) 0
  | none => 0

/-- Key bytes 120 to 127. -/
def keyMeta (p : Pkt) (short : Bool) : List Byte :=
  [BitVec.ofNat 8 (32 * p.kind + p.port),
    BitVec.ofNat 8 (128 * p.down.toNat + 64 * p.lenErr.toNat + 32 * short.toNat + 8 * p.pass),
    BitVec.ofNat 8 (128 * p.tenant.isSome.toNat + p.tenant.getD 0), 0] ++ bytesBE 2 p.term ++ [0, 0]

/-- The key of a pass. -/
def State.keyOf (s : State) (prof : Nat) (p : Pkt) : List Byte :=
  ((List.range 120).map (s.winByte prof p.data)) ++ keyMeta p (s.short prof p.data)

/-- A field of w bits at key bit b. -/
def keyField (key : List Byte) (b w : Nat) : Nat :=
  let bits := joinBytesBE key
  (bits >>> (1024 - b - w)) % 2 ^ w

/-! The hash (R358, R379, R380). -/

/-- Two fields, the lower first. -/
def lowFirst (a b : List Byte) : List Byte := if joinBytesBE b < joinBytesBE a then b ++ a else a ++ b

/-- The hash of an input. -/
def State.hashOf (s : State) (input : List Byte) : Nat :=
  let c := crc32c (s.rd Reg.CLS_HASH_SEED).toNat input
  (c / 65536) ^^^ (c % 65536)

/-- The hash of a pass with key `key`. -/
def State.passHash (s : State) (prof : Nat) (key : List Byte) : Nat :=
  let h0 := Reg.PRS_p_HASH0 prof
  let h1 := Reg.PRS_p_HASH1 prof
  let at_ := fun (o n : Nat) => (key.drop o).take n
  if !s.bit h0 31 then 0
  else
    let n := s.fld h0 30 27 + 1
    let addr := lowFirst (at_ (s.fld h0 6 0) n) (at_ (s.fld h0 13 7) n)
    let ports := if s.bit h1 31 then lowFirst (at_ (s.fld h1 6 0) 2) (at_ (s.fld h1 13 7) 2) else []
    s.hashOf (addr ++ ports ++ at_ (s.fld h1 27 21) (s.fld h1 30 28))

/-- The hash of an UNPARSED pass. -/
def State.rawHash (s : State) (d : List Byte) : Nat := s.hashOf (lowFirst (d.take 6) ((d.drop 6).take 6))

/-! Commits (R352, R384). -/

/-- The refusals of a profile commit, on a state that holds the new profile. -/
def State.profBad (s : State) (p : Nat) : Bool :=
  let ws := List.range (min (s.pNwin p) 24)
  let h0 := Reg.PRS_p_HASH0 p
  let h1 := Reg.PRS_p_HASH1 p
  let n := s.fld h0 30 27 + 1
  decide (24 < s.pNwin p) ||
    ws.any (fun w => decide (192 < s.winOff p w + s.winLen p w) || decide (120 < s.winKey p w + s.winLen p w)) ||
    ws.any (fun w => ws.any fun v => decide (w < v) && decide (s.winKey p w < s.winKey p v + s.winLen p v) &&
      decide (s.winKey p v < s.winKey p w + s.winLen p w)) ||
    (List.range (s.pNexp p)).any (fun x =>
      decide (192 < s.fld (Reg.PRS_p_EXP_CTL p x) 15 8 + s.fld (Reg.PRS_p_EXP_CTL p x) 1 0 + 1)) ||
    (List.range (s.pNlen p)).any (fun k => decide (190 < s.fld (Reg.PRS_p_LEN p k) 31 24) ||
      s.fld (Reg.PRS_p_LEN p k) 15 14 == 3 || (k == 0 && s.bit (Reg.PRS_p_LEN p k) 13)) ||
    decide (128 < s.fld h0 6 0 + n) || decide (128 < s.fld h0 13 7 + n) ||
    (s.bit h1 31 && (decide (128 < s.fld h1 6 0 + 2) || decide (128 < s.fld h1 13 7 + 2))) ||
    decide (128 < s.fld h1 27 21 + s.fld h1 30 28)

end Sys2Proof.Machine
end

