-- ==== Sys2Proof/Machine/Cls.lean ====
section
/-! DEFINITION. The classifier (11): trees and rules, passes and their outcomes, epochs, and the table commands. -/

namespace Sys2Proof.Machine

/-- SELECTION_COMMIT: a write of word 0 of a selection entry with its held word 1 (R352). -/
def execSelectionCommit (i : Fin 256) (v : Word) (s : State) : Res :=
  s.opWrite (Reg.PRS_SEL_w0 i) <|
  let a := Reg.PRS_SEL_w0 i
  let w1 := s.heldWord .op 9 a 1
  let s := s.dropHeld .op 9
  .next ((s.wr a v).wr (a + 4) (fitWord (a + 4) (s.rd (a + 4)) w1))

/-- PROFILE_COMMIT: a write of PRS_p_CTRL with the held words of the profile (R383, R384). -/
def execProfileCommit (p : Fin 64) (v : Word) (s : State) : Res :=
  s.opWrite (Reg.PRS_p_CTRL p) <|
  let a := Reg.PRS_p_CTRL p
  let words := (List.range 47).map fun i => (a + 4 * (i + 1), s.heldWord .op 9 a (i + 1))
  let s := s.dropHeld .op 9
  let s1 := words.foldl (fun s w => s.wr w.1 (fitWord w.1 (s.rd w.1) w.2)) (s.wr a (fitWord a (s.rd a) v))
  .next (if s1.profBad p then s.inc Reg.PRS_CNT_REFUSED else s1)

/-! Trees (R363 to R368). -/

/-- An action (Table 11.5, bytes 56 to 63). -/
structure Act where
  op : Nat
  cls : Option Nat
  tenant : Option Nat
  arg : Nat
  deriving DecidableEq, Repr

/-- The action of a rule. -/
def ruleAct (r : BitVec 512) : Act :=
  { op := fldW r 511 508, cls := if r.getLsbD 507 then some (fldW r 506 505) else none
    tenant := if r.getLsbD 504 then some (fldW r 503 500) else none, arg := fldW r 479 448 }

/-- A rule's PRIO. -/
def rulePrio (r : BitVec 512) : Nat := fldW r 431 416

/-- Byte i of a rule. -/
def ruleByte (r : BitVec 512) (i : Nat) : Nat := fldW r (8 * i + 7) (8 * i)

/-- A rule matches a key (R365). -/
def ruleMatch (key : List Byte) (r : BitVec 512) : Bool :=
  let kb := fun (i : Nat) => (key.getD i 0).toNat
  r.getLsbD 447 &&
    ((List.range 3).all fun x =>
      let off := fldW r (384 + 7 * x + 6) (384 + 7 * x)
      (List.range 8).all fun i =>
        let m := ruleByte r (16 * x + 8 + i)
        kb (off + i) &&& m == ruleByte r (16 * x + i) &&& m) &&
    (!r.getLsbD 446 || (128 ≤ kb 122 && kb 122 % 16 == fldW r 445 442))

/-- A rule of a bank. -/
def State.rule (s : State) (bank : Bool) (i : Nat) : BitVec 512 := s.cls.rules.look 0 (32768 * bank.toNat + i)

/-- The better of two rules of a bank: the lower PRIO, then the lower index (R366, R367). -/
def State.better (s : State) (bank : Bool) (a b : Option Nat) : Option Nat :=
  match a, b with
  | some i, some j =>
    let pi := rulePrio (s.rule bank i)
    let pj := rulePrio (s.rule bank j)
    if pj < pi || (pj == pi && decide (j < i)) then some j else some i
  | some i, none => some i
  | none, b => b

/-- The best matching rule of a leaf's list. -/
def State.bestOf (s : State) (bank : Bool) (key : List Byte) : List Nat → Option Nat
  | [] => none
  | i :: t => s.better bank (if ruleMatch key (s.rule bank i) then some i else none) (s.bestOf bank key t)

/-- The walk of a tree from a node, with how many nodes may still be read: none is a walk error, else the candidate. -/
def State.walk (s : State) (bank : Bool) (key : List Byte) : Nat → Nat → Option Nat → Option (Option Nat)
  | 0, _, _ => none
  | n + 1, at_, best =>
    if 131071 < at_ then none
    else
      let d := s.cls.nodes.look 0 (131072 * bank.toNat + at_)
      match fldW d 63 62 with
      | 0 =>
        let b := fldW d 61 52
        let w := fldW d 51 49 + 1
        if 1024 < b + w then none else s.walk bank key n (fldW d 16 0 + keyField key b w) best
      | 1 =>
        let b := fldW d 61 52
        let w := fldW d 51 47 + 1
        if 1024 < b + w then none
        else s.walk bank key n (if keyField key b w < fldW d 95 64 then fldW d 33 17 else fldW d 16 0) best
      | 2 =>
        let c := fldW d 61 58
        if 8 < c then none
        else
          let idx := (List.range c).map fun i => fldW d (64 * (1 + i / 4) + 16 * (i % 4) + 14) (64 * (1 + i / 4) + 16 * (i % 4))
          let best := s.better bank best (s.bestOf bank key idx)
          if d.getLsbD 57 then s.walk bank key n (fldW d 16 0) best else some best
      | _ => none

/-- The result of the walked trees: none is a walk error in some tree. -/
def State.walkAll (s : State) (bank : Bool) (key : List Byte) (mask : Nat) : List Nat → Option (Option Nat)
  | [] => some none
  | t :: ts =>
    match s.walkAll bank key mask ts with
    | none => none
    | some rest =>
      let root := s.rd (Reg.CLS_ROOT bank.toNat t)
      if Nat.testBit mask t && root.getLsbD 31 then
        match s.walk bank key 24 (fldW root 16 0) none with
        | none => none
        | some b => some (s.better bank b rest)
      else some rest

/-! Epochs (R370 to R373). -/

/-- ACTIVE: false A, true B. -/
def State.epoch (s : State) : Bool := s.bit Reg.CLS_EPOCH 0

/-- The in-flight count of a bank. -/
def State.infl (s : State) (b : Bool) : Nat := if b then s.fld Reg.CLS_INFL 31 16 else s.fld Reg.CLS_INFL 15 0

/-- EPOCH_DRAINED follows the standby bank's count. -/
def State.settleEpoch (s : State) : State := s.setB Reg.CLS_EPOCH 1 (s.infl (!s.epoch) == 0)

/-- A packet takes a bank's epoch, or leaves CLS for the last time. -/
def State.inflStep (s : State) (b up : Bool) : State :=
  let hi := if b then 31 else 15
  let v := s.fld Reg.CLS_INFL hi (hi - 15)
  (s.setF Reg.CLS_INFL hi (hi - 15) (if up then v + 1 else v - 1)).settleEpoch

/-! Outcomes of a pass. -/

/-- The packet leaves CLS, dropped (R371). -/
def State.passDrop (s : State) (p : Pkt) : State :=
  let s := s.inflStep p.epoch false
  match p.buf with
  | some b => s.free b 0x45
  | none => s

/-- The packet leaves CLS for a destination: it asks its pipeline's requester for a buffer, or keeps the one it has
(R411, R416). -/
def State.passTo (s : State) (pipe : Nat) (p : Pkt) (d : Dest) : State :=
  let s := s.inflStep p.epoch false
  let f : Frm := { pkt := { p with buf := none }, dest := d }
  match p.buf with
  | some b => (s.setOwner b (0x40 + pipe)).withBuf f pipe b
  | none => s.want pipe p.data.length (!p.down) f

/-- The exception ring of the packet's direction, with a reason (Table 11.3). -/
def State.passExcept (s : State) (pipe : Nat) (p : Pkt) (reason : Nat) : State :=
  s.passTo pipe p (.ring (if p.down then s.fld Reg.PRS_EXC 25 16 else s.fld Reg.PRS_EXC 9 0) reason)

/-- The FID of a parsed pass, its addresses, and the forwarding (R385, R392). -/
def State.passForward (s : State) (pipe prof : Nat) (key : List Byte) (p : Pkt) : State :=
  let w := Reg.FDB_PROF prof
  let at_ := fun (o n : Nat) => joinBytesBE ((List.range n).map fun i => key.getD (o + i) 0)
  let fid := if s.bit w 31 then at_ (s.fld w 22 16) 2 % 4096 else s.fld (Reg.FDB_SRCFID (srcIdx p)) 11 0
  match s.fdbPass fid (at_ (s.fld w 6 0) 6) (some (at_ (s.fld w 13 7) 6)) p with
  | (some d, s) => s.passTo pipe p d
  | (none, s) => s.passDrop p

/-- Forwarding of an UNPARSED pass (R386). -/
def State.passRaw (s : State) (pipe : Nat) (p : Pkt) : State :=
  match s.fdbPass (s.fld (Reg.FDB_SRCFID (srcIdx p)) 11 0) (joinBytesBE ((List.range 6).map fun i => p.data.getD i 0))
      none p with
  | (some d, s) => s.passTo pipe p d
  | (none, s) => s.passDrop p

/-- MISS_ACT (Table 11.3). -/
def State.passMiss (s : State) (pipe prof : Nat) (key : List Byte) (p : Pkt) : State :=
  match s.fld (Reg.PRS_p_CTRL prof) 19 18 with
  | 0 => s.passForward pipe prof key p
  | 1 => s.passExcept pipe p 3
  | _ => s.passDrop p

/-- The winning action (Table 11.6, R374). -/
def State.passAct (s : State) (pipe prof : Nat) (key : List Byte) (p : Pkt) (a : Act) : State :=
  let p := { p with cls := a.cls.getD p.cls, tenant := match a.tenant with
    | some n => some n
    | none => p.tenant }
  match a.op with
  | 0 => s.passForward pipe prof key p
  | 1 => (s.inc Reg.CLS_CNT_DROP).passDrop p
  | 2 => s.passTo pipe p (.ring (fldN a.arg 9 0) (fldN a.arg 23 16))
  | 3 =>
    let strip := fldN a.arg 15 8
    let q := s.cls.recirc.look [] pipe
    if 2 ≤ p.pass then (s.inc Reg.CLS_CNT_RECIRC_LIM).passDrop p
    else if p.data.length ≤ strip then (s.inc Reg.CLS_CNT_STRIP).passDrop p
    else if 64 ≤ q.length then (s.inc Reg.CLS_CNT_RECIRC_FULL).passDrop p
    else
      let p' := { p with data := p.data.drop strip, pass := p.pass + 1, prof := some (fldN a.arg 5 0), lenErr := false }
      { s with cls := { s.cls with recirc := s.cls.recirc.put [] pipe (q ++ [p']) } }
  | 4 => s.passTo pipe p (.pw (fldN a.arg 10 0) (fldN a.arg 23 16))
  | 5 =>
    if 69631 < fldN a.arg 16 0 then (s.inc Reg.CLS_CNT_BAD_ACT).passDrop p
    else s.passTo pipe p (.queue (fldN a.arg 16 0))
  | _ => (s.inc Reg.CLS_CNT_BAD_ACT).passDrop p

/-- One pass of packet p with profile prof on pipeline `pipe` (R353 to R368). -/
def State.onePass (s : State) (pipe prof : Nat) (p : Pkt) (unc : Bool) : State :=
  let s := s.incIf (s.short prof p.data) Reg.PRS_CNT_SHORT
  if !((List.range (s.pNexp prof)).all (s.expOk prof p.data)) then
    let p := { p with hash := s.rawHash p.data }
    let s := s.inc Reg.PRS_CNT_UNPARSED
    match s.fld (Reg.PRS_p_CTRL prof) 30 29 with
    | 0 => s.passRaw pipe p
    | 1 => s.passExcept pipe p 1
    | _ => s.passDrop p
  else
    let p := { p with lenErr := s.lenFails prof p.data }
    let key := s.keyOf prof p
    let p := { p with hash := s.passHash prof key }
    let s := s.incIf p.lenErr Reg.PRS_CNT_LENERR
    if p.lenErr && s.bit (Reg.PRS_p_CTRL prof) 28 then s.passExcept pipe p 2
    else
      match (if unc then none
        else s.walkAll p.epoch key (s.fld (Reg.PRS_p_CTRL prof) 27 20) (List.range 8)) with
      | none => ((s.inc Reg.CLS_CNT_WALK_ERR).raise 35 pipe).passMiss pipe prof key p
      | some none => (s.inc Reg.CLS_CNT_MISS).passMiss pipe prof key p
      | some (some i) => s.passAct pipe prof key p (ruleAct (s.rule p.epoch i))

/-- One slot of a pipeline in a class of Table 22.3 (R645). -/
def State.pipeSlot (s : State) (p cls : Nat) : State := s.add48 (Reg.OBS_TD_P_LO p cls) 1 1

/-- PACKET_PASS: pipeline p takes the head of its recirculation queue, or else the oldest new packet; `unc` says that a
node or rule read of the pass is uncorrectable (R351, R366, R369, R370, R374). -/
def execPacketPass (p : Fin 5) (unc : Bool) (s : State) : Res :=
  if !s.rcp.pipes.getLsbD p || (s.quiet && p.val != 0) then .next s
  else match s.cls.recirc.look [] p, s.cls.ingress with
    | k :: rest, _ =>
      let s : State := { s with cls := { s.cls with recirc := s.cls.recirc.put [] p rest } }
      .next ((s.onePass p (k.prof.getD 0) k unc).pipeSlot p 0)
    | [], k :: rest =>
      let s : State := { s with cls := { s.cls with ingress := rest } }
      let k := { k with epoch := s.epoch }
      let (prof, none_) := s.selectProf k
      .next ((((s.inflStep k.epoch true).incIf none_ Reg.PRS_CNT_NOSEL).onePass p prof k unc).pipeSlot p 0)
    | [], [] => .next s

/-! Table commands (R377, R378, R582). A command runs on the oldest descriptor of its ring. -/

/-- A code of Tables 07.11 and 11.7. -/
def cmdListed (code : Nat) : Bool := decide (0x30 ≤ code) && decide (code ≤ 0x34) || decide (0x40 ≤ code) && decide (code ≤ 0x42)

/-- The oldest descriptor of a CMD ring, held loads apart, if its code satisfies p. -/
def State.cmdFirst (s : State) (r : Nat) (p : Nat → Bool) : Option Desc :=
  match s.hif.fetched.find? fun d => d.ring == r && !(s.mtn.eng.any fun x => x.2.held.any fun h => h.desc == d) with
  | some d => if s.fld (Reg.HIF_RING r 0) 30 28 = 3 && !s.bit (Reg.HIF_RING r 2) 31 && p (fldW d.data 119 112) then some d else none
  | none => none

/-- The oldest descriptor of a CMD ring, if its code is the one named. -/
def State.cmdHead (s : State) (r code : Nat) : Option Desc := s.cmdFirst r fun c => c == code

/-- The next command of a CMD ring has its turn: one that no table lists completes with RANGE, and the next has it (R582). -/
def State.cmdTurn (s : State) (r : Nat) : Nat → State
  | 0 => s
  | n + 1 => match s.cmdFirst r fun c => !cmdListed c with
    | some d => (s.complete d false 0 3).cmdTurn r n
    | none => s

/-- A command has taken effect, and the next of its ring has its turn. -/
def State.cmdNext (s : State) (r : Nat) : State := s.cmdTurn r s.hif.fetched.length

def descAddr (d : Desc) : Nat := fldW d.data 95 64
def descN (d : Desc) : Nat := fldW d.data 111 96
def descHost (d : Desc) : Nat := fldW d.data 63 0

/-- A classifier command ends with its status; the refusals that R378 and R373 name count. -/
def State.cmdDone (s : State) (d : Desc) (status : Nat) : State :=
  let s := if status = 5 then s.dmaFail (fldW d.data 119 112 != 0x33) else s
  ((s.incIf (status == 2 || status == 4) Reg.CLS_CNT_REFUSED).complete d false 0 status).cmdNext d.ring

/-- The standby bank is in use. -/
def State.draining (s : State) : Bool := !s.bit Reg.CLS_EPOCH 1

/-- Writing consecutive entries of a table, from a place on. -/
def putAll {α : Type} [DecidableEq α] (z : α) (t : Tab α) (at_ : Nat) : List α → Tab α
  | [] => t
  | x :: xs => putAll z (t.put z at_ x) (at_ + 1) xs

/-- TNODE. -/
def execTnode (r : Fin 1024) (data : List (BitVec 256)) (dmaOk : Bool) (s : State) : Res :=
  match s.cmdHead r 0x30 with
  | none => .next s
  | some d =>
    let n := descN d
    if s.ringOwner r != .op then .next (s.cmdDone d 1)
    else if n = 0 || 4096 < n || 131072 < descAddr d + n then .next (s.cmdDone d 3)
    else if s.draining then .next (s.cmdDone d 2)
    else if !dmaOk || data.length != n then .next ((s.dmaRead r (descHost d) (32 * n)).cmdDone d 5)
    else
      let s := s.dmaRead r (descHost d) (32 * n)
      let bank := (!s.epoch).toNat
      .next (({ s with cls := { s.cls with
        nodes := putAll 0 s.cls.nodes (131072 * bank + descAddr d) data } } : State).cmdDone d 0)

/-- A rule as the device writes it for a tenant, and whether R378 lets the tenant write it. -/
def tenantRule (n : Nat) (r : BitVec 512) : BitVec 512 := setFldW (setBitW r 446 true) 445 442 n

/-- A tenant may not write such a rule (R378). -/
def State.ruleShare (s : State) (n : Nat) (r : BitVec 512) : Bool :=
  let a := ruleAct r
  !(a.op == 0 || a.op == 1 || (a.op == 2 && s.ringIn (fldN a.arg 9 0) n) ||
    (a.op == 5 && decide (fldN a.arg 16 0 ≤ 69631) && s.queueIn (fldN a.arg 16 0) n)) || a.tenant.isSome

/-- Rules from BASE to BASE + COUNT − 1 of CLS_TSHARE_n hold n rules from index i on. -/
def State.rulesIn (s : State) (t i n : Nat) : Bool :=
  decide (s.fld (Reg.CLS_TSHARE t) 14 0 ≤ i) &&
    decide (i + n ≤ s.fld (Reg.CLS_TSHARE t) 14 0 + s.fld (Reg.CLS_TSHARE t) 31 16)

/-- TRULE: a tenant writes only its own rules, each with TOWN and TID of the tenant (R378). -/
def execTrule (r : Fin 1024) (data : List (BitVec 512)) (dmaOk : Bool) (s : State) : Res :=
  match s.cmdHead r 0x31 with
  | none => .next s
  | some d =>
    let n := descN d
    let a := descAddr d
    let t := s
    let s := s.dmaRead r (descHost d) (64 * n)
    let put := fun (rules : List (BitVec 512)) =>
      (({ s with cls := { s.cls with rules := putAll 0 s.cls.rules (32768 * (!s.epoch).toNat + a) rules } } : State).cmdDone
        d 0)
    if n = 0 || 1024 < n || 32768 < a + n then .next (t.cmdDone d 3)
    else if s.draining then .next (t.cmdDone d 2)
    else if !dmaOk || data.length != n then .next (s.cmdDone d 5)
    else match s.ringOwner r with
      | .op => .next (put data)
      | .t m =>
        if !s.rulesIn m.val a n || data.any (s.ruleShare m.val) then .next (s.cmdDone d 4)
        else .next (put (data.map (tenantRule m.val)))

/-- TROOT. -/
def execTroot (r : Fin 1024) (data : List Word) (dmaOk : Bool) (s : State) : Res :=
  match s.cmdHead r 0x32 with
  | none => .next s
  | some d =>
    if s.ringOwner r != .op then .next (s.cmdDone d 1)
    else if s.draining then .next (s.cmdDone d 2)
    else if !dmaOk || data.length != 8 then .next ((s.dmaRead r (descHost d) 32).cmdDone d 5)
    else
      let s := s.dmaRead r (descHost d) 32
      let b := (!s.epoch).toNat
      .next (((List.range 8).foldl (fun s t => s.wr (Reg.CLS_ROOT b t) (data.getD t 0 &&& 0x8001FFFF)) s).cmdDone d 0)

/-- TREAD: bit 0 of ARG names the bank, bit 1 nodes or rules. -/
def execTread (r : Fin 1024) (dmaOk : Bool) (s : State) : Res :=
  match s.cmdHead r 0x33 with
  | none => .next s
  | some d =>
    let n := descN d
    let a := descAddr d
    let bank := (d.data.getLsbD 120).toNat
    let rules := d.data.getLsbD 121
    let share := match s.ringOwner r with
      | .op => true
      | .t m => rules && s.rulesIn m.val a n
    let bytes := (List.range n).flatMap fun i =>
      if rules then bytesLE 64 (s.cls.rules.look 0 (32768 * bank + a + i)).toNat
      else bytesLE 32 (s.cls.nodes.look 0 (131072 * bank + a + i)).toNat
    if n = 0 || (if rules then decide (1024 < n) || decide (32768 < a + n) else decide (4096 < n) || decide (131072 < a + n))
    then .next (s.cmdDone d 3)
    else if !share then .next (s.cmdDone d 4)
    else if !dmaOk then .next (s.cmdDone d 5)
    else .next ((s.emit (.host (s.ringOwner r) (descHost d) bytes)).cmdDone d 0)

/-- ESWAP: accepted while the standby bank is drained and no swap is pending; it stays the oldest of its ring until the
swap point (R372, R373). -/
def execEswap (r : Fin 1024) (s : State) : Res :=
  match s.cmdHead r 0x34 with
  | none => .next s
  | some d =>
    if s.cls.swap == some d then .next s
    else if s.ringOwner r != .op then .next (s.cmdDone d 1)
    else if s.draining || s.cls.swap.isSome then .next (s.cmdDone d 2)
    else .next (({ s with cls := { s.cls with swap := some d } } : State).setB Reg.CLS_EPOCH 2 true)

/-- EPOCH_SWAP_POINT: the standby bank becomes active for packets whose first parse begins from now on (R372). -/
def execEpochSwapPoint (s : State) : Res :=
  match s.cls.swap with
  | none => .next s
  | some d =>
    let s := (s.setB Reg.CLS_EPOCH 0 (!s.epoch)).setB Reg.CLS_EPOCH 2 false
    .next (({ s with cls := { s.cls with swap := none } } : State).settleEpoch.cmdDone d 0)

end Sys2Proof.Machine
end

