-- ==== Sys2Proof/Machine/Cipher.lean ====
section
/-! DEFINITION. The ciphers of Table 15.1 on bytes: AES of FIPS 197 with 128-bit and 256-bit keys, its counter mode, and the
authenticated encryption GCM of IEEE 802.1AE. PRESUMED from those standards, which the spec names and does not repeat (log 72). -/

namespace Sys2Proof.Machine

/-! AES. A byte is a number below 256, the state 16 of them in the order of the block. -/

/-- The substitution of FIPS 197, sixteen bytes to a row, the first in the lowest bits. -/
def sboxRows : List Nat :=
  [0x76ABD7FE2B670130C56F6BF27B777C63, 0xC072A49CAFA2D4ADF04759FA7DC982CA, 0x1531D871F1E5A534CCF73F362693FDB7,
   0x75B227EBE28012079A059618C323C704, 0x842FE329B3D63B52A05A6E1B1A2C8309, 0xCF584C4A39BECB6A5BB1FC20ED00D153,
   0xA89F3C507F02F94585334D43FBAAEFD0, 0xD2F3FF1021DAB6BCF5389D928F40A351, 0x73195D643D7EA7C41744975FEC130CCD,
   0xDB0B5EDE14B8EE4688902A22DC4F8160, 0x79E4959162ACD3C25C2406490A3A32E0, 0x08AE7A65EAF4566CA94ED58D6D37C8E7,
   0x8A8BBD4B1F74DDE8C6B4A61C2E2578BA, 0x9E1DC186B95735610EF6034866B53E70, 0xDF2855CEE9871E9B948ED9691198F8E1,
   0x16BB54B00F2D99416842E6BF0D89A18C]

/-- SubBytes on one byte. -/
def subByte (b : Nat) : Nat := (sboxRows.getD (b / 16) 0 >>> (8 * (b % 16))) % 256

/-- Multiplication by x in the field of AES. -/
def xtime (b : Nat) : Nat := if 128 ≤ b then (2 * b - 256) ^^^ 27 else 2 * b

/-- MixColumns on the four bytes of a column. -/
def mixCol (a b c d : Nat) : List Nat :=
  let t := a ^^^ b ^^^ c ^^^ d
  [a ^^^ t ^^^ xtime (a ^^^ b), b ^^^ t ^^^ xtime (b ^^^ c), c ^^^ t ^^^ xtime (c ^^^ d), d ^^^ t ^^^ xtime (d ^^^ a)]

/-- MixColumns. -/
def mixCols : List Nat → List Nat
  | a :: b :: c :: d :: r => mixCol a b c d ++ mixCols r
  | r => r

/-- ShiftRows: where each byte of the state comes from. -/
def shiftRows (s : List Nat) : List Nat :=
  [0, 5, 10, 15, 4, 9, 14, 3, 8, 13, 2, 7, 12, 1, 6, 11].map fun i => s.getD i 0

/-- The exclusive or of two lists of bytes, as long as the shorter. -/
def xorAll (a b : List Nat) : List Nat := List.zipWith (· ^^^ ·) a b

/-- The words of the key schedule from word i on, `k` of them, for a key of nk words: `win` are the last nk words. -/
def keyWords (nk : Nat) : Nat → Nat → Nat → List (List Nat) → List (List Nat)
  | 0, _, _, _ => []
  | k + 1, i, rc, win =>
    let prev := win.getLastD []
    let t := if i % nk = 0 then
        match (prev.drop 1 ++ prev.take 1).map subByte with
        | x :: r => (x ^^^ rc) :: r
        | [] => []
      else if nk = 8 && i % nk == 4 then prev.map subByte else prev
    let w := xorAll (win.headD []) t
    w :: keyWords nk k (i + 1) (if i % nk = 0 then xtime rc else rc) (win.drop 1 ++ [w])

/-- A list in pieces of 4. -/
def fours : List Nat → List (List Nat)
  | a :: b :: c :: d :: r => [a, b, c, d] :: fours r
  | _ => []

/-- The round keys, one after the other, of a key of 16 or 32 bytes. -/
def roundKeys (key : List Nat) : List Nat :=
  let nk := key.length / 4
  key ++ (keyWords nk (4 * (nk + 7) - nk) nk 1 (fours key)).flatten

/-- The rounds with the round keys that follow: the last does not mix columns. -/
def aesRounds : Nat → List Nat → List Nat → List Nat
  | 0, s, _ => s
  | 1, s, ks => xorAll (shiftRows (s.map subByte)) ks
  | n + 2, s, ks => aesRounds (n + 1) (xorAll (mixCols (shiftRows (s.map subByte))) ks) (ks.drop 16)

/-- The encryption of one block under round keys, with the number of rounds of a key of `len` bytes. -/
def aesBlock (ks : List Nat) (len : Nat) (block : List Nat) : List Nat :=
  aesRounds (len / 4 + 6) (xorAll block ks) (ks.drop 16)

/-- A block of 16 bytes as numbers, the highest first. -/
def block16 (v : Nat) : List Nat := (List.range 16).map fun i => (v >>> (8 * (15 - i))) % 256

/-- Bytes as one number, the first highest. -/
def join16 (l : List Nat) : Nat := l.foldl (fun v b => 256 * v + b) 0

/-- Bytes of a list of words, byte 0 of word 0 first (00, Notation: little-endian). -/
def keyBytes (ws : List Word) : List Nat := ws.flatMap fun w => (bytesLE 4 w.toNat).map BitVec.toNat

/-- KCV: the first three bytes of the encryption of sixteen zero bytes, the first in bits 7:0 (R465). -/
def kcv (key : List Word) : Word :=
  let k := keyBytes key
  BitVec.ofNat 32 (joinBytesLE (((aesBlock (roundKeys k) k.length (block16 0)).take 3).map (BitVec.ofNat 8)))

/-! Counter mode. -/

/-- The key stream over counter values from c on, for as many blocks as there are pieces of 16 bytes, put on the data; `next`
gives the counter block that follows. -/
def streamOver (ks : List Nat) (len : Nat) (next : Nat → Nat) : Nat → Nat → List Byte → List Byte
  | 0, _, _ => []
  | n + 1, c, d =>
    List.zipWith (fun x k => x ^^^ BitVec.ofNat 8 k) (d.take 16) (aesBlock ks len (block16 c)) ++
      streamOver ks len next n (next c) (d.drop 16)

/-- AES counter mode from an initial counter block; encryption and decryption are the same (Table 15.1). -/
def aesCtr (key : List Nat) (next : Nat → Nat) (c : Nat) (d : List Byte) : List Byte :=
  streamOver (roundKeys key) key.length next ((d.length + 15) / 16) c d

/-- The counter blocks of XGEM payloads count by one. -/
def xgemNext (c : Nat) : Nat := (c + 1) % 2 ^ 128

/-- An XGEM payload encrypted or decrypted under a terminal's key of four words, with the standard's counter block for the
direction, the superframe counter and the word position (R288, R462, R467). -/
def xgemCipher (key : List Word) (up : Bool) (frame word : Nat) (d : List Byte) : List Byte :=
  aesCtr (keyBytes key) xgemNext (Config.counterBlock up frame word).toNat d

/-! GCM (IEEE 802.1AE). -/

/-- The product in the field of GHASH by shifting: bit 127 of a number is the coefficient of x⁰. -/
def ghashMul (x : Nat) : Nat → Nat → Nat → Nat
  | 0, _, z => z
  | n + 1, v, z =>
    ghashMul x n (if v % 2 = 1 then (v / 2) ^^^ (225 * 2 ^ 120) else v / 2) (if Nat.testBit x n then z ^^^ v else z)

/-- GHASH over data in blocks of 16 bytes, the last filled with zeros, from a value y. -/
def ghash (h : Nat) : Nat → Nat → List Byte → Nat
  | 0, y, _ => y
  | n + 1, y, d =>
    let p := d.take 16
    let b := join16 (p.map BitVec.toNat) * 256 ^ (16 - p.length)
    ghash h n (ghashMul (y ^^^ b) 128 h 0) (d.drop 16)

/-- The counter block that follows: its low 32 bits rise by one. -/
def gcmNext (c : Nat) : Nat := c / 2 ^ 32 * 2 ^ 32 + (c + 1) % 2 ^ 32

/-- The ICV of ciphertext and associated data under a key and an initial value of 96 bits. -/
def gcmTag (ks : List Nat) (iv : Nat) (aad cipher : List Byte) : List Byte :=
  let h := join16 (aesBlock ks 32 (block16 0))
  let y := ghash h ((cipher.length + 15) / 16) (ghash h ((aad.length + 15) / 16) 0 aad) cipher
  let y := ghashMul (y ^^^ (8 * aad.length * 2 ^ 64 + 8 * cipher.length)) 128 h 0
  bytesBE 16 (y ^^^ join16 (aesBlock ks 32 (block16 (iv * 2 ^ 32 + 1))))

/-- GCM encryption with a 256-bit key: the ciphertext and its ICV. -/
def gcmSeal (key : List Nat) (iv : Nat) (aad plain : List Byte) : List Byte × List Byte :=
  let ks := roundKeys key
  let c := streamOver ks 32 gcmNext ((plain.length + 15) / 16) (iv * 2 ^ 32 + 2) plain
  (c, gcmTag ks iv aad c)

/-- GCM decryption: the plain text where the ICV is right. -/
def gcmOpen (key : List Nat) (iv : Nat) (aad cipher icv : List Byte) : Option (List Byte) :=
  let ks := roundKeys key
  if gcmTag ks iv aad cipher = icv then
    some (streamOver ks 32 gcmNext ((cipher.length + 15) / 16) (iv * 2 ^ 32 + 2) cipher)
  else none

end Sys2Proof.Machine
end

