-- ==== Sys2Proof/Machine/TmgOps.lean ====
section
/-! DEFINITION. Traffic management (14): the hierarchy, shapers and their ledger, gates, admission, the heads of queues,
and the choice of a frame by strict priority and deficit round robin. -/

namespace Sys2Proof.Machine

/-! The hierarchy (Tables 14.1, 14.2). Owner codes: 0 to 15 tenants, 16 the operator. -/

/-- Level-2 node of a queue. -/
def node2 (q : Nat) : Nat := if q < 65536 then 2048 + q / 4 else 18432 + (q - 65536) / 8

/-- The owner of a level-2 node (R430). -/
def State.nodeOwner (s : State) (i : Nat) : Nat :=
  if i < 18432 then (match s.tmg.owners.look 0 i with
    | 0 => 16
    | n + 1 => n)
  else if s.bit (Reg.TMG_GRP (i - 18432)) 31 then s.fld (Reg.TMG_GRP (i - 18432)) 30 27 else 16

/-- The egress of a level-2 node: PORT 0 to 23 is an uplink, 24 the mate link. -/
def State.nodeEgress (s : State) (i : Nat) : Nat :=
  if i < 18432 then (i - 2048) / 512 else 32 + s.fld (Reg.TMG_GRP (i - 18432)) 26 22

def State.qEgress (s : State) (q : Nat) : Nat := s.nodeEgress (node2 q)
def State.qOwner (s : State) (q : Nat) : Nat := s.nodeOwner (node2 q)

/-- Tenant node of an egress and an owner. -/
def node1 (e o : Nat) : Nat := 64 + 17 * e + o

/-- The nodes above a queue, lowest first. -/
def State.nodesOf (s : State) (q : Nat) : List Nat := [node2 q, node1 (s.qEgress q) (s.qOwner q), s.qEgress q]

def qClass (q : Nat) : Nat := if q < 65536 then q % 4 else (q - 65536) % 8

/-- The queue and every node above it are enabled. -/
def State.pathEn (s : State) (q : Nat) : Bool :=
  s.bit (Reg.TMG_Q q) 31 && (s.nodesOf q).all fun i => s.bit (Reg.TMG_ND i) 31

def State.queueOf (s : State) (q : Nat) : List Frm := s.tmg.queues.look [] q

/-- The keys of a queue and of the nodes above it, as children of their parents. -/
def kidKey (i : Nat) : Nat := 131072 + i

/-- A child that has become empty sets its deficit to 0 (R437). -/
def State.idleKids (s : State) (q : Nat) : State :=
  let busy := fun (i : Nat) => s.tmg.queues.any fun x => (s.nodesOf x.1).contains i
  let keys := q :: ((s.nodesOf q).filter fun i => !busy i).map kidKey
  { s with tmg := { s.tmg with deficit := keys.foldl (fun d k => d.drop k) s.tmg.deficit } }

def State.setQueue (s : State) (q : Nat) (l : List Frm) : State :=
  let s : State := { s with tmg := { s.tmg with queues := s.tmg.queues.put [] q l } }
  if l.isEmpty then s.idleKids q else s

/-- Direction of a queue: 0 down, 1 up. -/
def qDir (q : Nat) : Nat := if q < 65536 then 0 else 1

/-! Shapers (R439 to R444). -/

def State.shEn (s : State) (x : Nat) : Bool := s.bit (Reg.TMG_SH x 1) 31
def State.shAdj (s : State) (x : Nat) : Int := signedN 8 (s.fld (Reg.TMG_SH x 1) 30 23)
def State.shCap (s : State) (x : Nat) : Nat := s.fld (Reg.TMG_SH x 1) 22 7 * 16384
def State.shRate (s : State) (x : Nat) : Nat := s.fld (Reg.TMG_SH x 0) 23 0
def State.tokOf (s : State) (x : Nat) : Tok := s.tmg.tok.look {} x
def State.setTok (s : State) (x : Nat) (t : Tok) : State :=
  { s with tmg := { s.tmg with tok := s.tmg.tok.put {} x t } }

/-- The shaper of a node, and the aggregate bound to it (Table 14.4). -/
def State.nodeShapers (s : State) (i : Nat) : List Nat :=
  let own := [69632 + i]
  if 64 ≤ i && decide (i < 1033) && decide ((i - 64) % 17 < 16) && s.bit (Reg.TMG_ND i) 17 then
    own ++ [88576 + 16 * ((i - 64) % 17) + s.fld (Reg.TMG_ND i) 16 13]
  else own

/-- The enabled shapers on a queue's path. -/
def State.pathShapers (s : State) (q : Nat) : List Nat :=
  (q :: (s.nodesOf q).flatMap s.nodeShapers).filter s.shEn

/-- The checks of R444 at a token update. -/
def State.checkTok (s : State) (x : Nat) : State :=
  let t := s.tokOf x
  let want : Int := t.t0 + t.added - t.spent - t.capped
  let bad := t.added != s.shRate x * t.ticks
  if t.t = want && !bad then s
  else s.ledgerMismatch Reg.TMG_STATUS 0 Reg.TMG_LEDG_IDX 16 x
    (satSigned 32 (if t.t = want then (t.added : Int) - s.shRate x * t.ticks else t.t - want))

/-- A charge of L bytes (R439). -/
def State.charge (s : State) (len x : Nat) : State :=
  let t := s.tokOf x
  let n : Int := ((len : Int) + s.shAdj x) * 256
  (s.setTok x { t with t := t.t - n, spent := t.spent + n }).checkTok x

/-! Gates (R448 to R452). -/

def State.gate (s : State) (g : Nat) : Gate := s.tmg.gates.look {} g
def State.setGate (s : State) (g : Nat) (x : Gate) : State :=
  { s with tmg := { s.tmg with gates := s.tmg.gates.put {} g x } }
def State.gInterval (s : State) (g i : Nat) : Nat := s.fld (Reg.TMG_G_ACT g i) 23 0
def State.gStates (s : State) (g i : Nat) : Nat := s.fld (Reg.TMG_G_ACT g i) 31 24

/-- The sum of the intervals of entries below i. -/
def State.gOffset (s : State) (g i : Nat) : Nat := ((List.range i).map (s.gInterval g)).sum

/-- The bit of STATES that gates a queue of egress e; none where the queue is not gated. -/
def State.gateBit (s : State) (e q : Nat) : Option Nat :=
  if 56 ≤ e || !s.bit (Reg.TMG_G_CTRL e) 29 then none
  else if e < 32 then (if qClass q = s.fld (Reg.TMG_G_CTRL e) 10 9 then some 0 else none)
  else some (qClass q)

/-- Entries of the active list from entry i on, once round. -/
def rotFrom (len i : Nat) : List Nat := (List.range len).map fun j => (i + j) % len

/-- Length of the window of a bit that begins at entry i: none when it is set in every entry. -/
def State.windowFrom (s : State) (g b i : Nat) : Option Nat :=
  let l := rotFrom (s.gate g).len i
  if l.all fun j => Nat.testBit (s.gStates g j) b then none
  else some ((l.takeWhile fun j => Nat.testBit (s.gStates g j) b).map (s.gInterval g)).sum

/-- Transmission time of L bytes on egress e is at most ns nanoseconds: (L + FOVH) × 8 ÷ TXR. -/
def State.fits (s : State) (e len ns : Nat) : Bool :=
  decide ((len + s.fld (Reg.TMG_E_CFG e) 31 24) * 8000 ≤ ns * s.fld (Reg.TMG_E_CFG e) 19 0)

/-- Transmission time in nanoseconds, rounded up. -/
def State.txTime (s : State) (e len : Nat) : Nat :=
  cdiv ((len + s.fld (Reg.TMG_E_CFG e) 31 24) * 8000) (max 1 (s.fld (Reg.TMG_E_CFG e) 19 0))

/-- The gate rules allow a frame of L bytes of queue q to start now (R450). -/
def State.gateOpen (s : State) (e q len : Nat) : Bool :=
  match s.gateBit e q with
  | none => true
  | some b =>
    let g := s.gate e
    Nat.testBit (s.gStates e g.pos) b &&
      match s.windowFrom e b g.pos with
      | none => true
      | some w => s.fits e len (w - ((s.now : Int) - (g.start + (s.gOffset e g.pos : Nat))).toNat)

/-- The longest window of a bit in a list of entries (STATES, INTERVAL): none when it is set in every entry. -/
def longestWindow (b : Nat) (l : List (Nat × Nat)) : Option Nat :=
  let open_ := fun (x : Nat × Nat) => Nat.testBit x.1 b
  if l.all open_ then none
  else some (((List.range l.length).map fun i =>
    (((l.drop i ++ l.take i).takeWhile open_).map (·.2)).sum).foldl max 0)

/-- The list whose longest windows were computed last: the one that waits for its takeover, or the active one (R451). -/
def State.limitList (s : State) (g : Nat) : List (Nat × Nat) :=
  if s.bit (Reg.TMG_G_CTRL g) 30 then
    (List.range (s.gate g).nextLen).map fun i => (s.fld (Reg.TMG_G_SBY g i) 31 24, s.fld (Reg.TMG_G_SBY g i) 23 0)
  else (List.range (s.gate g).len).map fun i => (s.gStates g i, s.gInterval g i)

/-- A frame of L bytes exceeds the longest window of its class (R451). -/
def State.gateLong (s : State) (e q len : Nat) : Bool :=
  match s.gateBit e q with
  | none => false
  | some b => match longestWindow b (s.limitList e) with
    | none => false
    | some w => !s.fits e len w

/-! Queues. -/

/-- Length of a frame. -/
def Frm.len (f : Frm) : Nat := f.pkt.data.length

/-- Bytes of a queue, and of its owner in its direction, rise or fall (R434). -/
def State.depth (s : State) (q len : Nat) (up : Bool) : State :=
  let o := s.qOwner q
  let u := Reg.TMG_TLIM_USED o (qDir q)
  if up then (s.setF (Reg.TMG_QD q) 26 0 (s.fld (Reg.TMG_QD q) 26 0 + len)).setF u 26 0 (s.fld u 26 0 + len)
  else (s.setF (Reg.TMG_QD q) 26 0 (s.fld (Reg.TMG_QD q) 26 0 - len)).setF u 26 0 (s.fld u 26 0 - len)

/-- A frame that will not be sent waits for its completion, if it has one (R578). -/
def State.dropDone (s : State) (e : Nat) (f : Frm) : State :=
  match f.desc with
  | none => s
  | some _ => { s with tmg := { s.tmg with leaving := s.tmg.leaving ++ [{ egress := e, frm := f, status := 6 }] } }

/-- The traffic counters of the tenant that owns queue q: a frame sent with its bytes, or a frame dropped; down from the
queues of terminals, else up (Table 22.10). -/
def State.tenCount (s : State) (q len : Nat) (drop : Bool) : State :=
  let o := s.qOwner q
  let d := qDir q
  if 16 ≤ o then s
  else if drop then s.add64 (Reg.OBS_TEN_LO o (4 + d)) 1
  else (s.add64 (Reg.OBS_TEN_LO o (2 * d)) 1).add64 (Reg.OBS_TEN_LO o (2 * d + 1)) len

/-- A queued frame is dropped; its egress presents the free (Table 13.6). -/
def State.dropQueued (s : State) (e : Nat) (f : Frm) : State :=
  ((s.tenCount f.queue f.len true).finish f.buf e).dropDone e f

/-- The signed 40-bit difference of a launch time and the clock. -/
def State.launchIn (s : State) (l : Nat) : Int := signedN 40 ((l + 2 ^ 40 - s.now40) % 2 ^ 40)

def State.lead (_ : State) (e : Nat) : Nat := (Config.trimWord (Reg.TMG_E_LEAD e)).toNat

/-- What happens to a frame that reaches the head of queue q (R451, R455, R456): none when it is dropped, with its counter. -/
def State.atHead (s : State) (e q : Nat) (f : Frm) : Frm ⊕ Nat :=
  match f.launch with
  | none => if s.gateLong e q f.len then .inr (Reg.TMG_E_CNT_GATE_LONG e) else .inl f
  | some l =>
    let d := s.launchIn l
    if (s.fld Reg.TMG_CTRL 15 0 * 1000000 : Nat) < d then .inr (Reg.TMG_E_CNT_FAR e)
    else if d < s.lead e then
      if s.bit (Reg.TMG_Q q) 29 then .inr (Reg.TMG_E_CNT_LATE_DROP e) else .inl { f with late := true }
    else .inl f

/-- The frames at the head of queue q that cannot stay there go; the frame that stays is marked when it is late. -/
def State.settleHead (s : State) (e q : Nat) : Nat → State
  | 0 => s
  | n + 1 =>
    match s.queueOf q with
    | [] => s
    | f :: t =>
      match s.atHead e q f with
      | .inl f' => (s.setQueue q (f' :: t)).incIf (f'.late && !f.late) (Reg.TMG_E_CNT_LATE e)
      | .inr c => ((((s.setQueue q t).depth q f.len false).inc c).dropQueued e f).settleHead e q n

/-- The head frame leaves its queue. -/
def State.popHead (s : State) (q : Nat) : State :=
  match s.queueOf q with
  | [] => s
  | f :: t =>
    let s := (s.setQueue q t).depth q f.len false
    s.settleHead (s.qEgress q) q (t.length + 1)

/-- Queues that hold frames, of an egress. -/
def State.busyQueues (s : State) (e : Nat) : List Nat :=
  (s.tmg.queues.filter fun x => s.qEgress x.1 == e).map (·.1)

/-- Head frames of an egress that its gate list can never let pass go: a write of TXR, FOVH or SSCLASS can make a frame one of them that
was none when it reached the head (R451). -/
def State.recheckHeads (s : State) (e : Nat) : State :=
  (s.busyQueues e).foldl (fun s q => match s.queueOf q with
    | f :: t => if f.launch.isNone && s.gateLong e q f.len then s.settleHead e q (t.length + 1) else s
    | [] => s) s

/-- Every frame of a queue is discarded (R458). -/
def State.flushQueue (s : State) (q : Nat) : State :=
  let e := s.qEgress q
  let fs := s.queueOf q
  let s := s.setQueue q []
  fs.foldl (fun s f => ((s.depth q f.len false).inc (Reg.TMG_E_CNT_DISCARD e)).dropQueued e f) s

/-! Admission (R432 to R435). -/

/-- Member ports in service of an uplink group (R490, R561): lowest lanes, 24 for the mate link. -/
def State.inService (s : State) (g : Nat) : List Nat :=
  let up := fun (u : Nat) => s.fld (Reg.UPL_u_STATUS u) 2 0 == 3
  let ms := (List.range 24).filter (s.bit (Reg.UPL_GRP g))
  if !s.bit (Reg.UPL_GRP g) 31 then []
  else if s.bit (Reg.UPL_PG g) 31 then
    if s.bit (Reg.UPL_PG g) 0 then
      if s.bit (Reg.UPL_PG g) 30 then (if s.fld Reg.MLK_STATUS 2 0 = 2 then [24] else [])
      else (ms.drop 1).filter up
    else (ms.take 1).filter up
  else ms.filter up

/-- The queue that a destination selects (R432), and the TMG_UPQ register that gives its group; or the counter of the drop. -/
def State.selectQueue (s : State) (f : Frm) : (Nat × Option Nat) ⊕ Nat :=
  let o := f.pkt.tenant.getD 16
  let upq := fun (u : Nat) =>
    Sum.inl (65536 + 8 * s.fld (Reg.TMG_UPQ u o) 8 0 + f.pkt.cls, some (Reg.TMG_UPQ u o))
  match f.dest with
  | .queue q =>
    let t := q / 4
    let n := t / 512
    if q < 65536 && s.fld (Reg.TPA_PSTAT n) 1 0 == 2 then
      if s.bit (Reg.TPA_PROT n) 30 then upq 24
      else .inl (4 * (512 * s.fld (Reg.TPA_PROT n) 29 25 + t % 512) + q % 4, none)
    else .inl (q, none)
  | .uplink g =>
    let ms := s.inService g
    match ms[f.pkt.hash * ms.length / 65536]? with
    | some u => upq u
    | none => .inr (Reg.UPL_g_CNT_GRP_EMPTY g)
  | _ => upq 24

/-- The tree port of an egress admits no traffic: EN is 0, or PATTERN is not 0 (R59, Table 02.6). -/
def State.treeShut (s : State) (e : Nat) : Bool := decide (e < 32) && (!s.en e || s.pattern e != 0)

/-- The TMG_UPQ register that names a frame's group, if one does, has EN = 0. -/
def State.noQueue (s : State) (u : Option Nat) : Bool := u.any fun a => !s.bit a 31

/-- The first failing check of R433 for queue q, in the order of Table 14.3: the address of its counter. A queue of a tree port that
admits no traffic fails the first, as one that is not enabled. -/
def State.admitCheck (s : State) (q : Nat) (u : Option Nat) (len : Nat) : Option Nat :=
  let o := s.qOwner q
  if !s.pathEn q || s.treeShut (s.qEgress q) then some (Reg.TMG_CNT_ADM_r 0)
  else if s.fld (Reg.TMG_Q q) 16 0 * 1024 < s.fld (Reg.TMG_QD q) 26 0 + len then some (Reg.TMG_CNT_ADM_r 1)
  else if s.fld (Reg.TMG_TLIM_LIMIT o (qDir q)) 16 0 * 1024 < s.fld (Reg.TMG_TLIM_USED o (qDir q)) 26 0 + len then
    some (Reg.TMG_CNT_ADM_r 2)
  else if s.noQueue u then some (Reg.TMG_CNT_ADM_r 3)
  else none

/-- DRAINED of a queue and of the nodes above it clears. -/
def State.clearDrained (s : State) (q : Nat) : State :=
  (s.nodesOf q).foldl (fun s i => s.setB (Reg.TMG_ND i) 30 false) (s.setB (Reg.TMG_Q q) 30 false)

/-- A frame enters queue q, its stamp taken and its buffer given to the egress (R434). -/
def State.enqueue (s : State) (q : Nat) (f : Frm) : State :=
  let e := s.qEgress q
  let f := { f with queue := q, holder := e, stamp := s.now40 }
  let s := (s.setOwner f.buf e).clearDrained q
  let l := s.queueOf q
  let s := (s.setQueue q (l ++ [f])).depth q f.len true
  if l.isEmpty then s.settleHead e q 1 else s

/-- Admission of one frame (R433): the state, and the reason of Table 14.3 if it was refused. -/
def State.admitOne (s : State) (f : Frm) : State × Nat :=
  match s.selectQueue f with
  | .inr c => (s.inc c, 4)
  | .inl (q, u) =>
    match s.admitCheck q u f.len with
    | some c => ((s.tenCount q f.len true).inc c, (c - 0x1C00054) / 4 + 1)
    | none =>
      let keep := f.launch.isSome || f.desc.any fun d => fldW d.data 84 83 == 1 || fldW d.data 84 83 == 2
      let s := if keep then s else s.ptxDone f.desc 0 0
      (s.enqueue q (if keep then f else { f with desc := none }), 0)

/-- A frame that admission refuses: its free by the pipeline's or the host's code, and its completion. -/
def State.admitDrop (s : State) (f : Frm) (reason : Nat) : State := (s.free f.buf f.holder).ptxDone f.desc 5 reason

/-- The destination of member m of a replication group, if the member is valid; the mate link has no index. -/
def State.memberDest (s : State) (m : Nat) : Option (Nat × Nat) :=
  let w := s.rd (Reg.TMG_RM (m % 65536))
  if w.getLsbD 31 && fldW w 30 29 != 3 then some (fldW w 30 29, if fldW w 30 29 = 2 then 0 else fldW w 13 0) else none

/-- The members of a group that a frame goes to (R435). -/
def State.members (s : State) (g : Nat) (f : Frm) : List (Nat × Nat) :=
  let w := s.rd (Reg.TMG_RG g)
  if !w.getLsbD 31 then []
  else ((List.range (fldW w 28 16)).filterMap fun i => s.memberDest (fldW w 15 0 + i)).filter fun d =>
    s.srcDest f.pkt != some d

def destOf (cls : Nat) (d : Nat × Nat) : Dest :=
  match d.1 with
  | 0 => .queue (4 * d.2 + cls)
  | 1 => .uplink d.2
  | _ => .mate

/-- The egress of a frame whose port or mate link has no queue for it (NOQ): the uplink port that R381 picks, or the mate link, by
which a frame of a member in STANDBY goes too. DESIGN CHOICE: a group with no member in service counts as uplink port 0 (log 71). -/
def State.noqEgress (s : State) (f : Frm) : Nat :=
  match f.dest with
  | .uplink g =>
    let ms := s.inService g
    32 + (ms[f.pkt.hash * ms.length / 65536]?).getD 0
  | _ => 56

/-- The egress a copy would leave by. -/
def State.copyEgress (s : State) (f : Frm) : Nat :=
  match s.selectQueue f with
  | .inl (q, u) => if s.noQueue u then s.noqEgress f else s.qEgress q
  | .inr _ => s.noqEgress f

/-- The copies of a flooded frame, each admitted on its own. -/
def State.admitCopies (s : State) (f : Frm) : List (Nat × Nat) → State
  | [] => s
  | d :: ds =>
    let c := { f with dest := destOf f.pkt.cls d }
    let e := s.copyEgress c
    match s.admitOne c with
    | (s, 0) => s.admitCopies f ds
    | (s, _) => (s.finish f.buf e).admitCopies f ds

/-- A flooded frame (R435). -/
def State.admitFlood (s : State) (g : Nat) (f : Frm) : State :=
  match s.members g f with
  | [] => (s.inc Reg.TMG_CNT_RG_EMPTY).admitDrop f 0
  | [d] =>
    let c := { f with dest := destOf f.pkt.cls d }
    match s.admitOne c with
    | (s, 0) => s
    | (s, r) => s.admitDrop c r
  | ds =>
    let last := s.copyEgress { f with dest := destOf f.pkt.cls (ds.getLastD (0, 0)) }
    match s.share f.buf f.holder ds.length last with
    | none => (((s.inc Reg.BPM_CNT_SHARE_REFUSED).inc (Reg.TMG_CNT_ADM_r 4))).admitDrop f 5
    | some s => s.admitCopies f ds

end Sys2Proof.Machine
end

