-- ==== Sys2Proof/Machine/Send.lean ====
section
/-! DEFINITION. A frame on its way out of an egress: to the framer of a tree port, protected by MACsec onto an uplink port
(R471 to R473), or as blocks on a lane of the mate link (R492 to R495, R501). -/

namespace Sys2Proof.Machine

/-! Secure associations (Table 15.6). -/

/-- Bit i of word 0 of CRY_SA_a: 31 ENABLED, 30 KEYED. -/
def State.saBit (s : State) (a i : Nat) : Bool := s.bit (Reg.CRY_SA a 0) i

/-- NEXT_PN of an SA. -/
def State.saPn (s : State) (a : Nat) : Nat := (s.rd (Reg.CRY_SA a 1)).toNat + 2 ^ 32 * (s.rd (Reg.CRY_SA a 2)).toNat

def State.setPn (s : State) (a n : Nat) : State :=
  (s.wr (Reg.CRY_SA a 1) (wordOf n 0)).wr (Reg.CRY_SA a 2) (wordOf n 1)

/-- Word 1 of the SC of an SA: transmit SAs 0 to 1,023, receive SAs above. -/
def scWord (a : Nat) : Nat := if a < 1024 then Reg.CRY_TXSC_w1 (a / 4) else Reg.CRY_RXSC_w1 ((a - 1024) / 4)

/-- The port of an SA's SC, and whether it uses GCM-AES-XPN-256. -/
def State.saPort (s : State) (a : Nat) : Nat := s.fld (scWord a) 4 0
def State.saXpn (s : State) (a : Nat) : Bool := s.bit (Reg.CRY_UP (s.saPort a)) 29

/-- A transmit SA has used its last packet number (R473). -/
def State.exhausted (s : State) (a : Nat) : Bool :=
  if s.saXpn a then s.saPn a == 0 else decide (0xFFFFFFFF < s.saPn a)

/-- A packet number compared with PN_TH (R473). -/
def State.pnReached (s : State) (a pn : Nat) : Bool :=
  decide ((s.rd Reg.CRY_PN_TH).toNat ≤ (if s.saXpn a then pn / 2 ^ 32 else pn))

/-- An event record of CRY (Table 19.9): code, terminal or SA, slot, and the value of bytes 8 to 15. -/
def State.cryEvent (s : State) (code idx slot v : Nat) : State :=
  if s.bit Reg.CRY_CTRL 31 then
    s.postEvent (s.fld Reg.CRY_CTRL 9 0) (3 + 256 * code + 2 ^ 16 * idx + 2 ^ 32 * slot + 2 ^ 64 * (v % 2 ^ 64))
      Reg.CRY_CNT_EV_LOST
  else s

/-- A transmit SA gives a packet number; the threshold record and the exhaustion that follow (R472, R473). -/
def State.takePn (s : State) (a : Nat) : State :=
  let pn := s.saPn a
  let s1 := s.setPn a (pn + 1)
  let s1 := if s.pnReached a (pn + 1) && !s.pnReached a pn then s1.cryEvent 2 a 0 (pn + 1) else s1
  if s1.exhausted a then s1.raise 37 (a % 65536) else s1

/-- How a frame of an uplink queue is sent (R471): as it is, dropped at a counter, or by a transmit SA. -/
inductive Guarded
  | plain
  | drop (cnt : Nat)
  | sa (a : Nat)
  deriving DecidableEq, Repr

/-- The protection of a frame of queue q on port u. A group that names no enabled SA sends nothing. -/
def State.guardOf (s : State) (u q : Nat) : Guarded :=
  let g := Reg.CRY_GSC ((q - 65536) / 8)
  if s.bit g 31 then
    let c := s.fld g 7 0
    let a := 4 * c + s.fld (Reg.CRY_TXSC_w0 c) 1 0
    if !s.bit (Reg.CRY_TXSC_w1 c) 31 || !s.saBit a 31 then .drop (Reg.CRY_u_CNT_TX_UNPROT u)
    else if s.exhausted a then .drop (Reg.CRY_u_CNT_TX_PN_EXH u)
    else .sa a
  else if s.bit (Reg.CRY_UP u) 31 then .drop (Reg.CRY_u_CNT_TX_UNPROT u)
  else .plain

/-- The SCI of a transmit SC (Table 15.6). -/
def State.txSci (s : State) (c : Nat) : Nat :=
  (s.rd (Reg.CRY_TXSC_SCI c 0)).toNat + 2 ^ 32 * (s.rd (Reg.CRY_TXSC_SCI c 1)).toNat

/-- The SecTAG of an SA with a packet number, for a frame of len bytes (R472): TCI and AN, SL, PN and SCI. -/
def State.secTag (s : State) (a pn len : Nat) : List Byte :=
  let c := a / 4
  [0x88, 0xE5, BitVec.ofNat 8 (0x2C + a % 4), BitVec.ofNat 8 (if len - 12 < 48 then len - 12 else 0)] ++ bytesBE 4 (pn % 2 ^ 32) ++ bytesBE 8 (s.txSci c)

/-- The initial value of GCM for a packet number under the words of an SA: of GCM-AES-256 the SCI and the packet number; of XPN
the SSCI and the packet number with the salt put on them (PRESUMED: IEEE 802.1AE; log 72). -/
def macsecIv (xpn : Bool) (ws : List Word) (sci pn : Nat) : Nat :=
  if xpn then
    (2 ^ 64 * (ws.getD 11 0).toNat + pn % 2 ^ 64) ^^^
      join16 (keyBytes [ws.getD 8 0, ws.getD 9 0, ws.getD 10 0])
  else 2 ^ 32 * sci + pn % 2 ^ 32

/-- The key bytes of an SA. -/
def saKeyBytes (ws : List Word) : List Nat := keyBytes (ws.take 8)

/-- Bytes that leave for an SA (R462, R472): the addresses, the SecTAG, what follows them encrypted, and the ICV over all. -/
def State.protectBytes (s : State) (a : Nat) (d : List Byte) : List Byte :=
  let aad := d.take 12 ++ s.secTag a (s.saPn a) d.length
  let ws := s.cry.sakeys.look [] a
  let (c, icv) := gcmSeal (saKeyBytes ws) (macsecIv (s.saXpn a) ws (s.txSci (a / 4)) (s.saPn a)) aad (d.drop 12)
  aad ++ c ++ icv

/-! Uplink ports. -/

/-- STATE of an uplink port (R486). -/
def State.upState (s : State) (u : Nat) : Nat := s.fld (Reg.UPL_u_STATUS u) 2 0

/-- Sending on an uplink or mate lane; before OUT_REL and in the Fatal state their transmitters are idle (Tables 20.3, 21.5). -/
def State.transmit (s : State) (o : Out) : State := if s.flt.fatal then s else s.drive o

/-- A frame leaves on an uplink port: sent, counted with its FCS; its buffer freed. -/
def State.leaveUplink (s : State) (u : Nat) (f : Frm) (bytes : List Byte) : State :=
  let s := (s.transmit (.frame (32 + u) bytes)).add64 (Reg.UPL_u_CNT_TX_FRAMES_LO u) 1
  (s.add64 (Reg.UPL_u_CNT_TX_BYTES_LO u) (bytes.length + 4)).finish f.buf (32 + u)

/-- A frame that TMG selected from queue q for uplink port u (R471 to R473, R487). One whose host waits for its departure
stays on its way until PTX_COMPLETE. -/
def State.sendUplink (s : State) (u q : Nat) (f : Frm) : State :=
  let go := fun (s : State) (bytes : List Byte) (sa : Option Nat) => match f.desc with
    | none => s.leaveUplink u f bytes
    | some _ =>
      let flying := match sa with
        | some a => s.cry.flying.put 0 a (s.cry.flying.look 0 a + 1)
        | none => s.cry.flying
      { s with tmg := { s.tmg with leaving := s.tmg.leaving ++ [{ egress := 32 + u, frm := f, bytes := bytes, sa := sa }] }
               cry := { s.cry with flying := flying } }
  if s.upState u ≠ 3 then (s.inc (Reg.UPL_u_CNT_TX_DOWN u)).dropQueued (32 + u) f
  else match s.guardOf u q with
    | .plain => go (s.tenCount q f.len false) f.pkt.data none
    | .drop c => (s.inc c).dropQueued (32 + u) f
    | .sa a => go ((s.tenCount q f.len false).takePn a) (s.protectBytes a f.pkt.data) (some a)

/-! The mate link. -/

/-- The lanes of a lane set (Table 16.6). -/
def laneSet (code : Nat) : List Nat := match code with
  | 1 => [0, 1, 2, 3, 4, 5, 6, 7]
  | 2 => [0, 1, 2, 3]
  | 3 => [4, 5, 6, 7]
  | 4 => [0, 1]
  | 5 => [2, 3]
  | 6 => [4, 5]
  | 7 => [6, 7]
  | _ => []

/-- Lanes in service. -/
def State.mateLanes (s : State) : List Nat := laneSet (s.fld Reg.MLK_STATUS 5 3)

/-- STATE of the mate link: 0 OFF, 1 TRAIN, 2 UP, 3 DOWN. -/
def State.mateState (s : State) : Nat := s.fld Reg.MLK_STATUS 2 0

/-- A block (Table 16.3). -/
def mateBlock (type len : Nat) (data : List Byte) : BitVec 256 :=
  let body := bytesBE 2 (4096 * type + 128 * len) ++ (data ++ List.replicate (29 - data.length) 0)
  BitVec.ofNat 256 (256 * joinBytesBE body + crc8 body 0)

/-- The mate header (Table 16.5). -/
def mateHeader (p : Pkt) : List Byte :=
  [BitVec.ofNat 8 (128 * p.down.toNat + 64 * p.tenant.isSome.toNat + 16 * p.cls), BitVec.ofNat 8 (16 * p.tenant.getD 0)] ++
    bytesBE 2 p.data.length ++ bytesBE 4 (crc32c 0xFFFFFFFF p.data)

/-- The blocks of the rest of a frame: DATA blocks, then END with 1 to 29 bytes. -/
def restBlocks : Nat → List Byte → List (BitVec 256)
  | 0, d => [mateBlock 3 d.length d]
  | n + 1, d => if d.length ≤ 29 then [mateBlock 3 d.length d] else mateBlock 2 0 (d.take 29) :: restBlocks n (d.drop 29)

/-- The blocks of a frame (R494). -/
def frameBlocks (p : Pkt) : List (BitVec 256) :=
  mateBlock 1 0 (mateHeader p ++ p.data.take 21) :: restBlocks (p.data.length / 29) (p.data.drop 21)

/-- Sending blocks on a lane. -/
def State.sendBlocks (s : State) (lane : Nat) (bs : List (BitVec 256)) : State :=
  bs.foldl (fun s b => s.transmit (.block lane b)) s

/-- A CONTROL block on the lowest lane in service, a lane of the failed mask left out (R495, R499); none goes while the link is
not up. -/
def State.sendControl (s : State) (data : List Byte) : State :=
  match s.mateState, s.mateLanes.filter fun l => !s.bit Reg.MLK_STATUS (8 + l) with
  | 2, l :: _ => s.transmit (.block l (mateBlock 4 data.length data))
  | _, _ => s

/-- A frame that TMG selected for the mate link (R501, R504). -/
def State.sendMate (s : State) (f : Frm) : State :=
  let ls := s.mateLanes
  match (if s.mateState = 2 then ls[f.pkt.hash * ls.length / 65536]? else none) with
  | none => (s.inc Reg.MLK_CNT_TX_DOWN).dropQueued 56 f
  | some l =>
    let s := ((s.tenCount f.queue f.len false).sendBlocks l (frameBlocks f.pkt)).finish f.buf 56
    match f.desc with
    | none => s
    | some _ => { s with tmg := { s.tmg with leaving := s.tmg.leaving ++ [{ egress := 56, frm := f }] } }

/-! The egresses. -/

/-- A selected frame goes to its egress. -/
def State.sendFrame (s : State) (e q : Nat) (f : Frm) : State :=
  if e < 32 then
    let s := s.tenCount q f.len false
    let p := s.dfr.port.look {} e
    { s with dfr := { s.dfr with port := s.dfr.port.put {} e { p with ready := p.ready ++ [f] } } }
  else if e < 56 then s.sendUplink (e - 32) q f
  else s.sendMate f

/-- An egress starts frames: a tree port that frames, an uplink port that is up, the mate link that is up and does not
narrow (R487, R500). -/
def State.egressTakes (s : State) (e : Nat) : Bool :=
  if e < 32 then s.dfrRun e else if e < 56 then s.upState (e - 32) == 3
  else s.mateState == 2 && s.mlk.target.isNone

/-- An egress that is down discards the frames at the heads of its queues (R487, R504). -/
def State.egressDown (s : State) (e : Nat) : Bool :=
  if e < 32 then false else if e < 56 then s.upState (e - 32) != 3 else s.mateState != 2

end Sys2Proof.Machine
end

