-- ==== Sys2Proof/Machine/Spares.lean ====
section
/-! DEFINITION. The spares of SerDes slices and what using one leaves behind (01 R37 to R45). -/

namespace Sys2Proof.Machine

/-- The spare slice of a group of 8 lanes takes the place of a lane's slice: one repair, and the Notice of the last spare;
none when the group's spare is used, which is a Serious fault (R42, R43, R44). -/
def State.useSlice (s : State) (group blk lane : Nat) : Bool × State :=
  if s.rcp.slices.getLsbD group then (false, s.raise 12 lane)
  else
    let s : State := { s with rcp := { s.rcp with
      slices := setBitW s.rcp.slices group true, spared := s.rcp.spared ++ [(blk, lane)] } }
    (true, (s.repairDone 5 blk lane).raise 11 5)

/-- The group of 8 lanes of a lane of TPA (1), UPL (15) or MLK (17) (Table 01.7). -/
def sliceGroup (blk lane : Nat) : Nat := if blk = 15 then 4 + lane / 8 else if blk = 17 then 7 else lane / 8

/-- The macro of a memory row: its block and number. -/
def rowKey (blk loc : Nat) : Nat := 65536 * blk + loc / 65536

/-- One spare row of a macro is in use. -/
def Rcp.takeRow (r : Rcp) (blk loc : Nat) : Rcp :=
  let k := rowKey blk loc
  { r with rowsUsed := r.rowsUsed.put 0 k (r.rowsUsed.look 0 k + 1) }

/-- A lane uses the spare slice of its group. -/
def Rcp.takeSlice (r : Rcp) (blk lane : Nat) : Rcp :=
  { r with slices := setBitW r.slices (sliceGroup blk lane) true, spared := r.spared ++ [(blk, lane)] }

/-- The lowest pipeline that is neither in service nor out of it for good: the spare. -/
def sparePipe (on gone : BitVec 5) : Option Nat := (List.range 5).find? fun i => !on.getLsbD i && !gone.getLsbD i

/-- A pipeline goes out of service, and the spare takes its place where there is one. -/
def Rcp.dropPipe (r : Rcp) (p : Nat) : Rcp :=
  let off := setBitW r.pipes p false
  let gone := setBitW r.pipesRetired p true
  { r with pipes := (sparePipe off gone).elim off fun i => setBitW off i true, pipesRetired := gone }

/-- The spares that fuse repair and the runtime repair record take, which is what a fuse load leaves (R37, R45). Spare columns and
packet-buffer banks are taken by fuses only. -/
def Rcp.withSpares (r : Rcp) : Rcp :=
  let r := { r with rowsUsed := [], slices := 0, spared := [], pipes := 0b01111, pipesRetired := 0 }
  let r := Config.fuseRepairs.foldl (fun r f => match f.kind with
    | .row => r.takeRow f.blk f.loc
    | .pipeline => r.dropPipe f.loc
    | .slice => r.takeSlice f.blk f.loc
    | _ => r) r
  r.repairs.foldl (fun r x => match x.kind with
    | 2 => r.takeRow x.blk x.loc
    | 4 => r.dropPipe x.loc
    | 5 => r.takeSlice x.blk x.loc
    | _ => r) r

/-- Spare columns of a macro, and spare packet-buffer banks, that fuse repair has left (Table 01.7). -/
def spareColumns (key : Nat) : Nat :=
  2 - (Config.fuseRepairs.filter fun f => f.kind == .column && rowKey f.blk f.loc == key).length
def spareBanks : Nat := 2 - (Config.fuseRepairs.filter fun f => f.kind == .bank).length

end Sys2Proof.Machine
end

