-- ==== Sys2Proof/Machine/UplOps.lean ====
section
/-! DEFINITION. Uplink ports, their groups and the mate link as state (16): which lanes make a port, a port that goes down,
the selection of a protected group, the narrowing and the fall of the mate link. -/

namespace Sys2Proof.Machine

/-- The port that a lane belongs to. -/
def State.portOfLane (s : State) (l : Nat) : Option Nat :=
  (List.range 24).find? fun u => decide (u ≤ l) && decide (l < u + s.portLanes u)

/-- A port of quad q has EN = 1; an 800GbE port is a port of both its quads (R478). -/
def State.quadBusy (s : State) (q : Nat) : Bool :=
  (s.quadMode q == 4 && s.bit (Reg.UPL_u_CTRL (4 * (q - q % 2))) 31) ||
    (List.range 4).any fun i => s.bit (Reg.UPL_u_CTRL (4 * q + i)) 31

/-- MODE_ERR of every quad follows the modes. -/
def State.settleQuads (s : State) : State :=
  (List.range 6).foldl (fun s q =>
    s.setB (Reg.UPL_Q q) 3 (s.loneHalf q || (s.fld (Reg.UPL_Q q) 2 0 != 0 && s.quadMode q == 0))) s

/-- STATE of a port; one that leaves UP may have a frame in reception, which is cut off (R487). -/
def State.setUpState (s : State) (u st : Nat) : State :=
  let s := if s.upState u = 3 || st = 3 then
      { s with upl := { s.upl with cutting := setBitW s.upl.cutting u (st != 3) } }
    else s
  s.setF (Reg.UPL_u_STATUS u) 2 0 st

/-- Every lane of port u has lock. -/
def State.allLocked (s : State) (u : Nat) : Bool :=
  (List.range (s.portLanes u)).all fun i => s.bit (Reg.UPL_L_RX (u + i)) 0

/-- A gap is open on some member of the device (Table 18.6). -/
def State.gapOpen (s : State) : Bool := (List.range 32).any fun n => s.bit (Reg.TPA_PSTAT n) 4

/-- A protected group whose selected member is not up selects the other if it is up; while a gap is open the change waits (R561,
Table 18.6). Members: a port by its lowest lane, 24 for the mate link. -/
def State.reselect (s : State) (g : Nat) : State :=
  let up := fun (m : Nat) => if m = 24 then s.mateState == 2 else s.upState m == 3
  let ms := (List.range 24).filter (s.bit (Reg.UPL_GRP g))
  let a := ms.head?
  let b := if s.bit (Reg.UPL_PG g) 30 then some 24 else ms[1]?
  if !s.bit (Reg.UPL_PG g) 31 then s
  else if s.gapOpen then { s with upl := { s.upl with deferred := s.upl.deferred.filter (· != g) ++ [g] } }
  else if s.bit (Reg.UPL_PG g) 0 then
    (if !(b.any up) && a.any up then s.setB (Reg.UPL_PG g) 0 false else s)
  else if !(a.any up) && b.any up then s.setB (Reg.UPL_PG g) 0 true
  else s

/-- The groups of which m is the selected member choose again. -/
def State.memberLeft (s : State) (m : Nat) : State :=
  (List.range 24).foldl (fun s g =>
    let ms := (List.range 24).filter (s.bit (Reg.UPL_GRP g))
    let sel := if s.bit (Reg.UPL_PG g) 0 then (if s.bit (Reg.UPL_PG g) 30 then some 24 else ms[1]?) else ms.head?
    if sel == some m then s.reselect g else s) s

/-- A port leaves UP for RETRAIN (Table 16.2, R487): lost lanes are a mask from lane u. -/
def State.portDown (s : State) (u lost : Nat) : State :=
  let s := (s.setF (Reg.UPL_u_STATUS u) 23 16 lost).setUpState u 4
  let s := ((s.inc (Reg.UPL_u_CNT_LINK_DOWN u)).inc (Reg.UPL_u_CNT_RETRAIN u)).raise 38 u
  let s : State := { s with upl := { s.upl with lost := u :: s.upl.lost } }
  s.memberLeft u

/-! The mate link. -/

def State.mlane (s : State) (l : Nat) : MateLane := s.mlk.lane.look {} l
def State.setMlane (s : State) (l : Nat) (x : MateLane) : State :=
  { s with mlk := { s.mlk with lane := s.mlk.lane.put {} l x } }

/-- The frames in reception on every lane are dropped (R494, R499, R504). -/
def State.cutMate (s : State) : State :=
  (List.range 8).foldl (fun s l =>
    (s.setMlane l { s.mlane l with head := none, data := [], broken := false, headless := false }).incIf
      ((s.mlane l).head.isSome || (s.mlane l).headless) Reg.MLK_CNT_RX_DROP) s

/-- The link leaves UP: reception is cut, MATE_VALID clears and no TIME block waits, and protected groups choose again (R504, R532, R561). -/
def State.mateLeft (s : State) (st : Nat) : State :=
  let was := s.mateState == 2
  let s := ((s.setF Reg.MLK_STATUS 2 0 st).setF Reg.MLK_STATUS 5 3 0).cutMate
  let s : State := { s with mlk := { s.mlk with
    target := none, announcing := false, partner := none, control := s.mlk.control.filter fun c => c.1.head? != some 1 } }
  if was then (s.setB Reg.TSU_MATE_CTRL 16 false).memberLeft 24 else s

/-- The link goes to DOWN (R497, R499, R504). -/
def State.mateDown (s : State) : State :=
  if s.mateState = 3 then s else (s.mateLeft 3).raise 41 0

/-- The lane sets of Table 16.6 that lie within a mask of lanes, lowest code first: the largest is the first. -/
def setsWithin (mask : Nat) : List Nat :=
  [1, 2, 3, 4, 5, 6, 7].filter fun c => (laneSet c).all fun l => Nat.testBit mask l

/-- The mask of a lane set. -/
def setMask (code : Nat) : Nat := ((laneSet code).map fun l => 2 ^ l).sum

/-- Lanes join the failed-lane mask, and the link narrows to the lowest set without them within the present set (R499). A
mask that names no new lane of the set changes nothing else. Each lane that leaves the set has one retrain before it (R503). -/
def State.narrow (s : State) (mask : Nat) : State :=
  let old := s.fld Reg.MLK_STATUS 15 8
  let m := old ||| mask
  let s := s.setF Reg.MLK_STATUS 15 8 m
  let lanes := s.mateLanes
  let cur := setMask (s.fld Reg.MLK_STATUS 5 3)
  if cur &&& (m ^^^ old) = 0 then s
  else
    let left := fun (s : State) (c : Nat) => ({ s with mlk := { s.mlk with
      retrain := s.mlk.retrain ++ lanes.filter fun l => !(laneSet c).contains l && !s.mlk.retrain.contains l } } : State)
    let s := ((s.inc Reg.MLK_CNT_NARROW).raise 40 m).cutMate
    match setsWithin (cur &&& (255 - m)) with
    | [] => left s.mateDown 0
    | c :: _ => left { s with mlk := { s.mlk with target := some c } } c

/-- WIDTH blocks on lanes (Table 16.4): failed lane or 31, failed-lane mask, LANES. -/
def State.sendWidth (s : State) (lanes : List Nat) (len mask own : Nat) : State :=
  lanes.foldl (fun s l =>
    s.transmit (.block l (mateBlock 5 len [BitVec.ofNat 8 mask, BitVec.ofNat 8 own]))) s

/-- A mate lane loses lock: a lane in service drops (R498, R499). -/
def State.dropLane (s : State) (l : Nat) : State :=
  let inSet := s.mateState == 2 && s.mateLanes.contains l && !Nat.testBit (s.fld Reg.MLK_STATUS 15 8) l
  let s := ((s.setB (Reg.MLK_l_STATUS l) 7 false).setB (Reg.MLK_l_RX l) 0 false).setB (Reg.MLK_l_RX l) 2 true
  if inSet then
    let failed := s.fld Reg.MLK_STATUS 15 8 ||| 2 ^ l
    let lanes := s.mateLanes.filter fun x => !Nat.testBit failed x
    (s.sendWidth lanes l failed (s.fld Reg.MLK_CTRL 7 0)).narrow (2 ^ l)
  else s

end Sys2Proof.Machine
end

