-- ==== Sys2Proof/Machine/Upl.lean ====
section
/-! DEFINITION. The commands of the uplink ports and their groups (16; 18 R561; 15 R475). -/

namespace Sys2Proof.Machine

/-- QUAD_MODE_WRITE (R477, R478). -/
def execQuadModeWrite (q : Fin 6) (v : Word) (s : State) : Res :=
  s.opWrite (Reg.UPL_Q q) <|
  if s.quadBusy q then .next (s.inc Reg.UPL_CNT_REFUSED)
  else .next (s.wr (Reg.UPL_Q q) (v &&& 0x17)).settleQuads

/-- UPL_PORT_ENABLE: a write of UPL_u_CTRL with EN = 1 (R479, Table 16.2). -/
def execUplPortEnable (u : Fin 24) (v : Word) (s : State) : Res :=
  s.opWrite (Reg.UPL_u_CTRL u) <|
  if s.portLanes u = 0 then .next s
  else
    let a := Reg.UPL_u_CTRL u
    let was := s.bit a 31
    let s1 := s.wr a (setBitW (fitWord a (s.rd a) v) 31 true)
    .next (if was then s1 else ((s1.pmPartial (20480 + u)).setUpState u 1).setF (Reg.UPL_u_STATUS u) 23 16 0)

/-- UPL_PORT_DISABLE: a write of UPL_u_CTRL with EN = 0; the lanes stop (Table 16.2, R488). -/
def execUplPortDisable (u : Fin 24) (v : Word) (s : State) : Res :=
  s.opWrite (Reg.UPL_u_CTRL u) <|
  if s.portLanes u = 0 then .next s
  else
    let a := Reg.UPL_u_CTRL u
    let up := s.upState u == 3
    let s0 := if s.bit a 31 then s.pmPartial (20480 + u) else s
    let s1 := (s0.wr a (setBitW (fitWord a (s0.rd a) v) 31 false)).setUpState u 0
    let s2 := (List.range (s.portLanes u)).foldl (fun s i =>
      (s.setB (Reg.UPL_L_RX (u + i)) 0 false).setB (Reg.UPL_L_RX (u + i)) 2 true) s1
    let s3 : State := { s2 with upl := { s2.upl with second := s2.upl.second.filter fun x => x != u.val } }
    .next (if up then s3.memberLeft u else s3)

/-- A lane has lock and has received a block with so many level transitions: FROZEN shows whether the block adapts (R483). -/
def State.adapted (s : State) (rx : Nat) (moves : BitVec 12) : State :=
  (s.setB rx 0 true).setB rx 2 (!(s.bit rx 31 && decide (s.fld rx 25 16 ≤ moves.toNat)))

/-- LANE_LOCK: lane 0 to 23 is UL, 24 to 31 ML0 to ML7; the block last received gives `fit.eq` where it
adapts (R483, R486). -/
def execLaneLock (l : Fin 32) (fit : LaneFit) (s : State) : Res :=
  if 24 ≤ l.val then
    let m := l.val - 24
    if s.bit Reg.MLK_CTRL 31 then
      .next ((s.setB (Reg.MLK_l_STATUS m) 7 true).adapted (Reg.MLK_l_RX m) fit.moves)
    else .next s
  else match s.portOfLane l with
    | none => .next s
    | some u =>
      let st := s.upState u
      if st = 0 || st = 5 then .next s
      else
        let a := Reg.UPL_L_RX l
        let s := s.adapted a fit.moves
        let s := if s.bit a 2 then s else s.wr (Reg.UPL_L_EQ l) (fit.eq &&& 0x0FFF00FF)
        if (st = 1 || st = 4) && s.allLocked u then
          let s : State := { s with upl := { s.upl with second := s.upl.second.filter fun x => x != u } }
          .next (s.setUpState u 2)
        else .next s

/-- LANE_LOCK_LOSS (R485, Table 16.2, R487, R499). -/
def execLaneLockLoss (l : Fin 32) (s : State) : Res :=
  if 24 ≤ l.val then .next (s.dropLane (l.val - 24))
  else
    let s := (s.setB (Reg.UPL_L_RX l) 0 false).setB (Reg.UPL_L_RX l) 2 true
    match s.portOfLane l with
    | none => .next s
    | some u =>
      let bit := 2 ^ (l.val - u)
      match s.upState u with
      | 2 => .next (s.setUpState u 1)
      | 3 => .next (s.portDown u bit)
      | 4 => .next (s.setF (Reg.UPL_u_STATUS u) 23 16 (s.fld (Reg.UPL_u_STATUS u) 23 16 ||| bit))
      | _ => .next s

/-- PCS_ALIGN (Table 16.2). -/
def execPcsAlign (u : Fin 24) (s : State) : Res :=
  .next (if s.upState u = 2 then s.setUpState u 3 else s)

/-- PCS_ALIGNMENT_LOSS: no lane is lost (Table 16.2). -/
def execPcsAlignmentLoss (u : Fin 24) (s : State) : Res :=
  .next (if s.upState u = 3 then s.portDown u 0 else s)

/-- ALIGN_TIMEOUT (Table 16.2). -/
def execAlignTimeout (u : Fin 24) (s : State) : Res :=
  .next (if s.upState u = 2 then s.setUpState u 1 else s)

/-- Spare slices for the lanes of a port that are still without lock: whether each has one. -/
def State.spareLanes (s : State) : List Nat → Bool × State
  | [] => (true, s)
  | l :: t =>
    let (a, s) := s.useSlice (4 + l / 8) 15 l
    let (b, s) := s.spareLanes t
    (a && b, s)

/-- RETRAIN_TIMEOUT: 50 ms in RETRAIN (Table 16.2, R488). A lane that fails on its spare slice too has none left (R42). A port whose lanes all have lock, and that lost only its
alignment, goes to ALIGN. -/
def execRetrainTimeout (u : Fin 24) (s : State) : Res :=
  if s.upState u ≠ 4 then .next s
  else
    let lost := ((List.range (s.portLanes u)).map fun i => u.val + i).filter fun l => !s.bit (Reg.UPL_L_RX l) 0
    let fail := fun (s : State) =>
      ({ s with upl := { s.upl with second := s.upl.second.filter fun x => x != u.val } } : State)
    if lost.isEmpty then .next ((fail s).setUpState u 2)
    else if s.upl.second.contains u.val then
      .next ((lost.foldl (fun s l => s.raise 12 l) ((fail s).setUpState u 5)).raise 39 u)
    else
      let (ok, s) := s.spareLanes lost
      if ok then
        .next (({ s with upl := { s.upl with second := u.val :: s.upl.second } } : State).inc (Reg.UPL_u_CNT_RETRAIN u))
      else .next ((s.setUpState u 5).raise 39 u)

/-! Reception. -/

/-- Why MACsec drops a received frame, or the frame it passes (Table 15.5). -/
inductive Opened
  | drop (cnt : Nat)
  | pass (data : List Byte) (sa : Option (Nat × Nat))
  deriving DecidableEq, Repr

/-- The receive SC of port u for a tag: by SCI, or the port's single SC when SC = 0. -/
def State.rxSc (s : State) (u : Nat) (sci : Option Nat) : Option Nat :=
  let cs := (List.range 256).filter fun c =>
    s.bit (Reg.CRY_RXSC_w1 c) 31 && s.fld (Reg.CRY_RXSC_w1 c) 4 0 == u
  match sci with
  | some x => cs.find? fun c => (s.rd (Reg.CRY_RXSC_SCI c 0)).toNat + 2 ^ 32 * (s.rd (Reg.CRY_RXSC_SCI c 1)).toNat == x
  | none => match cs with
    | [c] => some c
    | _ => none

/-- The packet number of a tag; XPN recovers the upper 32 bits from the lowest acceptable one (PRESUMED: IEEE 802.1AE). -/
def recoverPn (xpn : Bool) (low pn : Nat) : Nat :=
  if !xpn then pn
  else
    let hi := low / 2 ^ 32
    2 ^ 32 * (if 2 ^ 31 ≤ low % 2 ^ 32 && decide (pn < 2 ^ 31) then hi + 1 else hi) + pn

/-- The lowest acceptable packet number of a receive SA (R475). -/
def State.lowestPn (s : State) (u a : Nat) : Nat :=
  max (s.cry.saFirst.look 0 a) (s.cry.highest.look 0 a + 1 - s.fld (Reg.CRY_UP u) 15 0)

/-- What IEEE 802.1AE calls a malformed SecTAG (PRESUMED: clause 9.12; Table 15.5 names the standard only; log 72): a frame too short for
its tag and ICV; V set; SC with ES or SCB; SL with its two high bits, or of 48 or more, or more than the bytes there are, or 0 with fewer
than 48 of them; a packet number of 0, which XPN may carry in its low 32 bits. -/
def tagMalformed (xpn : Bool) (d : List Byte) : Bool :=
  let tci := d.getD 14 0
  let tag := if tci.getLsbD 5 then 28 else 20
  let n := d.length - tag - 16
  let sl := (d.getD 15 0).toNat
  decide (d.length < tag + 16) || tci.getLsbD 7 || (tci.getLsbD 5 && (tci.getLsbD 6 || tci.getLsbD 4)) ||
    decide (48 ≤ sl) || (if sl = 0 then decide (n < 48) else decide (n < sl)) ||
    (!xpn && joinBytesBE ((d.drop 16).take 4) == 0)

/-- The receive checks of MACsec, in order (Table 15.5): the ICV follows the secure data, of SL bytes where SL is not 0 and
of all but the last 16 otherwise. -/
def State.openFrame (s : State) (u : Nat) (d : List Byte) : Opened :=
  if joinBytesBE ((d.drop 12).take 2) ≠ 0x88E5 then
    if s.bit (Reg.CRY_UP u) 30 then .pass d none else .drop (Reg.CRY_u_CNT_RX_NOTAG u)
  else if tagMalformed (s.bit (Reg.CRY_UP u) 29) d then .drop (Reg.CRY_u_CNT_RX_BADTAG u)
  else
    let tci := (d.getD 14 0).toNat
    let long := Nat.testBit tci 5
    let pn := joinBytesBE ((d.drop 16).take 4)
    match s.rxSc u (if long then some (joinBytesBE ((d.drop 20).take 8)) else none) with
    | none => .drop (Reg.CRY_u_CNT_RX_NOSCI u)
    | some c =>
      let a := 1024 + 4 * c + tci % 4
      let low := s.lowestPn u a
      let xpn := s.bit (Reg.CRY_UP u) 29
      let full := recoverPn xpn low pn
      let tag := if long then 28 else 20
      let sl := (d.getD 15 0).toNat
      let n := if sl = 0 then d.length - tag - 16 else sl
      let ws := s.cry.sakeys.look [] a
      let sci := (s.rd (Reg.CRY_RXSC_SCI c 0)).toNat + 2 ^ 32 * (s.rd (Reg.CRY_RXSC_SCI c 1)).toNat
      if !s.saBit a 31 then .drop (Reg.CRY_u_CNT_RX_NOSA u)
      else if full < low then .drop (Reg.CRY_u_CNT_RX_LATE u)
      else match gcmOpen (saKeyBytes ws) (macsecIv xpn ws sci full) (d.take tag) ((d.drop tag).take n)
          ((d.drop (tag + n)).take 16) with
        | none => .drop (Reg.CRY_u_CNT_RX_NOTVALID u)
        | some plain => .pass (d.take 12 ++ plain) (some (a, full))

/-- An ingress timestamp: nanoseconds and a 16-bit fraction, with a compensation in picoseconds (R516). -/
def stampWith (ns frac : Nat) (ps : Int) : Nat × Nat :=
  let t : Int := (65536 * ns + frac : Nat) + ps * 65536 / 1000
  let n := wrapN 80 t
  (n / 65536, n % 65536)

/-- UPL_RX_FRAME: a frame from its addresses to its last payload byte, whether its FCS is bad or an uncorrectable codeword
has marked it, whether it was cut off when the port left UP, and the instant at which its first bit crossed the balls (R475, R481,
R487, R516); it ends Quiet (R633). A frame that was cut off is dropped by its FCS, at most one each time that the port leaves UP. -/
def execUplRxFrame (u : Fin 24) (data : List Byte) (fcsBad uncorr cutOff : Bool) (ns : Word64) (frac : BitVec 16)
    (s : State) : Res :=
  let s := s.advanceTo ns.toNat
  let type := joinBytesBE ((data.drop 12).take 2)
  let len := data.length + 4
  if s.upState u ≠ 3 then
    .next (if cutOff && s.upl.cutting.getLsbD u then
      ({ s with upl := { s.upl with cutting := setBitW s.upl.cutting u false } } : State).inc (Reg.UPL_u_CNT_RX_FCS u)
    else s)
  else
  let s := s.leaveQuiet
  if fcsBad || uncorr then .next (s.inc (Reg.UPL_u_CNT_RX_FCS u))
  else if len < 64 then .next (s.inc (Reg.UPL_u_CNT_RX_SHORT u))
  else if s.fld (Reg.UPL_u_CTRL u) 14 0 < len then .next (s.inc (Reg.UPL_u_CNT_RX_LONG u))
  else if type = 0x8808 then .next (s.inc (Reg.UPL_u_CNT_RX_MACCTL u))
  else
    let s := (s.add64 (Reg.UPL_u_CNT_RX_FRAMES_LO u) 1).add64 (Reg.UPL_u_CNT_RX_BYTES_LO u) len
    match s.openFrame u data with
    | .drop c => .next (s.inc c)
    | .pass d sa =>
      let s1 : State := match sa with
        | some (a, pn) =>
          let s := s.add64 (Reg.CRY_u_CNT_RX_OK_LO u) 1
          { s with cry := { s.cry with highest := s.cry.highest.put 0 a (max (s.cry.highest.look 0 a) pn) } }
        | none => s
      let p : Pkt := { kind := 1, port := u, down := true, data := d
                       stamp := some (stampWith ns.toNat frac.toNat (s1.rdInt (Reg.TSU_U_RX_CMP u))) }
      .next { s1 with cls := { s1.cls with ingress := s1.cls.ingress ++ [p] } }

/-! Groups. -/

/-- UPL_GROUP_WRITE (R489). -/
def execUplGroupWrite (g : Fin 24) (v : Word) (s : State) : Res :=
  s.opWrite (Reg.UPL_GRP g) <|
  let bad := (List.range 24).any fun u => v.getLsbD u && (s.portLanes u == 0 ||
    (List.range 24).any fun h => h != g.val && s.bit (Reg.UPL_GRP h) 31 && s.bit (Reg.UPL_GRP h) u)
  .next (if bad then s.inc Reg.UPL_CNT_REFUSED else s.wr (Reg.UPL_GRP g) (v &&& 0x80FFFFFF))

/-- PROT_GROUP_ENABLE: a write of UPL_PG_g (R561). -/
def execProtGroupEnable (g : Fin 24) (v : Word) (s : State) : Res :=
  s.opWrite (Reg.UPL_PG g) <|
  let a := Reg.UPL_PG g
  let n := ((List.range 24).filter (s.bit (Reg.UPL_GRP g))).length
  let want := if v.getLsbD 30 then 1 else 2
  if v.getLsbD 31 && n != want then .next (s.inc Reg.UPL_CNT_REFUSED)
  else
    let sel := s.bit a 31 && s.bit a 0
    .next ((s.wr a (setBitW (v &&& 0xC0000000) 0 sel)).reselect g)

end Sys2Proof.Machine
end

