-- ==== Sys2Proof/Machine/Hif.lean ====
section
/-! DEFINITION. The host interface (19): groups and ring contexts, doorbells, descriptors fetched, packet transmit and
receive, and interrupt moderation. The resets of HIF stand in Reset.lean, its register reads in Access.lean. -/

namespace Sys2Proof.Machine

/-! Groups and ring contexts (R567, R569, R571, R572). -/

/-- EN, ERR and DRAINED of a ring. -/
def State.ringEn (s : State) (r : Nat) : Bool := s.bit (Reg.HIF_RING r 0) 31
def State.ringErr (s : State) (r : Nat) : Bool := s.bit (Reg.HIF_RING r 2) 31
def State.ringDrained (s : State) (r : Nat) : Bool := s.bit (Reg.HIF_RING r 2) 27

/-- Another group gives the tenant of word v the same SLOT. -/
def State.slotTwice (s : State) (j : Nat) (v : Word) : Bool :=
  v.getLsbD 31 && (List.range 64).any fun k => k != j && s.bit (Reg.HIF_GRP k) 31 &&
    fldW (s.rd (Reg.HIF_GRP k)) 30 24 == fldW v 30 24

/-- HIF_GRP_WRITE (R567). -/
def execHifGrpWrite (j : Fin 64) (v : Word) (s : State) : Res :=
  s.opWrite (Reg.HIF_GRP j) <|
    let busy := (List.range 16).any fun i => s.ringEn (16 * j + i) || !s.ringDrained (16 * j + i)
    .next (if busy || s.slotTwice j v then s.inc Reg.HIF_CNT_REFUSED else s.wr (Reg.HIF_GRP j) (v &&& 0xFF000000))

/-- The slot of a tenant's page through which it reaches a group (R567). -/
def State.groupSlot (s : State) (j : Nat) : Nat := s.fld (Reg.HIF_GRP j) 26 24

/-- A slot of a tenant's page has a group. -/
def State.slotUsed (s : State) (n slot : Nat) : Bool :=
  (List.range 64).any fun j => s.bit (Reg.HIF_GRP j) 31 && s.fld (Reg.HIF_GRP j) 30 27 == n && s.groupSlot j == slot

/-- A refused access of a function to a ring: the operator's is counted in HIF_CNT_REFUSED; a tenant's at the offset that
`off` gives for the slot, its group's or, of a ring that is not its own, the lowest slot with no group (Table 19.12). -/
def State.ringRefused (s : State) (fn : Fn) (r : Nat) (off : Nat → Nat) : State :=
  match fn with
  | .op => s.inc Reg.HIF_CNT_REFUSED
  | .t n =>
    if s.ringOwner r == .t n then s.tenantRefused n true (off (s.groupSlot (r / 16)))
    else match (List.range 8).find? fun x => !s.slotUsed n.val x with
      | some x => s.tenantRefused n true (off x)
      | none => s

/-- Offset of a ring's context, and of its doorbell, in the page of its owner (Tables 19.11, R575). -/
def ctxOff (r slot : Nat) : Nat := 0x1000 + 32 * (16 * slot + r % 16)
def bellOff (r slot : Nat) : Nat := 0x8000 + 0x1000 * slot + 256 * (r % 16)

/-- The words of a context as a commit of word 0 by a function would leave them; MOD_CNT 0 is stored as 1. -/
def State.ctxWords (s : State) (fn : Fn) (r : Nat) (v : Word) : List Word :=
  (List.range 8).map fun i =>
    let a := Reg.HIF_RING r i
    let w := fitWord a (s.rd a) (if i = 0 then v else s.heldWord fn 18 (Reg.HIF_RING r 0) i)
    if i = 1 && fldW w 15 0 == 0 then setFldW w 15 0 1 else w

/-- Vectors of a function (Table 19.1). -/
def vectors (fn : Fn) : Nat := match fn with
  | .op => 512
  | .t _ => 96

/-- The checks of R571 on the new words; `old` is word 0. -/
def State.ctxBad (s : State) (r : Nat) (ws : List Word) : Bool :=
  let old := s.rd (Reg.HIF_RING r 0)
  let w := ws.getD 0 0
  let live : Word := 0x80100000
  (old.getLsbD 31 && ((old &&& ~~~live) != (w &&& ~~~live) || s.rd (Reg.HIF_RING r 6) != ws.getD 6 0 ||
    s.rd (Reg.HIF_RING r 7) != ws.getD 7 0)) ||
  (!old.getLsbD 31 && w.getLsbD 31 && !s.ringDrained r) || fldW w 30 28 == 7 ||
  decide (fldW w 27 23 < 6) || decide (16 < fldW w 27 23) || fldW (ws.getD 6 0) 11 0 != 0 ||
  decide (vectors (s.ringOwner r) ≤ fldW w 8 0)

/-- A command has started: it waits for its load or for the swap point (R582). -/
def State.cmdStarted (s : State) (d : Desc) : Bool :=
  s.cls.swap == some d || s.mtn.eng.any fun x => x.2.held.any fun h => h.desc == d

/-- EN has been written 0: what the ring has not begun is abandoned without completion (R572). -/
def State.ringStop (s : State) (r : Nat) : State :=
  let stay := fun (d : Desc) => d.ring != r || s.hif.taken.contains d || s.cmdStarted d
  ({ s with hif := { s.hif with fetched := s.hif.fetched.filter stay } } : State).ringSettle r

/-- A commit of word 0 of a ring context by a function (R569, R571, R572). -/
def State.ringCommit (s : State) (fn : Fn) (r : Nat) (v : Word) : State :=
  let ws := s.ctxWords fn r v
  let s := s.dropHeld fn 18
  let old := s.rd (Reg.HIF_RING r 0)
  let store := fun (s : State) => (List.range 8).foldl (fun s i => s.wr (Reg.HIF_RING r i) (ws.getD i 0)) s
  let same := (List.range 8).all fun i => if i = 0 then setBitW old 31 false == ws.getD 0 0 || old == ws.getD 0 0
    else s.rd (Reg.HIF_RING r i) == ws.getD i 0
  let mine := s.ringOwner r == fn
  if !mine && (fn != .op || !same) then s.ringRefused fn r (ctxOff r)
  else if mine && s.ctxBad r ws then s.ringRefused fn r (ctxOff r)
  else
    let on := !old.getLsbD 31 && (ws.getD 0 0).getLsbD 31
    let off := old.getLsbD 31 && !(ws.getD 0 0).getLsbD 31
    let s := store s
    if on then ((s.setF (Reg.HIF_RING r 2) 16 0 0).setF (Reg.HIF_RING r 2) 31 28 0).setF (Reg.HIF_RING r 3) 16 0 0
    else if off then s.ringStop r
    else s

/-- RING_CONTEXT_COMMIT: a write of word 0 of HIF_RING_r. -/
def execRingContextCommit (fn : Fn) (r : Fin 1024) (v : Word) (s : State) : Res :=
  s.fnWrite fn (Reg.HIF_RING r 0) (.next (s.ringCommit fn r v))

/-- RING_DISABLE: a write of word 0 with EN = 0. -/
def execRingDisable (fn : Fn) (r : Fin 1024) (v : Word) (s : State) : Res :=
  s.fnWrite fn (Reg.HIF_RING r 0) (.next (s.ringCommit fn r (setBitW v 31 false)))

/-! Doorbells and fetching (R573 to R576). -/

/-- The host writes descriptors of this ring type. -/
def hostFed (ty : Nat) : Bool := ty == 1 || ty == 2 || ty == 3 || ty == 5

/-- A write of v to the ring's doorbell. The trace's host reader fills the room that it makes (R651). -/
def State.doorbell (s : State) (fn : Fn) (r : Nat) (v : Word) : State :=
  if s.ringOwner r != fn then s.ringRefused fn r (bellOff r)
  else
    let ty := s.ringType r
    let x := fldW v 16 0
    let dev := s.fld (Reg.HIF_RING r 2) 16 0
    let gap := if hostFed ty then (x + 131072 - dev) % 131072 else (dev + 131072 - x) % 131072
    if fldW v 31 17 ≠ 0 || ty = 0 then s
    else if gap ≤ s.ringSize r then
      let s1 := s.setF (Reg.HIF_RING r 3) 16 0 x
      if s1.fld Reg.OBS_TRC_CTRL 27 18 = r then s1.hostDrain else s1
    else s.ringError r 1

/-- DOORBELL. -/
def execDoorbell (fn : Fn) (r : Fin 1024) (v : Word) (s : State) : Res := .next (if s.up 17 then s.doorbell fn r v else s)

/-- Host address of slot 0 of a ring. -/
def State.ringBase (s : State) (r : Nat) : Nat := joinWords [s.rd (Reg.HIF_RING r 6), s.rd (Reg.HIF_RING r 7)]

/-- DESCRIPTOR_FETCH: the 32 bytes of the next descriptor that a doorbell covers; a read that fails stops the ring (R572,
R574). -/
def execDescriptorFetch (r : Fin 1024) (data : BitVec 256) (dmaOk : Bool) (s : State) : Res :=
  let ty := s.ringType r
  let x := s.fld (Reg.HIF_RING r 2) 16 0
  if !s.up 17 || !hostFed ty || x == s.fld (Reg.HIF_RING r 3) 16 0 then .next s
  else
  let s := s.dmaRead r (s.ringBase r + 32 * (x % s.ringSize r)) 32
  if !dmaOk then .next ((s.raise 46 0).ringError r 2)
  else
    let s := if ty = 1 || ty = 3 then s.leaveQuiet else s
    let d : Desc := { ring := r, idx := x, data := data }
    let s : State := { s with hif := { s.hif with fetched := s.hif.fetched ++ [d] } }
    .next (((s.setF (Reg.HIF_RING r 2) 16 0 ((x + 1) % 131072)).ringSettle r).cmdNext r)

/-! Packet transmit (R578 to R580). -/

/-- The oldest descriptor of a transmit ring that has not been taken. -/
def State.ptxHead (s : State) (r : Nat) : Option Desc :=
  if s.ringType r = 1 then s.hif.fetched.find? fun d => d.ring == r && !s.hif.taken.contains d else none

/-- A completion written at once. -/
def State.ptxEnd (s : State) (d : Desc) (status : Nat) : State := s.ptxDone (some d) status 0

/-- Reserved bytes of a PTX descriptor are not zero. -/
def ptxDirty (x : BitVec 256) : Bool := fldW x 82 80 != 0 || fldW x 95 88 != 0 || fldW x 175 168 != 0 || fldW x 223 208 != 0

/-- PTX_QUEUE: the frame at ADDR asks for its buffer as requester 7 (code 0x46). -/
def execPtxQueue (r : Fin 1024) (data : List Byte) (dmaOk : Bool) (s : State) : Res :=
  match s.ptxHead r with
  | none => .next s
  | some d =>
    let x := d.data
    let kind := fldW x 87 86
    let len := fldW x 79 64
    let q := fldW x 127 96
    if kind = 1 then .next s
    else if kind ≠ 0 || ptxDirty x || len < 60 || 16384 < len || 69631 < q then .next (s.ptxEnd d 1)
    else if (s.ringTenant r).any fun n => !s.queueIn q n then .next (s.ptxEnd d 2)
    else
      let bytes := if dmaOk && decide (len ≤ data.length) then data.take len else []
      let p : Pkt := { kind := 3, down := decide (q < 65536), data := bytes, tenant := s.ringTenant r
                       cls := if q < 65536 then q % 4 else q % 8 }
      let f : Frm := { pkt := p, dest := .queue q, desc := some d
                       launch := if x.getLsbD 85 then some (fldW x 167 128) else none }
      let s := s.incIf (fldW x 84 83 == 3) Reg.TSU_CNT_TS_BAD
      let s : State := { s.dmaRead r (fldW x 63 0) len with hif := { s.hif with taken := s.hif.taken ++ [d] } }
      .next (s.want 7 len (decide (65536 ≤ q)) f)

/-- PTX_PLOAM: 48 bytes for a port's PLOAM queue. -/
def execPtxPloam (r : Fin 1024) (data : List Byte) (dmaOk : Bool) (s : State) : Res :=
  match s.ptxHead r with
  | none => .next s
  | some d =>
    let x := d.data
    let port := fldW x 127 96
    let onu := joinBytesBE (data.take 2) % 1024
    let q := s.hif.ploams.look [] port
    if fldW x 87 86 ≠ 1 then .next s
    else if ptxDirty x || fldW x 85 83 ≠ 0 || fldW x 79 64 ≠ 48 || 31 < port then .next (s.ptxEnd d 1)
    else
    let s := s.dmaRead r (fldW x 63 0) 48
    if !dmaOk || decide (data.length < 48) then .next ((s.dmaFail true).ptxEnd d 3)
    else if (s.ringTenant r).any fun n => decide (511 < onu) || !s.termIn (512 * port + onu) n then .next (s.ptxEnd d 2)
    else if 64 ≤ q.length then .next (s.ptxEnd d 7)
    else .next { s with hif := { s.hif with
      ploams := s.hif.ploams.put [] port (q ++ [(d, data.take 48)]), taken := s.hif.taken ++ [d] } }

/-- Bytes v written over a frame at an offset. -/
def overlay (d : List Byte) (off : Nat) (v : List Byte) : List Byte := d.take off ++ (v ++ d.drop (off + v.length)).take (d.length - off)

/-- The IEEE 1588 timestamp of a time in nanoseconds (R518). -/
def ptpBytes (ns : Nat) : List Byte := bytesBE 6 (ns / 1000000000) ++ bytesBE 4 (ns % 1000000000)

/-- PTX_COMPLETE: the oldest frame of egress e with a timestamp or launch request leaves, its first bit after the start
delimiter crossing the balls at ns and frac, or was dropped (R517, R518, R578). Only uplink ports give a timestamp. -/
def execPtxComplete (e : Fin 57) (ns : Word64) (frac : BitVec 16) (s : State) : Res :=
  match s.tmg.leaving.find? fun l => l.egress == e.val with
  | none => .next s
  | some l =>
    let s : State := { s with tmg := { s.tmg with leaving := s.tmg.leaving.erase l } }
    let x := (l.frm.desc.map (·.data)).getD 0
    let up := decide (32 ≤ l.egress) && decide (l.egress < 56) && decide (l.status ≠ 6)
    let u := l.egress - 32
    let mode := fldW x 84 83
    let tsv := up && (mode == 1 || mode == 2)
    let stamp := stampWith ns.toNat frac.toNat (s.rdInt (Reg.TSU_U_TX_CMP u))
    let off := fldW x 191 176
    let low := up && mode == 2 && (decide (l.frm.len < off + 10) || l.sa.isSome)
    let s := s.incIf low (Reg.TSU_U_CNT_1S_DOWN u)
    let s := if !up then s
      else
        let ck := fldW x 207 192
        let b := if mode == 2 && !low then overlay l.bytes off (ptpBytes stamp.1) else l.bytes
        let b := if mode == 2 && !low && ck != 0 then overlay b ck [0, 0] else b
        let s := s.leaveUplink u l.frm b
        match l.sa with
        | none => s
        | some a => { s with cry := { s.cry with flying := s.cry.flying.put 0 a (s.cry.flying.look 0 a - 1) } }
    match l.frm.desc with
    | none => .next s
    | some d =>
      let flags := tsv.toNat + 2 * low.toNat + 4 * l.frm.late.toNat
      if tsv then .next (s.complete d true (stamp.1 + 2 ^ 64 * stamp.2 + 2 ^ 80 * flags) l.status)
      else .next (s.complete d true (s.freshStamp + 2 ^ 80 * flags) l.status).taken.taken.taken

/-! Packet receive (R581). -/

/-- The completion of a received frame or message, bytes 0 to 27 (Table 19.7). -/
structure PrxDone where
  stamp : Option (Nat × Nat) := none
  len : Nat
  src : Nat
  reason : Nat := 0
  term : Nat := 0xFFFF
  trunc : Bool := false
  ploam : Bool := false
  lenErr : Bool := false
  tenant : Option Nat := none
  down : Bool := false
  deriving DecidableEq, Repr

/-- Its bytes as a number, byte 0 lowest. -/
def prxBody (c : PrxDone) : Nat :=
  let t := c.stamp.getD (0, 0)
  let flags := c.stamp.isSome.toNat + 2 * c.trunc.toNat + 4 * c.ploam.toNat + 8 * c.lenErr.toNat +
    16 * c.tenant.isSome.toNat + 32 * c.down.toNat
  t.1 % 2 ^ 64 + 2 ^ 64 * (t.2 % 2 ^ 16) + 2 ^ 80 * (c.len % 2 ^ 16) + 2 ^ 96 * (c.src % 256) + 2 ^ 104 * (c.reason % 256) +
    2 ^ 112 * (c.term % 2 ^ 16) + 2 ^ 128 * flags + 2 ^ 136 * c.tenant.getD 0

/-- The oldest posted buffer of a receive ring. -/
def State.prxHead (s : State) (r : Nat) : Option Desc := s.hif.fetched.find? fun d => d.ring == r

/-- Why a receive ring does not take a frame of a tenant: the counter of the drop. -/
def State.prxBars (s : State) (r : Nat) (tenant : Option Nat) : Option Nat :=
  if s.ringType r ≠ 2 then some Reg.HIF_CNT_NORING
  else if (s.ringTenant r).any fun n => tenant != some n then some Reg.HIF_CNT_RX_SHARE
  else if (s.prxHead r).isNone then some (Reg.HIF_r_CNT_NOBUF r)
  else none

/-- Bytes for ring r go to its next posted buffer; `wrOk` false fails the completion write, which stops the ring. -/
def State.prxWrite (s : State) (r : Nat) (c : PrxDone) (data : List Byte) (dmaOk wrOk : Bool) : State :=
  match s.prxHead r with
  | none => s
  | some d =>
    let room := fldW d.data 79 64
    let c := { c with trunc := decide (room < c.len) }
    let s := if dmaOk then
        (s.emit (.host (s.ringOwner r) (fldW d.data 63 0) (data.take room))).incIf c.trunc (Reg.HIF_r_CNT_TRUNC r)
      else s.dmaFail false
    if wrOk then s.complete d true (prxBody c) (if dmaOk then 0 else 3)
    else ((s.dropDesc d).ringSettle r).ringError r 3

/-- PRX_DELIVER: the oldest frame or message bound for a receive ring (R581, R590). -/
def execPrxDeliver (dmaOk wrOk : Bool) (s : State) : Res :=
  match s.rx with
  | [] => .next s
  | x :: rest =>
    let s : State := { s with rx := rest }
    let drop := fun (s : State) (cnt : Nat) =>
      if s.up 17 then s.inc cnt else { s with hif := { s.hif with lostInReset := s.hif.lostInReset + 1 } }
    match x with
    | .frame r reason f =>
      let p := f.pkt
      .next <| (match s.prxBars r p.tenant with
        | some cnt => drop s cnt
        | none => s.prxWrite r { stamp := p.stamp, len := p.data.length, src := 32 * p.kind + p.port, reason := reason
                                 term := if p.down then 0xFFFF else p.term, lenErr := p.lenErr, tenant := p.tenant
                                 down := p.down } p.data dmaOk wrOk).free f.buf 0x39
    | .ploam r port data =>
      .next <| match s.prxBars r none with
        | some cnt => drop s cnt
        | none => s.prxWrite r { len := 48, src := port, ploam := true } data dmaOk wrOk

/-! Interrupts (R585). -/

/-- MSIX_MOD_TIMER: MOD_US microseconds have passed since the first record of the ring that is not yet signalled. -/
def execMsixModTimer (r : Fin 1024) (s : State) : Res :=
  if s.up 17 && s.bit (Reg.HIF_RING r 0) 20 && s.fld (Reg.HIF_RING r 1) 31 16 ≠ 0 && s.hif.modCnt.look 0 r ≠ 0 then
    .next (({ s with hif := { s.hif with modCnt := s.hif.modCnt.drop r } } : State).signal (s.ringOwner r)
      (s.fld (Reg.HIF_RING r 0) 8 0))
  else .next s

/-! The PCIe link (R564, R591). -/

/-- PCIE_LINK_TRAINED: the width that the partner supports, the rate both support, and NumVFs as the host sets it over the link, which a
reset of HIF returns to 0 (R592). -/
def execPcieLinkTrained (width8 : Bool) (up : LinkUp) (s : State) : Res :=
  if !s.up 17 then .next s
  else
    let x4 := s.bit Reg.RCP_STRAP 12
    let w := if width8 && !x4 then 8 else 4
    .next ((s.wr Reg.HIF_LINK (BitVec.ofNat 32 (256 * x4.toNat + 16 * w + up.rate.val + 1))).wr Reg.HIF_NUMVF
      (BitVec.ofNat 32 up.numVF.val))

/-- The MSI-X table and the pending bits of a tenant's function return to their reset value. -/
def State.clearMsix (s : State) (n : Nat) : State :=
  { s with hif := { s.hif with
    ten := s.hif.ten.keep fun k => !(decide (0x10000 * n + 0x800 ≤ k) && decide (k < 0x10000 * n + 0xE10)) } }

/-- VF_FLR: EN of every ring of the tenant clears (R591). -/
def execVfFlr (t : Fin 16) (s : State) : Res :=
  if !s.up 17 then .next s
  else
    let rs := (List.range 1024).filter fun r => s.ringOwner r == .t t && s.ringEn r
    .next ((rs.foldl (fun s r => (s.setB (Reg.HIF_RING r 0) 31 false).ringStop r) s).clearMsix t)

end Sys2Proof.Machine
end

