-- ==== Sys2Proof/Machine/TceOps.lean ====
section
/-! DEFINITION. Tributary carriage (10): circuits and their ends, the carrier frame as it is sent, the time-slot
interchange, and what happens to circuits at a frame tick. -/

namespace Sys2Proof.Machine

/-! Circuit entries (Table 10.1). End number e is 2c for end A of circuit c and 2c + 1 for end B. -/

def State.cw (s : State) (c w hi lo : Nat) : Nat := s.fld (Reg.TCE_CIRC c w) hi lo
def State.circEn (s : State) (c : Nat) : Bool := s.bit (Reg.TCE_CIRC c 3) 31
def State.circSlot (s : State) (c : Nat) : Bool := s.bit (Reg.TCE_CIRC c 3) 30
/-- The circuit runs: EN is 1, or was cleared after the last FT (R325). -/
def State.circRuns (s : State) (c : Nat) : Bool := s.circEn c || s.tce.closing.contains c
def State.circK (s : State) (c : Nat) : Nat := s.cw c 3 21 12 + 1
def State.circU (s : State) (c : Nat) : Nat := s.cw c 3 11 6
/-- KIND, index and Port-ID of an end: kind 0 is a pseudowire, 1 a terminal. -/
def State.endKind (s : State) (e : Nat) : Nat := if e % 2 = 0 then s.cw (e / 2) 3 1 0 else s.cw (e / 2) 3 23 22
def State.endIdx (s : State) (e : Nat) : Nat := if e % 2 = 0 then s.cw (e / 2) 2 31 18 else s.cw (e / 2) 1 31 18
def State.endPort (s : State) (e : Nat) : Nat := if e % 2 = 0 then s.cw (e / 2) 2 15 0 else s.cw (e / 2) 1 15 0
/-- The end exists: a slot circuit has end A only. -/
def State.endLive (s : State) (e : Nat) : Bool := s.circRuns (e / 2) && (e % 2 == 0 || !s.circSlot (e / 2))
/-- The other end. -/
def mateEnd (e : Nat) : Nat := if e % 2 = 0 then e + 1 else e - 1

def State.tend (s : State) (e : Nat) : TceEnd := s.tce.ends.look {} e
def State.setTend (s : State) (e : Nat) (t : TceEnd) : State :=
  { s with tce := { s.tce with ends := s.tce.ends.put {} e t } }

/-- Enabled circuits by number, and those still running, each once. -/
def State.circuits (s : State) : List Nat :=
  ((s.regs.filter fun e => decide (0x1610000 ≤ e.1) && decide (e.1 < 0x1618000) && e.1 % 16 == 12 &&
    e.2.getLsbD 31).map fun e => (e.1 - 0x161000C) / 16) ++ s.tce.closing.filter fun c => !s.circEn c

/-- Live ends. -/
def State.liveEnds (s : State) : List Nat :=
  s.circuits.flatMap fun c => if s.circSlot c then [2 * c] else [2 * c, 2 * c + 1]

/-- The terminal end with a terminal and a Port-ID (R321). -/
def State.circuitEnd (s : State) (t port : Nat) : Option Nat :=
  s.liveEnds.find? fun e => s.endKind e == 1 && s.endIdx e == t && s.endPort e == port

/-- The end of a pseudowire. -/
def State.pwEnd (s : State) (w : Nat) : Option Nat := s.liveEnds.find? fun e => s.endKind e == 0 && s.endIdx e == w

/-! Pseudowire entries (Table 10.7). -/

def State.pwPlen (s : State) (w : Nat) : Nat := s.fld (Reg.TCE_PW_w1 w) 31 21
def State.pwRtp (s : State) (w : Nat) : Bool := s.bit (Reg.TCE_PW_w1 w) 20
def State.pwHlen (s : State) (w : Nat) : Nat := s.fld (Reg.TCE_PW_w1 w) 19 13
def State.pwJb (s : State) (w : Nat) : Nat := 8 * s.fld (Reg.TCE_PW_w1 w) 12 0 + s.fld (Reg.TCE_PW_w0 w) 31 29
def State.pwEq (s : State) (w : Nat) : Nat := s.fld (Reg.TCE_PW_w0 w) 28 17

/-! Stores (R324). -/

/-- The centre of a pseudowire end's store: ceil(JB_US × K × U ÷ 125). -/
def State.pwCentre (s : State) (e : Nat) : Nat :=
  cdiv (s.pwJb (s.endIdx e) * s.circK (e / 2) * s.circU (e / 2)) 125

/-- Bytes an end's store holds. -/
def State.storeSize (s : State) (e : Nat) : Nat :=
  if s.endKind e = 0 then 2 * s.pwCentre e else 4 * s.circK (e / 2) * s.circU (e / 2)

/-- Bytes of an end's store that are used: a slot circuit's holds whole blocks, so that one that fills cuts none in two
(R336, R339). -/
def State.storeRoom (s : State) (e : Nat) : Nat :=
  let n := s.storeSize e
  if s.circSlot (e / 2) then n - n % s.circK (e / 2) else n

/-- Bytes of the stores of all live ends. -/
def State.storeSum (s : State) : Nat := (s.liveEnds.map s.storeSize).sum

/-- STORE_USED follows the enabled ends, in KiB. -/
def State.settleStore (s : State) : State := s.setF Reg.TCE_STATUS 31 16 (cdiv s.storeSum 1024)

/-- A pseudowire end takes what its source has for the payload of the packet it builds (R340): a slot circuit from its blocks, a
bulk circuit from the store of its other end. -/
def State.buildPacket (s : State) (e : Nat) : State :=
  if s.endKind e ≠ 0 then s
  else
    let t := s.tend e
    let n := s.pwPlen (s.endIdx e) - t.asm.length
    if s.circSlot (e / 2) then s.setTend e { t with asm := t.asm ++ t.out.take n, out := t.out.drop n }
    else
      let m := s.tend (mateEnd e)
      (s.setTend e { t with asm := t.asm ++ m.store.take n }).setTend (mateEnd e) { m with store := m.store.drop n }

/-! Defects (R335) and monitoring marks. -/

/-- STATE of an end: 0 OFF, 1 HUNT, 2 PRESYNC, 3 MF_SEEK, 4 SYNC. -/
def State.align (s : State) (e : Nat) : Nat := s.fld (Reg.TCE_CST e 0) 31 28
def State.setAlign (s : State) (e st : Nat) : State := s.setF (Reg.TCE_CST e 0) 31 28 st

/-- The receive direction of a terminal end is in defect. -/
def State.rxDefect (s : State) (e : Nat) : Bool :=
  s.endKind e == 1 && (s.align e != 4 || s.fld (Reg.TCE_CST e 0) 27 24 != 0)

/-- The performance entity of an end (10, Performance monitoring). -/
def endEntity (e : Nat) : Nat := e / 2 + 2048 * (e % 2)

/-- A 16-bit counter of TCE_CST word 7 saturates: JB_UNDER in the high half, PW_DROP in the low half. -/
def State.jbUnder (s : State) (e : Nat) : State := s.satField (Reg.TCE_CST e 7) 31 16 1
def State.pwDrop (s : State) (e : Nat) : State := s.satField (Reg.TCE_CST e 7) 15 0 1

/-- n bytes of all ones. -/
def ones (n : Nat) : List Byte := List.replicate n 0xFF

/-- Bytes handed to the receive side of a terminal end (R321). -/
def State.feed (s : State) (e : Nat) (data : List Byte) : State :=
  let t := s.tend e
  s.setTend e { t with bits := t.bits ++ data.flatMap bitsOf }

/-! Sending (R327, R330, R331, R335, R343). -/

/-- n bytes taken from the store of source end e: all ones while the direction is in defect, for bytes it lacks, and
until playout of a pseudowire store starts. -/
def State.takeData (s : State) (e n : Nat) : List Byte × State :=
  let t := s.tend e
  let got := t.store.take n
  let all := got ++ ones (n - got.length)
  if s.endKind e = 0 then
    let run := s.bit (Reg.TCE_CST e 0) 22 || decide (s.pwCentre e ≤ t.store.length)
    if !run then (ones n, s)
    else
      let s := (s.setTend e { t with store := t.store.drop n }).setB (Reg.TCE_CST e 0) 22 true
      if got.length < n then
        (all, ((s.setB (Reg.TCE_CST e 0) 22 false).jbUnder e).setTend e { s.tend e with defect := true })
      else (all, s)
  else (if s.rxDefect e then ones n else all, s.setTend e { t with store := t.store.drop n })

/-- PTR of the frame after one with pointer p and d data units: (PTR + K − D) mod K, where D is at most K + 1 (R327). -/
def nextPtr (p k d : Nat) : Nat := (p + 2 * k - d) % k

/-- JC of the next frame of end e: 0 none, 1 positive, 2 negative (R330). -/
def State.nextJc (s : State) (e : Nat) : Nat :=
  if s.circSlot (e / 2) then 0
  else
    let m := mateEnd e
    let u := s.circU (e / 2)
    let fill := (s.tend m).store.length
    let centre := if s.endKind m = 0 then s.pwCentre m else 2 * s.circK (e / 2) * u
    if centre + u < fill then 2 else if fill + u < centre then 1 else 0

/-- The carrier frame of end e in line frame f (Tables 10.2, 10.3), and the state after it. -/
def State.carrierFrame (s : State) (e f : Nat) : List Byte × State :=
  let c := e / 2
  let k := s.circK c
  let u := s.circU c
  let jc := s.nextJc e
  let d := if jc = 2 then k + 1 else if jc = 1 then k - 1 else k
  let m := mateEnd e
  let ais := !s.circSlot c && s.rxDefect m
  let rdi := s.rxDefect e
  let (data, s) :=
    if s.circSlot c then
      let t := s.tend e
      let got := t.out.take k
      (got ++ ones (k - got.length), s.setTend e { t with out := t.out.drop k })
    else s.takeData m (d * u)
  let zeros : List Byte := List.replicate u 0
  let body := if jc = 2 then data else if jc = 1 then zeros ++ zeros ++ data else zeros ++ data
  let t := s.tend e
  let ndf := if 0 < t.ndf then 9 else 6
  let head : List Byte := [BitVec.ofNat 8 (16 * (f % 16) + 8 * rdi.toNat + 4 * ais.toNat),
    BitVec.ofNat 8 (16 * ndf + 4 * jc + t.sendPtr / 256), BitVec.ofNat 8 t.sendPtr, BitVec.ofNat 8 (80 * jc), t.sendBip,
    0, 0]
  let frame : List Byte := [0x5E, 0x2C, 0xB7, 0xA1] ++ head ++ [BitVec.ofNat 8 (crc8 head 0)] ++ body
  (frame, s.setTend e { t with
    sendPtr := nextPtr t.sendPtr k d, sendBip := bip8 body, ndf := t.ndf - 1 })

/-! The interchange and the frame tick (R325, R336 to R338). -/

/-- The block that the interchange takes from the ingress store of slot circuit c (R337). -/
def State.takeBlock (s : State) (c : Nat) : List Byte × State :=
  let e := 2 * c
  let k := s.circK c
  let t := s.tend e
  if s.rxDefect e then (ones k, s)
  else
    let b := t.store.length / k
    if b ≤ 2 then
      let blk := if t.block.isEmpty then ones k else t.block
      (blk, (s.setTend e { t with block := blk }).inc (Reg.TCE_CST_SLIP e))
    else
      let rest := t.store.drop ((b - 3) * k)
      (rest.take k, (s.setTend e { t with store := rest.drop k, block := rest.take k }).incN (Reg.TCE_CST_SLIP e) (b - 3))

/-- One block from every slot circuit. -/
def State.takeBlocks (s : State) : List Nat → List (Nat × List Byte) × State
  | [] => ([], s)
  | c :: t =>
    let (b, s) := s.takeBlock c
    let (bs, s) := s.takeBlocks t
    ((c, b) :: bs, s)

/-- The byte in slot (h, x) of the ingress highways: 0xFF where no slot circuit writes. -/
def State.ingressByte (s : State) (blocks : List (Nat × List Byte)) (h x : Nat) : Byte :=
  match blocks.find? fun b => s.cw b.1 0 31 28 == h && decide (s.cw b.1 0 27 17 ≤ x) &&
      decide (x < s.cw b.1 0 27 17 + s.circK b.1) with
  | some b => (b.2[x - s.cw b.1 0 27 17]?).getD 0xFF
  | none => 0xFF

/-- The byte of egress slot (h, x) (Table 10.6). -/
def State.egressByte (s : State) (blocks : List (Nat × List Byte)) (h x : Nat) : Byte :=
  let w := s.rd (Reg.TCE_CMA (2048 * h + x))
  if w.getLsbD 31 then s.ingressByte blocks (fldW w 26 23) (fldW w 22 12) else BitVec.ofNat 8 w.toNat

/-- The interchange at one FT. -/
def State.interchange (s : State) : State :=
  let cs := s.circuits.filter s.circSlot
  let (blocks, s) := s.takeBlocks cs
  cs.foldl (fun s c =>
    let e := 2 * c
    let k := s.circK c
    let blk := (List.range k).map fun i => s.egressByte blocks (s.cw c 0 16 13) (s.cw c 0 12 2 + i)
    let t := s.tend e
    let s := (s.setTend e { t with out := t.out ++ blk }).buildPacket e
    let t := s.tend e
    s.setTend e { t with out := t.out.drop (t.out.length - s.storeRoom e) }) s

/-- The ends of a circuit stop: OFF, their stores empty (R325). -/
def State.stopCircuit (s : State) (c : Nat) : State :=
  [2 * c, 2 * c + 1].foldl (fun s e => ((s.setAlign e 0).setB (Reg.TCE_CST e 0) 22 false).setTend e {}) s

/-- The ends of circuits that were disabled stop (R325). -/
def State.stopEnds (s : State) : State :=
  let s := s.tce.closing.foldl State.stopCircuit s
  ({ s with tce := { s.tce with closing := [] } } : State).settleStore

/-- The two pages of the connection memory change places (R338). -/
def State.swapPages (s : State) : State :=
  let isA := fun (a : Nat) => decide (0x1680000 ≤ a) && decide (a < 0x16A0000)
  let isS := fun (a : Nat) => decide (0x16A0000 ≤ a) && decide (a < 0x16C0000)
  let act := s.regs.filter fun e => isA e.1
  let stb := s.regs.filter fun e => isS e.1
  let s := { s with regs := s.regs.filter fun e => !(isA e.1 || isS e.1) }
  let s := act.foldl (fun s e => s.wr (e.1 + 0x20000) e.2) s
  let s := stb.foldl (fun s e => s.wr (e.1 - 0x20000) e.2) s
  (s.setB Reg.TCE_STATUS 1 (!s.bit Reg.TCE_STATUS 1)).setB Reg.TCE_STATUS 0 false

/-- What TCE does at a frame tick: disabled circuits stop, a page swap that is due, and the interchange. -/
def State.tceTick (s : State) : State :=
  let s := if s.tce.closing.isEmpty then s else s.stopEnds
  let s := if s.bit Reg.TCE_STATUS 0 && s.sfc % 16 == 0 && decide (s.tce.swapAt + 1000 ≤ s.now) then s.swapPages else s
  s.interchange

end Sys2Proof.Machine
end

