-- ==== Sys2Proof/Machine/Tod.lean ====
section
/-! DEFINITION. The time of day that a tree port sends to its
terminals (17 R533 to R537). -/

namespace Sys2Proof.Machine

/-- T in picoseconds as R535 computes it, exactly, as a quotient: N's tick in ns, the port's record of the terminal, none in
STANDARD mode. -/
def State.todExact (s : State) (n : Nat) (ft : Int) (r : Option TimeRec) : Int × Nat :=
  let txd := s.fld (Reg.TSU_n_TXD n) 23 0
  let rxd := s.fld (Reg.TSU_n_RXD n) 23 0
  let tx : Int := ft * 1000 + s.tsuPhase n + txd
  match r with
  | none => (tx, 1)
  | some r =>
    let (rbN, rbD) := if r.xgs then (100000000, 995328) else (10000000, 497664)
    let term : Int := (s.rd (Reg.TSU_n_RSP n)).toNat + (if r.cal then r.tcal else 0)
    let one : Nat := 64 * rbD
    let frt : Int := r.rtd64 * rbN - ((txd : Int) + rxd + term) * one
    (tx * (2 ^ 32 * one : Nat) + (s.rd (Reg.TSU_n_SPLIT n)).toNat * frt, 2 ^ 32 * one)

/-- A quotient of picoseconds, erring by e units of 2^-16 ps, in units of 2^-16 ns rounded with halves up (R536). -/
def todRound (x : Int × Nat) (e : Int) : Int :=
  (2 * (x.1 * 65536 + e * x.2) + (1000 * x.2 : Nat)) / (2000 * x.2 : Nat)

/-- T in units of 2^-16 ns; TSU's arithmetic errs by at most 1 ps (R535), by how much is left open. -/
def State.todTime (s : State) (n : Nat) (ft : Int) (r : Option TimeRec) : Int :=
  let x := s.todExact n ft r
  todRound x (max (-65536) (min 65536 (Config.todError (x.1 * 65536 / x.2))))

/-- The message whose fields Table 17.5 gives, for a frame N: to the terminal whose index is its ONU-ID (R138), or to all. -/
def todMsg (l : Option Nat) (frame : Nat) (t : Int) (std : Bool) : PMsg :=
  let ns := (t + 32768) / 65536
  .timeOfDay (l.elim Config.broadcastOnu (BitVec.ofNat 10)) (BitVec.ofNat 51 frame) (BitVec.ofInt 48 (ns / 1000000000))
    (BitVec.ofInt 32 (ns % 1000000000)) (if std then 0 else BitVec.ofInt 16 (t - ns * 65536))

/-- A queued message is built when DFR takes it for frame m, or skipped (R537). -/
def State.buildTod (s : State) (n m : Nat) (q : Nat × Option Nat) : Option PMsg :=
  let mode := s.fld (Reg.TSU_n_TOD_CTRL n) 31 30
  let ahead := s.fld (Reg.TSU_n_TOD_CTRL n) 29 24
  let slip := decide (1000 * s.fld Reg.DFR_CTRL 15 8 < (s.rdInt (Reg.DFR_n_FT_PHASE n)).natAbs)
  let frame := (m + ahead) % 2 ^ 51
  let ft := s.ftAt (m + ahead)
  if mode ≠ q.1 ∨ slip then none
  else match q.2 with
    | none => some (todMsg none frame (s.todTime n ft none) true)
    | some l =>
      let r := s.rng.recs.look {} (512 * n + l)
      if r.valid then some (todMsg (some l) frame (s.todTime n ft (some r)) false) else none

end Sys2Proof.Machine
end

