-- ==== Sys2Proof/Machine/DfrOps.lean ====
section
/-! DEFINITION. Downstream framing (08): the map of a page, holds, the PLOAM messages and the XGEM space of a frame. -/

namespace Sys2Proof.Machine

def State.dport (s : State) (n : Nat) : DfrPort := s.dfr.port.look {} n
def State.setDport (s : State) (n : Nat) (p : DfrPort) : State :=
  { s with dfr := { s.dfr with port := s.dfr.port.put {} n p } }

/-- Some port is framing. -/
def State.anyRun (s : State) : Bool := (List.range 32).any s.dfrRun

/-! The map (R277 to R280, Table 08.2). -/

/-- One allocation structure, fields in the order of the table, the first in the highest bits, the HEC in the lowest. -/
def State.allocWord (s : State) (e : CalEnt) (start : Nat) (prof : Nat) : Word64 :=
  let wide := e.kind == 1 || e.kind == 2
  let alloc := if e.kind = 2 then Config.broadcastAlloc.toNat
    else if e.kind = 1 then strLocal e.stream else s.fld (Reg.GNT_STR_w1 e.stream) 13 0
  let body := 2 ^ 37 * alloc + 2 ^ 36 * e.dbru.toNat + 2 ^ 35 * (wide || e.ploam).toNat + 2 ^ 19 * start +
    2 ^ 3 * (if wide then 0 else e.grant / 4) + prof
  BitVec.ofNat 64 (2 ^ 13 * body + (Config.mapHec (BitVec.ofNat 51 body)).toNat)

/-- The structures of one burst: its first entry that is not void takes the head's place. -/
def State.burstWords (s : State) (b : List CalEnt) : List Word64 :=
  let h := headOf b
  match b.filter fun e => !e.void with
  | [] => []
  | e :: t => s.allocWord e h.start h.prof :: t.map fun x => s.allocWord x 0xFFFF h.prof

/-- A burst put in order of START. -/
def placeBurst (b : List CalEnt) : List (List CalEnt) → List (List CalEnt)
  | [] => [b]
  | x :: t => if (headOf b).start < (headOf x).start then b :: x :: t else x :: placeBurst b t

/-- A burst too large for one allocation structure (R280). -/
def oversize (b : List CalEnt) : Bool := b.any fun e => !e.void && decide (262140 < e.grant)

/-- The map of a final page. -/
def State.mapOf (s : State) (g : Page) : List Word64 :=
  let bs := (burstsOf g.ents).filter fun b => !oversize b
  (bs.foldl (fun l b => placeBurst b l) []).flatMap s.burstWords

/-- MAP records of the trace: one or two entries each, stamped with FT (R648, Table 22.6). -/
def State.traceMap (s : State) (n : Nat) (ft : Nat) : Nat → List Word64 → State
  | i, a :: b :: t => (s.traceAt ft 1 n (i + 2 ^ 16 * 2 + 2 ^ 32 * a.toNat + 2 ^ 96 * b.toNat)).traceMap n ft (i + 2) t
  | i, [a] => s.traceAt ft 1 n (i + 2 ^ 16 + 2 ^ 32 * a.toNat)
  | _, [] => s

/-! Holds (R289 to R293, R552). -/

/-- HOLD_ACTIVE. -/
def State.holding (s : State) (n : Nat) : Bool := s.bit (Reg.DFR_n_STATUS n) 1

/-- Frame f is a held frame of a switch-over. -/
def DfrPort.mustHold (p : DfrPort) (f : Nat) : Bool := match p.holdTo with
  | some x => decide (f ≤ x)
  | none => false

/-- Frame f of port n is sent with a held map: a hold begins, or one goes on (R289, R292). -/
def State.holdsAt (s : State) (n f : Nat) : Bool :=
  let p := s.dport n
  let c := Reg.DFR_n_CTRL n
  let own := p.readFinal == some f
  if !s.holding n then s.bit c 31 || p.starting || p.mustHold f
  else if p.mustHold f then true
  else if s.bit c 30 then !own else s.bit c 31

/-- The map that a hold repeats (Table 08.4): none when its source has never carried one. -/
def State.holdMap (s : State) (n : Nat) : Option (List Word64) :=
  let c := Reg.DFR_n_CTRL n
  let m := s.fld c 24 20
  match s.fld c 29 28 with
  | 1 => (s.dport m).last
  | 2 => (s.dfr.mate.find? fun e => e.1 == m).map (·.2)
  | _ => (s.dport n).last

/-- The first frame that waits in the framer is dropped: its buffer returns, and its host hears (R283, R287, R288). -/
def State.dropReady (s : State) (n cnt : Nat) : State :=
  let p := s.dport n
  match p.ready with
  | [] => s
  | f :: t => (((s.setDport n { p with ready := t, cut := false, sent := 0 }).inc cnt).finish f.buf n).dropDone n f

/-- A remainder that cannot follow in the next frame is discarded (R287). -/
def State.dropRemainder (s : State) (n : Nat) : State :=
  if (s.dport n).cut then s.dropReady n (Reg.DFR_n_CNT_FRAG_DROP n) else s

/-- Entries that lose up to 3 bytes to the 4-byte words of GrantSize (R279). -/
def roundedEnts (bs : List (List CalEnt)) : Nat :=
  (bs.flatten.filter fun e => !e.void && (e.kind == 0 || e.kind == 3) && e.grant % 4 != 0).length

/-- Bursts of a page that the map leaves out, by number (R280). -/
def oversizeBursts (bs : List (List CalEnt)) : List (Nat × List CalEnt) :=
  (bs.zipIdx.filter fun x => oversize x.1).map fun x => (x.2, x.1)

/-- Frame f goes out with the map m of its own page: what DFR and GNT account for it (R279, R280, R648). -/
def State.sendOwn (s : State) (n f : Nat) (m : List Word64) : State :=
  match s.page n f with
  | none => s
  | some g =>
    let bs := burstsOf g.ents
    let out := oversizeBursts bs
    let s := s.incN (Reg.DFR_n_CNT_ROUND n) (roundedEnts (bs.filter fun b => !oversize b))
    let s := s.incN (Reg.DFR_n_CNT_OVERSIZE n) out.length
    let s := s.setPage n { g with announced := true, leftOut := out.map (·.1) }
    let s := out.foldl (fun s b => s.lostAllocs b.2) s
    s.traceMap n (s.ftAt f).toNat 0 m

/-- The map of frame f, and the state after the choice: the page's own map, an empty one, or a held one. A hold whose source has
never carried a map sends empty ones; DESIGN CHOICE: they are no map that a port which has sent none has carried (R291; log 69). -/
def State.frameMap (s : State) (n f : Nat) : List Word64 × State :=
  let st := Reg.DFR_n_STATUS n
  let p := s.dport n
  if s.holdsAt n f then
    let begins := !s.holding n
    let s := if begins then s.dropRemainder n else s
    let p := s.dport n
    let k := if begins then 1 else p.held + 1
    let s := s.setDport n { p with held := k, starting := false, expired := p.expired && !begins }
    let src := s.holdMap n
    let over_ := decide (s.fld (Reg.DFR_n_CTRL n) 19 14 < k)
    let m := if over_ then [] else src.getD []
    let s := ((s.setB st 1 true).setB st 3 src.isNone).inc (Reg.DFR_n_CNT_HOLD n)
    let s := if src.isNone && p.last.isNone then s else s.setDport n { s.dport n with last := some m }
    let s := s.setTport n { s.tport n with hush := s.now + 125000 + s.teqNs n + 125000 }
    (m, s.traceMap n (s.ftAt f).toNat 0 m)
  else
    let s := if s.holding n then
        let s := (s.setB st 1 false).setB st 3 false
        let s := if s.bit (Reg.DFR_n_CTRL n) 30 then s.setB (Reg.DFR_n_CTRL n) 31 false else s
        s.setDport n { s.dport n with held := 0, expired := false, holdTo := none }
      else s
    match (if p.read.any fun r => r.1 == f then p.read.bind (·.2) else none) with
    | some m => (m, (s.sendOwn n f m).setDport n { s.dport n with last := some m })
    | none =>
      ([], (s.incIf (s.page n f).isSome (Reg.DFR_n_CNT_EMPTY_MAP n)).setDport n { s.dport n with last := some [] })

/-! PLOAM messages (R281, R282, R537, R557, R579, R685). -/

/-- Profiles of the port that its mode can use (R282), each with FEC on (R297). -/
def State.usableProfiles (s : State) (n : Nat) : List PMsg :=
  ((List.range 4).filter fun k => s.portMode n != 0 && s.xgs n == (s.fld (Reg.BRX_PROF n k) 31 30 == 3)).map
    fun k => .profile k (s.rd (Reg.BRX_PROF n k)) true

/-- Announcements queued for the port. -/
def State.announceAll (s : State) (n : Nat) : State :=
  let p := s.dport n
  s.setDport n { p with announce := p.announce ++ s.usableProfiles n }

/-- Messages of TSU, built while there is room; a message that is not built passes its place on. -/
def State.takeTods (s : State) (n m : Nat) : Nat → List (Nat × Option Nat) → List PMsg × List (Nat × Option Nat) × State
  | 0, l => ([], l, s)
  | _, [] => ([], [], s)
  | room + 1, q :: t =>
    match s.buildTod n m q with
    | none => (s.inc (Reg.TSU_n_CNT_SKIP n)).takeTods n m (room + 1) t
    | some x =>
      let (xs, l, s) := (s.inc (Reg.TSU_n_CNT_SENT n)).takeTods n m room t
      (x :: xs, l, s)

/-- The messages of frame m in the order of Table 08.3, and the state after they are placed. -/
def State.framePloams (s : State) (n m : Nat) : List PMsg × State :=
  let room := s.fld (Reg.DFR_n_CTRL n) 10 8
  let protDue := s.prot.control.getLsbD n
  let bcastDue := decide (0 < (s.rport n).bcast)
  let first : List PMsg := if protDue then [PMsg.protection].take room else []
  let s : State := if first.isEmpty then s else { s with prot := { s.prot with control := setBitW s.prot.control n false } }
  let bcast : List PMsg := if bcastDue then [PMsg.broadcast].take (room - first.length) else []
  let rq := (s.rport n).queue
  let left := room - first.length - bcast.length
  let rng := rq.take left
  let s := s.takePloams n left
  let s := (bcast ++ rng).foldl (fun s x => s.ploamSent n x) s
  let left := left - rng.length
  let (tods, tl, s) := s.takeTods n m left (s.dport n).tods
  let s := s.setDport n { s.dport n with tods := tl }
  let left := left - tods.length
  let ann := (s.dport n).announce.take left
  let s := s.setDport n { s.dport n with announce := (s.dport n).announce.drop left }
  let left := left - ann.length
  let hq := s.hif.ploams.look [] n
  let host := hq.take left
  let s : State := { s with hif := { s.hif with ploams := s.hif.ploams.put [] n (hq.drop left) } }
  let s := host.foldl (fun s x => s.ptxDone (some x.1) 0 0) s
  let waits := (protDue && first.isEmpty) || (bcastDue && bcast.isEmpty) || !(s.rport n).queue.isEmpty || !tl.isEmpty || !(s.dport n).announce.isEmpty || decide (left < hq.length)
  (first ++ bcast ++ rng ++ tods ++ ann ++ host.map (fun x => PMsg.host x.2),
    s.incIf waits (Reg.DFR_n_CNT_PLOAM_DEFER n))

/-! The XGEM space (R283 to R288, R322). -/

/-- The XGEM header of a payload, without its HEC. -/
def xgemWord (len key port : Nat) (last : Bool) : Word64 :=
  BitVec.ofNat 64 (2 ^ 50 * len + 2 ^ 48 * key + 2 ^ 32 * port + 2 ^ 13 * last.toNat)

/-- A length padded to a multiple of 4 bytes. -/
def padded (n : Nat) : Nat := (n + 3) / 4 * 4

/-- A frame or fragment of `len` payload bytes may be placed in the space left (R284). -/
def placeable (space len : Nat) : Bool :=
  decide (8 + padded len ≤ space) && (space - (8 + padded len) == 0 || decide (8 ≤ space - (8 + padded len)))

/-- The carrier frame of one end as XGEM payloads. -/
def pieces : Nat → List Byte → List (List Byte)
  | 0, d => [d]
  | k + 1, d => if d.length ≤ 16376 then [d] else d.take 16376 :: pieces k (d.drop 16376)

/-- FEC payload of a frame (Table 08.1). -/
def State.fecPayload (s : State) (n : Nat) : Nat := if s.xgs n then 135432 else 656616

/-- The key index of a terminal's XGEM frames that are encrypted: the active slot, 0 where there is none (R288, Table 15.4). -/
def State.activeKey (s : State) (t : Nat) : Nat := s.fld (Reg.CRY_TK t 0) 31 30

/-- A payload that goes out under key index `key` of terminal t in frame f, with `space` bytes of the XGEM space left: encrypted
with the superframe counter and the word position of its XGEM frame in the FEC payload (R288, R462). -/
def State.sealPayload (s : State) (n f t key space : Nat) (d : List Byte) : List Byte :=
  if key = 0 then d
  else xgemCipher (s.cry.tkeys.look [] (2 * t + key - 1)) false f ((s.fecPayload n - 4 - space) / 4) d

/-- The port's terminal ends, in order of circuits, each give one carrier frame for line frame f (R322). -/
def State.giveCarriers (s : State) (n f : Nat) : State :=
  (s.liveEnds.filter fun e => s.endKind e == 1 && s.endIdx e / 512 == n).foldl (fun s e =>
    let (d, s) := s.carrierFrame e f
    let p := s.dport n
    s.setDport n { p with carriers := p.carriers ++ (pieces (d.length / 16376) d).map fun x => (e, x) }) s

/-- The XGEM frames of carrier frames placed in the space left (R318, R322): never fragments, so LF = 1. DESIGN CHOICE: those for
which the frame has no space wait, in order, for the next (R284; log 69). -/
def State.placeCarriers (s : State) (n f : Nat) : List (Nat × List Byte) → Nat → List (Word64 × List Byte) × Nat × State
  | [], space => ([], space, s.setDport n { s.dport n with carriers := [] })
  | (e, d) :: rest, space =>
    let crypt := s.bit (Reg.TCE_CIRC (e / 2) 3) 29
    let t := s.endIdx e
    let key := if crypt then s.activeKey t else 0
    if !s.endLive e then s.placeCarriers n f rest space
    else if crypt && key == 0 then (s.inc (Reg.DFR_n_CNT_NOKEY n)).placeCarriers n f rest space
    else if placeable space d.length then
      let x := (xgemWord d.length key (s.endPort e) true, s.sealPayload n f t key space d)
      let (xs, sp, s) := s.placeCarriers n f rest (space - (8 + padded d.length))
      (x :: xs, sp, s)
    else ([], space, s.setDport n { s.dport n with carriers := (e, d) :: rest })

/-- One XGEM frame sent (Table 08.5). -/
def State.xgemSent (s : State) (n len : Nat) : State :=
  (s.add64 (Reg.DFR_n_CNT_XGEM_LO n) 1).add64 (Reg.DFR_n_CNT_BYTES_LO n) len

/-- The whole frame has left: its buffer, and its host (R517, R578). -/
def State.framed (s : State) (n : Nat) (f : Frm) : State :=
  let p := s.dport n
  let s := (s.setDport n { p with ready := p.ready.drop 1, cut := false, sent := 0 }).finish f.buf n
  match f.desc with
  | none => s
  | some _ => { s with tmg := { s.tmg with leaving := s.tmg.leaving ++ [{ egress := n, frm := f }] } }

/-- TMG's frames placed in the space left (R283 to R288); only a remainder when `rest` is set. A launch frame is not presented before
its launch time (R457), and the frames selected after it wait behind it. -/
def State.placeFrames (s : State) (n frame : Nat) (rest : Bool) : Nat → Nat → List (Word64 × List Byte) × Nat × State
  | 0, space => ([], space, s)
  | fuel + 1, space =>
    let p := s.dport n
    match p.ready with
    | [] => ([], space, s)
    | f :: _ =>
      if (rest && !p.cut) || f.launch.any (fun l => decide (0 < s.launchIn l)) then ([], space, s)
      else
        let q := f.queue
        let w := s.rd (Reg.DFR_QMAP q)
        let key := if w.getLsbD 30 then s.activeKey (q / 4) else 0
        if !w.getLsbD 31 then (s.dropReady n (Reg.DFR_n_CNT_NOPID n)).placeFrames n frame rest fuel space
        else if w.getLsbD 30 && key == 0 then (s.dropReady n (Reg.DFR_n_CNT_NOKEY n)).placeFrames n frame rest fuel space
        else
          let d := f.pkt.data.drop p.sent
          let port := fldW w 15 0
          let whole := f.launch.isSome || (s.gateBit n q).isSome || w.getLsbD 29
          if placeable space d.length then
            let x := s.sealPayload n frame (q / 4) key space d
            let s := (s.xgemSent n d.length).framed n f
            let (xs, sp, s) := if rest then ([], space - (8 + padded d.length), s)
              else s.placeFrames n frame rest fuel (space - (8 + padded d.length))
            ((xgemWord d.length key port true, x) :: xs, sp, s)
          else if decide (space < 8 + padded d.length) && !whole &&
              decide (8 + s.fld (Reg.DFR_n_CTRL n) 7 0 ≤ space) then
            let m := space - 8
            let x := s.sealPayload n frame (q / 4) key space (d.take m)
            let s := ((s.setDport n { p with cut := true, sent := p.sent + m }).xgemSent n m).inc (Reg.DFR_n_CNT_FRAG n)
            ([(xgemWord m key port false, x)], 0, s)
          else ([], space, s)

/-- The XGEM space of frame f filled: the frames, and what is left for idle frames. -/
def State.fillXgem (s : State) (n f space : Nat) : List (Word64 × List Byte) × State :=
  let fuel := (s.dport n).ready.length + 1
  let (a, sp, s) := s.placeFrames n f true fuel space
  let s := s.giveCarriers n f
  let (b, sp, s) := s.placeCarriers n f (s.dport n).carriers sp
  let s := b.foldl (fun s x => s.xgemSent n x.2.length) s
  let (c, sp, s) := s.placeFrames n f false fuel sp
  (a ++ b ++ c, s.add64 (Reg.DFR_n_CNT_IDLE_LO n) sp)

/-- Framing stops at the end of a frame, or in its middle when PON_TXEN falls (R82, R688): the hold ends with it. -/
def State.stopFraming (s : State) (n : Nat) : State :=
  let st := Reg.DFR_n_STATUS n
  let s := (((s.setB (Reg.TPA_STATUS n) 1 false).tell 3 n (Reg.TPA_STATUS n)).setB st 1 false).setB st 3 false
  s.setDport n { s.dport n with held := 0, expired := false, read := none, readFinal := none, carriers := [] }

/-- PON_TXEN of a framing port has fallen: the frame in progress is abandoned, and rogue events are not counted for a time
(R688); the account of light sees it (R65). -/
def State.txenSettle (s : State) (n : Nat) : State :=
  let s := s.seeLight
  if s.dfrRun n && !s.txen n then
    let s := (s.stopFraming n).dropRemainder n
    s.setTport n { s.tport n with shutting := false, hush := s.now + s.teqNs n + 125000 }
  else s

/-- The same on every port. -/
def State.txenSettleAll (s : State) : State := (List.range 32).foldl (fun s n => s.txenSettle n) s

end Sys2Proof.Machine
end

