-- ==== Sys2Proof/Machine/Operands.lean ====
section
/-! DEFINITION. Operand forms of the Scheduler Instruction Set: the four instruction formats of Table 07.4, the fields that
must be zero (R247), the listed opcodes, and the general registers of an engine (Table 07.1). -/

namespace Sys2Proof.Machine

/-! Fields of an instruction (Table 07.4). -/

def iOp (w : Word64) : Nat := fldW w 63 56
def iD (w : Word64) : Nat := fldW w 55 51
def iA (w : Word64) : Nat := fldW w 50 46
def iB (w : Word64) : Nat := fldW w 45 41
def iAux (w : Word64) : Nat := fldW w 15 0
def iW (w : Word64) : Nat := fldW w 31 24
def iDisp (w : Word64) : Int := signedN 24 (fldW w 23 0)
/-- IMM, sign-extended to 64 bits. -/
def iImm (w : Word64) : Word64 := (w.setWidth 32).signExtend 64
/-- The signed 16-bit offset of a branch. -/
def iOff (w : Word64) : Int := signedN 16 (iAux w)

/-- The fields marked zero of each format. -/
def zeroReg (w : Word64) : Bool := fldW w 40 16 == 0
def zeroImm (w : Word64) : Bool := fldW w 45 32 == 0
def zeroTbl (w : Word64) : Bool := fldW w 40 32 == 0
def zeroCal (w : Word64) : Bool := fldW w 40 0 == 0

/-- The opcodes of Tables 07.5 to 07.8. -/
def sisListed (op : Nat) : Bool :=
  (decide (1 ≤ op) && decide (op ≤ 0x0D)) || op == 0x21 || (decide (0x23 ≤ op) && decide (op ≤ 0x28)) || op == 0x2B ||
    op == 0x2E || op == 0x2F || (decide (0x40 ≤ op) && decide (op ≤ 0x46)) ||
    (decide (0x48 ≤ op) && decide (op ≤ 0x4A)) || (decide (0x60 ≤ op) && decide (op ≤ 0x65)) ||
    (decide (0x68 ≤ op) && decide (op ≤ 0x6A)) || op == 0x70 || op == 0x71 || op == 0x74 || op == 0x75 ||
    (decide (0x78 ≤ op) && decide (op ≤ 0x7A))

/-! General registers: G0 reads zero, and writes to it are discarded (Table 07.1). -/

def Engine.get (e : Engine) (i : Nat) : Word64 := if i = 0 then 0 else e.g.look 0 i
def Engine.put (e : Engine) (i : Nat) (v : Word64) : Engine := if i = 0 then e else { e with g := e.g.put 0 i v }

/-- The owner of the segment of an address: 0 OP, n + 1 Tn (R240). -/
def Engine.ownerOf (e : Engine) (pc : Nat) : Nat := e.owner.look 0 (pc / 512)

/-- Code at the engine's program counter has tenant privilege (R240). -/
def Engine.tenantCode (e : Engine) : Bool := e.ownerOf e.pc != 0

/-- List memory (R252). -/
def Engine.entry (e : Engine) (i : Nat) : Word64 := e.list.look 0 i
def Engine.setEntry (e : Engine) (i : Nat) (v : Word64) : Engine := { e with list := e.list.put 0 i v }

/-- Entries from `at_` on take the values of a list. -/
def Engine.setEntries (e : Engine) (at_ : Nat) : List Word64 → Engine
  | [] => e
  | v :: t => (e.setEntry at_ v).setEntries (at_ + 1) t

/-- The entry lies in the range locked by a suspended instruction (R258). -/
def Engine.locked (e : Engine) (i : Nat) : Bool := match e.susp with
  | some f => decide (f.lockLo ≤ i) && decide (i < f.lockHi)
  | none => false

/-- The 64-bit signed value of a register. -/
def sgn (x : Word64) : Int := x.toInt

end Sys2Proof.Machine
end

