-- ==== Sys2Proof/Machine/Flags.lean ====
section
/-! DEFINITION. The flags of a logical engine (Table 07.2, R249): Z, N, C, V in bits 0 to 3, P in 4, T in 5, EVACT in 6,
TEN in 7. -/

namespace Sys2Proof.Machine

def Engine.flag (e : Engine) (i : Nat) : Bool := e.flags.getLsbD i
def Engine.setFlag (e : Engine) (i : Nat) (b : Bool) : Engine := { e with flags := setBitW e.flags i b }
def Engine.evact (e : Engine) : Bool := e.flag 6
def Engine.ten (e : Engine) : Bool := e.flag 7

/-- Z and N from a result, C and V as given (R249). -/
def Engine.setZNCV (e : Engine) (r : Word64) (c v : Bool) : Engine :=
  (((e.setFlag 0 (r == 0)).setFlag 1 r.msb).setFlag 2 c).setFlag 3 v

/-- Unsigned carry out and signed overflow of a sum. -/
def addC (a b : Word64) : Bool := decide (2 ^ 64 ≤ a.toNat + b.toNat)
def addV (a b : Word64) : Bool := (a + b).toInt != a.toInt + b.toInt

/-- Borrow and signed overflow of a difference. -/
def subC (a b : Word64) : Bool := decide (a.toNat < b.toNat)
def subV (a b : Word64) : Bool := (a - b).toInt != a.toInt - b.toInt

end Sys2Proof.Machine
end

