-- ==== Sys2Proof/Machine/MtnOps.lean ====
section
/-! DEFINITION. Logical engines (06, 07): binding, pending events, the start of a program, completion of a tenant call,
exceptions, and the record of an instruction's end in slots and samples (22). -/

namespace Sys2Proof.Machine

def State.eng (s : State) (l : Nat) : Engine := s.mtn.eng.look {} l
def State.setEng (s : State) (l : Nat) (e : Engine) : State :=
  { s with mtn := { s.mtn with eng := s.mtn.eng.put {} l e } }

/-- BOUND of a logical engine, and its physical engine (Table 06.12). -/
def State.bound (s : State) (l : Nat) : Bool := s.bit (Reg.MTN_L_MAP l) 31
def State.phys (s : State) (l : Nat) : Nat := s.fld (Reg.MTN_L_MAP l) 4 0

/-- RUNNING of the engine's physical engine shows a program in execution. -/
def State.setRunning (s : State) (l : Nat) (b : Bool) : State :=
  if s.bound l then s.setB (Reg.MTN_P_STATUS (s.phys l)) 7 b else s

/-- SUSP, STALLED and PSTATE of the engine's physical engine. -/
def State.setSuspBit (s : State) (l : Nat) (b : Bool) : State :=
  if s.bound l then s.setB (Reg.MTN_P_STATUS (s.phys l)) 8 b else s
def State.setStalled (s : State) (l : Nat) (b : Bool) : State :=
  if s.bound l then s.setB (Reg.MTN_P_STATUS (s.phys l)) 6 b else s
def State.setPstate (s : State) (l p : Nat) : State :=
  if s.bound l then s.setF (Reg.MTN_P_STATUS (s.phys l)) 5 4 p else s

/-! Power states (R233, R234). -/

/-- Nanoseconds to the next frame tick (R270). -/
def State.toTick (s : State) : Nat := 125000 - (s.now + 125000 - s.fld Reg.DFR_FT_OFFSET 16 0 % 125000) % 125000

/-- Target of a compare unit (R521). -/
def State.cmpTarget (s : State) (k : Nat) : Nat :=
  (s.rd (Reg.TSU_CMP_TGT_LO k)).toNat + 2 ^ 32 * s.fld (Reg.TSU_CMP_TGT_HI k) 7 0

/-- Is a 40-bit time past (R514)? -/
def State.past40 (s : State) (x : Nat) : Bool := (s.now40 + 2 ^ 40 - x % 2 ^ 40) % 2 ^ 40 < 2 ^ 39

/-- Nanoseconds to the next event that engine l, waiting in WAITFT, knows: the frame tick, or a compare unit routed to it. -/
def State.knownEvent (s : State) (l : Nat) : Nat :=
  (List.range 16).foldl (fun m k =>
    let c := s.rd (Reg.TSU_CMP_CTRL k)
    if c.getLsbD 31 && c.getLsbD 28 && fldW c 27 24 == l && !s.past40 (s.cmpTarget k) then
      min m ((s.cmpTarget k + 2 ^ 40 - s.now40) % 2 ^ 40)
    else m) s.toTick

/-- The state that an engine enters which waits for a known event at this distance, or for an unknown one (Table 06.11). -/
def State.engRest (s : State) (gap : Option Nat) : Nat :=
  if !s.bit Reg.MTN_CTRL 0 then 0
  else match gap with
    | none => 1
    | some g => if 1240 ≤ g then 2 else if 50 ≤ g then 1 else 0

/-! Slots and samples (R644, R646, R647). -/

/-- Cycles in a class of Table 22.3 of the physical engine that l is bound to; they add to the latency of a tagged instruction. -/
def State.slots (s : State) (l cls n : Nat) : State :=
  let e := s.eng l
  let s := if e.tagged.isSome then s.setEng l { e with lat := e.lat + n } else s
  if s.bound l then s.add48 (Reg.OBS_TD_E_LO (s.phys l) cls) n 0 else s

/-- A number of cycles in a class that the spec leaves open: no relation of CLK_ME to another clock is assumed (R19). -/
def State.someSlots (s : State) (l cls : Nat) : State := (s.slots l cls s.fresh.toNat).taken

/-- The slots of a wait that ends now, front-starved. -/
def State.waited (s : State) (l : Nat) : State := s.someSlots l 2

/-- A dispatch of the instruction at the program counter, once until it ends: the down-counter falls, at zero the dispatch is tagged, and
while a tagged instruction is in progress it is held (R646). -/
def State.dispatch (s : State) (l : Nat) : State :=
  let e := s.eng l
  let c := Reg.OBS_SMP_CTRL
  if e.begun then s
  else if !s.bit c 31 || !s.bit Reg.OBS_SMP_MASK l || e.tagged.isSome then s.setEng l { e with begun := true }
  else
    let jit := s.bit c 29
    let per := s.fld c 15 0 + (if jit then s.fresh.toNat % 256 else 0)
    let d := (if e.down = 0 then s.fld c 15 0 else e.down) - 1
    if d = 0 then
      (if jit then s.taken else s).setEng l { e with begun := true, down := per, tagged := some e.pc, lat := 0 }
    else s.setEng l { e with begun := true, down := d }

/-- The instruction at address pc ends: the record of a tagged one (Table 22.4). -/
def State.sampleEnd (s : State) (l pc : Nat) (susp exc : Bool) : State :=
  let e := s.eng l
  let again := e.rerun == some pc
  let s := s.setEng l { e with begun := false, rerun := if again then none else e.rerun }
  if e.tagged ≠ some pc then s
  else
    let w := e.prog.look 0 pc
    let r : Nat := w.toNat + 2 ^ 64 * (pc % 4096 + 2 ^ 15 * (e.ownerOf pc != 0).toNat) +
      2 ^ 80 * (l + 16 * susp.toNat + 32 * exc.toNat + 64 * again.toNat) + 2 ^ 88 * s.phys l +
      2 ^ 96 * min e.lat 0xFFFFFFFF
    let words := (List.range 4).map (wordOf r)
    let s := s.setEng l { s.eng l with tagged := none }
    let s := if s.bit Reg.OBS_SMP_CTRL 28 then s.trace 5 l r else s
    if s.obs.samples.length < 4096 then
      { s with obs := { s.obs with samples := s.obs.samples ++ [words], smpNext := s.obs.smpNext + 1 } }
    else if s.bit Reg.OBS_SMP_CTRL 30 then
      { s with obs := { s.obs with samples := s.obs.samples.drop 1 ++ [words], smpNext := s.obs.smpNext + 1 } }
    else s.inc Reg.OBS_SMP_CNT_LOST

/-! Pending events (R219). -/

/-- An event of kind k (0 FAULT, 1 FT, 2 INTR) becomes pending; a tick already pending is merged and counted. -/
def State.engPend (s : State) (l k : Nat) : State :=
  let e := s.eng l
  (s.setEng l { e with pend := setBitW e.pend k true }).incIf (k == 1 && e.pend.getLsbD 1) (Reg.MTN_L_CNT_FT_MISS l)

/-- The event of highest precedence that can be taken (R220, R259). -/
def Engine.takeable (e : Engine) : Option Nat :=
  if e.evact then none else (List.range 3).find? fun k => e.pend.getLsbD k && e.emask.getLsbD k

/-- Taking event k with a return address (R259): the instruction there is dispatched again. -/
def Engine.takeEvent (e : Engine) (k ret : Nat) : Engine :=
  { (e.setFlag 6 true) with epc := ret, ecause := 0x81 + k, pend := setBitW e.pend k false, pc := k + 1, begun := false }

/-! Programs (R236, R260, R265 to R267). -/

/-- A program's start: everything zero but the program, the owners, the held loads and the window (R246, R267). DESIGN CHOICE, log 77:
events pending at a start, an instruction suspended by the program before, and its sample, are dropped. -/
def Engine.start (e : Engine) : Engine :=
  { e with st := .running, g := [], shadow := [], pc := 0, flags := 0, emask := 0, epc := 0, ecause := 0, list := [],
           call := none, susp := none, pend := 0, item := none, stopping := false, begun := false, rerun := none, tagged := none }

/-- A program starts. The cycles of an instruction left suspended are wasted, as those of a frame discarded by R225. -/
def State.startProg (s : State) (l : Nat) : State :=
  let s := if (s.eng l).susp.isSome then s.someSlots l 1 else s
  ((s.setEng l (s.eng l).start).setSuspBit l false).setRunning l true

/-- Instructions stored from an address on. -/
def Engine.load (e : Engine) (at_ : Nat) : List Word64 → Engine
  | [] => e
  | w :: t => ({ e with prog := e.prog.put 0 at_ w } : Engine).load (at_ + 1) t

/-- The loads held for an engine are applied whole, and completed (R265). -/
def State.applyLoads (s : State) (l : Nat) : State :=
  let e := s.eng l
  let s := s.setEng l { (e.held.foldl (fun e h => e.load (512 * h.seg + h.off) h.words) e) with held := [] }
  e.held.foldl (fun s h => s.complete h.desc false 0 0) s

/-- Cycles that the held loads add to a WAITFT: one per instruction (R265). -/
def Engine.loadCycles (e : Engine) : Nat := (e.held.map fun h => h.words.length).sum

/-- The engine waits in the stall of R169. -/
def State.stalls (s : State) (l : Nat) : Bool := s.gnt.fifo.any fun x => x.2.stalled == some l

/-- A stop at an instruction boundary: RUN clears (R236, R261). A suspended instruction stays suspended (R225). -/
def State.engStop (s : State) (l : Nat) : State :=
  let s := ((s.setB (Reg.MTN_L_CTRL l) 0 false).setRunning l false).setPstate l 0
  s.setEng l { s.eng l with st := .stopped, begun := false, stopping := false }

/-- The boundary after an instruction: the program stops there if RUN was cleared during its stall. -/
def State.boundary (s : State) (l : Nat) : State := if (s.eng l).stopping then s.engStop l else s

/-! Tenant calls (R262, R263). -/

/-- The call completes with a code: G16 to G31 come back, and the program goes on after the CALLX. -/
def Engine.endCall (e : Engine) (code : Nat) : Engine :=
  match e.call with
  | none => e
  | some c =>
    let g := (e.g.filter fun x => decide (x.1 < 16)) ++ e.shadow
    let e := (({ e with g := g, shadow := [], call := none, pc := c.ret, begun := false } : Engine).setFlag 7 false)
    e.put c.dst (BitVec.ofNat 64 (code + 2 ^ 16 * c.last))

/-! Exceptions (R261). -/

/-- Writing 32 bytes into the next slot of the engine's transmit ring, which has room: bits 6 and 7 of byte 31 are
`exc` and the phase (R583). -/
def State.mailPut (s : State) (r : Nat) (data : Nat) (exc : Bool) : State :=
  let x := s.fld (Reg.HIF_RING r 2) 16 0
  let d := BitVec.ofNat 256 (data % 2 ^ 254 + 2 ^ 254 * exc.toNat + 2 ^ 255 * (s.ringPhase r x).toNat)
  ((s.postSlot r x true d).setF (Reg.HIF_RING r 2) 16 0 ((x + 1) % 131072)).ringCount r

/-- The transmit ring bound to an engine, and its receive ring. -/
def State.txRing (s : State) (l : Nat) : Option Nat :=
  if s.bit (Reg.MTN_L_MBOX l) 30 then some (s.fld (Reg.MTN_L_MBOX l) 9 0) else none
def State.rxRing (s : State) (l : Nat) : Option Nat :=
  if s.bit (Reg.MTN_L_MBOX l) 31 then some (s.fld (Reg.MTN_L_MBOX l) 25 16) else none

/-- The exception record of R261, posted where the ring has room. -/
def State.excRecord (s : State) (l code pc : Nat) : State :=
  match s.txRing l with
  | none => s
  | some r =>
    if s.ringRoom r 6 then s.mailPut r (code + 2 ^ 16 * pc + 2 ^ 32 * l + 2 ^ 64 * (s.now % 2 ^ 32)) true else s

/-- An instruction at the engine's address raises an exception (R261); its cycles are wasted, their number free. -/
def State.sisExc (s : State) (l code : Nat) : State :=
  let e := s.eng l
  let pc := e.pc
  let s := (s.someSlots l 1).sampleEnd l pc (e.susp.any fun f => f.pc == pc) true
  let e := s.eng l
  if e.tenantCode then
    s.setEng l (({ e with call := e.call.map fun c => { c with last := pc } } : Engine).endCall code)
  else if !e.evact then s.setEng l { (e.setFlag 6 true) with epc := pc, ecause := code, pc := 4 }
  else (s.engStop l).excRecord l code pc

/-! The end of an instruction. -/

/-- The instruction waits for context or ring ports, or for calendar placements (Table 22.3). -/
def usesPort (op : Nat) : Bool := (0x60 ≤ op && op ≤ 0x63) || op == 0x69 || op == 0x6A || 0x70 ≤ op

/-- An instruction at pc has released its effects and goes on at `next`: the budget of tenant code falls (R263), its cycles retire, those
of a resume are wasted, and its waits for ports are back-starved (Table 22.3). -/
def State.sisEnd (s : State) (l pc next cycles : Nat) (susp : Bool) : State :=
  let s := s.slots l 0 cycles
  let s := if susp then s.someSlots l 1 else s
  let s := if usesPort (iOp ((s.eng l).prog.look 0 pc)) then s.someSlots l 3 else s
  let s := s.sampleEnd l pc susp false
  let e := s.eng l
  let call := if e.ownerOf pc != 0 then e.call.map fun c => { c with left := c.left - 1, last := pc } else e.call
  (s.setEng l { e with pc := next, call := call, item := none }).boundary l

/-- The frame tick reaches a logical engine: its window (R241), and what its program makes of it. DESIGN CHOICE, log 77: on an engine that
is stopped, or starts, no event becomes pending. -/
def State.engTick (s : State) (l frame : Nat) : State :=
  if !s.bound l then s
  else
    let cwb := (List.range 32).foldl (fun (b : Word) n =>
      if s.fld (Reg.GNT_n_CFG n) 27 24 = l then setBitW b n true else b) 0
    let e0 := s.eng l
    let s := s.setEng l { e0 with cwb := cwb, frame := frame % 2 ^ 32 }
    match e0.st with
    | .stopped => s
    | .starting => s.startProg l
    | .waitTick d =>
      let pc := e0.pc
      let s := (s.waited l).setPstate l 0
      let s := s.applyLoads l
      let e := s.eng l
      let s := s.setEng l (({ e with st := .running } : Engine).setFlag 5 false |>.put d (BitVec.ofNat 64 (frame % 2 ^ 32)))
      s.sisEnd l pc (pc + 1) (4 + e0.loadCycles) false
    | _ => s.engPend l 1

end Sys2Proof.Machine
end

