-- ==== Sys2Proof/Machine/TsuOps.lean ====
section
/-! DEFINITION. Operations of the precision clock (17): increment and slew, fires of the compare units, the output hold, the
time-of-day port. -/

namespace Sys2Proof.Machine

/-- A refused write of TSU. -/
def State.tsuRefused (s : State) : State := s.inc Reg.TSU_CNT_REFUSED

/-! Rate (R508, R509). -/

/-- 1.6 ns ± 1,000 ppm, in units of 2^-32 ns. -/
def incOk (i : Nat) : Bool := decide (6865075726 ≤ i) && decide (i ≤ 6878819621)

/-- A slew ends: the increment is in force again, a stored commit with it. -/
def State.endSlew (s : State) : State :=
  let s := (s.wr Reg.TSU_SLEW_TICKS 0).setB Reg.TSU_STATUS 4 false
  { s with tsu := { s.tsu with slew := none, inc := s.tsu.stored.getD s.tsu.inc, stored := none } }

/-! Compare units (R521 to R524). -/

/-- An event record of TSU on its ring (Table 19.9). -/
def State.tsuEvent (s : State) (code unit flags ns frac16 : Nat) : State :=
  if s.bit Reg.TSU_CTRL 31 then
    s.postEvent (s.fld Reg.TSU_CTRL 27 18)
      (4 + 256 * code + 2 ^ 16 * unit + 2 ^ 24 * flags + 2 ^ 64 * ns + 2 ^ 128 * frac16) Reg.TSU_CNT_EV_LOST
  else s

/-- Storing a target. -/
def State.setTarget (s : State) (k x : Nat) : State :=
  (s.wr (Reg.TSU_CMP_TGT_LO k) (wordOf x 0)).setF (Reg.TSU_CMP_TGT_HI k) 7 0 (x / 2 ^ 32)

/-- A commit of a unit's target, or of its EN: a target already past fires late (R521). -/
def State.commitUnit (s : State) (k : Nat) : State :=
  { s with tsu := { s.tsu with late := setBitW s.tsu.late k (s.past40 (s.cmpTarget k)), stepped := setBitW s.tsu.stepped k false } }

/-- Enabled, with a target that is past (R521). -/
def State.dueUnit (s : State) (k : Nat) : Bool := s.bit (Reg.TSU_CMP_CTRL k) 31 && s.past40 (s.cmpTarget k)

/-- Unit k fires at this tick (R521, R522, R524). -/
def State.fireUnit (s : State) (k : Nat) : State :=
  let c := s.rd (Reg.TSU_CMP_CTRL k)
  let late := s.tsu.late.getLsbD k
  let stepped := s.tsu.stepped.getLsbD k
  let x := s.cmpTarget k
  let t := s.now40
  let s := (s.wr (Reg.TSU_CMP_FIRE_LO k) (wordOf t 0)).setF (Reg.TSU_CMP_FIRE_HI k) 7 0 (t / 2 ^ 32)
  let c1 := setBitW c 1 true
  let c2 := if late then setBitW c1 3 true else c1
  let c3 := if stepped then setBitW c2 2 true else c2
  let s := s.wr (Reg.TSU_CMP_CTRL k) c3
  let s : State := { s with tsu := { s.tsu with late := setBitW s.tsu.late k false, stepped := setBitW s.tsu.stepped k false } }
  let s := if c.getLsbD 28 then s.engPend (fldW c 27 24) 2 else s
  let s := if c.getLsbD 29 then
      s.tsuEvent 1 k (1 + 2 * late.toNat + 4 * stepped.toNat) s.now (s.clk.frac.toNat / 65536)
    else s
  if c.getLsbD 30 then
    let p := (s.rd (Reg.TSU_CMP_PERIOD k)).toNat
    let d := (t + 2 ^ 40 - x) % 2 ^ 40
    let m := d / p + 1
    (s.setTarget k ((x + m * p) % 2 ^ 40)).incN (Reg.TSU_CMP_CNT_MISS k) (m - 1)
  else s.setB (Reg.TSU_CMP_CTRL k) 31 false

/-- Every unit that is due fires (R521). -/
def State.fireDue (s : State) : State :=
  (List.range 16).foldl (fun s k => if s.dueUnit k then s.fireUnit k else s) s

/-! The output hold (R527). -/

/-- The clock that the outputs follow. -/
def State.outClk (s : State) : Clk := if s.bit Reg.TSU_STATUS 3 then s.tsu.hold else s.clk

/-- OUT_HOLD sets: the shadow starts equal to the clock. -/
def State.outHoldSet (s : State) : State :=
  if s.bit Reg.TSU_CTRL 1 then s
  else
    let s := (s.setB Reg.TSU_CTRL 1 true).setB Reg.TSU_STATUS 3 true
    { s with tsu := { s.tsu with hold := s.clk, holdInc := s.tsu.inc } }

/-- The shadow has met the clock: HOLDING clears. -/
def State.holdMet (s : State) : State :=
  if !s.bit Reg.TSU_CTRL 1 && s.bit Reg.TSU_STATUS 3 && s.tsu.hold == s.clk then s.setB Reg.TSU_STATUS 3 false else s

/-- OUT_HOLD clears. -/
def State.outHoldClear (s : State) : State := (s.setB Reg.TSU_CTRL 1 false).holdMet

/-- PPS output o, or clock output o, is low from now on: a pulse in progress and a high level end here (R525, R526). -/
def State.outLow (s : State) (clkOut : Bool) (o : Nat) : State :=
  let t := s.outClk.units / 65536
  if clkOut then
    if s.tsu.ckoHigh.getLsbD o then
      ({ s with tsu := { s.tsu with ckoHigh := setBitW s.tsu.ckoHigh o false } } : State).drive (.low true o t)
    else s
  else if t < 65536 * s.tsu.ppsFall.look 0 o then
    ({ s with tsu := { s.tsu with ppsFall := s.tsu.ppsFall.put 0 o 0 } } : State).drive (.low false o t)
  else s

/-- Every PPS and clock output is low. -/
def State.outsLow (s : State) : State := (((s.outLow false 0).outLow false 1).outLow true 0).outLow true 1

/-! The time-of-day port (R530). -/

/-- The bytes of the transmit FIFO are sent, so many microseconds from now, at 625,000,000 ÷ DIV baud. -/
def State.todSend (s : State) (delayUs : Nat) : State :=
  ({ s with tsu := { s.tsu with tx := [] } } : State).drive (.tod s.tsu.tx delayUs (s.fld Reg.TSU_TOD_CTRL 15 0))

/-- With TX_SYNC = 0 the transmit FIFO is sent at once. -/
def State.todFlush (s : State) : State :=
  if s.bit Reg.TSU_TOD_CTRL 31 && !s.bit Reg.TSU_TOD_CTRL 30 && s.tsu.tx ≠ [] then
    s.todSend 0
  else s

end Sys2Proof.Machine
end

