-- ==== Sys2Proof/Machine/ProtOps.lean ====
section
/-! DEFINITION. Operations of protection (18): roles, causes, the two sides of a switch-over, mirroring, and the end of a
gap. -/

namespace Sys2Proof.Machine

/-! A member and its partner (Tables 18.8, 18.11). -/

/-- STATE, PARTNER, MATE, LOCKED, GAP of port n. -/
def State.pst (s : State) (n : Nat) : Nat := s.fld (Reg.TPA_PSTAT n) 1 0
def State.partner (s : State) (n : Nat) : Nat := s.fld (Reg.TPA_PROT n) 29 25
def State.isMate (s : State) (n : Nat) : Bool := s.bit (Reg.TPA_PROT n) 31 && s.bit (Reg.TPA_PROT n) 30
def State.lockedOut (s : State) (n : Nat) : Bool := s.bit (Reg.TPA_PSTAT n) 6
def State.inGap (s : State) (n : Nat) : Bool := s.bit (Reg.TPA_PSTAT n) 4

/-- STATE takes a value, of which RNG is told. -/
def State.setPst (s : State) (n st : Nat) : State := (s.setF (Reg.TPA_PSTAT n) 1 0 st).tell 3 n (Reg.TPA_PSTAT n)
def State.setGap (s : State) (n : Nat) (b : Bool) : State := s.setB (Reg.TPA_PSTAT n) 4 b

/-- DIFF in RB. -/
def State.diff (s : State) (n : Nat) : Int := signedN 22 (s.fld (Reg.TPA_PROT n) 21 0)

/-- The role code of STATE blocks: 1 A, 2 B (Table 18.5). -/
def State.roleCode (s : State) : Nat := s.fld Reg.RCP_STRAP 11 10

/-- The partner is available (R545). -/
def State.available (s : State) (n : Nat) : Bool :=
  let p := s.partner n
  if s.bit (Reg.TPA_PROT n) 30 then
    s.mateState == 2 && !s.prot.mateActive.getLsbD p && !s.prot.mateGap.getLsbD p && !s.bit (Reg.TPA_PSTAT n) 5 &&
      s.prot.mateHeard.any fun (t : Int) => decide ((s.now : Int) ≤ t + 300000)
  else s.pst p == 2 && !s.lockedOut p

/-! Mirroring (R559). -/

/-- A context as it is mirrored. -/
def State.shadowOf (s : State) (n l : Nat) : Shadow :=
  { st := s.termSt n l, sn := s.sn n l, eqd := s.eqd n l, offF := s.rd (Reg.RNG_CTX n l 3)
    tcal := s.fld (Reg.RNG_CTX n l 7) 23 0, cal := s.bit (Reg.RNG_CTX n l 7) 31 }

/-- The DATA of a protection block, filled to 29 bytes. -/
def protData (d : List Byte) : List Byte := d ++ List.replicate (29 - d.length) 0

/-- A MIRROR block (Table 18.5). -/
def mirrorData (p l : Nat) (x : Shadow) : List Byte :=
  protData ([5, BitVec.ofNat 8 p] ++ bytesBE 2 (4096 * x.st + l) ++ bytesBE 4 x.eqd ++ bytesBE 4 x.offF.toNat ++
    bytesBE 8 x.sn ++ bytesBE 3 x.tcal ++ [BitVec.ofNat 8 x.cal.toNat])

/-- A context of an ACTIVE member goes to its partner's shadow. -/
def State.mirror1 (s : State) (n l : Nat) : State :=
  let x := s.shadowOf n l
  let p := s.partner n
  if s.bit (Reg.TPA_PROT n) 30 then s.sendControl (mirrorData p l x)
  else { s with prot := { s.prot with shadow := s.prot.shadow.put {} (512 * p + l) x } }

/-- Every context. -/
def State.mirrorAll (s : State) (n : Nat) : State := (List.range 512).foldl (fun s l => s.mirror1 n l) s

/-! The taking side (R549, R552, R557). -/

/-- A shadow context becomes the context of the taking member. DESIGN CHOICE: RTD_prov, of which R559 mirrors nothing, is 0 for a
terminal in RANGING (log 70). -/
def State.activate (s : State) (n l : Nat) : State :=
  let x := s.prot.shadow.look {} (512 * n + l)
  let s := (s.wr (Reg.RNG_CTX n l 4) (wordOf x.sn 0)).wr (Reg.RNG_CTX n l 5) (wordOf x.sn 1)
  let s := (s.setEqd n l (x.eqd - s.diff n)).wr (Reg.RNG_CTX n l 3) x.offF
  let s := s.wr (Reg.RNG_CTX n l 7) (BitVec.ofNat 32 (2 ^ 31 * x.cal.toNat + x.tcal))
  let s := (s.setF (Reg.RNG_CTX n l 0) 27 24 0).setB (Reg.RNG_CTX n l 0) 16 false
  let t := s.term n l
  let s := s.setTerm n l { unproven := x.st != 0, pubOff := t.pubOff, gen := t.gen + 1 }
  let s := s.setTermSt n l x.st
  let s := s.tellExpect n l
  if x.st = 2 then s.publish n l else s

/-- The pages that are open or sealed now are those of held frames: every entry of them is void (R552). -/
def State.voidPages (s : State) (n : Nat) : State :=
  (s.gport n).pages.foldl (fun s g =>
    s.setPage n { g with held := true, ents := g.ents.map fun e => { e with void := true } }) s

/-- The ACTIVE member of the mate pair of n is, or is not, on the partner device. -/
def State.setAway (s : State) (n : Nat) (b : Bool) : State := { s with prot := { s.prot with away := setBitW s.prot.away n b } }

/-- Member n starts to take over, its maps held from the source that HOLD_SRC names (1 LOCAL, 2 MATE), for a cause. -/
def State.startTaking (s : State) (n src cause : Nat) : State :=
  let s := (((s.setAway n false).setPst n 3).setGap n true).setF (Reg.TPA_PSTAT n) 11 8 cause
  let s := (List.range 512).foldl (fun s l => s.activate n l) s
  let s := (s.invalidateAll n).voidPages n
  let c := Reg.DFR_n_CTRL n
  let s := ((s.setF c 29 28 src).setF c 24 20 (s.partner n)).setB c 31 true
  let s := s.setDport n { s.dport n with starting := true, holdTo := some (s.sfc + 2) }
  let s : State := { s with prot := { s.prot with
    control := setBitW s.prot.control n true, lit := setBitW s.prot.lit n false
    shadow := s.prot.shadow.filter fun e => e.1 / 512 != n } }
  let s := if s.bit (Reg.TPA_PROT n) 24 then s.outHoldSet else s
  (s.inc (Reg.TPA_CNT_SWITCH n)).raise 27 n

/-- The queued frames of n move, in order, to the matching queues of p (R558). -/
def State.moveQueues (s : State) (n p : Nat) : State :=
  (List.range 2048).foldl (fun s k =>
    let q := 2048 * n + k
    let r := 2048 * p + k
    let fs := s.queueOf q
    if fs.isEmpty then s
    else
      let s := fs.foldl (fun s f => ((s.depth q f.len false).depth r f.len true).setOwner f.buf p) (s.setQueue q [])
      let s := (s.clearDrained r).setQueue r (s.queueOf r ++ fs.map fun f => { f with queue := r, holder := p })
      (s.settleHead p r (s.queueOf r).length).incN (Reg.TPA_CNT_MOVED p) fs.length) s

/-! The releasing side (R554). -/

/-- A member becomes STANDBY: dark, its contexts shadows of the partner's and shown FREE (Table 18.2). -/
def State.toStandby (s : State) (n : Nat) : State :=
  let d := s.diff n
  let s := (List.range 512).foldl (fun s l =>
    if s.termSt n l = 0 then s
    else
      let x := s.shadowOf n l
      let x := { x with eqd := wrapN 28 (x.eqd + d) }
      let s : State := { s with prot := { s.prot with shadow := s.prot.shadow.put {} (512 * n + l) x } }
      let s := (s.setF (Reg.RNG_CTX n l 0) 27 24 0).setB (Reg.RNG_CTX n l 0) 16 false
      let t := s.term n l
      (((s.setTermSt n l 0).setTerm n l { pubOff := t.pubOff, gen := t.gen + 1 }).dropRanging n l).tellExpect n l) s
  let s : State := { s with prot := { s.prot with
    releasing := s.prot.releasing.drop n, taking := s.prot.taking.drop n, lit := setBitW s.prot.lit n false
    silent := s.prot.silent.drop n, judged := s.prot.judged.drop n } }
  (s.setPst n 2).txenSettle n

/-! Causes (R545, R547, R548, R550). -/

/-- A switch-over of a local pair from n to its partner. -/
def State.switchLocal (s : State) (n cause : Nat) : State :=
  let p := s.partner n
  let x := s.now + 2000
  let s := ((s.setGap n true).setF (Reg.TPA_PSTAT n) 11 8 cause).inc (Reg.TPA_CNT_SWITCH n)
  let s : State := { s with prot := { s.prot with
    releasing := s.prot.releasing.put 0 n (x + 490), taking := s.prot.taking.put 0 p x } }
  (s.startTaking p 1 cause).moveQueues n p

/-- The clocks of the two devices are known to agree (R550). -/
def State.clocksAgree (s : State) : Bool :=
  s.bit Reg.TSU_MATE_CTRL 16 && decide ((s.rdInt Reg.TSU_MATE_OFS).natAbs ≤ 500000)

/-- A switch-over of a mate pair from n to its partner: at X, or at once where the clocks are not known to agree. -/
def State.switchMate (s : State) (n cause : Nat) : State :=
  let p := BitVec.ofNat 8 (s.partner n)
  let x := s.now + 20000
  let ok := s.clocksAgree
  let s := ((((s.setAway n true).setGap n true).setF (Reg.TPA_PSTAT n) 11 8 cause).inc (Reg.TPA_CNT_SWITCH n)).raise 27 n
  let s := s.sendControl (protData ([3, p, BitVec.ofNat 8 cause] ++ bytesBE 5 (x % 2 ^ 40)))
  if ok then { s with prot := { s.prot with releasing := s.prot.releasing.put 0 n (x + 490) } }
  else (s.toStandby n).sendControl (protData [4, p])

/-- A cause is detected on an ACTIVE member. -/
def State.causeDetected (s : State) (n cause : Nat) : State :=
  if s.inGap n then { s with prot := { s.prot with waiting := s.prot.waiting.put 0 n cause } }
  else if s.pst n ≠ 1 || s.lockedOut n then s
  else if !s.available n then (s.setB (Reg.TPA_PSTAT n) 7 true).raise 28 n
  else if s.bit (Reg.TPA_PROT n) 30 then s.switchMate n cause
  else s.switchLocal n cause

/-! The end of a gap (R553, R555). -/

/-- A cause that waited is evaluated against the member that is ACTIVE now (Table 18.4). -/
def State.evalWaiting (s : State) (k n : Nat) : State :=
  match s.prot.waiting.look 0 k with
  | 0 => s
  | c => ({ s with prot := { s.prot with waiting := s.prot.waiting.drop k } } : State).causeDetected n c

/-- The protected groups whose change of selection waited choose, once no gap is open (Table 18.6). -/
def State.reselectAll (s : State) : State :=
  if s.gapOpen then s
  else s.upl.deferred.foldl (fun s g => s.reselect g) { s with upl := { s.upl with deferred := [] } }

/-- A member is taking over with HOLD_OUT = 1 (Table 18.6). -/
def State.outHeld (s : State) : Bool := (List.range 32).any fun n => s.pst n == 3 && s.bit (Reg.TPA_PROT n) 24

/-- The first frame of a TAKING member ends the gap (R553). -/
def State.takingDone (s : State) (n : Nat) : State :=
  if s.pst n ≠ 3 then s
  else
    let p := s.partner n
    let local_ := !s.bit (Reg.TPA_PROT n) 30
    let s := (s.setPst n 1).setGap n false
    let s := if local_ then s.setGap p false else s
    let s : State := { s with prot := { s.prot with lit := setBitW s.prot.lit n false, taking := s.prot.taking.drop n } }
    let s := if s.bit (Reg.TPA_PROT n) 24 && !s.outHeld then s.outHoldClear else s
    let s := s.reselectAll.evalWaiting n n
    if local_ then s.evalWaiting p n else s

/-! MAP blocks (R560). -/

/-- The MAP blocks of a map from entry i on; one block of fewer than 3 entries ends it. -/
def mapBlocks (p : Nat) : Nat → Nat → List Word64 → List (List Byte)
  | 0, _, _ => []
  | k + 1, i, m =>
    let e := m.take 3
    let d := protData ([6, BitVec.ofNat 8 p] ++ bytesBE 2 i ++ [BitVec.ofNat 8 e.length] ++
      e.flatMap fun w => bytesBE 8 w.toNat)
    d :: (if e.length < 3 then [] else mapBlocks p k (i + 3) (m.drop 3))

/-- The map of a frame of an ACTIVE member goes to the partner device. -/
def State.sendMap (s : State) (n : Nat) (m : List Word64) : State :=
  if s.isMate n && s.pst n == 1 then
    (mapBlocks (s.partner n) (m.length / 3 + 1) 0 m).foldl (fun s d => s.sendControl d) s
  else s

/-! ALIVE (R546). -/

/-- When FLT stops ALIVE, which ran if `run`, in a mate role, every ACTIVE member with MATE = 1 goes dark. -/
def State.mateDarken (s : State) (run : Bool) : State :=
  if run && s.mateRole && !s.aliveRun then
    (List.range 32).foldl (fun s n => if s.isMate n && s.pst n == 1 then s.toStandby n else s) s
  else s

end Sys2Proof.Machine
end

