-- ==== Sys2Proof/Machine/Prot.lean ====
section
/-! DEFINITION. The commands of protection (18). -/

namespace Sys2Proof.Machine

/-- PROT_ENABLE: a write of TPA_n_PROT with EN = 1 (R541, R543, R544); the ACTIVE member of the pair mirrors every context
(R559). -/
def execProtEnable (n : Fin 32) (v : Word) (s : State) : Res :=
  s.opWrite (Reg.TPA_PROT n) (
    if !v.getLsbD 31 then .next s
    else
      let p := fldW v 29 25
      let mate := v.getLsbD 30
      if !s.idlePort n || (mate && !s.mateRole) || (!mate && p == n.val) then .next (s.tpaRefused n)
      else
        let was := s.bit (Reg.TPA_PROT n) 31
        let s := (s.wr (Reg.TPA_PROT n) (v &&& 0xFF3FFFFF)).tell 3 n (Reg.TPA_PROT n)
        let first := if mate then s.roleCode == 1 else decide (n.val < p)
        let s := if was then s else ((s.setAway n (mate && !first)).setPst n (if first then 1 else 2)).seeLight
        let s := s.setB (Reg.TPA_PSTAT n) 5 (mate && s.prot.mateRole == s.roleCode)
        .next (if s.pst n = 1 then s.mirrorAll n
          else if !mate && s.pst p == 1 && s.partner p == n.val then s.mirrorAll p else s))

/-- FORCE: a write of TPA_n_PCMD, on either member of a pair; one that names the STANDBY member of a mate pair finds its
ACTIVE member on the other device. -/
def execProtForce (n : Fin 32) (s : State) : Res :=
  s.opWrite (Reg.TPA_PCMD n) (
    let s := s.setF (Reg.TPA_PCMD n) 1 0 0
    if !s.bit (Reg.TPA_PROT n) 31 || s.lockedOut n then .next s
    else if s.pst n = 2 then .next (if s.isMate n then s else s.causeDetected (s.partner n) 4)
    else .next (s.causeDetected n 4))

/-- LOCKOUT. -/
def execProtLockout (n : Fin 32) (s : State) : Res :=
  s.opWrite (Reg.TPA_PCMD n) (
    let s := s.setF (Reg.TPA_PCMD n) 1 0 1
    .next (if s.bit (Reg.TPA_PROT n) 31 then s.setB (Reg.TPA_PSTAT n) 6 true else s))

/-- CLEAR. -/
def execProtClear (n : Fin 32) (s : State) : Res :=
  s.opWrite (Reg.TPA_PCMD n) (.next ((s.setF (Reg.TPA_PCMD n) 1 0 2).setB (Reg.TPA_PSTAT n) 6 false))

/-- SILENT_DETECT: SILENT_FR consecutive frames were silent (Table 18.3). -/
def execSilentDetect (n : Fin 32) (s : State) : Res :=
  if s.pst n = 1 && decide (s.fld (Reg.TPA_PTIM n) 31 24 ≤ s.prot.silent.look 0 n) then
    .next (({ s with prot := { s.prot with silent := s.prot.silent.drop n } } : State).causeDetected n 1)
  else .next s

/-- MATE_TIMEOUT: MATE_ALIVE_IN has shown no edge for MATE_TO; the device that holds the STANDBY member acts, where the pair's ACTIVE
member was last on the partner, which may have made it STANDBY since by R546 (Table 18.3, R548). -/
def execMateTimeout (n : Fin 32) (s : State) : Res :=
  if !s.mateRole || !s.isMate n || s.pst n ≠ 2 || s.lockedOut n || s.bit (Reg.TPA_PSTAT n) 5 ||
      !s.prot.away.getLsbD n then .next s
  else
    let s : State := { s with prot := { s.prot with taking := s.prot.taking.put 0 n (s.now + 2000) } }
    .next (s.startTaking n 2 3)

/-- The oldest CONTROL block of a subtype, and the state without it. -/
def State.takeControl (s : State) (sub : Byte) : Option (List Byte × State) :=
  match s.mlk.control.find? fun c => c.1.head? == some sub with
  | none => none
  | some c => some (c.1, { s with mlk := { s.mlk with control := s.mlk.control.erase c } })

/-- When the oldest CONTROL block of a subtype came. -/
def State.controlTime (s : State) (sub : Byte) : Option Nat :=
  (s.mlk.control.find? fun c => c.1.head? == some sub).map fun c => c.2.1

/-- Byte i of a block. -/
def blockByte (d : List Byte) (i : Nat) : Nat := (d.getD i 0).toNat

/-- Bytes from i on as one number, the first highest. -/
def blockNum (d : List Byte) (i k : Nat) : Nat := joinBytesBE ((d.drop i).take k)

/-- The port a block names on this device. -/
def blockPort (d : List Byte) : Nat := blockByte d 1 % 32

/-- SWITCH_RECEIVE (R549, R552): where the clocks are not known to agree, the member lights on a DARK block only (R550). -/
def execSwitchReceive (s : State) : Res :=
  match s.takeControl 3 with
  | none => .next s
  | some (d, s) =>
    let n := blockPort d
    if !s.isMate n || s.pst n ≠ 2 || s.lockedOut n || s.bit (Reg.TPA_PSTAT n) 5 then .next s
    else
      let x := (s.now : Int) + signedN 40 (blockNum d 3 5 + 2 ^ 40 - s.now40)
      let s : State := if s.clocksAgree then
          { s with prot := { s.prot with taking := s.prot.taking.put 0 n (max x.toNat 1) } }
        else s
      .next (s.startTaking n 2 (blockByte d 2 % 16))

/-- A TAKING member may light (R549, R550). -/
def State.lightUp (s : State) (n : Nat) : State :=
  ({ s with prot := { s.prot with lit := setBitW s.prot.lit n true, taking := s.prot.taking.drop n } } : State).seeLight

/-- DARK_RECEIVE: the taking member lights (R550). -/
def execDarkReceive (s : State) : Res :=
  match s.takeControl 4 with
  | none => .next s
  | some (d, s) =>
    let n := blockPort d
    .next (if s.isMate n && s.pst n == 3 then s.lightUp n else s)

/-- TAKING_LIGHT: X has come (R549). -/
def execTakingLight (n : Fin 32) (s : State) : Res :=
  match s.prot.taking.look 0 n with
  | 0 => .next s
  | x =>
    let s := s.advanceTo x
    .next (if s.pst n = 3 then s.lightUp n else s)

/-- RELEASING_DARK: X + 490 ns (R549, R554). -/
def execReleasingDark (n : Fin 32) (s : State) : Res :=
  match s.prot.releasing.look 0 n with
  | 0 => .next s
  | x => .next ((s.advanceTo x).toStandby n)

/-- A mask of the ports that satisfy p. -/
def portMask (p : Nat → Bool) : Nat := ((List.range 32).map fun n => if p n then 2 ^ n else 0).sum

/-- STATE_BLOCK_SEND (R560, Table 18.5). -/
def execStateBlockSend (s : State) : Res :=
  .next (if !s.mateRole then s
    else s.sendControl (protData ([2, BitVec.ofNat 8 s.roleCode] ++
      bytesBE 4 (portMask fun n => s.pst n == 1) ++ bytesBE 4 (portMask s.inGap))))

/-- What a STATE block does to one member: a double ACTIVE resolves to mate A, and a released member's gap ends when the
partner's has (R547, R553). -/
def State.stateMember (s : State) (n : Nat) : State :=
  if !s.isMate n || s.bit (Reg.TPA_PSTAT n) 5 then s
  else
    let p := s.partner n
    let act := s.prot.mateActive.getLsbD p
    let s := if act && s.pst n == 1 && s.roleCode == 2 then s.toStandby n else s
    if act && s.pst n == 2 && s.inGap n && !s.prot.mateGap.getLsbD p then
      ({ s with prot := { s.prot with waiting := s.prot.waiting.drop n } } : State).setGap n false
    else s

/-- STATE_BLOCK_RECEIVE (R543, R545, R547). -/
def execStateBlockReceive (s : State) : Res :=
  let heard := s.controlTime 2
  match s.takeControl 2 with
  | none => .next s
  | some (d, s) =>
    let role := blockByte d 1
    let s : State := { s with prot := { s.prot with
      mateRole := role, mateActive := BitVec.ofNat 32 (blockNum d 2 4), mateGap := BitVec.ofNat 32 (blockNum d 6 4)
      mateHeard := heard.map Int.ofNat } }
    let s := (List.range 32).foldl (fun s n =>
      if s.isMate n then
        let s := s.setB (Reg.TPA_PSTAT n) 5 (role == s.roleCode)
        if s.prot.mateActive.getLsbD (s.partner n) then s.setAway n true else s
      else s) s
    let s := (List.range 32).foldl (fun s n => s.stateMember n) s
    .next s.reselectAll

/-- MIRROR: a changed context of an ACTIVE member goes to the partner's shadow (R559). -/
def execMirror (n : Fin 32) (l : Fin 512) (s : State) : Res :=
  .next (if s.bit (Reg.TPA_PROT n) 31 && s.pst n == 1 then s.mirror1 n l else s)

/-- MIRROR_RECEIVE (R559, Table 18.5). -/
def execMirrorReceive (s : State) : Res :=
  match s.takeControl 5 with
  | none => .next s
  | some (d, s) =>
    let n := blockPort d
    let w := blockNum d 2 2
    let x : Shadow :=
      { st := w / 4096, eqd := blockNum d 4 4 % 2 ^ 28, offF := BitVec.ofNat 32 (blockNum d 8 4), sn := blockNum d 12 8
        tcal := blockNum d 20 3, cal := blockByte d 23 == 1 }
    .next (if s.isMate n && s.pst n == 2 then
      { s with prot := { s.prot with shadow := s.prot.shadow.put {} (512 * n + w % 512) x } }
    else s)

/-- The entries of a MAP block. -/
def mapEnts (d : List Byte) : List Word64 :=
  (List.range (min 3 (blockByte d 4))).map fun k => BitVec.ofNat 64 (blockNum d (5 + 8 * k) 8)

/-- MAP_BLOCK_RECEIVE: the partner's maps, by the port of the partner that the receiving port names (R289, R560). -/
def execMapBlockReceive (s : State) : Res :=
  match s.takeControl 6 with
  | none => .next s
  | some (d, s) =>
    let n := blockPort d
    if !s.isMate n then .next s
    else
      let p := s.partner n
      let i := blockNum d 2 2
      let e := mapEnts d
      let got := ((s.dfr.arriving.find? fun x => x.1 == p).map (·.2)).getD []
      let m := (if i = 0 then [] else got) ++ e
      if i ≠ 0 && got.length ≠ i then .next s
      else if e.length < 3 then
        .next { s with dfr := { s.dfr with
          mate := Tab.place p m (s.dfr.mate.drop p), arriving := s.dfr.arriving.drop p } }
      else .next { s with dfr := { s.dfr with arriving := Tab.place p m (s.dfr.arriving.drop p) } }

end Sys2Proof.Machine
end

