-- ==== Sys2Proof/Machine/Cry.lean ====
section
/-! DEFINITION. The key commands of the cipher engine and what ends an SA (15). -/

namespace Sys2Proof.Machine

/-- A key word of a function's command set, 0 to 10. -/
def State.keyWord (s : State) (fn : Fn) (w : Nat) : Word := s.cry.words.look 0 (16 * fnNo fn + w)

/-- The eleven key words of a function are zero (R464). -/
def State.zeroKeys (s : State) (fn : Fn) : State :=
  { s with cry := { s.cry with words := s.cry.words.keep fun k => k / 16 != fnNo fn } }

/-- A key command ends with a status of Table 15.3 (R463, R464). -/
def State.keyDone (s : State) (fn : Fn) (op status : Nat) : State :=
  ((s.setCs fn Reg.CRY_CMD (BitVec.ofNat 32 (2 ^ 24 * status + 2 ^ 16 * op))).zeroKeys fn).incIf (status != 0)
    Reg.CRY_CNT_REFUSED

/-- IDX and ARG of a function's command set. -/
def State.keyIdx (s : State) (fn : Fn) : Nat := fldW (s.cs fn Reg.CRY_CMD_IDX) 15 0
def State.keyArg (s : State) (fn : Fn) : Nat :=
  (s.cs fn (Reg.CRY_CMD_ARG 0)).toNat + 2 ^ 32 * (s.cs fn (Reg.CRY_CMD_ARG 1)).toNat

/-- A terminal lies in a function's key page. -/
def State.termKeyOf (s : State) (fn : Fn) (t : Nat) : Bool :=
  match fnTenant fn with
  | none => true
  | some n => s.termIn t n

/-- The SC of an SA lies in a function's key page. -/
def State.saKeyOf (s : State) (fn : Fn) (a : Nat) : Bool :=
  match fnTenant fn with
  | none => true
  | some n => s.bit (scWord a) 30 && s.fld (scWord a) 29 26 == n

/-- State of a terminal's slot: 0 EMPTY, 1 READY, 2 ACTIVE (Table 15.6). -/
def State.slotSt (s : State) (t slot : Nat) : Nat :=
  if slot = 1 then s.fld (Reg.CRY_TK t 0) 25 24 else s.fld (Reg.CRY_TK t 0) 27 26

def State.setSlot (s : State) (t slot st : Nat) : State :=
  if slot = 1 then s.setF (Reg.CRY_TK t 0) 25 24 st else s.setF (Reg.CRY_TK t 0) 27 26 st

/-- The checks that the terminal commands share, in the order of Table 15.3: slot, share, active slot where `idle` asks for
it, pending switch. -/
def State.slotCheck (s : State) (fn : Fn) (idle : Bool) : Nat :=
  let t := s.keyIdx fn % 16384
  let slot := s.keyIdx fn / 16384
  if slot ≠ 1 ∧ slot ≠ 2 then 1
  else if !s.termKeyOf fn t then 2
  else if idle && s.slotSt t slot == 2 then 3
  else if s.bit (Reg.CRY_TK t 0) 23 then 4
  else 0

/-- TKEY (R464 to R466). -/
def execTkey (fn : Fn) (s : State) : Res :=
  s.fnWrite fn Reg.CRY_CMD <|
  let c := s.slotCheck fn true
  if c ≠ 0 then .next (s.keyDone fn 0 c)
  else
    let t := s.keyIdx fn % 16384
    let slot := s.keyIdx fn / 16384
    let key := (List.range 4).map (s.keyWord fn)
    let s1 := (s.setSlot t slot 1).wr (Reg.CRY_TK t slot) (kcv key)
    let s1 : State := { s1 with cry := { s1.cry with tkeys := s1.cry.tkeys.put [] (2 * t + slot - 1) key } }
    .next (s1.keyDone fn 0 0)

/-- TSWITCH (R468). The superframe counter wraps at 2^51 (R271), so S may lie ahead over the wrap; no ARG of 2^51 or more is a value of
the counter. -/
def execTswitch (fn : Fn) (s : State) : Res :=
  s.fnWrite fn Reg.CRY_CMD <|
  let t := s.keyIdx fn % 16384
  let slot := s.keyIdx fn / 16384
  let at_ := s.keyArg fn
  let c := s.slotCheck fn false
  let ahead := (at_ + 2 ^ 51 - s.sfc) % 2 ^ 51
  let far := 2 ^ 51 ≤ at_ || ahead < 2 || 65536 < ahead
  let c := if c ≠ 1 && far then 1 else if c = 0 && s.slotSt t slot != 1 then 5 else c
  if c ≠ 0 then .next (s.keyDone fn 1 c)
  else
    let s1 := (s.setB (Reg.CRY_TK t 0) 23 true).wr (Reg.CRY_TK t 3) (wordOf at_ 0)
    let s1 : State := { s1 with cry := { s1.cry with switches := s1.cry.switches.put (0, 0) t (slot, at_) } }
    .next (s1.keyDone fn 1 0)

/-- TCLEAR (R466). -/
def execTclear (fn : Fn) (s : State) : Res :=
  s.fnWrite fn Reg.CRY_CMD <|
  let c := s.slotCheck fn true
  if c ≠ 0 then .next (s.keyDone fn 2 c)
  else
    let t := s.keyIdx fn % 16384
    let slot := s.keyIdx fn / 16384
    let s1 := (s.setSlot t slot 0).wr (Reg.CRY_TK t slot) 0
    let s1 : State := { s1 with cry := { s1.cry with tkeys := s1.cry.tkeys.drop (2 * t + slot - 1) } }
    .next (s1.keyDone fn 2 0)

/-- The checks that the SA commands share: index, then share. -/
def State.saCheck (s : State) (fn : Fn) : Nat :=
  if 2047 < s.keyIdx fn then 1 else if !s.saKeyOf fn (s.keyIdx fn) then 2 else 0

/-- SAKEY (R472, Table 15.2). -/
def execSakey (fn : Fn) (s : State) : Res :=
  s.fnWrite fn Reg.CRY_CMD <|
  let a := s.keyIdx fn
  let pn := (s.cs fn (Reg.CRY_CMD_ARG 0)).toNat
  let c := s.saCheck fn
  let c := if c = 0 then (if pn = 0 then 1 else if s.saBit a 31 then 3 else 0) else c
  if c ≠ 0 then .next (s.keyDone fn 3 c)
  else
    let key := (List.range 8).map (s.keyWord fn)
    let rest := if s.saXpn a then ([8, 9, 10].map (s.keyWord fn)) ++ [s.cs fn (Reg.CRY_CMD_ARG 1)] else []
    let s1 := (s.wr (Reg.CRY_SA a 0) (setBitW (kcv key) 30 true)).setPn a pn
    let s1 : State := { s1 with cry := { s1.cry with
      sakeys := s1.cry.sakeys.put [] a (key ++ rest), saFirst := s1.cry.saFirst.put 0 a pn, highest := s1.cry.highest.drop a } }
    .next (s1.keyDone fn 3 0)

/-- SAENA; a transmit SA whose NEXT_PN has reached the threshold says so (R463, R473). -/
def execSaena (fn : Fn) (s : State) : Res :=
  s.fnWrite fn Reg.CRY_CMD <|
  let a := s.keyIdx fn
  let c := s.saCheck fn
  let c := if c = 0 && !s.saBit a 30 then 5 else c
  if c ≠ 0 then .next (s.keyDone fn 4 c)
  else
    let first := decide (a < 1024) && !s.saBit a 31 && s.pnReached a (s.saPn a)
    let s1 := s.setB (Reg.CRY_SA a 0) 31 true
    let s1 := if first then s1.cryEvent 2 a 0 (s1.saPn a) else s1
    .next (s1.keyDone fn 4 0)

/-- SADIS: a receive SA at once; a transmit SA when its last frame has left, which SA_DONE says (R474). -/
def execSadis (fn : Fn) (s : State) : Res :=
  s.fnWrite fn Reg.CRY_CMD <|
  let a := s.keyIdx fn
  let c := s.saCheck fn
  let active := decide (a < 1024) && s.bit (Reg.CRY_TXSC_w1 (a / 4)) 31 && s.fld (Reg.CRY_TXSC_w0 (a / 4)) 1 0 == a % 4
  let c := if c = 0 && active then 3 else c
  if c ≠ 0 then .next (s.keyDone fn 5 c)
  else if 1024 ≤ a then .next ((s.setB (Reg.CRY_SA a 0) 31 false).keyDone fn 5 0)
  else
    let closing := if s.saBit a 31 && !s.cry.closing.contains a then s.cry.closing ++ [a] else s.cry.closing
    .next (({ s with cry := { s.cry with closing := closing } } : State).keyDone fn 5 0)

/-- SA_DONE: the last frame selected on a disabled transmit SA has left (R474). -/
def execSaDone (a : Fin 1024) (s : State) : Res :=
  if s.cry.closing.contains a.val && s.cry.flying.look 0 a == 0 then
    let s1 : State := { s with cry := { s.cry with closing := s.cry.closing.filter fun x => x != a.val } }
    let s1 := (s1.setB (Reg.CRY_SA a 0) 31 false).wr (Reg.CRY_SA a 3) (wordOf (s.saPn a) 0)
    .next (s1.cryEvent 3 a 0 (s.saPn a))
  else .next s

/-- GSC_WRITE (R471). -/
def execGscWrite (k : Fin 512) (v : Word) (s : State) : Res :=
  s.opWrite (Reg.CRY_GSC k) <|
  let w := Reg.CRY_TXSC_w1 (fldW v 7 0)
  let g := Reg.TMG_GRP k
  .next (if s.fld w 4 0 != s.fld g 26 22 || s.bit w 30 != s.bit g 31 || s.fld w 29 26 != s.fld g 30 27 then
      s.inc Reg.CRY_CNT_REFUSED
    else s.wr (Reg.CRY_GSC k) (v &&& 0x800000FF))

/-- TXSC_AN_WRITE (R474). -/
def execTxscAnWrite (c : Fin 256) (v : Word) (s : State) : Res :=
  s.opWrite (Reg.CRY_TXSC_w0 c) <|
  let a := 4 * c.val + fldW v 1 0
  .next (if s.saBit a 31 && !s.cry.closing.contains a then s.wr (Reg.CRY_TXSC_w0 c) (v &&& 3)
    else s.inc Reg.CRY_CNT_REFUSED)

end Sys2Proof.Machine
end

