-- ==== Sys2Proof/Machine/Obs.lean ====
section
/-! DEFINITION. Observation and the lifetime ledger (22): snapshots, threshold units, the trace and its readers, the seconds
of the ledger and its mirror in flash. -/

namespace Sys2Proof.Machine

/-! Counters and their shadows (R636, R641, R642). -/

/-- The lifetime counters of the ledger: LOG_OVF, PON_S, THERM_CYC, HIST_i, LASER_S_p and COUNT_k (Table 22.8). -/
def ledgerCounter (a : Nat) : Bool :=
  let o := a - Reg.RCP_RET 0
  decide (Reg.RCP_RET 0 ≤ a) && a % 4 == 0 &&
    (o == 0x1210 || o == 0x1240 || o == 0x1244 || (decide (0x1250 ≤ o) && decide (o < 0x1338)))

/-- The register word at an address is a counter, or half of one. -/
def isCounter (a : Nat) : Bool :=
  ledgerCounter a || match regAt a with
    | some d => d.kind != .plain
    | none => false

/-- SNAP_GO: a write of GO = 1 to OBS_SNAP with AT; refused while a snapshot is pending (R641). -/
def execSnapGo (at_ : Bool) (s : State) : Res :=
  s.opWrite Reg.OBS_SNAP (
    .next (if s.bit Reg.OBS_STATUS 0 then s.inc Reg.OBS_CNT_REFUSED
      else
        let s1 := ((s.setB Reg.OBS_SNAP 0 at_).setB Reg.OBS_STATUS 0 true).setB Reg.OBS_STATUS 1 false
        let x := (s.rd Reg.OBS_SNAP_AT_LO).toNat + 2 ^ 32 * s.fld Reg.OBS_SNAP_AT_HI 7 0
        let ahead := signedN 40 (x + 2 ^ 40 - s.now40)
        if at_ && decide (2000 ≤ ahead) then { s1 with obs := { s1.obs with snapAt := s.now + ahead.toNat } }
        else
          let s2 := if at_ then s1.setB Reg.OBS_STATUS 2 true else s1
          { s2 with obs := { s2.obs with snapAt := s.now + 2000 } }))

/-- The key of a counter of the tenant pages among the shadows, and the counters by key: TP_CNT_REFUSED of each tenant. -/
def tenShadow (k : Nat) : Nat := 0x4000000 + k
def State.tenCounters (s : State) : Tab Word :=
  (s.hif.ten.keep fun k => k % 0x10000 == 4).map fun x => (tenShadow x.1, x.2)

/-- SNAP_COPY: instant T of a pending snapshot; every counter is copied into its shadow (R641). -/
def execSnapCopy (s : State) : Res :=
  if !s.bit Reg.OBS_STATUS 0 then .next s
  else
    let t := s.obs.snapAt
    let s := s.advanceTo t
    let s : State := { s with obs := { s.obs with shadow := s.regs.keep isCounter ++ s.tenCounters } }
    let s := (s.wr Reg.OBS_SNAP_TIME_LO (wordOf t 0)).wr Reg.OBS_SNAP_TIME_HI (BitVec.ofNat 32 (t / 2 ^ 32 % 256))
    .next ((s.setB Reg.OBS_STATUS 0 false).setB Reg.OBS_STATUS 1 true)

/-! Threshold units (R643). -/

/-- INDEX of a threshold source is in range; sources 0x9 to 0xF are reserved (Table 22.2). -/
def thrIndexOk (src i : Nat) : Bool :=
  match src with
  | 0 => decide (i ≤ 7)
  | 1 => decide (i ≤ 69631)
  | 2 => decide (i ≤ 31)
  | 3 => decide (i ≤ 7)
  | 4 => decide (i ≤ 1023)
  | 5 => i == 0
  | 6 => decide (i ≤ 4)
  | 7 => i == 0
  | 8 => i == 0
  | _ => false

/-- THRESHOLD_COMMIT: a write of OBS_THR_k_CFG. -/
def execThresholdCommit (k : Fin 64) (v : Word) (s : State) : Res :=
  let a := Reg.OBS_THR_CFG k
  s.opWrite a (.next (if thrIndexOk (fldW v 30 27) (fldW v 16 0) then s.wr a (fitWord a (s.rd a) v)
    else s.inc Reg.OBS_CNT_REFUSED))

/-! Trace (R648 to R651). -/

/-- TRACE_MARK: a write of OBS_TRC_MARK. -/
def execTraceMark (v : Word) (s : State) : Res := s.opWrite Reg.OBS_TRC_MARK (.next (s.trace 7 0 v.toNat))

/-- TRACE_CTRL_WRITE: a write of OBS_TRC_CTRL. Setting EN empties the buffer and both pointers; a reader enabled while EN
stays 1 begins with the next record (Table 22.12, R649). -/
def execTraceCtrlWrite (v : Word) (s : State) : Res :=
  let a := Reg.OBS_TRC_CTRL
  s.opWrite a (
    let old := s.rd a
    let w := fitWord a old v
    .next (if old.getLsbD 31 && (w.getLsbD 30 != old.getLsbD 30 || fldW w 27 18 != fldW old 27 18) then
        s.inc Reg.OBS_CNT_REFUSED
      else
        let s1 := s.wr a w
        if w.getLsbD 31 && !old.getLsbD 31 then
          ({ s1 with obs := { s1.obs with trace := [], written := 0, portPtr := 0, hostPtr := 0, portLost := 0, hostLost := 0 } }
            : State).wr Reg.OBS_TRC_WPTR 0
        else
          let port := if w.getLsbD 29 && !old.getLsbD 29 then s.obs.written else s.obs.portPtr
          let host := if w.getLsbD 28 && !old.getLsbD 28 then s.obs.written else s.obs.hostPtr
          ({ s1 with obs := { s1.obs with portPtr := port, hostPtr := host } } : State).hostDrain))

/-- A FILL record, and a SYNC record: bytes 8 to 27 alternate 0xA5 and 0x5A, SEQ zero (Table 22.6). -/
def fillWords (now : Nat) : List Word := traceWords 0 0 now 0 0
def syncWords (now : Nat) : List Word :=
  let p := (List.range 10).foldl (fun n _ => n * 65536 + 0x5AA5) 0
  traceWords 0x0F 0 now p 0

/-- TRACE_PORT_SEND: the 40 ns of one record on TRACE_D. A SYNC record is sent at least once in every 64 records; where it
comes earlier the spec leaves open (R650). -/
def execTracePortSend (s : State) : Res :=
  if !s.outRel || !s.up 18 then .next s
  else
    let c := s.rd Reg.OBS_TRC_CTRL
    let sync := s.fresh.getLsbD 0 || decide (63 ≤ s.obs.sinceSync)
    let s1 := s.taken
    let o := s1.obs
    .next (if sync then ({ s1 with obs := { o with sinceSync := 0 } } : State).emit (.traced (syncWords s.now))
      else
        let n := o.sinceSync + 1
        if c.getLsbD 29 && decide (0 < o.portLost) && c.getLsbD 6 then
          ({ s1.taken with obs := { o with sinceSync := n, portLost := 0 } } : State).emit
            (.traced (traceWords 6 0 s.now o.portLost s1.fresh.toNat))
        else if c.getLsbD 29 && decide (o.portPtr < o.written) then
          ({ s1 with obs := { o with sinceSync := n, portPtr := o.portPtr + 1 } } : State).emit
            (.traced (o.trace.look [] (o.portPtr % traceSize)))
        else ({ s1 with obs := { o with sinceSync := n } } : State).emit (.traced (fillWords s.now)))

/-! The lifetime ledger (R654 to R657). -/

/-- The bin of a junction temperature in °C (R655). -/
def histBin (t : Int) : Nat := if t < -30 then 0 else if 110 ≤ t then 15 else ((t + 40) / 10).toNat

/-- One second of thermal-cycle tracking (R655). -/
def State.thermSecond (s : State) (t : Int) : State :=
  let r := s.obs.thermRef.getD t
  if s.obs.thermUp then
    let hi := max r t
    if t ≤ hi - 20 then { s with obs := { s.obs with thermUp := false, thermRef := some t } }
    else { s with obs := { s.obs with thermRef := some hi } }
  else
    let lo := min r t
    if lo + 20 ≤ t then ({ s with obs := { s.obs with thermUp := true, thermRef := some t } } : State).ldgAdd 0x1244 1
    else { s with obs := { s.obs with thermRef := some lo } }

/-- A level source of the junction sensor: it asserts from `on` °C and clears below `off` (R681, R597). -/
def State.thermLevel (s : State) (t : Int) (src : Fin 52) (on off : Int) : State :=
  if on ≤ t then s.raiseLevel src 0
  else if t < off then { s with flt := { s.flt with active := setBitW s.flt.active src.val false } }
  else s

/-- CLK_AON cycles of one second. -/
def aonSecond : Nat := 25000000

/-- Laser seconds of port p after a second in which PON_TXEN was high for some cycles of CLK_AON, which carry into whole seconds
(R65, R654): all of them where it was never low, none where it was never high, and else the number given. -/
def State.laserSecond (s : State) (p cycles : Nat) : State :=
  let lit := if !s.obs.lit.high.getLsbD p then 0 else if !s.obs.lit.low.getLsbD p then aonSecond else min cycles aonSecond
  let t := s.obs.lit.acc.look 0 p + lit
  let s : State := { s with obs := { s.obs with lit := { s.obs.lit with acc := s.obs.lit.acc.put 0 p (t % aonSecond) } } }
  if t < aonSecond then s else s.ldgAdd (0x1290 + 4 * p) (t / aonSecond)

/-- LIFETIME_SECOND: 25,000,000 cycles of CLK_AON. The sensor's sources follow it (Table 24.9). While a power-on reset has not released CLK_AON nothing
is counted (R654, R655, R681). -/
def execLifetimeSecond (second : AonSecond) (s : State) : Res :=
  let s : State := { s with flt := { s.flt with aon := s.flt.aon + 25000000 } }
  let held := (s.rcp.releasing == some .powerAon || s.rcp.releasing == some .powerCore) && s.rcp.domains == 0
  .next (if held then s
    else
      let s := (s.endPass.ldgAdd 0x1240 1).ldgAdd (0x1250 + 4 * histBin second.temp) 1
      let s := (s.thermLevel second.temp 6 100 97).thermLevel second.temp 0 115 110
      let s := (List.range 32).foldl (fun s p => s.laserSecond p (second.lit.getD p 0).toNat) s.seeLight
      let s : State := { s with obs := { s.obs with lit := { s.obs.lit with high := 0, low := 0 } } }
      s.seeLight.thermSecond second.temp)

/-- The words of the ledger that a mirror copies: Sett offsets 0x1200 to 0x95FF, zero words left out. -/
def State.ledgerImage (s : State) : Tab Word :=
  let own := (s.regs.keep fun a => decide (Reg.RCP_RET 0x1200 ≤ a) && decide (a < Reg.RCP_RET 0x9600)).map fun e =>
    (e.1 - Reg.RCP_RET 0, e.2)
  if s.obs.thermUp && s.obs.thermRef.isNone then own
  else
    let w := fun o => Config.thermWord s.obs.thermUp s.obs.thermRef o
    Tab.put 0 (Tab.put 0 own 0x1248 (w 0x1248)) 0x124C (w 0x124C)

/-- LEDGER_MIRROR: just after a second boundary, at a PON_S that is a multiple of 3,600 while MIRROR_EN is 1, or after a
write of MIRROR_NOW, OBS copies the ledger (R657). -/
def execLedgerMirror (s : State) : Res :=
  let pon := (s.rd (ldg 0x1240)).toNat
  let due := s.bit Reg.OBS_LDG_CTRL 0 || (s.bit Reg.OBS_LDG_CTRL 31 && pon % 3600 == 0)
  .next (if !s.up 18 || !due || s.obs.image.isSome then s
    else
      let s := s.setB Reg.OBS_LDG_CTRL 0 false
      { s with obs := { s.obs with mirroring := true, image := some (pon, s.ledgerImage) } })

/-- MIRROR_NOW: a write of OBS_LDG_CTRL with MIRROR_NOW = 1, and MIRROR_EN = en. -/
def execMirrorNow (en : Bool) (s : State) : Res :=
  s.opWrite Reg.OBS_LDG_CTRL (.next ((s.setB Reg.OBS_LDG_CTRL 31 en).setB Reg.OBS_LDG_CTRL 0 true))

/-- The device identifier. DEDUCED: that of GLB_DIEID, unique to the die (log 77). -/
def State.dieId (s : State) : Word64 := BitVec.ofNat 64 (joinWords [s.rd Reg.GLB_DIEID_LO, s.rd Reg.GLB_DIEID_HI])

/-- The CRC-32C of an image: Sett offsets 0x1200 to 0x95FF, each word as four bytes, the lowest first. -/
def imageCrc (img : Tab Word) : Word :=
  BitVec.ofNat 32 (crc32c 0xFFFFFFFF ((List.range 8448).flatMap fun i => bytesLE 4 (img.look 0 (0x1200 + 4 * i)).toNat))

/-- The second of the two flash slots is the older: an empty one before a written one, the first of two empty ones. -/
def State.olderSlot (s : State) : Bool :=
  match s.rcp.slotSeq with
  | (none, _) => false
  | (_, none) => true
  | (some a, some b) => decide (b.toNat < a.toNat)

/-- MIRROR_WRITE_DONE: firmware has written the image, with MIRROR_SEQ incremented, its CRC-32C and the device identifier, into the older
of the two slots, or has failed to (R657). -/
def execMirrorWriteDone (ok : Bool) (s : State) : Res :=
  match s.obs.image with
  | none => .next s
  | some (pon, img) =>
    let s := s.endPass
    let s : State := { s with obs := { s.obs with image := none } }
    .next (if ok then
        let seq := s.rd (ldg 0x1208) + 1
        let s := (s.wr (ldg 0x1208) seq).wr Reg.OBS_LDG_LAST (BitVec.ofNat 32 pon)
        let img := Tab.put 0 img 0x1208 seq
        let b := s.olderSlot
        let s : State := { s with
          obs := { s.obs with mirrorFailed := false }
          rcp := { s.rcp with slotSeq := if b then (s.rcp.slotSeq.1, some seq) else (some seq, s.rcp.slotSeq.2) } }
        s.emit (.flash ((s.rd Reg.OBS_LDG_FLASH).toNat + 0x10000 * b.toNat) s.dieId (imageCrc img) seq.toNat img)
      else
        let s := s.setB Reg.OBS_LDG_STATUS 1 true
        let s := if s.obs.mirrorFailed then s else s.raise 49 0
        { s with obs := { s.obs with mirrorFailed := true } })

end Sys2Proof.Machine
end

