-- ==== Sys2Proof/Machine/Tmg.lean ====
section
/-! DEFINITION. The commands of traffic management (14). -/

namespace Sys2Proof.Machine

/-- FRAME_ADMIT: the oldest frame that waits (R432 to R435). -/
def execFrameAdmit (s : State) : Res :=
  match s.tmg.arrivals with
  | [] => .next s
  | f :: rest =>
    let s : State := { s with tmg := { s.tmg with arrivals := rest } }
    match f.dest with
    | .flood g => .next (s.admitFlood g f)
    | _ => match s.admitOne f with
      | (s, 0) => .next s
      | (s, r) => .next (s.admitDrop f r)

/-! Selection (R436, R437, R450, R453, R454). -/

/-- A launch frame waiting at a head of the egress would be passed by a frame of len bytes (R454). -/
def State.launchBars (s : State) (e len : Nat) : Bool :=
  decide (32 ≤ e) && (s.busyQueues e).any fun q => match (s.queueOf q).head? with
    | some f => match f.launch with
      | some l => decide (s.launchIn l < s.txTime e len)
      | none => false
    | none => false

/-- An egress is LAST of a buffer that is shared. -/
def State.isLast (s : State) (e ptr : Nat) : Bool := (s.buf ptr).any fun m => m.shared && m.last == e

/-- Frames of an egress that have started, whose buffers may still come to its last-owner list. -/
def State.lastOnWay (s : State) (e : Nat) : Nat :=
  ((s.dfr.port.look {} e).ready.filter fun f => decide (e < 32) && s.isLast e f.buf).length +
    (s.tmg.leaving.filter fun l => l.egress == e && l.status == 0 && s.isLast e l.frm.buf).length

/-- The egress's last-owner list is full, places for the frames already started counted, and it is LAST of a shared buffer: the frame
does not start (R421). -/
def State.lastFull (s : State) (e ptr : Nat) : Bool :=
  decide (256 ≤ (s.lastList e).length + s.lastOnWay e) && s.isLast e ptr

/-- The queue can give its head frame now (R421, R436). -/
def State.eligible (s : State) (e q : Nat) : Bool :=
  match (s.queueOf q).head? with
  | none => false
  | some f => f.launch.isNone && (s.pathShapers q).all (fun x => decide (0 ≤ (s.tokOf x).t)) && s.gateOpen e q f.len &&
    !s.launchBars e f.len && !s.lastFull e f.buf

/-- A child of a node with the queue and the head frame it would give. -/
structure Kid where
  key : Nat
  sp : Nat
  w : Nat
  q : Nat
  len : Nat
  deriving DecidableEq, Repr

/-- A child is served: its deficit pays for its frame, and it keeps the turn. -/
def State.serveKid (s : State) (node : Nat) (k : Kid) (deficit : Int) : Kid × State :=
  (k, { s with tmg := { s.tmg with deficit := s.tmg.deficit.put 0 k.key (deficit - k.len)
                                   turn := s.tmg.turn.put 0 (4 * node + k.sp) (k.key + 1) } })

/-- Children in turn, each with its quantum added, until a deficit covers a head frame. -/
def State.roundRobin (s : State) (node : Nat) : Nat → List Kid → Option (Kid × State)
  | 0, _ => none
  | _, [] => none
  | n + 1, k :: t =>
    let d := s.tmg.deficit.look 0 k.key + 64 * k.w
    if (k.len : Int) ≤ d then some (s.serveKid node k d)
    else
      let s : State := { s with tmg := { s.tmg with deficit := s.tmg.deficit.put 0 k.key d } }
      s.roundRobin node n (t ++ [k])

/-- The choice of a node among its eligible children (R437): the lowest SP, then deficit round robin. -/
def State.pickKid (s : State) (node : Nat) (kids : List Kid) : Option (Kid × State) :=
  let sp := (kids.map (·.sp)).foldl min 3
  let ks := kids.filter fun k => k.sp == sp
  let turn := s.tmg.turn.look 0 (4 * node + sp)
  match ks.find? fun k => k.key + 1 == turn && decide ((k.len : Int) ≤ s.tmg.deficit.look 0 k.key) with
  | some k => some (s.serveKid node k (s.tmg.deficit.look 0 k.key))
  | none =>
    let order := (ks.filter fun k => decide (turn < k.key + 1)) ++ ks.filter fun k => decide (k.key + 1 ≤ turn)
    s.roundRobin node (257 * ks.length) order

/-- Numbers without repeats, the first of each kept. -/
def distinct : List Nat → List Nat
  | [] => []
  | a :: t => a :: (distinct t).filter fun b => b != a

/-- A node as a child of its parent. -/
def State.nodeKid (s : State) (i : Nat) (k : Kid) : Kid :=
  { k with key := kidKey i, sp := s.fld (Reg.TMG_ND i) 29 28, w := s.fld (Reg.TMG_ND i) 27 18 }

/-- A queue as a child of its node. -/
def State.queueKid (s : State) (q : Nat) : Kid :=
  { key := q, sp := s.fld (Reg.TMG_Q q) 28 27, w := s.fld (Reg.TMG_Q q) 26 17, q := q
    len := ((s.queueOf q).head?.map Frm.len).getD 0 }

/-- The choice of a level-2 node among the eligible queues. -/
def State.pickLow (s : State) (qs : List Nat) (i : Nat) : Option (Kid × State) :=
  s.pickKid i ((qs.filter fun q => node2 q == i).map s.queueKid)

/-- A node with its own choice, as a child of its parent. -/
def State.asKid (s : State) (pick : Nat → Option (Kid × State)) (i : Nat) : Option Kid :=
  match pick i with
  | some (k, _) => some (s.nodeKid i k)
  | none => none

/-- The choice of a node among children that are nodes, and then the child's own. -/
def State.pickNode (s : State) (node : Nat) (kids : List Nat) (pick : State → Nat → Option (Kid × State)) :
    Option (Kid × State) :=
  match s.pickKid node (kids.filterMap (s.asKid (pick s))) with
  | none => none
  | some (k, s) => pick s (k.key - 131072)

/-- The descent from the port node of egress e over eligible queues: the queue chosen. A node's choice stands only on the
path that is taken. -/
def State.descend (s : State) (e : Nat) (qs : List Nat) : Option (Nat × State) :=
  let low := fun (s : State) (i : Nat) => s.pickLow qs i
  let twos := distinct (qs.map node2)
  let up := fun (i : Nat) => node1 e (s.nodeOwner i)
  let mid := fun (s : State) (j : Nat) => s.pickNode j (twos.filter fun i => up i == j) low
  match s.pickNode e (distinct (twos.map up)) mid with
  | some (k, s) => some (k.q, s)
  | none => none

/-- The head frame of queue q is selected: every enabled shaper of its path is charged, and it goes (R439). -/
def State.selectHead (s : State) (e q : Nat) : State :=
  match s.queueOf q with
  | [] => s
  | f :: _ =>
    let s := (s.pathShapers q).foldl (fun s x => s.charge f.len x) s
    (s.popHead q).sendFrame e q f

/-- Queues of an egress whose head frame is a launch frame that p holds of. -/
def State.launchHeads (s : State) (e : Nat) (p : Frm → Bool) : List Nat :=
  (s.busyQueues e).filter fun q => match (s.queueOf q).head? with
    | some f => f.launch.isSome && p f
    | none => false

/-- The egress sends a launch frame of len bytes from clock time t on. -/
def State.launchSends (s : State) (e t len : Nat) : State :=
  { s with tmg := { s.tmg with launchEnd := s.tmg.launchEnd.put 0 e (t + s.txTime e len) } }

/-- EGRESS_SELECT: the egress can take a frame. Late launch frames go first; then the hierarchy gives one (R436, R437,
R439, R455); an egress that is down discards a frame (R487). -/
def execEgressSelect (e : Fin 57) (s : State) : Res :=
  let s := s.recheckHeads e
  let full := fun (f : Frm) => s.lastFull e f.buf
  if s.egressDown e then
    match (s.busyQueues e).filter fun q => !((s.queueOf q).head?.any full) with
    | [] => .next s
    | q :: _ => match s.queueOf q with
      | [] => .next s
      | f :: _ => .next ((s.popHead q).sendFrame e q f)
  else if !s.egressTakes e then .next s
  else match s.launchHeads e fun f => f.late && !full f with
    | q :: _ =>
      let len := ((s.queueOf q).head?.map Frm.len).getD 0
      .next ((s.selectHead e q).launchSends e (max s.now (s.tmg.launchEnd.look 0 e)) len)
    | [] => match s.descend e ((s.busyQueues e).filter (s.eligible e)) with
      | some (q, s) => .next (s.selectHead e q)
      | none => .next s

/-- The launch head of an egress whose launch time comes first. -/
def State.firstLaunch (s : State) (e : Nat) : List Nat → Option (Nat × Int)
  | [] => none
  | q :: t =>
    let d := match (s.queueOf q).head? with
      | some f => s.launchIn (f.launch.getD 0)
      | none => 0
    match s.firstLaunch e t with
    | some (r, x) => if x < d then some (r, x) else some (q, d)
    | none => some (q, d)

/-- LAUNCH_SELECT: the selection time, launch − LEAD, of the first launch frame that waits at a head of the egress (R453 to
R455). It is late when the egress still sends an earlier launch frame, or when a full last-owner list has held it past
that time (R421). -/
def execLaunchSelect (e : Fin 57) (s : State) : Res :=
  if !s.egressTakes e then .next s
  else match s.firstLaunch e (s.launchHeads e fun f => !f.late && !s.lastFull e f.buf) with
    | none => .next s
    | some (q, d) =>
      let past := decide (d < s.lead e)
      let s := s.advanceTo ((s.now + d - s.lead e : Int).toNat)
      let busy := decide (s.now < s.tmg.launchEnd.look 0 e)
      match s.queueOf q with
      | [] => .next s
      | f :: _ =>
        if (busy || past) && s.bit (Reg.TMG_Q q) 29 then
          .next (((s.popHead q).inc (Reg.TMG_E_CNT_LATE_DROP e)).dropQueued e f)
        else
          let f := { f with late := busy || past }
          let s := s.incIf (busy || past) (Reg.TMG_E_CNT_LATE e)
          let begins := if busy then s.tmg.launchEnd.look 0 e else s.now + s.lead e
          let s := (s.pathShapers q).foldl (fun s x => s.charge f.len x) s
          let s := (s.popHead q).sendFrame e q f
          .next (s.launchSends e begins f.len)

/-! Shapers (R440 to R447). -/

/-- A shaper index that Table 14.4 defines. -/
def shaperOk (x : Nat) : Bool :=
  let i := x - 69632
  decide (x < 69632) || (decide (88576 ≤ x) && decide (x < 88832)) ||
    (decide (x < 88576) && (decide (i < 57) || (decide (64 ≤ i) && decide (i < 1033)) || decide (2048 ≤ i)))

/-- SHAPER_TICK (R440, R441, R444). -/
def execShaperTick (x : Fin 88832) (s : State) : Res :=
  if !shaperOk x || !s.shEn x then .next s
  else
    let t := s.tokOf x
    let r := s.shRate x
    let t' := min (t.t + r) (s.shCap x : Int)
    let excess := (t.t + r - t').toNat
    .next ((s.setTok x { t with t := t', ticks := t.ticks + 1, added := t.added + r, capped := t.capped + excess }).checkTok x)

/-- The status that a shaper command ends with, its configuration apart (Table 14.5). -/
def State.shaperCheck (s : State) (fn : Fn) (x : Nat) : Nat :=
  if !shaperOk x then 1
  else match fnTenant fn with
    | none => 0
    | some n =>
      let i := x - 69632
      if x < 69632 then (if s.queueIn x n then 0 else 2)
      else if 88576 ≤ x || i < 2048 then 3
      else if s.queueIn (if i < 18432 then 4 * (i - 2048) else 65536 + 8 * (i - 18432)) n then 0 else 2

/-- R440 refuses a configuration. -/
def shaperBad (d0 d1 : Word) : Bool :=
  let rate := fldW d0 23 0
  let m := 2 ^ fldW d1 6 3
  decide (rate * 1000000 < 131072 * m) || decide (102400 * m < rate) || fldW d1 22 7 == 0

/-- A shaper command ends: its status, and the count of a refusal (R447). -/
def State.shaperDone (s : State) (fn : Fn) (op : Bool) (fill : Bool) (status : Nat) : State :=
  (s.setCs fn Reg.TMG_SCMD (BitVec.ofNat 32 (2 ^ 24 * status + 2 ^ 17 * fill.toNat + 2 ^ 16 * op.toNat))).incIf
    (status != 0) Reg.TMG_CNT_REFUSED

/-- SHAPER_WRITE: GO with OP = 0 (R440, R445 to R447). -/
def execShaperWrite (fn : Fn) (fill : Bool) (s : State) : Res :=
  s.fnWrite fn Reg.TMG_SCMD <|
  let x := fldW (s.cs fn Reg.TMG_SCMD_IDX) 16 0
  let d0 := s.cs fn (Reg.TMG_SCMD_D 0)
  let d1 := s.cs fn (Reg.TMG_SCMD_D 1)
  let c := s.shaperCheck fn x
  let c := if c = 0 && shaperBad d0 d1 then 1 else c
  if c ≠ 0 then .next (s.shaperDone fn false fill c)
  else
    let t := s.tokOf x
    let s := (s.wr (Reg.TMG_SH x 0) (d0 &&& 0x00FFFFFF)).wr (Reg.TMG_SH x 1) (d1 &&& 0xFFFFFFF8)
    let t0 : Int := if 88576 ≤ x then min t.t (s.shCap x) else if fill then (s.shCap x : Int) else 0
    .next ((s.setTok x { t := t0, t0 := t0 }).shaperDone fn false fill 0)

/-- SHAPER_READ: GO with OP = 1 (R447). -/
def execShaperRead (go : ReadGo) (s : State) : Res :=
  let fn := go.fn
  let fill := go.fill
  s.fnWrite fn Reg.TMG_SCMD <|
  let x := fldW (s.cs fn Reg.TMG_SCMD_IDX) 16 0
  let c := s.shaperCheck fn x
  if c ≠ 0 then .next (s.shaperDone fn true fill c)
  else
    let t := wrapN 40 (s.tokOf x).t
    let s := (s.setCs fn (Reg.TMG_SCMD_D 0) (s.rd (Reg.TMG_SH x 0))).setCs fn (Reg.TMG_SCMD_D 1) (s.rd (Reg.TMG_SH x 1))
    let s := (s.setCs fn Reg.TMG_SCMD_D2 (wordOf t 0)).setCs fn Reg.TMG_SCMD_D3 (wordOf t 1)
    .next (s.shaperDone fn true fill 0)

/-! Gates (R448 to R452). -/

/-- The first instant B + N × CYCLE that is ahead, as a signed 40-bit difference, of the clock at `from_` (R449). -/
def takeoverAt (base cycle from_ : Nat) : Nat :=
  let d := signedN 40 ((base + 2 ^ 40 - from_ % 2 ^ 40) % 2 ^ 40)
  if 0 < d then from_ + d.toNat else from_ + (d + cycle * (1 + (-d).toNat / cycle)).toNat

/-- GATE_COMMIT: a write of TMG_Gg_CTRL with COMMIT = 1 (R448, R449, R451). DESIGN CHOICE: a COMMIT while a takeover is pending is
refused and counted; LEN and SSCLASS of a refused one are stored (log 59). -/
def execGateCommit (g : Fin 56) (v : Word) (s : State) : Res :=
  s.opWrite (Reg.TMG_G_CTRL g) <|
  let a := Reg.TMG_G_CTRL g
  if s.unusedLane a then .next s
  else
    let s1 := s.wr a (fitWord a (s.rd a) v)
    let n := s1.fld a 8 0
    let iv := (List.range n).map fun i => s1.fld (Reg.TMG_G_SBY g i) 23 0
    if s.bit a 30 || iv.any fun x => decide (x < 8) then .next (s1.inc Reg.TMG_CNT_REFUSED)
    else
      let base := (s1.rd (Reg.TMG_G_BASE_LO g)).toNat + 2 ^ 32 * s1.fld (Reg.TMG_G_BASE_HI g) 7 0
      let at_ := takeoverAt base iv.sum (s1.now + 1000)
      let s2 := (s1.setB a 30 true).setGate g { s1.gate g with next := some at_, nextLen := n }
      .next (s2.recheckHeads g)

/-- GATE_TAKEOVER (R449). -/
def execGateTakeover (g : Fin 56) (s : State) : Res :=
  match (s.gate g).next with
  | none => .next s
  | some t =>
    let s := s.advanceTo t
    let pairs := (List.range 256).map fun i => (i, s.rd (Reg.TMG_G_ACT g i), s.rd (Reg.TMG_G_SBY g i))
    let s1 := pairs.foldl (fun s p => (s.wr (Reg.TMG_G_ACT g p.1) p.2.2).wr (Reg.TMG_G_SBY g p.1) p.2.1) s
    let s1 := (s1.setB (Reg.TMG_G_CTRL g) 30 false).setB (Reg.TMG_G_CTRL g) 29 true
    .next ((s1.setGate g { start := t, len := (s.gate g).nextLen }).recheckHeads g)

/-- GATE_ENTRY_ADVANCE: the entry open now ends, and the next one opens (R450). -/
def execGateEntryAdvance (g : Fin 56) (s : State) : Res :=
  let x := s.gate g
  if !s.bit (Reg.TMG_G_CTRL g) 29 || x.len = 0 then .next s
  else
    let t := (x.start + (s.gOffset g (x.pos + 1) : Nat)).toNat
    let s := s.advanceTo t
    if x.pos + 1 < x.len then .next (s.setGate g { x with pos := x.pos + 1 })
    else .next (s.setGate g { x with pos := 0, start := t })

/-! Enabling and disabling (R430, R458, R459). -/

/-- A node that Table 14.2 defines. -/
def nodeOk (i : Nat) : Bool := decide (i < 57) || (decide (64 ≤ i) && decide (i < 1033)) || decide (2048 ≤ i)

/-- The register of a queue or node; none for a node that the table does not define. -/
def qnodeReg : QNode → Option Nat
  | .queue q => some (Reg.TMG_Q q)
  | .node i => if nodeOk i then some (Reg.TMG_ND i) else none

/-- The word that a write leaves in it: AGG_EN and AGG are reserved but on nodes of tenants. -/
def State.qnodeWord (s : State) (x : QNode) (a : Nat) (v : Word) (en : Bool) : Word :=
  let w := setBitW (fitWord a (s.rd a) v) 31 en
  let w := setBitW w 30 (s.bit a 30)
  match x with
  | .queue _ => w
  | .node i => if 64 ≤ i.val && decide (i.val < 1033) && (i.val - 64) % 17 != 16 then w else setFldW w 17 13 0

/-- A queue lies at or below x. -/
def State.below (s : State) (x : QNode) (q : Nat) : Bool :=
  match x with
  | .queue r => q == r.val
  | .node i => (s.nodesOf q).contains i.val

/-- QUEUE_DISABLE: a write with EN = 0 (R458). -/
def execQueueDisable (x : QNode) (v : Word) (s : State) : Res :=
  s.opWrite ((qnodeReg x).getD Reg.TMG_CTRL) <|
  match qnodeReg x with
  | none => .next s
  | some a =>
    let s := s.wr a (s.qnodeWord x a v false)
    let qs := (s.tmg.queues.map (·.1)).filter (s.below x)
    .next (qs.foldl State.flushQueue s)

/-- Frames of x remain in TMG, in its egress or in the egress's last-owner list. -/
def State.inFlight (s : State) (x : QNode) : Bool :=
  s.tmg.queues.any (fun y => s.below x y.1) ||
    s.tmg.leaving.any (fun l => l.status == 0 && s.below x l.frm.queue) ||
    s.dfr.port.any (fun p => p.2.ready.any fun f => s.below x f.queue) ||
    s.bpm.lasts.any fun l => !l.2.isEmpty && match x with
      | .queue q => s.qEgress q == l.1
      | .node i =>
        if i.val < 57 then i.val == l.1
        else if i.val < 2048 then (i.val - 64) / 17 == l.1
        else s.nodeEgress i == l.1

/-- QUEUE_DRAINED (R458). -/
def execQueueDrained (x : QNode) (s : State) : Res :=
  match qnodeReg x with
  | none => .next s
  | some a => .next (if s.inFlight x then s else s.setB a 30 true)

/-- QUEUE_ENABLE: a write with EN = 1, refused on a disabled queue or node that is not drained (R430, R458, R459). -/
def execQueueEnable (x : QNode) (v : Word) (s : State) : Res :=
  s.opWrite ((qnodeReg x).getD Reg.TMG_CTRL) <|
  match qnodeReg x with
  | none => .next s
  | some a =>
    if !s.bit a 31 && !s.bit a 30 then .next (s.inc Reg.TMG_CNT_REFUSED)
    else
      let s1 := match x with
        | .node i =>
          if !s.bit a 31 && decide (2048 ≤ i.val) && decide (i.val < 18432) then
            let o := match (List.range 16).find? fun n => s.termIn (i.val - 2048) n with
              | some n => n + 1
              | none => 0
            { s with tmg := { s.tmg with owners := s.tmg.owners.put 0 i.val o } }
          else s
        | .queue _ => s
      .next (s1.wr a (s.qnodeWord x a v true))

/-- TMG_GRP_WRITE (R430, Table 14.7). -/
def execTmgGrpWrite (k : Fin 512) (v : Word) (s : State) : Res :=
  s.opWrite (Reg.TMG_GRP k) <|
  let nd := Reg.TMG_ND (18432 + k)
  .next (if s.bit nd 31 || !s.bit nd 30 || decide (24 < fldW v 26 22) then s
    else s.wr (Reg.TMG_GRP k) (v &&& 0xFFC00000))

/-- QUEUE_SAMPLE (R460). -/
def execQueueSample (q : Fin 69632) (s : State) : Res :=
  let w := fun i => Reg.TMG_SMP q i
  let n := s.fld (w 0) 31 21
  if 2047 ≤ n then .next s
  else
    let depth := (s.fld (Reg.TMG_QD q) 26 0 + 63) / 64
    let delay := match (s.queueOf q).head? with
      | some f => (s.now40 + 2 ^ 40 - f.stamp) % 2 ^ 40
      | none => 0
    let s := (s.setF (w 0) 31 21 (n + 1)).setF (w 0) 20 0 (max (s.fld (w 0) 20 0) (min depth 0x1FFFFF))
    let s := s.wr (w 1) (BitVec.ofNat 32 (max (s.rd (w 1)).toNat (min delay 0xFFFFFFFF)))
    .next ((s.satField (w 2) 31 0 depth).satField (w 3) 31 0 (delay / 1000))

end Sys2Proof.Machine
end

