-- ==== Sys2Proof/Machine/Tsu.lean ====
section
/-! DEFINITION. The commands of TSU (17) but STEP_APPLY. -/

namespace Sys2Proof.Machine

/-! Rate (R508, R509). -/

/-- INC_COMMIT: a write of TSU_INC_NS (R508). -/
def execIncCommit (v : Word) (s : State) : Res :=
  s.opWrite Reg.TSU_INC_NS (
    let f := s.heldWord .op 16 Reg.TSU_INC_FRAC 0
    let s1 := s.dropHeld .op 16
    let i := fldW v 7 0 * 2 ^ 32 + f.toNat
    .next (if incOk i then
      let s2 := (s1.wr Reg.TSU_INC_FRAC f).setF Reg.TSU_INC_NS 7 0 (fldW v 7 0)
      if s2.tsu.slew.isSome then { s2 with tsu := { s2.tsu with stored := some i } }
      else { s2 with tsu := { s2.tsu with inc := i } }
    else s1.tsuRefused))

/-- SLEW_START: a write of a value that is not zero to TSU_SLEW_TICKS (R509). -/
def execSlewStart (v : Word) (s : State) : Res :=
  s.opWrite Reg.TSU_SLEW_TICKS (
    let i := s.fld Reg.TSU_SLEW_NS 7 0 * 2 ^ 32 + (s.rd Reg.TSU_SLEW_FRAC).toNat
    .next (if v = 0 then s
      else if s.tsu.slew.isSome || !incOk i then s.tsuRefused
      else
        let s1 := (s.wr Reg.TSU_SLEW_TICKS v).setB Reg.TSU_STATUS 4 true
        { s1 with tsu := { s1.tsu with slew := some i } }))

/-- SLEW_CANCEL: a write of 0 to TSU_SLEW_TICKS (R509). -/
def execSlewCancel (s : State) : Res := s.opWrite Reg.TSU_SLEW_TICKS (.next (if s.tsu.slew.isSome then s.endSlew else s))

/-- SLEW_END: the ticks of the slew have passed (R509). -/
def execSlewEnd (s : State) : Res :=
  match s.tsu.slew with
  | none => .next s
  | some v =>
    let u := (s.rd Reg.TSU_SLEW_TICKS).toNat * v
    let s1 := s.holdGain u
    .next ({ s1 with clk := clkOf (s1.clk.units + u) } : State).endSlew

/-! Steps (R510, R511). -/

/-- STEP_GO: a write of GO = 1 to TSU_STEP (R510). -/
def execStepGo (s : State) : Res :=
  s.opWrite Reg.TSU_STEP (
    .next (if s.bit Reg.TSU_STATUS 2 && !s.tsu.step then { s with tsu := { s.tsu with step := true, locked := true } }
      else s.tsuRefused))

/-- REARM_WRITE: a write of TSU_REARM; `late` says that more than 1 ms has passed since the first key (R511). The ledger's entry
says whether the clock had been set at the event, so before the re-arm (R656). -/
def execRearmWrite (v : Word) (late : Bool) (s : State) : Res :=
  s.opWrite Reg.TSU_REARM (
    let key := s.tsu.key && !late
    let s1 : State := { s with tsu := { s.tsu with key := false } }
    .next (if v = 0x5A && key then
        let s2 := (s1.ledgerLog 7 16 0 0).setB Reg.TSU_STATUS 2 true
        { s2 with tsu := { s2.tsu with locked := false } }
      else if v = 0xA5 then
        let s2 := if s.tsu.key then s1.tsuRefused else s1
        { s2 with tsu := { s2.tsu with key := true } }
      else s1.tsuRefused))

/-! The reference (R513). -/

/-- TSREF_LOSS. -/
def execTsrefLoss (s : State) : Res := .next (if s.tsuUp then (s.setB Reg.TSU_STATUS 1 true).raise 42 0 else s)

/-- TS_PLL_UNLOCK. -/
def execTsPllUnlock (s : State) : Res :=
  let t : State := { s with rcp := { s.rcp with tsPllLost := true } }
  .next (if s.bit Reg.TSU_STATUS 0 then (t.setB Reg.TSU_STATUS 0 false).raise 43 0 else t)

/-- CLK_TS_PLL_RELOCK. -/
def execClkTsPllRelock (s : State) : Res :=
  let t : State := { s with rcp := { s.rcp with tsPllLost := false } }
  .next (if s.tsuUp then t.setB Reg.TSU_STATUS 0 true else t)

/-! Compare units. -/

/-- COMPARE_TARGET_COMMIT: a write of TSU_CMP_k_TGT_HI (R521). -/
def execCompareTargetCommit (k : Fin 16) (v : Word) (s : State) : Res :=
  s.opWrite (Reg.TSU_CMP_TGT_HI k) (
    let lo := s.heldWord .op 16 (Reg.TSU_CMP_TGT_LO k) 0
    let s1 := ((s.dropHeld .op 16).wr (Reg.TSU_CMP_TGT_LO k) lo).setF (Reg.TSU_CMP_TGT_HI k) 7 0 (fldW v 7 0)
    .next (s1.commitUnit k))

/-- COMPARE_FIRE: the clock reaches the target of an enabled unit (R521). -/
def execCompareFire (k : Fin 16) (s : State) : Res :=
  .next (if !s.tsuUp || !s.bit (Reg.TSU_CMP_CTRL k) 31 then s
    else
      let s1 := if s.past40 (s.cmpTarget k) then s
        else s.advanceTo (s.now + (s.cmpTarget k + 2 ^ 40 - s.now40) % 2 ^ 40)
      s1.fireUnit k)

/-! Outputs and inputs (R525 to R531). -/

/-- The settings of a PPS output as its registers hold them. -/
def State.ppsRegs (s : State) (o : Nat) : Nat × Nat × Nat :=
  ((s.rd (Reg.TSU_PPO_PERIOD o)).toNat, (s.rd (Reg.TSU_PPO_WIDTH o)).toNat, (s.rd (Reg.TSU_PPO_OFS o)).toNat)

/-- The settings of a PPS output at reset. -/
def ppsReset : Nat × Nat × Nat := (1000000000, 100000000, 0)

/-- The settings of a PPS output come into force. -/
def State.ppsTake (s : State) (o : Nat) : State :=
  { s with tsu := { s.tsu with pps := s.tsu.pps.put ppsReset o (s.ppsRegs o) } }

/-- PPS_CONFIG_WRITE (R525). -/
def execPpsConfigWrite (o : Fin 2) (f : PpsCfg) (v : Word) (s : State) : Res :=
  let a := match f with
    | .period => Reg.TSU_PPO_PERIOD o
    | .width => Reg.TSU_PPO_WIDTH o
    | .offset => Reg.TSU_PPO_OFS o
  s.opWrite a (
    let s1 := s.wr a v
    let (p, w, x) := s1.ppsRegs o
    .next (if p < 1000 || p ≤ w || p ≤ x then s.tsuRefused
      else if s.bit (Reg.TSU_PPO_CTRL o) 31 then s1 else s1.ppsTake o))

/-- PPS_OUT_PULSE: the next rising edge of an enabled output, from which a WIDTH written before it applies; the time-of-day
FIFO goes TX_DLY after an edge of output 0 (R525, R527, R530). In the Fatal state the outputs are low (Table 20.3). -/
def execPpsOutPulse (o : Fin 2) (s : State) : Res :=
  .next (if !s.tsuUp || s.flt.fatal || !s.bit (Reg.TSU_PPO_CTRL o) 31 then s
    else
      let (p, _, x) := s.tsu.pps.look ppsReset o
      let w := (s.ppsRegs o).2.1
      let c := s.outClk.ns.toNat
      let t := c + p - (c + p - x) % p
      let s1 := (s.advanceTo (s.now + (t - c))).drive (.pps o t w (s.rdInt (Reg.TSU_PPO_CMP o)))
      let s2 := ({ s1 with tsu := { s1.tsu with ppsFall := s1.tsu.ppsFall.put 0 o (t + w) } } : State).ppsTake o
      if o.val = 0 && s2.bit Reg.TSU_TOD_CTRL 31 && s2.bit Reg.TSU_TOD_CTRL 30 && s2.tsu.tx ≠ [] then
        s2.todSend (s2.fld Reg.TSU_TOD_CTRL 29 16)
      else s2)

/-- P of a clock output in units of 2^-16 ns (R526). -/
def State.ckoPeriod (s : State) (o : Nat) : Nat :=
  (s.rd (Reg.TSU_CKO_PER_LO o)).toNat + 2 ^ 32 * s.fld (Reg.TSU_CKO_PER_HI o) 15 0

/-- CLK_OUT_EDGE: the next rising or falling edge of an enabled output (R526). -/
def execClkOutEdge (o : Fin 2) (rise : Bool) (s : State) : Res :=
  .next (if !s.tsuUp || s.flt.fatal || !s.bit (Reg.TSU_CKO_CTRL o) 31 then s
    else
      let p := s.ckoPeriod o
      let c := s.outClk.units / 65536
      let x := 65536 * (s.rd (Reg.TSU_CKO_OFS o)).toNat + (if rise then 0 else p / 2)
      let t := c + p - (c + p * (x / p + 1) - x) % p
      let s1 := (s.advanceTo (s.now + (t / 65536 - c / 65536))).drive (.clkOut o rise t (s.rdInt (Reg.TSU_CKO_CMP o)))
      { s1 with tsu := { s1.tsu with ckoHigh := setBitW s1.tsu.ckoHigh o rise } })

/-- OUT_HOLD_SET (R527). -/
def execOutHoldSet (s : State) : Res := s.opWrite Reg.TSU_CTRL (.next s.outHoldSet)

/-- OUT_HOLD_CLEAR (R527). -/
def execOutHoldClear (s : State) : Res := s.opWrite Reg.TSU_CTRL (.next s.outHoldClear)

/-- HOLD_CONVERGED: the shadow has met the clock (R527). -/
def execHoldConverged (s : State) : Res :=
  .next (if s.bit Reg.TSU_CTRL 1 || !s.bit Reg.TSU_STATUS 3 then s
    else ({ s with tsu := { s.tsu with hold := s.clk } } : State).holdMet)

/-- PPS_IN_CAPTURE: an edge of the polarity POL selects, at a clock time in ns and 2^-16 ns (R529). -/
def execPpsInCapture (i : Fin 2) (ns : Word64) (frac : BitVec 16) (s : State) : Res :=
  let a := Reg.TSU_PPI_CTRL i
  .next (if !s.tsuUp || !s.bit a 31 then s
    else
      let s := s.advanceTo ns.toNat
      let edge : Int := (65536 * ns.toNat + frac.toNat : Nat)
      if (s.tsu.ppsIn.look none i).any fun last => decide (edge < last + 65536000) then s.inc (Reg.TSU_PPI_CNT_GLITCH i)
      else
        let u : Int := edge + s.rdInt (Reg.TSU_PPI_CMP i) * 65536 / 1000
        let c := wrapN 80 u
        let lost := s.bit a 0
        let s := (s.setF (Reg.TSU_PPI_CAP_FRAC i) 15 0 c).wr (Reg.TSU_PPI_CAP_LO i) (wordOf (c / 65536) 0)
        let s := (s.wr (Reg.TSU_PPI_CAP_HI i) (wordOf (c / 65536) 1)).setB a 0 true
        let s := if lost then s.setB a 1 true else s
        let s : State := { s with tsu := { s.tsu with ppsIn := s.tsu.ppsIn.put none i (some edge) } }
        if s.bit a 29 then s.tsuEvent 2 i (8 * lost.toNat) (c / 65536 % 2 ^ 64) (c % 65536) else s)

/-- TOD_TX_WRITE: a write of TSU_TOD_TX (R530). -/
def execTodTxWrite (b : Byte) (s : State) : Res :=
  s.opWrite Reg.TSU_TOD_TX (
    .next (if 256 ≤ s.tsu.tx.length then s.tsuRefused
      else ({ s with tsu := { s.tsu with tx := s.tsu.tx ++ [b] } } : State).todFlush))

/-- TOD_RX_BYTE: a byte is received; `idle` says that the line was idle for 2 character times before it (R530, R531). -/
def execTodRxByte (b : Byte) (idle : Bool) (s : State) : Res :=
  .next (if !s.tsuUp || !s.bit Reg.TSU_TOD_CTRL 31 then s
    else
      let s := if idle then (s.wr Reg.TSU_TOD_RXSTAMP_LO (wordOf s.now 0)).wr Reg.TSU_TOD_RXSTAMP_HI (wordOf s.now 1) else s
      if 256 ≤ s.tsu.rx.length then s.tsuRefused else { s with tsu := { s.tsu with rx := s.tsu.rx ++ [b] } })

/-! Mate time exchange (R519, R532). -/

/-- A stamp in units of 2^-8 ns: a clock reading in units of 2^-32 ns and a compensation in ps. -/
def stamp8 (units : Nat) (cmp : Int) : Nat := wrapN 72 (((units / 2 ^ 24 : Nat) : Int) + cmp * 256 / 1000)

/-- MATE_TIME_SEND: a TIME block (Table 17.3). -/
def execMateTimeSend (s : State) : Res :=
  .next (if !s.bit Reg.TSU_MATE_CTRL 31 || s.mateState ≠ 2 then s
    else
      let t := stamp8 s.clk.units (s.rdInt Reg.MLK_TX_CMP)
      let data := [1, BitVec.ofNat 8 s.tsu.seq] ++ bytesBE 9 t ++ bytesBE 9 s.tsu.echo.1 ++ bytesBE 9 s.tsu.echo.2
      let s := s.sendControl data
      let sent := s.tsu.sent ++ [t]
      { s with tsu := { s.tsu with seq := (s.tsu.seq + 1) % 256, sent := sent.drop (sent.length - 16) } })

/-- MATE_TIME_RECEIVE: the oldest TIME block received is taken (R532). -/
def execMateTimeReceive (s : State) : Res :=
  match s.mlk.control.find? fun c => c.1.head? == some 1 with
  | none => .next s
  | some (d, ns, frac) =>
    let s : State := { s with mlk := { s.mlk with control := s.mlk.control.erase (d, ns, frac) } }
    let t3 := joinBytesBE ((d.drop 2).take 9)
    let t1 := joinBytesBE ((d.drop 11).take 9)
    let t2 := joinBytesBE ((d.drop 20).take 9)
    let t4 := stamp8 (ns * 2 ^ 32 + frac) (s.rdInt Reg.MLK_RX_CMP)
    let s : State := { s with tsu := { s.tsu with echo := (t3, t4) } }
    .next (if s.tsu.sent.contains t1 then
      let ofs : Int := ((t2 : Int) - t1) - ((t4 : Int) - t3)
      let dly : Int := ((t4 : Int) - t1) - ((t3 : Int) - t2)
      let s := (s.wr Reg.TSU_MATE_OFS (BitVec.ofInt 32 (satSigned 32 (ofs * 1000 / 512)))).wr Reg.TSU_MATE_DLY
        (BitVec.ofInt 32 (satSigned 32 (dly * 1000 / 512)))
      s.setB Reg.TSU_MATE_CTRL 16 true
    else s)

/-- TOD_PERIOD_START: the next instant of the grid of TOD_PERIOD; messages of the last period not yet built are dropped, also
those on their way to DFR, and the new ones go by the crossing (R537). -/
def execTodPeriodStart (n : Fin 32) (s : State) : Res :=
  if !s.tsuUp then .next s
  else
    let p := 1000000 * s.fld (Reg.TSU_n_TOD_CTRL n) 15 0
    let mode := s.fld (Reg.TSU_n_TOD_CTRL n) 31 30
    let s := s.advanceTo (s.now + p - s.now % p)
    let d := s.dport n
    let c := s.crossing (32 * 7 + n)
    let s := (s.incN (Reg.TSU_n_CNT_SKIP n) (d.tods.length + c.items.length + c.wait.length)).emptyQueue 7 n
    let q : List (Nat × Option Nat) := match mode with
      | 1 => [(1, none)]
      | 2 => ((List.range 512).filter fun l => s.termSt n l == 2).map fun l => (2, some l)
      | _ => []
    .next (q.foldl (fun s x => s.cross 7 n (.tod x)) (s.setDport n { d with tods := [] }))

end Sys2Proof.Machine
end

