-- ==== Sys2Proof/Machine/Clock.lean ====
section
/-! DEFINITION. What a step of the precision clock does to those that read it (Table 17.1). -/

namespace Sys2Proof.Machine

/-- An active gate list holds the entry that it would hold at the present time, counted from its takeover. -/
def State.regate (s : State) (g : Nat) : State :=
  let x := s.gate g
  let cycle := s.gOffset g x.len
  if !s.bit (Reg.TMG_G_CTRL g) 29 || cycle = 0 then s
  else
    let r := (((s.now : Int) - x.start) % (cycle : Int)).toNat
    let pos := ((List.range x.len).filter fun i => decide (s.gOffset g (i + 1) ≤ r)).length
    s.setGate g { x with start := (s.now : Int) - r, pos := pos }

/-- A launch frame waiting at a head is tested again. -/
def State.retestHeads (s : State) : State :=
  s.tmg.queues.foldl (fun s x => s.settleHead (s.qEgress x.1) x.1 (x.2.length + 1)) s

/-- A step of the clock from second `old` in circuit monitoring: it closes the current bins, with the seconds not yet committed,
and new bins begin (R348). A step back takes away the marks of seconds that are yet to come again. -/
def State.stepBins (s : State) (old : Nat) : State :=
  let t := s.nowSec
  let here := s.tce.gaps.filter fun g => decide (t ≤ g.2 + 172800)
  let gaps := if t < old then here.filter fun g => decide (g.2 < t) else here ++ [(old, old)]
  let marks := (s.tce.marks.map fun x => (x.1, x.2.filter fun m => decide (m < t || old ≤ t))).filter fun x => x.2 != []
  { s with tce := { s.tce with gaps := gaps ++ [(t, t)], marks := marks, stepTo := t, seconds := [] } }

/-- A time that the clock counts from or to stays as far off as before the step (R512). -/
def moved (d : Int) (t : Nat) : Nat := (t + d).toNat

/-- What a step leaves alone (R512): the times of the state that no row of Table 17.1 names move with the clock. These are the
end of a quiet interval after a stop, the arrival of the partner's STATE block, the end of the stay in Quiet, the end of a
launch frame's transmission, a queued frame's entry, the last edge of a PPS input, and the fall of a pulse in progress, which
completes its width; it moves only where the outputs follow the clock. -/
def State.keepTimes (s : State) (was : Clk) : State :=
  let d : Int := (s.now : Int) - was.ns.toNat
  let d16 : Int := ((s.clk.units / 65536 : Nat) : Int) - (was.units / 65536 : Nat)
  { s with
    tpa := { s.tpa with port := s.tpa.port.map fun x => (x.1, { x.2 with hush := moved d x.2.hush }) }
    prot := { s.prot with mateHeard := s.prot.mateHeard.map (· + d) }
    rcp := { s.rcp with quietLeft := s.rcp.quietLeft.map (· + d) }
    tmg := { s.tmg with
      launchEnd := s.tmg.launchEnd.map fun x => (x.1, moved d x.2)
      queues := s.tmg.queues.map fun x => (x.1, x.2.map fun f => { f with stamp := wrapN 40 ((f.stamp : Int) + d) }) }
    tsu := { s.tsu with
      ppsIn := s.tsu.ppsIn.map fun x => (x.1, x.2.map (· + d16))
      ppsFall := if s.bit Reg.TSU_STATUS 3 then s.tsu.ppsFall else s.tsu.ppsFall.map fun x => (x.1, moved d x.2) } }

/-- The clock has been stepped from the value `was`: gate lists, launch frames, and the bins of circuit monitoring. -/
def State.clockStepped (s : State) (was : Clk) : State :=
  let s := (((List.range 56).foldl (fun s g => s.regate g) s).keepTimes was).retestHeads
  if s.up 7 then s.stepBins (was.ns.toNat / 1000000000) else s

end Sys2Proof.Machine
end

