-- ==== Sys2Proof/Machine/Rng.lean ====
section
/-! DEFINITION. The commands of ranging (04): guarded registers, discovery and serial numbers, the software commands,
directed ranging, tracking, and the timers. -/

namespace Sys2Proof.Machine

/-! Guarded registers. -/

/-- TEQ_WRITE: a write of RNG_n_CTRL; a change of TEQ_Q only on a disabled, drained port and from 4 to 40 (R126). -/
def execTeqWrite (n : Fin 32) (v : Word) (s : State) : Res :=
  s.opWrite (Reg.RNG_CTRL n) <|
  let v1 : Word := v &&& 0xFFFFFF3F
  let v2 := if fldW v1 31 16 = 0 then setFldW v1 31 16 1 else v1
  let v3 := if fldW v2 15 8 = 0 then setFldW v2 15 8 1 else v2
  let q := fldW v3 5 0
  let ok := q == s.fld (Reg.RNG_CTRL n) 5 0 || ((s.rngSees n).idlePort n && decide (4 ≤ q) && decide (q ≤ 40))
  .next (if ok then s.wr (Reg.RNG_CTRL n) v3 else s.inc (Reg.RNG_CNT_REFUSED n))

/-- W in microseconds for a RNG_n_DISC word (R132). -/
def discW (v : Word) : Nat := fldW v 25 16 - fldW v 9 0 + 48 + 1

/-- RNG_DISC_WRITE (R133). -/
def execRngDiscWrite (n : Fin 32) (v : Word) (s : State) : Res :=
  s.opWrite (Reg.RNG_DISC n) <|
  let v1 : Word := v &&& 0x03FF0FFF
  let lo := fldW v1 9 0
  let hi := fldW v1 25 16
  let ok := decide (lo < hi) && decide (hi ≤ 25 * s.fld (Reg.RNG_CTRL n) 5 0) && decide (discW v1 ≤ 250)
  .next (if ok then (s.wr (Reg.RNG_DISC n) v1).setB (Reg.RNG_STATUS n) 3 false
    else (s.inc (Reg.RNG_CNT_REFUSED n)).setB (Reg.RNG_STATUS n) 3 true)

/-- RNG_TRACK_WRITE (R149). -/
def execRngTrackWrite (n : Fin 32) (v : Word) (s : State) : Res :=
  s.opWrite (Reg.RNG_TRACK n) <|
  let v1 := if fldW v 31 28 = 0 then setFldW v 31 28 1 else v
  let v2 := if fldW v1 7 0 = 0 then setFldW v1 7 0 1 else v1
  let lim := fldW v2 23 16
  let ok := decide (fldW v2 15 8 < lim) && decide (lim < s.driftTop n)
  .next (if ok then s.wr (Reg.RNG_TRACK n) v2 else s.inc (Reg.RNG_CNT_REFUSED n))

/-! Discovery (R130 to R138). -/

/-- The window length W of R132 in port transmit clock cycles: 311.04 per microsecond. -/
def State.windowCycles (s : State) (n : Nat) : Nat := cdiv (discW (s.rd (Reg.RNG_DISC n)) * 31104) 100

/-- DISC_REQUEST: the period has passed; the other conditions of R130 are checked here (R130 to R132, R187, R633). -/
def execDiscRequest (n : Fin 32) (s : State) : Res :=
  let ok := !s.quiet && !s.justLeftQuiet && (s.rngSees n).dfrRun n && s.bit (Reg.RNG_DISC n) 10 && !s.bit (Reg.RNG_STATUS n) 3 && (s.rport n).bcast == 0 &&
    (s.lowestFree n).isSome
  .next (if ok then s.setGport n { s.gport n with disc := some (s.windowCycles n) } else s)

/-- The pending slot of the port is full (PEND). -/
def State.pend (s : State) (n : Nat) : Bool := s.bit (Reg.RNG_STATUS n) 2

/-- UDF counts the codewords of a burst in a discovery window, which it decodes (Table 09.4). -/
def State.discCws (s : State) (n : Nat) (cws unc : Nat) : State :=
  if s.up 6 then (s.add64 (Reg.UDF_n_CNT_CW_LO n) cws).incN (Reg.UDF_n_CNT_UNCORR n) unc else s

/-- SN_RESPONSE: a burst of a discovery window, with the iterations that each codeword needs (R300), and whether MIC and CRC of its
PLOAMu are right; `got.good` is false for a burst cut short or with a bad header. `rnd` is the random delay in nanoseconds,
`delim` and `phase` give δ64 (R92, R122, R127, R136, R314). What RNG is told goes by its crossing. -/
def execSnResponse (n : Fin 32) (frame : BitVec 51) (k : Fin 512) (got : SnBurst) (sn : Word64)
    (rnd : BitVec 16) (delim : Int) (phase : Fin 64) (s : State) : Res :=
  match if s.en n then s.received n frame.toNat k else none with
  | none => .next s
  | some b =>
    if (headOf b).kind != 2 then .next s
    else
      let unc := got.cws.countP fun need => !s.correctable n need
      let s := s.discCws n got.cws.length unc
      let good := got.good && unc == 0
      let s := (s.incIf (unc != 0) (Reg.BRX_CNT_UNCORR n)).incIf good (Reg.BRX_CNT_COLD_OK n)
      let kk := rbPerBit (s.slowRate n)
      let x : SnReport := { sn := sn.toNat, rnd := rnd.toNat, off := 64 * kk * delim + kk * phase }
      .next (if !good then s.cross 5 n (.serial none)
        else if !got.mic then s.inc (Reg.UDF_n_CNT_PLOAM_ERR n)
        else s.cross 5 n (.serial (some x)))

/-- RNG assigns no ONU-ID while EN is 0, as it knows it, and before the third broadcast of R685 has been sent. -/
def State.mayAssign (s : State) (n : Nat) : Bool := (s.rngSees n).en n && (s.rport n).bcast == 0

/-- RNG handles a burst of a discovery window, bad or with a serial number, by the first row of Table 04.1 (R136). DESIGN CHOICE: the
random delay is rounded down to whole RB (log 70). -/
def State.serialSeen (s : State) (n : Nat) (x : Option SnReport) : State :=
  match x with
  | none => s.inc (Reg.RNG_CNT_COLLIDE n)
  | some x =>
    let c := s.rngSees n
    let r := x.rnd * c.rbHundredths n / 100000
    match s.snOn n x.sn with
    | some l => ((s.inc (Reg.RNG_CNT_DUP n)).rngEvent n 2 l x.sn 0).raise 33 n
    | none =>
      match if c.pairValid n then s.snOn (pairOf n) x.sn else none with
      | some l => ((s.inc (Reg.RNG_CNT_DUP_PAIR n)).rngEvent n 3 l x.sn 0).raise 33 n
      | none =>
        match s.bit (Reg.RNG_DISC n) 11, if s.mayAssign n then s.lowestFree n else none with
        | true, some l => (s.inc (Reg.RNG_CNT_SN_OK n)).assignIdx n l x.sn x.off r
        | true, none => s.inc (Reg.RNG_CNT_SN_DEFER n)
        | false, _ =>
          if s.pend n then s.inc (Reg.RNG_CNT_SN_DEFER n)
          else
            let s := (s.wr (Reg.RNG_PEND_SN0 n) (wordOf x.sn 0)).wr (Reg.RNG_PEND_SN1 n) (wordOf x.sn 1)
            let s := s.setRport n { s.rport n with pendOff := x.off, pendRnd := r }
            ((s.setB (Reg.RNG_STATUS n) 2 true).inc (Reg.RNG_CNT_SN_OK n)).rngEvent n 1 0 x.sn 0

/-- The pending slot empty. -/
def State.emptyPend (s : State) (n : Nat) : State :=
  (((s.wr (Reg.RNG_PEND_SN0 n) 0).wr (Reg.RNG_PEND_SN1 n) 0).setB (Reg.RNG_STATUS n) 2 false).setRport n
    { s.rport n with pendOff := 0, pendRnd := 0 }

/-- ASSIGN_TIMEOUT: ASSIGN_TO has passed since SN_FOUND (R137). -/
def execAssignTimeout (n : Fin 32) (s : State) : Res :=
  .next (if s.pend n then (s.emptyPend n).inc (Reg.RNG_CNT_SN_DEFER n) else s)

/-! Software commands (Table 04.9). OP and LOCAL are stored as written; the command ends at once, so BUSY reads 0. -/

/-- The command word of RNG_n_CMD, GO apart. -/
def State.rngCmd (s : State) (n op l : Nat) : State := s.wr (Reg.RNG_CMD n) (BitVec.ofNat 32 (2 ^ 24 * op + l))

/-- A refused command. -/
def State.rngRefused (s : State) (n : Nat) : State := s.inc (Reg.RNG_CNT_REFUSED n)

/-- ASSIGN (R137, R138, R685). -/
def execRngAssign (n : Fin 32) (l : Fin 512) (s : State) : Res :=
  s.opWrite (Reg.RNG_CMD n) <|
  let s := s.rngCmd n 0 l
  if s.pend n && s.termSt n l == 0 && s.mayAssign n then
    let sn := (s.rd (Reg.RNG_PEND_SN0 n)).toNat + 2 ^ 32 * (s.rd (Reg.RNG_PEND_SN1 n)).toNat
    let p := s.rport n
    .next ((s.emptyPend n).assignIdx n l sn p.pendOff p.pendRnd)
  else .next (s.rngRefused n)

/-- REJECT (R137). -/
def execRngReject (n : Fin 32) (l : Fin 512) (s : State) : Res :=
  s.opWrite (Reg.RNG_CMD n) <|
  let s := s.rngCmd n 1 l
  .next (if s.pend n then s.emptyPend n else s.rngRefused n)

/-- RERANGE (Table 04.3). -/
def execRngRerange (n : Fin 32) (l : Fin 512) (s : State) : Res :=
  s.opWrite (Reg.RNG_CMD n) <|
  let s := s.rngCmd n 2 l
  .next (if s.termSt n l == 2 || s.termSt n l == 3 then s.rerange n l else s.rngRefused n)

/-- DEACTIVATE: the BRX entry at once, the entry to FREE when the message is sent (Table 04.3, R154, R686). -/
def execRngDeactivate (n : Fin 32) (l : Fin 512) (s : State) : Res :=
  s.opWrite (Reg.RNG_CMD n) <|
  let s := s.rngCmd n 3 l
  .next (if s.termSt n l == 0 then s.rngRefused n else (s.tellInvalid n l).deactivate n l true)

/-- INVALIDATE (R152). -/
def execRngInvalidate (n : Fin 32) (l : Fin 512) (s : State) : Res :=
  s.opWrite (Reg.RNG_CMD n) <|
  .next ((s.rngCmd n 4 l).tellInvalid n l)

/-! Directed ranging (R139 to R143). -/

/-- A ranging grant of the terminal is pending in GNT, stands in a page, or has left its page and no result of it has been handled:
what the control plane knows of it (R14). -/
def State.rangingTrace (s : State) (n l : Nat) : Bool :=
  (s.gport n).rngQ.contains l ||
    ((s.gport n).pages.any fun g => g.ents.any fun e => e.kind == 1 && strLocal e.stream == l) ||
    (s.rport n).flying.contains l || (s.rport n).results.any fun r => r.ranging && r.l == l

/-- RANGING_REQUEST: a ranging grant for a terminal in RANGING whose assignment has been sent and whose last request has
ended in an attempt, or was lost with a reset of GNT or BRX (R139, R187). -/
def execRangingRequest (n : Fin 32) (l : Fin 512) (s : State) : Res :=
  let t := s.term n l
  if s.termSt n l == 1 && !t.assigning && !(t.asked && s.rangingTrace n l) && !t.waiting && !t.leaving then
    let p := s.gport n
    .next (((s.setTerm n l { t with asked := true }).setGport n { p with rngQ := p.rngQ ++ [l.val] }).tellExpect n l)
  else .next s

/-- The first result of a kind that no earlier result of its terminal stands before. -/
def firstOf (p : RngResult → Bool) : List Nat → List RngResult → Option RngResult
  | _, [] => none
  | seen, r :: t => if p r && !seen.contains r.l then some r else firstOf p (r.l :: seen) t

/-- The oldest result of a kind, and the state without it: results of one terminal are taken in order, and those of bursts that
began before its last entry to FREE or RANGING are gone (R154). -/
def State.takeResult (s : State) (n : Nat) (p : RngResult → Bool) : Option (RngResult × State) :=
  let q := s.rport n
  let live := q.results.filter fun r => r.gen == (s.term n r.l).gen
  match firstOf p [] live with
  | none => none
  | some r => some (r, s.setRport n { q with results := live.erase r })

/-- RANGING_BURST: the oldest good ranging burst; one that no request of the terminal in RANGING waits for is discarded (R140
to R142, R154, R155). It is the first good burst on a path taken over (R557). DESIGN CHOICE: RTD of the context takes a value in the
range of R141 only, of which no rule says more (log 70). -/
def execRangingBurst (n : Fin 32) (s : State) : Res :=
  match s.takeResult n fun r => r.ranging && r.off.isSome with
  | none => .next s
  | some (r, s) =>
    if s.termSt n r.l != 1 || !(s.term n r.l).asked then .next s
    else
      let off := r.off.getD 0
      let c := s.rngSees n
      let rtd : Int := off / 64 + c.teq n - c.pd n
      let t := s.term n r.l
      let s := s.setTerm n r.l { t with fails := 0, asked := false, unproven := false }
      if rtd < c.rtdMin n ∨ (c.teq n : Int) < rtd then
        .next (((s.inc (Reg.RNG_CNT_RANGE_ERR n)).rngPlain n 6 r.l).deactivate n r.l false)
      else
        let s := s.setF (Reg.RNG_CTX n r.l 2) 27 0 rtd.toNat
        let s := s.setTerm n r.l { s.term n r.l with waiting := true, newEqd := c.teq n - rtd, newOff := off % 64 }
        .next (s.sendEqd n r.l (c.teq n - rtd))

/-- RANGING_ATTEMPT_FAIL: the oldest ranging burst that was bad or did not arrive (R143). -/
def execRangingAttemptFail (n : Fin 32) (s : State) : Res :=
  match s.takeResult n fun r => r.ranging && r.off.isNone with
  | none => .next s
  | some (r, s) =>
    if s.termSt n r.l != 1 || !(s.term n r.l).asked then .next s
    else
      let t := s.term n r.l
      let s := s.setTerm n r.l { t with fails := t.fails + 1, asked := false }
      if 3 ≤ t.fails + 1 then .next (((s.inc (Reg.RNG_CNT_RANGE_FAIL n)).rngPlain n 5 r.l).deactivate n r.l false)
      else .next s

/-! Tracking (R144 to R148, Table 04.3). -/

/-- A confirmed adjustment (R147). -/
def State.confirmAdjust (s : State) (n l : Nat) (d : Int) : State :=
  let t := s.term n l
  let s := (s.setEqd n l ((s.eqd n l : Int) - t.delta)).setOffF n l (s.offF n l - 64 * t.delta)
  let s := (s.setB (Reg.RNG_CTX n l 0) 16 false).setTerm n l { t with delta := 0, sends := 0, waiting := false }
  let s := (s.tellExpect n l).filterOff n l d
  (s.rngEvent n 7 l 0 (s.eqd n l)).publish n l

/-- OFFSET_TRACK: the oldest good burst of a terminal in OPER or LOST (R144 to R147, R154, R557). -/
def execOffsetTrack (n : Fin 32) (s : State) : Res :=
  match s.takeResult n fun r => !r.ranging && r.off.isSome with
  | none => .next s
  | some (r, s) =>
    let l := r.l
    if !(s.termSt n l == 2 || s.termSt n l == 3) then .next s
    else
      let d := r.off.getD 0
      let s := s.setF (Reg.RNG_CTX n l 0) 27 24 0
      let s := s.setTerm n l { s.term n l with unproven := false }
      if 64 * s.driftLim n < d.natAbs then .next (s.rerange n l)
      else
        let s := if s.termSt n l = 3 then (s.setTermSt n l 2).publish n l else s.settleRec n l
        if s.adjPend n l then
          if (d - (s.offF n l - 64 * (s.term n l).delta)).natAbs ≤ 128 then .next (s.confirmAdjust n l d) else .next s
        else .next (s.filterOff n l d)

/-- PEND_TIMEOUT: PEND_TO has passed since the adjustment was sent (R148). A terminal in LOST is not re-ranged: Table 04.3
gives it no such row. -/
def execPendTimeout (n : Fin 32) (l : Fin 512) (s : State) : Res :=
  let t := s.term n l
  if !s.adjPend n l || t.waiting then .next s
  else if t.sends ≤ 1 then
    .next ((s.setTerm n l { t with waiting := true }).sendEqd n l ((s.eqd n l : Int) - t.delta))
  else if s.termSt n l = 2 then .next ((s.rngPlain n 8 l).rerange n l)
  else .next s

/-- LOCK_FAIL_REPORT: the oldest failed lock of a granted burst (R105, R151, R154). -/
def execLockFailReport (n : Fin 32) (s : State) : Res :=
  match s.takeResult n fun r => !r.ranging && r.off.isNone with
  | none => .next s
  | some (r, s) =>
    let l := r.l
    if !(s.termSt n l == 2 || s.termSt n l == 3) then .next s
    else
      let s := s.satField (Reg.RNG_CTX n l 0) 27 24 1
      if s.termSt n l = 2 ∧ s.fld (Reg.RNG_TRACK n) 31 28 ≤ s.fld (Reg.RNG_CTX n l 0) 27 24 then
        .next (((s.setTermSt n l 3).inc (Reg.RNG_CNT_LOST n)).rngPlain n 10 l)
      else .next s

/-- LOST_TIMEOUT: LOST_TO has passed in LOST (Table 04.3). -/
def execLostTimeout (n : Fin 32) (l : Fin 512) (s : State) : Res :=
  .next (if s.termSt n l == 3 && !(s.term n l).leaving then s.deactivate n l true else s)

/-- RECORD_PUBLISH: 10 ms have passed and OFF_F has changed since the last publication (R157). -/
def execRecordPublish (n : Fin 32) (l : Fin 512) (s : State) : Res :=
  .next (if s.offF n l != (s.term n l).pubOff then s.publish n l else s)

end Sys2Proof.Machine
end

