-- ==== Sys2Proof/Machine/Repair.lean ====
section
/-! DEFINITION. Crossings between domains (R18, R21), the acknowledgement of faults with its reactions (20 R596 to R602; 18
R545, R546), and the self-repair of memories and pipelines (R38 to R45). -/

namespace Sys2Proof.Machine

/-- The oldest item of a crossing becomes visible, and its consumer acts on it: BRX invalidates an entry, GNT takes the kinds of a page,
RNG a burst of a discovery window. -/
def State.consume (s : State) (c n : Nat) : State :=
  let t := s.crossVisible c n
  match (s.crossing (32 * c + n)).items.head? with
  | some (.inval l) => t.invalidate n l
  | some (.kinds f ks) => t.kindsSeen n f ks
  | some (.serial x) => t.serialSeen n x
  | _ => t

/-- DCQ_ITEM_VISIBLE: the items of a dual-clock queue become visible, in the order written (R21). -/
def execDcqItemVisible (x : Crossing) (s : State) : Res :=
  match x with
  | .report m =>
    let f := s.gnt.fifo.look {} m
    let g : RptFifo := { f with items := f.items ++ f.hidden.take 1, hidden := f.hidden.drop 1 }
    .next { s with gnt := { s.gnt with fifo := s.gnt.fifo.put {} m g } }
  | .ploam n =>
    let p := s.rport n
    .next (s.setRport n { p with queue := p.queue ++ p.hidden.take 1, hidden := p.hidden.drop 1 })
  | .results n => .next (s.crossVisible 0 n)
  | .expect n => .next (s.consume 1 n)
  | .memory n => .next (s.consume 2 n)
  | .port n => .next (s.crossVisible 3 n)
  | .streams n => .next (s.crossVisible 4 n)
  | .messages n => .next (s.consume 5 n)
  | .counts n => .next (s.crossVisible 6 n)
  | .tods n => .next (s.crossVisible 7 n)
  | .stamps n => .next (s.crossVisible 8 n)
  | .wipes n => .next (s.crossVisible 9 n)

/-! Fault sources (R18, R597, R608). -/

/-- FAULT_SOURCE_EVENT: an event of a source with its INFO; a credit mismatch has its producer block, queue and difference
(R611), an event of MTN_F_UCODE says whether the base image was refused (R595), and one of HIF_F_RING is a completion or record write of
ring `info` that has failed (R572, Table 19.4). -/
def execFaultSourceEvent (src : Fin 52) (info : BitVec 16) (baseImage : Bool) (blk : Fin 22) (queue : BitVec 16)
    (diff : Word) (s : State) : Res :=
  let k := src.val
  .next (if k = 50 then (if s.mateRole then s.raiseLevel src info.toNat else s)
    else if k = 0 || k = 1 || k = 2 || k = 6 then s.raiseLevel src info.toNat
    else if k = 44 && s.up 17 && info.toNat < 1024 && s.bit (Reg.HIF_RING info.toNat 0) 31 && !s.bit (Reg.HIF_RING info.toNat 2) 31 then
      s.ringError info.toNat 3
    else if k = 14 then
      s.raiseWith k info.toNat false (some { blk := blk, queue := queue.toNat, diff := diff, time := s.now40 })
    else s.raiseWith k info.toNat (k == 22 && baseImage) none)

/-! Acknowledgement (R596). -/

/-- Cause PORT on the members that the held events of TPA, BRX and DFR name, of class Serious or higher (Table 18.3). -/
def State.portCauses (s : State) (acked : List (Nat × Latch)) : State :=
  let hit := fun (n : Nat) => acked.any fun x =>
    ((26 ≤ x.1 && x.1 ≤ 28) || x.1 == 29 || x.1 == 30 || x.1 == 31) && decide (2 ≤ s.clsOf x.1) && x.2.ports.getLsbD n
  (List.range 32).foldl (fun s n => if s.pst n == 1 && hit n then s.causeDetected n 2 else s) s

/-- The Fatal state begins: PON_TXEN of every port, the PPS and the clock outputs are low (Table 20.3), and each ACTIVE member
has cause PORT. -/
def State.fatalPorts (s : State) : State :=
  let s := s.outsLow.txenSettleAll
  (List.range 32).foldl (fun s n => if s.pst n == 1 then s.causeDetected n 2 else s) s

/-- FLT is in reset: under a reset that clears it, until the first step of phase 7 (Tables 21.2, 21.4). -/
def State.fltHeld (s : State) : Bool :=
  s.rcp.releasing.any ResetSrc.clearsFlt && (decide (s.rcp.phase < 7) || (s.rcp.phase == 7 && s.rcp.domains == 0))

/-- FAULT_ACK: FLT acknowledges the latches of some sources at one CLK_AON edge; `sameCycle` says that the last injection
falls in it (R596, R598, R602, R610, R546). While FLT is in reset it acknowledges nothing (Table 21.4). -/
def execFaultAck (srcs : BitVec 52) (sameCycle : Bool) (s : State) : Res :=
  let acked := s.flt.latch.filter fun x => srcs.getLsbD x.1
  let fatal := s.flt.fatal
  let run := s.aliveRun
  if s.fltHeld then .next s
  else
    let s := (s.ackAll srcs sameCycle).portCauses acked
    let s := if s.flt.fatal && !fatal then s.fatalPorts else s
    .next (s.mateDarken run)

/-! Memories (R38, R39, R42, R43). -/

/-- MEMORY_ERROR_RETRY: a word read with an error is rewritten and read again; `unc` says that it is uncorrectable, `again`
that the second read shows an error too. -/
def execMemoryErrorRetry (blk : Fin 22) (macro_ row : BitVec 16) (unc again : Bool) (s : State) : Res :=
  let s := if unc then s.raise 9 blk else s.raise 8 blk
  let key := 65536 * blk.val + macro_.toNat
  let used := s.rcp.rowsUsed.look 0 key
  let item := (blk.val, macro_.toNat, row.toNat)
  .next (if !again || s.rcp.copying.contains item then s
    else if 4 ≤ used then s.raise 12 blk
    else { s with rcp := { s.rcp with rowsUsed := s.rcp.rowsUsed.put 0 key (used + 1), copying := s.rcp.copying ++ [item] } })

/-- ROW_REMAP_DONE: the copy of a row completes; the last spare row of a macro is consumed when no other copy of the macro goes on
(R39, R43). -/
def execRowRemapDone (blk : Fin 22) (macro_ row : BitVec 16) (s : State) : Res :=
  let item := (blk.val, macro_.toNat, row.toNat)
  .next (if !s.rcp.copying.contains item then s
    else
      let s : State := { s with rcp := { s.rcp with copying := s.rcp.copying.erase item } }
      let s := s.repairDone 2 blk (65536 * macro_.toNat + row.toNat)
      let key := 65536 * blk.val + macro_.toNat
      let last := s.rcp.rowsUsed.look 0 key == 4 && !s.rcp.copying.any fun x => 65536 * x.1 + x.2.1 == key
      if last then s.raise 11 blk else s)

/-! Pipelines (R38, R40, R42). -/

/-- A packet in a pipeline is dropped: its buffer, if it has one, is freed by the pipeline's code (Table 13.6). -/
def State.pipeDrop (s : State) (p : Nat) (k : Pkt) (counted : Bool) : State :=
  let s := (if counted then s.inflStep k.epoch false else s).pipeSlot p 1
  match k.buf with
  | some b => (s.setOwner b (0x40 + p)).free b (0x40 + p)
  | none => s

/-- The packet in error of a pipeline is dropped. DESIGN CHOICE: it is the head of the pipeline's recirculation queue, or else the
oldest new packet: the spec does not say which packet of a pipeline an error strikes (Table 01.8, R40; log 74). -/
def State.dropInPipe (s : State) (p : Nat) : State :=
  match s.cls.recirc.look [] p, s.cls.ingress with
  | k :: rest, _ => ({ s with cls := { s.cls with recirc := s.cls.recirc.put [] p rest } } : State).pipeDrop p k true
  | [], k :: rest => ({ s with cls := { s.cls with ingress := rest } } : State).pipeDrop p k false
  | [], [] => s

/-- A pipeline is retired: its packets are dropped, and the spare takes its place if there is one. -/
def State.retirePipe (s : State) (p : Nat) : State :=
  let q := s.cls.recirc.look [] p
  let s : State := { s with cls := { s.cls with recirc := s.cls.recirc.put [] p [] } }
  let s := q.foldl (fun s k => s.pipeDrop p k true) s
  let spare := sparePipe (setBitW s.rcp.pipes p false) (setBitW s.rcp.pipesRetired p true)
  let s : State := { s with rcp := { s.rcp.dropPipe p with pipeWatch := setBitW s.rcp.pipeWatch p false } }
  let s := s.repairDone 4 9 p
  match spare with
  | some _ => s.raise 11 p
  | none => s.raise 12 p

/-- PIPELINE_ERROR: the packet in error is dropped; a second error within the watch of 1 s is lasting. -/
def execPipelineError (p : Fin 5) (s : State) : Res :=
  if !s.rcp.pipes.getLsbD p then .next s
  else
    let s := (s.dropInPipe p).raise 13 p
    .next (if s.rcp.pipeWatch.getLsbD p then s.retirePipe p
      else { s with rcp := { s.rcp with pipeWatch := setBitW s.rcp.pipeWatch p true } })

/-- PIPELINE_WATCH_EXPIRE: 1 s has passed without a second error (Table 01.8). -/
def execPipelineWatchExpire (p : Fin 5) (s : State) : Res :=
  .next { s with rcp := { s.rcp with pipeWatch := setBitW s.rcp.pipeWatch p false } }

end Sys2Proof.Machine
end

