-- ==== Sys2Proof/Machine/Flt.lean ====
section
/-! DEFINITION. The commands of fault collection (20): status and record clears, classes, the heartbeat, injection, the
recovery clear and the lock. The quiet timer stands in Reset.lean. -/

namespace Sys2Proof.Machine

/-- Address of the word of FLT_STATUS or FLT_INJ_STATUS that holds a half. -/
def fltHalf (hi : Bool) : Nat := if hi then Reg.FLT_STATUS_HI else Reg.FLT_STATUS_LO

/-- The bits of a half of FLT_STATUS whose level source has its condition (R597). -/
def State.activeHalf (s : State) (hi : Bool) : Word := BitVec.ofNat 32 (if hi then fldW s.flt.active 51 32 else fldW s.flt.active 31 0)

/-- FLT_STATUS_CLEAR: a write of v to FLT_STATUS_LO, or with hi to FLT_STATUS_HI (R596, R597). -/
def execFltStatusClear (hi : Bool) (v : Word) (s : State) : Res :=
  s.opWrite (fltHalf hi) <|
    let a := fltHalf hi
    let s1 := s.wr a (s.rd a &&& ~~~(v &&& ~~~s.activeHalf hi))
    .next (if s1.latched 22 then s1 else { s1 with flt := { s1.flt with ucodeBase := false } })

/-- SOURCE_CLASS_WRITE: CLASS of FLT_SRC_src (R594, R31, R612, R666). A fixed source and a Weld source below Serious are
ignored. The heartbeat may stop, which darkens mate members (R546). -/
def execSourceClassWrite (src : Fin 52) (cls : Fin 4) (s : State) : Res :=
  s.opWrite (Reg.FLT_SRC src) <|
    let a := Reg.FLT_SRC src
    if s.bit a 5 || (s.bit a 4 && decide (cls.val < 2)) || s.fld a 1 0 = cls.val then .next s
    else if s.flt.lock then .next (s.inc Reg.FLT_CNT_REFUSED)
    else .next ((s.setF a 1 0 cls).mateDarken s.aliveRun)

/-- FFR_CLEAR: a write of one to FLT_FFR_INFO.VALID clears the record and arms it (R598). -/
def execFfrClear (s : State) : Res :=
  s.opWrite Reg.FLT_FFR_INFO <|
    .next ((((((s.wr Reg.FLT_FFR_INFO 0).wr Reg.FLT_FFR_TIME_LO 0).wr Reg.FLT_FFR_TIME_HI 0).wr Reg.FLT_FFR_AON_LO 0).wr
      Reg.FLT_FFR_AON_HI 0))

/-- ALIVE_TOGGLE: ALIVE_US has passed since the last toggle or the last stop (R599). -/
def execAliveToggle (s : State) : Res :=
  .next (if s.aliveRun then { s with flt := { s.flt with alive := !s.flt.alive } } else s)

/-- FLT_INJ: a write of GO = 1 with SOURCE; `sameCycle` says that the last acknowledgement fell in its cycle (R609, R610,
R601). -/
def execFltInj (src : Fin 64) (sameCycle : Bool) (s : State) : Res :=
  s.opWrite Reg.FLT_INJ <|
    let s := s.setF Reg.FLT_INJ 5 0 src
    if 51 < src.val then .next (s.inc Reg.FLT_CNT_REFUSED)
    else
      let s := if src.val < 32 then s.setB Reg.FLT_INJ_STATUS_LO src true else s.setB Reg.FLT_INJ_STATUS_HI (src - 32) true
      let s := if s.bit (Reg.FLT_SRC src) 3 then s.signal .op (s.fld Reg.FLT_INT 24 16) else s
      let hit := sameCycle && s.flt.lastAck.getLsbD src
      let s := if hit then s.setB Reg.FLT_STATE 6 true else s
      let s := if hit && s.flt.lastRec == some src.val then s.setB Reg.FLT_FFR_INFO 30 true else s
      .next { s with flt := { s.flt with lastInj := some src.val } }

/-- PCO (R606), kept in the Sett (Table 21.6). -/
def State.pco (s : State) : Bool := s.bit (Reg.RCP_RET 0x1000) 31

/-- Every entry of the recovery history is zero (Table 21.16). -/
def State.clearHistory (s : State) : State := (List.range 32).foldl (fun s i => s.wr (Reg.RCP_RET (0x1008 + 4 * i)) 0) s

/-- FLT_RCV_CLR: a write of v; `late` says that more than 1 ms has passed since the write before it (R607). The keys are
0xC3 and 0x3C. Clearing PCO empties the history, whose entries from COUNT upward are zero (Table 21.16). -/
def execFltRcvClr (v : Word) (late : Bool) (s : State) : Res :=
  s.opWrite Reg.FLT_RCV_CLR <|
    let key := fun (s : State) (b : Bool) => ({ s with flt := { s.flt with clrKey := b } } : State)
    if s.flt.clrKey then
      if v = 0x3C && !late then
        .next ((key s false).clearHistory.wr (Reg.RCP_RET 0x1000) (setFldW (setBitW (s.rd (Reg.RCP_RET 0x1000)) 31 false) 4 0 0))
      else .next ((key s (v == 0xC3)).inc Reg.FLT_CNT_REFUSED)
    else if v = 0xC3 then .next (key s true)
    else .next (s.inc Reg.FLT_CNT_REFUSED)

/-- FLT_LOCK: a write of LOCK = 1 (R612). -/
def execFltLock (s : State) : Res := s.opWrite Reg.FLT_CTRL (.next { s with flt := { s.flt with lock := true } })

/-- MATE_ALIVE_LOSS: MATE_ALIVE_IN has shown no edge for FLT_MATE.TO microseconds (R608). -/
def execMateAliveLoss (s : State) : Res := .next (if s.mateRole then s.raiseLevel 50 0 else s)

/-- LEVEL_CONDITION_ABSENT: the condition of a level source has been absent for a CLK_AON cycle (R597). -/
def execLevelConditionAbsent (src : Fin 52) (s : State) : Res :=
  .next { s with flt := { s.flt with active := setBitW s.flt.active src.val false } }

end Sys2Proof.Machine
end

