-- ==== Sys2Proof/Machine/FrameTick.lean ====
section
/-! DEFINITION. What a frame tick does in every block (R270): the superframe counter, the pages that open, the interchange, the
key switches, the logical engines. -/

namespace Sys2Proof.Machine

/-- The superframe counter advances, or is loaded (R271, R272). -/
def State.advanceSfc (s : State) : State :=
  let n := if s.dfr.load then (s.rd Reg.DFR_SFC_SET_LO).toNat + 2 ^ 32 * s.fld Reg.DFR_SFC_SET_HI 18 0 else (s.sfc + 1) % 2 ^ 51
  let s := (s.wr Reg.DFR_SFC_LO (wordOf n 0)).setF Reg.DFR_SFC_HI 18 0 (n / 2 ^ 32)
  if s.dfr.load then { (s.setB Reg.DFR_CTRL 0 false) with dfr := { s.dfr with load := false } } else s

/-- A pending switch of terminal t to a slot takes place; its record carries S (R468, R469). -/
def State.switchKey (s : State) (t slot at_ : Nat) : State :=
  let other := 3 - slot
  let s := if s.slotSt t other = 2 then s.setSlot t other 1 else s
  let s := (s.setSlot t slot 2).setF (Reg.CRY_TK t 0) 31 30 slot
  let s := (s.setB (Reg.CRY_TK t 0) 23 false).wr (Reg.CRY_TK t 3) 0
  ({ s with cry := { s.cry with switches := s.cry.switches.drop t } } : State).cryEvent 1 t slot at_

/-- Every key switch whose S is the counter's value. -/
def State.switchKeys (s : State) : State :=
  (s.cry.switches.filter fun x => x.2.2 == s.sfc).foldl (fun s x => s.switchKey x.1 x.2.1 x.2.2) s

/-- FT: blocks in reset take no part. -/
def State.frameTick (s : State) : State :=
  let s := if s.up 5 then s.advanceSfc else s
  let s := if s.up 3 then (List.range 32).foldl (fun s n => s.openPage n ((s.sfc + 2) % 2 ^ 51)) s else s
  let s := if s.up 7 then s.tceTick else s
  let s := if s.up 13 then s.switchKeys else s
  if s.up 4 then (List.range 16).foldl (fun s l => s.engTick l s.sfc) s else s

end Sys2Proof.Machine
end

