-- ==== Sys2Proof/Machine/SisOps.lean ====
section
/-! DEFINITION. How a logical engine runs one instruction of its program memory (07): dispatch, exceptions in the order of
R689, and completion. -/

namespace Sys2Proof.Machine

/-- What an instruction's own operation comes to: done, going on at the next address; done, going on at a target that must
lie in the segment; done, going on at any address; waiting, to be tried again; an exception; done, and the program stops. -/
inductive SisRes
  | done (s : State) (cycles : Nat) (susp : Bool)
  | jump (s : State) (target : Int) (cycles : Nat)
  | goto (s : State) (pc : Nat) (cycles : Nat)
  | wait (s : State)
  | exc (code : Nat)
  | stop (s : State) (cycles : Nat)

/-- The engine can run an instruction now: its program runs or waits for mail, MTN is up, no Fatal state halts it, and its
budget is not spent. -/
def State.engReady (s : State) (l : Nat) : Bool :=
  let e := s.eng l
  (e.st == .running || e.st == .waitMail) && s.up 4 && !s.flt.fatal && s.bound l &&
    !(e.tenantCode && (e.call.any fun c => c.left == 0))

/-- An instruction whose operation has come to r ends, or waits (R250, R261). DESIGN CHOICE, log 77: a resumed long instruction at the last
word of its segment raises XSEG with no effect (R689), so that it stays suspended, though R224 clears SUSP on the resume. -/
def State.sisFinish (s : State) (l : Nat) (r : SisRes) : State :=
  let pc := (s.eng l).pc
  match r with
  | .done t c susp => if (pc + 1) % 512 = 0 then s.sisExc l 3 else t.sisEnd l pc (pc + 1) c susp
  | .jump t x c => if x / 512 = (pc : Int) / 512 then t.sisEnd l pc x.toNat c false else s.sisExc l 3
  | .goto t x c => t.sisEnd l pc x c false
  | .wait t => if (pc + 1) % 512 = 0 then s.sisExc l 3 else t
  | .exc code => s.sisExc l code
  | .stop t c => (t.sisEnd l pc pc c false).engStop l

/-- One instruction of opcode op runs on engine l, if it is the one at its program counter; an opcode that is not listed
raises XILL (R247). -/
def State.sisRun (s : State) (l : Fin 16) (op : Nat) (f : State → Engine → Word64 → SisRes) : Res :=
  let e := s.eng l
  let w := e.prog.look 0 e.pc
  if !s.engReady l || (iOp w != op && sisListed (iOp w)) then .next s
  else
    let s := s.dispatch l
    .next (s.sisFinish l (if iOp w = op then f s (s.eng l) w else .exc 1))

/-- The end of a register instruction: g[d] takes r, the flags follow (R249). -/
def State.alu (s : State) (l : Nat) (e : Engine) (w r : Word64) (c v : Bool) (cycles : Nat) : SisRes :=
  .done (s.setEng l ((e.put (iD w) r).setZNCV r c v)) cycles false

/-- A register-format operation on g[a] and g[b] (Table 07.5). -/
def sisReg (l : Fin 16) (cycles : Nat) (r : Word64 → Word64 → Word64) (c v : Word64 → Word64 → Bool)
    (s : State) (e : Engine) (w : Word64) : SisRes :=
  let a := e.get (iA w)
  let b := e.get (iB w)
  if zeroReg w && iAux w == 0 then s.alu l e w (r a b) (c a b) (v a b) cycles else .exc 1

/-- An immediate-format operation on g[a] and IMM (Table 07.5). -/
def sisImm (l : Fin 16) (cycles : Nat) (ok : Word64 → Bool) (r : Word64 → Word64 → Word64) (c v : Word64 → Word64 → Bool)
    (s : State) (e : Engine) (w : Word64) : SisRes :=
  let a := e.get (iA w)
  let b := iImm w
  if zeroImm w && ok w then s.alu l e w (r a b) (c a b) (v a b) cycles else .exc 1

/-- No carry, no overflow. -/
def none2 (_ _ : Word64) : Bool := false

/-- Tenant code at the engine's address. -/
def privileged (e : Engine) (r : SisRes) : SisRes := if e.tenantCode then .exc 2 else r

end Sys2Proof.Machine
end

