-- ==== Sys2Proof/Machine/Micro.lean ====
section
/-! DEFINITION. The control stores of the Marten engines (06 R209 to R213): the microword, the micro-sequencer that runs the
micro-routine of an instruction, and which of its steps are engine faults (R227). The spec gives operations by group only (Table
06.4): what an operation of Maeluno's image computes is a free value, and a SIS instruction's own meaning is that of 07. -/

namespace Sys2Proof.Machine

/-! The microword (Table 06.1). -/

def uOp (w : Word) : Nat := fldW w 31 26
def uSelA (w : Word) : Nat := fldW w 25 20
def uSelB (w : Word) : Nat := fldW w 19 14
/-- Cycles taken. -/
def uLen (w : Word) : Nat := fldW w 13 12 + 1
def uCond (w : Word) : Nat := fldW w 11 8
def uImm (w : Word) : Nat := fldW w 7 0
/-- IMM of a sequencing operation. -/
def uOff (w : Word) : Int := signedN 8 (uImm w)

/-! The stores (R211 to R213, Table 06.5). -/

/-- Microwords of a store, and the first word of its patch area and of its dispatch table. -/
def csWords : Nat := 16384
def patchBase : Nat := 0x3C00
def dispatchBase : Nat := 0x3F00

/-- The control store of a physical engine by word. -/
def State.store (s : State) (p : Nat) : Tab Word := s.mtn.stores.look [] p

/-- All 18 stores are written together, with one content (R211, R213). -/
def State.writeStores (s : State) (t : Tab Word) : State :=
  { s with mtn := { s.mtn with stores := if t = [] then [] else (List.range 18).map fun p => (p, t) } }

/-- An image, from word 0 on, as the content of a store. -/
def imageStore (ws : List Word) : Tab Word :=
  ((ws.take csWords).zipIdx.filter fun x => x.1 != 0).map fun x => (x.2, x.1)

/-- The CRC-32C of a store's content, each word as four bytes, the lowest first (R212; the form of R380). -/
def storeCrc (t : Tab Word) : Word :=
  BitVec.ofNat 32 (crc32c 0xFFFFFFFF ((List.range csWords).flatMap fun a => bytesLE 4 (t.look 0 a).toNat))

/-- A patch writes its words (R213). -/
def patchStore (t : Tab Word) (ws : List (BitVec 14 × Word)) : Tab Word :=
  ws.foldl (fun t x => t.put 0 x.1.toNat x.2) t

/-! The micro-sequencer (R209, R210). -/

/-- The state of a micro-routine: its micro-address, the flags of Table 06.2, the micro-temporaries U0 to U15, status and data of the last
port access, the poll made at the last safe point, and the engine with what it has written so far. -/
structure MicroRegs where
  addr : Nat := 0
  flags : BitVec 4 := 0
  temp : Tab Word64 := []
  status : Word64 := 0
  data : Word64 := 0
  polled : Bool := false
  eng : Engine := {}
  deriving DecidableEq, Repr

/-- An engine in the micro-routine of one instruction: its state, microwords executed since the last safe point, cycles taken, and the
checkpoint of the last safe point (R222). -/
structure Micro extends MicroRegs where
  since : Nat := 0
  cycles : Nat := 0
  saved : Option MicroRegs := none
  deriving DecidableEq, Repr

/-- The entry of the micro-routine of the instruction at the engine's address (Table 06.5). DESIGN CHOICE, log 77: temporaries, flags, port
status and data are zero there, and no poll has found an event; the spec gives no entry value. -/
def State.microStart (s : State) (l : Nat) : Micro :=
  let e := s.eng l
  { addr := fldW ((s.store (s.phys l)).look 0 (dispatchBase + iOp (e.prog.look 0 e.pc))) 13 0, eng := e }

/-- An operand selector as it reads (Table 06.3): general registers, temporaries, the fields of the instruction at pc (Table 07.4), the
engine's registers, the port, the clock; reserved codes read zero. -/
def State.microRead (s : State) (pc : Nat) (m : Micro) (sel : Nat) : Word64 :=
  let i := m.eng.prog.look 0 pc
  if sel < 0x20 then m.eng.get sel
  else if sel < 0x30 then m.temp.look 0 (sel - 0x20)
  else match sel with
    | 0x30 => BitVec.ofNat 64 (iD i)
    | 0x31 => BitVec.ofNat 64 (iA i)
    | 0x32 => BitVec.ofNat 64 (iB i)
    | 0x33 => BitVec.ofNat 64 (fldW i 31 0)
    | 0x34 => BitVec.ofNat 64 m.eng.pc
    | 0x35 => m.eng.flags.setWidth 64
    | 0x36 => m.eng.cwb.setWidth 64
    | 0x37 => m.data
    | 0x38 => m.status
    | 0x39 => BitVec.ofNat 64 (s.now % 2 ^ 32)
    | _ => 0

/-- A write through a selector; none is the engine fault of a reserved one. Read-only selectors keep their value. -/
def Micro.write (m : Micro) (sel : Nat) (v : Word64) : Option Micro :=
  if sel < 0x20 then some { m with eng := m.eng.put sel v }
  else if sel < 0x30 then some { m with temp := m.temp.put 0 (sel - 0x20) v }
  else if 0x3A ≤ sel then none
  else some (match sel with
    | 0x34 => { m with eng := { m.eng with pc := v.toNat % 4096 } }
    | 0x35 => { m with eng := { m.eng with flags := v.setWidth 8 } }
    | 0x36 => { m with eng := { m.eng with cwb := v.setWidth 32 } }
    | 0x37 => { m with data := v }
    | _ => m)

/-- The micro loop counter. -/
def Micro.u15 (m : Micro) : Word64 := m.temp.look 0 15

/-- A condition holds (Table 06.2); `resuming` says that a suspended instruction is being resumed. -/
def Micro.cond (m : Micro) (resuming : Bool) (code : Nat) : Bool :=
  match code with
  | 0 => true
  | 1 => m.flags.getLsbD 0
  | 2 => !m.flags.getLsbD 0
  | 3 => m.flags.getLsbD 1
  | 4 => !m.flags.getLsbD 1
  | 5 => m.flags.getLsbD 2
  | 6 => !m.flags.getLsbD 2
  | 7 => m.flags.getLsbD 3
  | 8 => m.u15 == 0
  | 9 => m.u15 != 0
  | 10 => m.status == 0
  | 11 => m.status != 0
  | 12 => m.polled
  | 13 => !m.polled
  | 14 => resuming
  | _ => false

/-- What one microword comes to: the next, the end of the instruction, or an engine fault. -/
inductive MicroEnd
  | goes (m : Micro)
  | ends (m : Micro)
  | faults
  deriving DecidableEq, Repr

/-- A safe point: nothing is left to count, the events are polled, and a checkpoint is written (R222). -/
def Micro.safePoint (m : Micro) : Micro :=
  let r : MicroRegs := { m.toMicroRegs with polled := m.eng.takeable.isSome }
  { m with toMicroRegs := r, since := 0, saved := some r }

/-- The effect of a microword whose condition holds, at the next address (Table 06.4). -/
def State.microEffect (s : State) (pc : Nat) (m : Micro) (w : Word) : MicroEnd :=
  let op : BitVec 6 := BitVec.ofNat 6 (uOp w)
  let a := s.microRead pc m (uSelA w)
  let b := s.microRead pc m (uSelB w)
  let imm : BitVec 8 := BitVec.ofNat 8 (uImm w)
  let next := { m with addr := (m.addr + 1) % csWords }
  if 0x38 ≤ uOp w then .faults
  else if uOp w = 0x37 then .goes next.safePoint
  else if 0x30 ≤ uOp w then
    let moved := { m with addr := (m.addr + uOff w).toNat % csWords, temp := m.temp.put 0 15 (Config.microLoop op m.u15) }
    if Config.microEnds op then .ends moved else if Config.microSafe op then .goes moved.safePoint else .goes moved
  else
    let next := if uOp w < 0x10 then { next with flags := Config.microFlags op a b imm }
      else if 0x18 ≤ uOp w then match Config.microPort op a b imm with
        | some (st, d) => { next with status := st, data := d }
        | none => next
      else next
    match Config.microResult op a b imm with
    | none => .goes next
    | some v => match next.write (uSelA w) v with
      | some m' => .goes m'
      | none => .faults

/-- One microword of engine l (R209, R210): its cycles pass whether or not its condition holds, and more than 1,024 executed, those whose
condition fails among them, without a safe point or the end are a fault (R227). -/
def State.microStep (s : State) (l : Nat) (m : Micro) : MicroEnd :=
  let e := s.eng l
  let w := (s.store (s.phys l)).look 0 m.addr
  let m1 := { m with cycles := m.cycles + uLen w, since := m.since + 1 }
  let r := if m1.cond (e.susp.any fun f => f.pc == e.pc) (uCond w) then s.microEffect e.pc m1 w
    else .goes { m1 with addr := (m1.addr + 1) % csWords }
  match r with
  | .goes m' => if 1024 < m'.since then .faults else .goes m'
  | r => r

/-- The micro-routine faults at its n-th microword from m: the cycles taken before. -/
def State.microFaultAt (s : State) (l : Nat) : Nat → Micro → Option Nat
  | 0, _ => none
  | n + 1, m => match s.microStep l m with
    | .goes m' => s.microFaultAt l n m'
    | .ends _ => none
    | .faults => if n = 0 then some m.cycles else none

end Sys2Proof.Machine
end

