-- ==== Sys2Proof/Machine/Gnt.lean ====
section
/-! DEFINITION. The commands of grant scheduling (05): streams, windows, port settings, report FIFOs, missing pages and the
ledger close. -/

namespace Sys2Proof.Machine

/-- A burst of the policy with the F of its entries that are not void (R177). -/
def State.refit (s : State) (n : Nat) (b : List CalEnt) : List CalEnt :=
  match b with
  | [] => []
  | h :: t =>
    if h.kind == 0 && liveBurst b then
      { h with fin := h.start + (s.gntSees n).burstLen n (s.strRate h.stream) h.asWarm (grantOf b) } :: t
    else b

/-- The stream's entries in pages still open are void, and G and F of their bursts follow (R166, R177); the ranging grants and
discovery windows that GNT placed are no stream's entries (R202). -/
def State.voidOpen (s : State) (st : Nat) : State :=
  let n := strPort st
  let p := s.gport n
  let mine := fun (e : CalEnt) => e.stream == st && (e.kind == 0 || e.kind == 3)
  let voided := fun (b : List CalEnt) => b.map fun e => if mine e then { e with void := true } else e
  s.setGport n { p with pages := p.pages.map fun g =>
    if g.st == .opened then
      { g with ents := (burstsOf g.ents).flatMap fun b => if b.any mine then s.refit n (voided b) else b }
    else g }

/-- GNT_STREAM_COMMIT: a write of word 0 of a stream entry, with its held word 1 (R163 to R166). -/
def execGntStreamCommit (st : BitVec 16) (v : Word) (s : State) : Res :=
  s.opWrite (Reg.GNT_STR_w0 st.toNat) <|
  let i := st.toNat
  let a0 := Reg.GNT_STR_w0 i
  let w1 : Word := s.heldWord .op 4 a0 1 &&& 0xFFF03FFF
  let old := s.rd (Reg.GNT_STR_w1 i)
  let s := s.dropHeld .op 4
  let fixed := (w1 ^^^ old) &&& 0x07F03FFF != 0
  let wasEn := old.getLsbD 31
  let en := w1.getLsbD 31
  if (fixed && (wasEn || !s.strDrained i)) || (en && !wasEn && !s.strDrained i) then .next (s.inc Reg.GNT_CNT_REFUSED)
  else
    let s := ((s.wr a0 (v &&& 0xFFFFF000)).wr (Reg.GNT_STR_w1 i) w1).tell 4 (strPort i) (Reg.GNT_STR_w1 i)
    .next (if wasEn && !en then (s.voidOpen i).dropPartial i else s)

/-- Two windows can fall in the same frame: their phases agree modulo the common part of their periods (R197). -/
def sameFrame (e p e' p' : Nat) : Bool := p % Nat.gcd e e' == p' % Nat.gcd e e'

/-- The window entry that would be stored breaks R197 (its EN is 1). -/
def State.windowBad (s : State) (w : Nat) : Bool :=
  let st := s.wStream w
  let n := strPort st
  let a := s.wOffset w
  let f := s.windowEnd n w
  !s.strSS st || !s.windowRateOk n w || decide (a < (s.gntSees n).guard n) || decide (frameCycles < f) ||
    s.liveWindows.any fun x =>
      x != w && strPort (s.wStream x) == n && sameFrame (s.wEvery w) (s.wPhase w) (s.wEvery x) (s.wPhase x) &&
        touches ((s.gntSees n).guard n) a f ((s.wOffset x : Int), (s.windowEnd n x : Int))

/-- SS_WINDOW_COMMIT: a write of word 0 of a window entry, with its held word 1 (R197). -/
def execSsWindowCommit (w : Fin 2048) (v : Word) (s : State) : Res :=
  s.opWrite (Reg.GNT_SSW_w0 w) <|
  let a0 := Reg.GNT_SSW_w0 w
  let w1 : Word := s.heldWord .op 4 a0 1 &&& 0xFFF8FFFF
  let s := s.dropHeld .op 4
  let s' := (s.wr a0 v).wr (Reg.GNT_SSW_w1 w) w1
  .next (if w1.getLsbD 31 && s'.windowBad w then s.inc Reg.GNT_CNT_REFUSED else s')

/-- GNT_PORT_CFG_WRITE: PAY, GNT_n_CFG or BRX_n_GUARD (R178). -/
def execGntPortCfgWrite (n : Fin 32) (f : PortCfg) (s : State) : Res :=
  s.opWrite (match f with | .pay k _ => Reg.GNT_n_PAY n k | .cfg _ => Reg.GNT_n_CFG n | .guard _ => Reg.BRX_GUARD n) <|
  match f with
  | .pay k v =>
    let w := v.setWidth 32
    .next (if w == s.rd (Reg.GNT_n_PAY n k) || (s.gntSees n).idlePort n then s.wr (Reg.GNT_n_PAY n k) w
      else s.inc Reg.GNT_CNT_REFUSED)
  | .cfg v =>
    let w := v &&& 0x0F03FF00
    .next (if fldW w 15 8 == s.ovh n || (s.gntSees n).idlePort n then s.wr (Reg.GNT_n_CFG n) w else s.inc Reg.GNT_CNT_REFUSED)
  | .guard v =>
    let w : Word := if v = 0 then 1 else v.setWidth 32
    .next (if w == s.rd (Reg.BRX_GUARD n) || s.idlePort n then (s.wr (Reg.BRX_GUARD n) w).tell 2 n (Reg.BRX_GUARD n)
      else s.inc (Reg.BRX_CNT_REFUSED n))

/-! Report FIFOs (R167 to R172). -/

def State.fifo (s : State) (m : Nat) : RptFifo := s.gnt.fifo.look {} m
def State.setFifo (s : State) (m : Nat) (f : RptFifo) : State :=
  { s with gnt := { s.gnt with fifo := s.gnt.fifo.put {} m f } }

/-- UDF holds a credit for the FIFO (R170). -/
def RptFifo.credit (f : RptFifo) : Bool := decide (f.used < 4096)

/-- A FIFO after a change of its credits, with the check of the credit ledger (Table 01.6, R170). -/
def State.settleFifo (s : State) (m : Nat) (f : RptFifo) : State :=
  (s.setFifo m f).creditCheck 7 m f.used (f.items.length + f.hidden.length)

/-- UDF writes a report item: into the FIFO, or into the coalescing slot of its stream (R170, R171). -/
def State.reportItem (s : State) (m st : Nat) (item : Word64) : State :=
  let f := s.fifo m
  if f.credit && f.slots.isEmpty then s.settleFifo m { f with hidden := f.hidden ++ [item], used := f.used + 1 }
  else (s.setFifo m { f with slots := Tab.place st item (f.slots.drop st) }).inc (Reg.GNT_RF_CNT_COAL m)

/-- The full slot of the lowest stream above the last one drained, wrapping (R172). -/
def RptFifo.nextSlot (f : RptFifo) : Option (Nat × Word64) :=
  let after := match f.lastSlot with
    | some x => f.slots.find? fun e => decide (x < e.1)
    | none => none
  match after with
  | some e => some e
  | none => f.slots.head?

/-- COALESCE_DRAIN: a credit has returned (R172). -/
def execCoalesceDrain (m : Fin 8) (s : State) : Res :=
  let f := s.fifo m
  match f.nextSlot with
  | none => .next s
  | some (st, item) =>
    if !f.credit then .next s
    else .next (s.settleFifo m
      { f with hidden := f.hidden ++ [setBitW item 59 true], used := f.used + 1, slots := f.slots.drop st, lastSlot := some st })

/-- REPORT_STALL_LIMIT: a stalled read has waited STALL_LIM (R169). -/
def execReportStallLimit (m : Fin 8) (s : State) : Res :=
  .next (if (s.fifo m).stalled.isSome then s.raise 25 m else s)

/-! Pages at their ends. -/

/-- MISSING_PAGE: the seal deadline of a page (R193). -/
def execMissingPage (n : Fin 32) (frame : BitVec 51) (s : State) : Res :=
  match s.page n frame.toNat with
  | none => .next s
  | some g => if g.sealed then .next s else .next (s.missPage n g)

/-- UDF's counts of a page: for each stream with non-void entries, received and reported-unused as UDF has counted them, and
every other granted byte as lost-burst (R200, R201, R306). -/
def UdfPort.pageCounts (u : UdfPort) (g : Page) : List (Nat × Nat × Nat × Nat) :=
  (grantsOf g.ents).map fun x =>
    let mine := u.counts.filter fun c => c.frame == g.frame && c.stream == x.1
    let rx := (mine.map (·.rx)).sum
    let unused := (mine.map (·.unused)).sum
    (x.1, rx, unused, x.2 - rx - unused)

/-- UDF_COUNTS_DELIVER: UDF sends the counts of a page to GNT (R200, R306), by its crossing. Of a page whose counts a reset of UDF has
delivered, the rest is lost-burst already (R201). -/
def execUdfCountsDeliver (n : Fin 32) (frame : BitVec 51) (s : State) : Res :=
  match if s.up 6 then s.page n frame.toNat else none with
  | none => .next s
  | some g =>
    let u := s.udf.port.look {} n
    let u' := { u with counts := u.counts.filter fun c => c.frame != frame.toNat }
    let s := { s with udf := { s.udf with port := s.udf.port.put {} n u' } }
    .next (s.cross 6 n (.counts frame.toNat (u.pageCounts g)))

/-- BRX keeps the ranging grants and discovery windows of a page being released, for as long as a span can last; RNG knows the
ranging grants that go with it. -/
def State.keepSpans (s : State) (n : Nat) (g : Page) : State :=
  let bs := burstsOf g.ents
  let p := s.bport n
  let new := (List.range bs.length).filterMap fun k => match s.received n g.frame k with
    | some b => if (headOf b).kind = 1 || (headOf b).kind = 2 then some (g.frame, k, headOf b) else none
    | none => none
  let ls := (bs.map headOf).filterMap fun h => if h.kind = 1 then some (strLocal h.stream) else none
  let s := s.setRport n { s.rport n with flying := (s.rport n).flying ++ ls.filter fun l => (s.term n l).asked }
  s.setBport n { p with spans := p.spans.filter (fun x => decide (g.frame < x.1 + 11)) ++ new }

/-- LEDGER_CLOSE (R200, R201): every stream of the page is checked, and the page is released. -/
def execLedgerClose (n : Fin 32) (frame : BitVec 51) (s : State) : Res :=
  match s.page n frame.toNat with
  | none => .next s
  | some g =>
    if !g.sealed then .next s
    else
      let s := s.checkGrants { g with allLost := g.allLost || !s.up 6 } (g.counts.getD []) (grantsOf g.ents)
      let s := s.keepSpans n g
      let p := s.gport n
      .next (s.setGport n { p with pages := p.pages.filter fun x => x.frame != g.frame })

end Sys2Proof.Machine
end

