-- ==== Sys2Proof/Machine/SisCtx.lean ====
section
/-! DEFINITION. Contexts and lists of the Scheduler Instruction Set (Tables 07.3, 07.7; R241 to R243, R251 to R253, R258). -/

namespace Sys2Proof.Machine

/-- Word w of the context of stream i (Table 07.3). -/
def State.streamWord (s : State) (i w : Nat) : Word64 :=
  if w = 0 then
    BitVec.ofNat 64 ((s.rd (Reg.GNT_STR_w1 i)).toNat * 2 ^ 32 + fldW (s.rd (Reg.GNT_STR_w0 i)) 31 1 * 2 +
      (s.strDrained i).toNat)
  else s.gnt.spol.look 0 (4 * i + w)

/-- WARM of a terminal, from GNT's copy (Table 07.3, R180). -/
def State.ctxWarm (s : State) (n l : Nat) : Bool :=
  let v := s.gntSees n
  let e := v.ent n l
  v.bit (Reg.BRX_CTRL n) 1 && e.valid && e.lastOk && decide (v.ageOf e + 2 < v.fld (Reg.BRX_CTRL n) 31 16)

/-- Word w of the context of terminal i (Table 07.3): what is BRX's is read from GNT's copy (R180). -/
def State.termWord (s : State) (i w : Nat) : Word64 :=
  if w = 0 then
    let v := s.gntSees (i / 512)
    let e := v.ent (i / 512) (i % 512)
    BitVec.ofNat 64 (2 ^ 28 * s.termSt (i / 512) (i % 512) + 2 ^ 27 * (s.ctxWarm (i / 512) (i % 512)).toNat +
      2 ^ 25 * e.rate + 2 ^ 24 * e.valid.toNat + 2 ^ 16 * e.failRun + v.ageOf e)
  else s.gnt.tpol.look 0 (4 * i + w)

/-- The index lies in the engine's window (R241); a terminal when `term` is set. -/
def inWindow (e : Engine) (term : Bool) (i : Nat) : Bool :=
  if term then decide (i < 16384) && e.cwb.getLsbD (i / 512) else decide (i < 65536) && e.cwb.getLsbD (i / 2048)

/-- The index lies in the share of the code at the engine's address (R242); operator code has every share. -/
def State.inShare (s : State) (e : Engine) (term : Bool) (i : Nat) : Bool :=
  match e.ownerOf e.pc with
  | 0 => true
  | n + 1 => if term then s.strOf (4 * i) n else s.strOf i n

/-- A word of a context. -/
def State.ctxWord (s : State) (term : Bool) (i w : Nat) : Word64 := if term then s.termWord i w else s.streamWord i w

/-- The index g[x] + DISP, modulo 2^64. -/
def tblIndex (e : Engine) (i : Word64) : Nat := (e.get (iA i) + BitVec.ofInt 64 (iDisp i)).toNat

/-- A context access in the order of R689: XILL, XWIN, XSHARE, and for a store XRO. -/
def State.ctxAccess (s : State) (term store : Bool) (f : Nat → Nat → SisRes) (e : Engine) (i : Word64) : SisRes :=
  let x := tblIndex e i
  if !zeroTbl i || decide (3 < iW i) then .exc 1
  else if !inWindow e term x then .exc 4
  else if !s.inShare e term x then .exc 5
  else if store && iW i == 0 then .exc 6
  else f x (iW i)

/-- LDS. -/
def execSisLds (l : Fin 16) (s : State) : Res :=
  s.sisRun l 0x60 fun s e i => s.ctxAccess false false (fun x w =>
    .done (s.setEng l (e.put (iD i) (s.streamWord x w))) 8 false) e i

/-- STS. -/
def execSisSts (l : Fin 16) (s : State) : Res :=
  s.sisRun l 0x61 fun s e i => s.ctxAccess false true (fun x w =>
    .done { s with gnt := { s.gnt with spol := s.gnt.spol.put 0 (4 * x + w) (e.get (iD i)) } } 6 false) e i

/-- LDT. -/
def execSisLdt (l : Fin 16) (s : State) : Res :=
  s.sisRun l 0x62 fun s e i => s.ctxAccess true false (fun x w =>
    .done (s.setEng l (e.put (iD i) (s.termWord x w))) 8 false) e i

/-- STT. -/
def execSisStt (l : Fin 16) (s : State) : Res :=
  s.sisRun l 0x63 fun s e i => s.ctxAccess true true (fun x w =>
    .done { s with gnt := { s.gnt with tpol := s.gnt.tpol.put 0 (4 * x + w) (e.get (iD i)) } } 6 false) e i

/-- LDL: a locked entry reads its present content (R258). -/
def execSisLdl (l : Fin 16) (s : State) : Res :=
  s.sisRun l 0x64 fun s e i =>
    let x := tblIndex e i
    if !zeroTbl i || iW i != 0 then .exc 1
    else if 511 < x then .exc 7
    else .done (s.setEng l (e.put (iD i) (e.entry x))) 3 false

/-- STL. -/
def execSisStl (l : Fin 16) (s : State) : Res :=
  s.sisRun l 0x65 fun s e i =>
    let x := tblIndex e i
    if !zeroTbl i || iW i != 0 then .exc 1
    else if decide (511 < x) || e.locked x then .exc 7
    else .done (s.setEng l (e.setEntry x (e.get (iD i)))) 3 false

/-! Long instructions: each gives its frame when it begins, and goes on from a frame. -/

/-- The frame with which the engine resumes the instruction at its address (R224). -/
def Engine.resumes (e : Engine) : Option Susp := e.susp.filter fun f => f.pc == e.pc

/-- Some entry from lo up to hi is locked. -/
def Engine.anyLocked (e : Engine) (lo hi : Nat) : Bool := (List.range (hi - lo)).any fun i => e.locked (lo + i)

/-- The entry x placed in rising order. -/
def insertSorted (x : Word64) : List Word64 → List Word64
  | [] => [x]
  | y :: t => if x.toNat ≤ y.toNat then x :: y :: t else y :: insertSorted x t

/-- Entries in rising order as unsigned values. -/
def sorted : List Word64 → List Word64
  | [] => []
  | x :: t => insertSorted x (sorted t)

/-- ceil(log2 n). -/
def clog2 (n : Nat) : Nat := if n ≤ 1 then 0 else Nat.log2 (n - 1) + 1

/-- The frame of a SORT, or its exception (R253, R689). -/
def sortFrame (e : Engine) (i : Word64) : Susp ⊕ Nat :=
  let x := e.get (iA i)
  let n := e.get (iB i)
  if !zeroTbl i || fldW i 31 25 != 0 || fldW i 23 0 != 0 || iD i != 0 then .inr 1
  else if 0 < n.toNat && (decide (512 < x.toNat + n.toNat) || e.anyLocked x.toNat (x.toNat + n.toNat)) then .inr 7
  else .inl { pc := e.pc, op := 0x68, base := x, count := n, mode := iW i, lockLo := x.toNat, lockHi := x.toNat + n.toNat
              entries := if n.toNat = 0 then [] else (List.range n.toNat).map fun k => e.entry (x.toNat + k) }

/-- A SORT goes to its end from its frame. -/
def State.sortEnd (s : State) (l : Nat) (f : Susp) (susp : Bool) : SisRes :=
  let r := sorted f.entries
  let n := f.count.toNat
  .done (s.setEng l ((s.eng l).setEntries f.base.toNat (if f.mode % 2 = 1 then r.reverse else r)))
    (if n ≤ 1 then 20 else 20 + 3 * n * clog2 n) susp

/-- A suspended instruction at the engine's address goes on; its frame is used up (R224). -/
def State.resume (s : State) (l : Nat) : State := (s.setEng l { s.eng l with susp := none }).setSuspBit l false

/-- SORT. -/
def execSisSort (l : Fin 16) (s : State) : Res :=
  s.sisRun l 0x68 fun s e i =>
    match e.resumes with
    | some f => (s.resume l).sortEnd l f true
    | none => match sortFrame e i with
      | .inr c => .exc c
      | .inl f => s.sortEnd l f false

/-- The frame of a block scan, or its exception: XILL, XLIST, XWIN in this order (R253, R689). -/
def scanFrame (term : Bool) (e : Engine) (i : Word64) : Susp ⊕ Nat :=
  let x := e.get (iA i)
  let n := e.get (iB i)
  let top := if term then 512 else 2048
  if !zeroTbl i || fldW i 31 27 != 0 || decide (top < n.toNat) then .inr 1
  else if iDisp i < 0 || 511 < iDisp i then .inr 7
  else if e.anyLocked (iDisp i).toNat 512 then .inr 7
  else if !(List.range n.toNat).all fun k => inWindow e term (x.toNat + k) then .inr 4
  else .inl { pc := e.pc, op := if term then 0x6A else 0x69, base := x, count := n, mode := iW i, disp := (iDisp i).toNat
              dst := iD i, lockLo := (iDisp i).toNat, lockHi := 512, next := (iDisp i).toNat }

/-- The mode bits select a context. -/
def State.scanned (s : State) (term : Bool) (w i : Nat) : Bool :=
  let w0 := s.ctxWord term i 0
  let a := if term then fldW w0 31 28 == 2 || fldW w0 31 28 == 3 else w0.getLsbD 63
  let b := if term then w0.getLsbD 27 else !w0.getLsbD 62
  (!Nat.testBit w 0 || a) && (!Nat.testBit w 1 || b) && (!Nat.testBit w 2 || s.ctxWord term i 1 != 0)

/-- Contexts taken one by one into the list: the engine, the next list entry, and whether the list was full. -/
def State.scanFrom (s : State) (term : Bool) (w : Nat) (e : Engine) : Nat → List Nat → Engine × Nat × Bool
  | j, [] => (e, j, false)
  | j, i :: t =>
    if !s.inShare e term i || !s.scanned term w i then s.scanFrom term w e j t
    else if j = 512 then (e, j, true)
    else s.scanFrom term w (e.setEntry j ((s.ctxWord term i 1 <<< 16) ||| BitVec.ofNat 64 i)) (j + 1) t

/-- A block scan goes to its end from its frame: C says that the list was full, g[d] counts the entries. -/
def State.scanEnd (s : State) (l : Nat) (term : Bool) (f : Susp) (susp : Bool) : SisRes :=
  let idx := (List.range (f.count.toNat - f.seen)).map fun k => f.base.toNat + f.seen + k
  let (e, j, full) := s.scanFrom term f.mode (s.eng l) f.next idx
  .done (s.setEng l ((e.setFlag 2 full).put f.dst (BitVec.ofNat 64 (j - f.disp)))) (12 + 2 * f.count.toNat) susp

/-- A block scan. -/
def scan (l : Fin 16) (term : Bool) (s : State) (e : Engine) (i : Word64) : SisRes :=
  match e.resumes with
  | some f => (s.resume l).scanEnd l term f true
  | none => match scanFrame term e i with
    | .inr c => .exc c
    | .inl f => s.scanEnd l term f false

/-- SCANS. -/
def execSisScans (l : Fin 16) (s : State) : Res := s.sisRun l 0x69 (scan l false)

/-- SCANT. -/
def execSisScant (l : Fin 16) (s : State) : Res := s.sisRun l 0x6A (scan l true)

end Sys2Proof.Machine
end

