-- ==== Sys2Proof/Machine/SisPort.lean ====
section
/-! DEFINITION. Report, calendar and mailbox ports of the Scheduler Instruction Set (Table 07.8; R167 to R170, R254 to R257,
R264, R583). -/

namespace Sys2Proof.Machine

/-! Report FIFOs. -/

/-- The rank of an item: SS first, then RPRIO (R167). -/
def itemRank (w : Word64) : Nat := if w.getLsbD 63 then 0 else 1 + fldW w 62 60

/-- The highest-ranked item, the oldest of equals. -/
def bestItem : List Word64 → Option Word64
  | [] => none
  | w :: t => match bestItem t with
    | none => some w
    | some x => if itemRank x < itemRank w then some x else some w

/-- RDRPT: a read of an empty FIFO stalls the engine until an item is there (R169), whatever is written to CONS meanwhile. A re-run takes
the item it holds (R218). -/
def execSisRdrpt (l : Fin 16) (s : State) : Res :=
  s.sisRun l 0x70 fun s e i =>
    let m := iAux i
    let f := s.fifo m
    if !(zeroReg i && iA i == 0 && iB i == 0 && decide (m < 8)) then .exc 1
    else if e.tenantCode then .exc 2
    else if f.stalled ≠ some l.val && e.item.isNone && s.fld (Reg.GNT_RF_CFG m) 19 16 ≠ l.val then .exc 8
    else match e.item with
    | some w => .done (s.setEng l (e.put (iD i) w)) 10 false
    | none =>
      match bestItem f.items with
      | none =>
        if f.stalled == some l.val then .wait s
        else .wait ((((s.setFifo m { f with stalled := some l.val }).inc (Reg.GNT_RF_CNT_STALL m)).setStalled l true).setPstate l
          (s.engRest none))
      | some w =>
        let s1 := if f.stalled == some l.val then ((s.waited l).setStalled l false).setPstate l 0 else s
        let s1 := s1.settleFifo m { f with items := f.items.erase w, used := f.used - 1, stalled := none }
        .done (s1.setEng l ((s1.eng l).put (iD i) w)) 10 false

/-- RPTLV. -/
def execSisRptlv (l : Fin 16) (s : State) : Res :=
  s.sisRun l 0x71 fun s e i =>
    if !(zeroReg i && iA i == 0 && iB i == 0 && decide (iAux i < 8)) then .exc 1
    else privileged e (.done (s.setEng l (e.put (iD i) (BitVec.ofNat 64 (s.fifo (iAux i)).items.length))) 6 false)

/-! Mailboxes. -/

/-- The status of a port instruction goes to a register, and P says whether it is 0 (R249). -/
def Engine.status (e : Engine) (d st : Nat) : Engine := (e.put d (BitVec.ofNat 64 st)).setFlag 4 (st == 0)

/-- MBS. -/
def execSisMbs (l : Fin 16) (s : State) : Res :=
  s.sisRun l 0x74 fun s e i =>
    let a := iA i
    if !zeroReg i || a == 0 || decide (28 < a) then .exc 1
    else privileged e (
      match s.txRing l with
      | none => .done (s.setEng l (e.status (iD i) 2)) 20 false
      | some r =>
        if s.ringType r ≠ 6 then .done (s.setEng l (e.status (iD i) 2)) 20 false
        else if !s.ringRoom r 6 then .done (s.setEng l (e.status (iD i) 1)) 20 false
        else
          let d := (e.get a).toNat + 2 ^ 64 * (e.get (a + 1)).toNat + 2 ^ 128 * (e.get (a + 2)).toNat +
            2 ^ 192 * (e.get (a + 3)).toNat
          let s1 := s.mailPut r d false
          .done (s1.setEng l ((s1.eng l).status (iD i) 0)) 20 false)

/-- MBR: without AUX[0] it waits for a descriptor. -/
def execSisMbr (l : Fin 16) (s : State) : Res :=
  s.sisRun l 0x75 fun s e i =>
    let a := iA i
    let e := { e with st := .running }
    if !zeroReg i || a == 0 || decide (28 < a) || (decide (a ≤ iD i) && decide (iD i ≤ a + 3)) then .exc 1
    else privileged e (
      match s.rxRing l with
      | none => .done (s.setEng l (e.status (iD i) 2)) 20 false
      | some r =>
        let s0 := if (s.eng l).st == .waitMail then (s.waited l).setPstate l 0 else s
        if s.ringType r ≠ 5 then .done (s0.setEng l (e.status (iD i) 2)) 20 false
        else match s.hif.fetched.find? fun d => d.ring == r with
          | none =>
            if iAux i % 2 = 1 then .done (s0.setEng l (e.status (iD i) 1)) 20 false
            else if (s.eng l).st == .waitMail then .wait s
            else .wait ((s.setEng l { e with st := .waitMail }).setPstate l
              (s.engRest none))
          | some d =>
            let w := fun (k : Nat) => BitVec.ofNat 64 (d.data.toNat >>> (64 * k))
            let s1 := s0.complete d false 0 0
            .done (s1.setEng l (((((e.put a (w 0)).put (a + 1) (w 1)).put (a + 2) (w 2)).put (a + 3) (w 3)).status
              (iD i) 0)) 20 false)

/-! The calendar. -/

/-- A calendar entry as a program writes it (Table 05.5). -/
def entOf (w : Word64) : CalEnt :=
  { stream := fldW w 63 48, start := fldW w 47 32, grant := fldW w 31 12, kind := fldW w 11 10, cont := w.getLsbD 9
    cold := w.getLsbD 8, dbru := w.getLsbD 7, ploam := w.getLsbD 6, void := w.getLsbD 5 }

/-- R256. -/
def entOk (w : Word64) : Bool := fldW w 11 10 == 0 && !w.getLsbD 5 && fldW w 4 0 == 0

/-- The frame of the open page of a port whose number modulo 16 is k; else one that no page has (R255). -/
def State.pageFrame (s : State) (n k : Nat) : Nat :=
  match (s.gport n).pages.find? fun g => g.st == .opened && g.frame % 16 == k with
  | some g => g.frame
  | none => 2 ^ 60

/-- Who writes (R264). -/
def writerOf (l : Nat) (e : Engine) : Writer :=
  { eng := l, tenant := match e.ownerOf e.pc with
      | 0 => none
      | n + 1 => some n }

/-- EMIT. -/
def execSisEmit (l : Fin 16) (s : State) : Res :=
  s.sisRun l 0x78 fun s e i =>
    let w := e.get (iD i)
    if !zeroCal i then .exc 1
    else if !entOk w then .exc 9
    else
      let x := entOf w
      let n := strPort x.stream
      let (st, s1) := s.calWrite n (s.pageFrame n (fldW (e.get (iB i)) 3 0)) (writerOf l e) x
      .done (s1.setEng l (e.status (iA i) st)) 14 false

/-- The first-fit search of R257: the START at which it ends. -/
def State.firstFit (s : State) (n rate : Nat) (warm : Bool) (x : CalEnt) (items : List (Int × Int)) : Nat → Nat → Nat
  | 0, c => c
  | k + 1, c =>
    let f := c + s.burstLen n rate warm x.grant
    let hit := items.filter (touches (s.guard n) c f)
    let low := hit.foldl (fun (m : Option (Int × Int)) y => match m with
      | none => some y
      | some z => if y.1 < z.1 then some y else some z) none
    match low with
    | none => c
    | some y => if frameCycles < f then c else s.firstFit n rate warm x items k (y.2.toNat + s.guard n)

/-- What a CALI writes: its entry with the START found, and the items that it met. -/
def State.caliEntry (s : State) (n frame : Nat) (w : Word64) : CalEnt × Nat :=
  let x := entOf w
  let rate := s.strRate x.stream
  let v := s.gntSees n
  let c0 := max x.start (v.guard n)
  match s.page n frame with
  | none => ({ x with start := c0 }, 0)
  | some g =>
    let items := s.overlapItems n g false
    let warm := !x.cold && v.warmTest n (strLocal x.stream) rate
    ({ x with start := v.firstFit n rate warm x items (items.length + 1) c0 }, min 512 (g.items 0).length)

/-- A CALI goes to its end from its frame: the placed entry in g[e], the status in g[s]. -/
def State.caliEnd (s : State) (l : Nat) (i : Word64) (f : Susp) (susp : Bool) : SisRes :=
  let e := s.eng l
  let n := strPort (entOf f.ent).stream
  let frame := s.pageFrame n (fldW f.page 3 0)
  let (x, k) := s.caliEntry n frame f.ent
  let (st, s1) := s.calWrite n frame (writerOf l e) x
  .done (s1.setEng l ((e.put (iD i) (setFldW f.ent 47 32 x.start)).status (iA i) st)) (16 + 4 * k) susp

/-- The frame of a CALI, or its exception (R256). -/
def caliFrame (e : Engine) (i : Word64) : Susp ⊕ Nat :=
  let w := e.get (iD i)
  if !zeroCal i then .inr 1
  else if !entOk w || w.getLsbD 9 then .inr 9
  else .inl { pc := e.pc, op := 0x79, ent := w, page := e.get (iB i) }

/-- CALI. -/
def execSisCali (l : Fin 16) (s : State) : Res :=
  s.sisRun l 0x79 fun s e i =>
    match e.resumes with
    | some f => (s.resume l).caliEnd l i f true
    | none => match caliFrame e i with
      | .inr c => .exc c
      | .inl f => s.caliEnd l i f false

/-- SEAL (R183). -/
def execSisSeal (l : Fin 16) (s : State) : Res :=
  s.sisRun l 0x7A fun s e i =>
    let p := e.get (iB i)
    if !zeroCal i || iD i != 0 then .exc 1
    else privileged e (
      let n := fldW p 12 8
      let (st, s1) := s.sealBy n (s.pageFrame n (fldW p 3 0)) (fldW p 23 16) l
      .done (s1.setEng l (e.status (iA i) st)) 12 false)

end Sys2Proof.Machine
end

