-- ==== Sys2Proof/Machine/Mtn.lean ====
section
/-! DEFINITION. Commands of the Marten engines that are no SIS instruction: microcode loads, engine faults and retirement,
events, RUN, mailboxes, power, and the program commands (06; 07 R259, R265). -/

namespace Sys2Proof.Machine

/-! Binding (R204 to R208). -/

/-- A physical engine is defective: by fuse repair, or by a repair record (R205). -/
def State.defective (s : State) (p : Nat) : Bool :=
  Config.fusedOut.getLsbD p || s.rcp.repairs.any fun r => r.kind == 3 && r.loc == p

/-- Physical engines that are usable and unbound, a spare in preparation apart (R205, R229). -/
def State.spareEngines (s : State) : List Nat :=
  (List.range 18).filter fun p =>
    !s.defective p && !s.bit (Reg.MTN_P_STATUS p) 11 && !s.bit (Reg.MTN_P_STATUS p) 10 &&
      !(s.mtn.moving.any fun x => x.2 % 32 == p + 1)

/-- SPARES shows the spares left. -/
def State.showSpares (s : State) : State := s.setF Reg.MTN_STATUS 9 8 (min 2 s.spareEngines.length)

/-- Physical engine p is bound as logical engine l. -/
def State.bindEngine (s : State) (l p : Nat) : State :=
  ((s.wr (Reg.MTN_L_MAP l) (BitVec.ofNat 32 (2 ^ 31 + p))).setF (Reg.MTN_P_STATUS p) 15 12 l).setB
    (Reg.MTN_P_STATUS p) 11 true

/-- At a release of MTN the logical engines are bound in ascending order; with fewer than 16 usable engines the highest
stay unbound (R205, R206). -/
def State.bindEngines (s : State) : State :=
  let ok := (List.range 18).filter fun p => !s.defective p
  let s := (List.range 18).foldl (fun s p =>
    ((s.wr (Reg.MTN_P_STATUS p) 0).setB (Reg.MTN_P_STATUS p) 9 (Config.fusedOut.getLsbD p)).setB (Reg.MTN_P_STATUS p) 10
      (s.rcp.repairs.any fun r => r.kind == 3 && r.loc == p)) s
  let s := (List.range 16).foldl (fun s l =>
    match ok[l]? with
    | some p => s.bindEngine l p
    | none => s.wr (Reg.MTN_L_MAP l) 0) s
  (if ok.length < 16 then s.raise 24 ok.length else s).showSpares

/-! Microcode (R211 to R216). -/

/-- LOAD_ERR takes the first refusal since the release (R214). -/
def State.loadErr (s : State) (code : Nat) : State :=
  if s.fld Reg.MTN_STATUS 27 24 = 0 then s.setF Reg.MTN_STATUS 27 24 code else s

/-- The code of a refusal of the base image (Table 06.6). -/
def baseCode : UcodeCheck → Nat
  | .good => 0
  | .sig => 1
  | .devid => 2
  | .svn => 3
  | .tag => 4

/-- The code of a refusal of a patch, or 0 (Table 06.6): it names the base version in force, and writes only the patch area and the
dispatch table (R213). -/
def patchCode (ver : Word) (p : UcodePatch) : Nat :=
  match p.check with
  | .sig => 6
  | .svn => 7
  | .tag => 8
  | .good => if p.base ≠ ver then 9 else if p.words.any fun x => decide (x.1.toNat < patchBase) then 10 else 0

/-- Patches in stored order on a store: a refused one is skipped with every later one (R215). -/
def State.applyPatches (s : State) (ver : Word) (t : Tab Word) : List UcodePatch → Tab Word × State
  | [] => (t, s)
  | p :: rest =>
    if patchCode ver p = 0 then
      ((s.satField Reg.MTN_STATUS 23 16 1).wr Reg.MTN_PATCH_LVL p.seq).applyPatches ver (patchStore t p.words) rest
    else
      (t, ((s.loadErr (patchCode ver p)).incN Reg.MTN_CNT_PATCH_REFUSED (rest.length + 1)).raiseWith 22 0 false none)

/-- The base image is refused (R214, R215). -/
def State.refuseBase (s : State) (code : Nat) : State := (s.loadErr code).raiseWith 22 0 true none

/-- MICROCODE_LOAD: what the running firmware reads from the boot source (R213 to R215): the checks, the words of the base image with
the CRC of its header, and the patches. -/
def execMicrocodeLoad (base : UcodeCheck) (ver : Word) (image : BaseWords) (patches : List UcodePatch) (s : State) : Res :=
  if !s.up 4 || decide (s.rcp.phase < 9) || s.bit Reg.MTN_STATUS 0 || s.mtn.loading then .next s
  else if baseCode base ≠ 0 then .next (s.refuseBase (baseCode base))
  else
    let t := imageStore image.words
    let s := s.writeStores t
    if storeCrc t ≠ image.crc then .next (s.refuseBase 5)
    else
      let (t, s) := ((s.wr Reg.MTN_UCODE_VER ver).setF Reg.MTN_STATUS 23 16 0).applyPatches ver t patches
      let s := (s.writeStores t).wr Reg.MTN_CS_CRC (storeCrc t)
      .next { s with mtn := { s.mtn with loading := true } }

/-- MICROCODE_LOAD_DONE (R213). -/
def execMicrocodeLoadDone (s : State) : Res :=
  .next (if s.mtn.loading then
    ({ s with mtn := { s.mtn with loading := false } } : State).setB Reg.MTN_STATUS 0 true
  else s)

/-! Engine faults (R227 to R232). -/

/-- The RDRPT in progress on engine l has read an item, which the commit buffer holds for its re-run; its credit has returned
(R170, R218). -/
def State.holdItem (s : State) (l : Nat) : State :=
  let e := s.eng l
  let w := e.prog.look 0 e.pc
  let m := iAux w
  let f := s.fifo m
  if e.st == .running && iOp w == 0x70 && decide (m < 8) && s.fld (Reg.GNT_RF_CFG m) 19 16 == l && e.item.isNone &&
      f.stalled.isNone then
    match bestItem f.items with
    | some x =>
      let s := s.settleFifo m { f with items := f.items.erase x, used := f.used - 1 }
      s.setEng l { s.eng l with item := some x }
    | none => s
  else s

/-- A retirement (R229, R230, R232): the engine halts, is marked and unbound, with its repair event, and a held report item is lost
(R218); a spare is chosen, which may be the last, or none is left (R42 to R45). -/
def State.retire (s : State) (l : Nat) : State :=
  let p := s.phys l
  let e := s.eng l
  let s := s.incIf e.item.isSome Reg.MTN_CNT_RPT_LOST
  let s := s.incIf e.tagged.isSome Reg.OBS_SMP_CNT_LOST
  let gf := s.gnt.fifo.map fun x => (x.1, if x.2.stalled == some l then { x.2 with stalled := none } else x.2)
  let s : State := { s with gnt := { s.gnt with fifo := gf.filter fun x => x.2 != {} } }
  let s := s.setEng l { prog := e.prog, owner := e.owner, held := e.held, down := e.down }
  let s := (s.wr (Reg.MTN_P_STATUS p) (2 ^ 10)).wr (Reg.MTN_L_MAP l) 0
  let s := (s.inc Reg.MTN_CNT_RETIRE).raise 21 p
  let s := s.repairDone 3 5 p
  match s.spareEngines with
  | [] => ((s.raise 12 p).raise 24 l).showSpares
  | q :: rest =>
    let s := if rest.isEmpty then s.raise 11 p else s
    ({ s with mtn := { s.mtn with moving := s.mtn.moving.put 0 l (32 * p + q + 1) } } : State).showSpares

/-- The cycles lost to an engine fault on l, where there is one: a micro-routine faults only where its microwords do so (R227); of the
other causes the number is free. -/
def State.faultCycles (s : State) (l : Nat) : EngCause → Option Nat
  | .routine n => s.microFaultAt l n.toNat (s.microStart l)
  | _ => some s.fresh.toNat

/-- ENGINE_FAULT on the physical engine of l: transient when the re-run completes, else the engine is retired (R227, R228).
`itemHeld` says that the faulting RDRPT had read its item. -/
def execEngineFault (l : Fin 16) (fault : EngFault) (itemHeld : Bool) (s : State) : Res :=
  let e := s.eng l
  if !s.bound l || e.st == .stopped || e.st == .starting then .next s
  else match s.faultCycles l fault.cause with
    | none => .next s
    | some cycles =>
      let p := s.phys l
      let s := s.inc (Reg.MTN_P_CNT_FAULT p)
      let s := s.dispatch l
      let s := if itemHeld then s.holdItem l else s
      .next (if fault.lasting then s.retire l
        else
          let s := s.setEng l { s.eng l with rerun := some (s.eng l).pc }
          (((s.slots l 1 cycles).taken).inc (Reg.MTN_P_CNT_TRANSIENT p)).raise 20 p)

/-- MIGRATE_DONE: the copy of the program memory ends, and the spare is bound (R207, R229, R231, R266). DESIGN CHOICE, log 77: where the
copy met an uncorrectable word, the program memory still reads as the retired engine's. -/
def execMigrateDone (l : Fin 16) (unc : Bool) (s : State) : Res :=
  match s.mtn.moving.look 0 l with
  | 0 => .next s
  | v + 1 =>
    let p := v % 32
    let s : State := { s with mtn := { s.mtn with moving := s.mtn.moving.put 0 l 0 } }
    let s := ((s.bindEngine l p).showSpares).applyLoads l
    .next (if unc then (s.setB Reg.MTN_STATUS 1 true).raise 23 p
      else if s.bit (Reg.MTN_L_CTRL l) 0 then s.setEng l { s.eng l with st := .starting }
      else s)

/-! Events (R219 to R226, R259). -/

/-- EVENT_PENDING (R219): a FAULT notice is for a port that the engine owns; a tick ends a WAITFT and then is not pending (R260). -/
def execEventPending (l : Fin 16) (ev : EngEvent) (s : State) : Res :=
  if !s.up 4 then .next s
  else match ev with
    | .fault port blk code =>
      if s.fld (Reg.GNT_n_CFG port) 27 24 ≠ l.val then .next s
      else
        let note : Word := BitVec.ofNat 32 (port.val + 2 ^ 8 * blk.val + 2 ^ 16 * code.toNat)
        .next ((s.setEng l { s.eng l with fnote := note }).engPend l 0)
    | .tick => .next (s.engTick l s.sfc)
    | .intr => .next (s.engPend l 2)

/-- The suspend frame of the long instruction at the engine's address. -/
def longFrame (e : Engine) : Option Susp :=
  match e.susp with
  | some f => if f.pc = e.pc then some f else none
  | none =>
    let i := e.prog.look 0 e.pc
    let r := match iOp i with
      | 0x68 => sortFrame e i
      | 0x69 => scanFrame false e i
      | 0x6A => scanFrame true e i
      | 0x79 => caliFrame e i
      | _ => .inr 1
    match r with
    | .inl f => some f
    | .inr _ => none

/-- How far a long instruction has come at a safe point: the list as it stands and its frame. `p` counts the contexts a scan
has taken; the list of a SORT in progress holds free values (R258). -/
def State.atSafePoint (s : State) (l p : Nat) (f : Susp) : State :=
  let e := s.eng l
  if f.op = 0x68 then
    let mid := if f.count.toNat = 0 then [] else (List.range f.entries.length).map (Config.partSorted s.freeN)
    (s.setEng l { (e.setEntries f.base.toNat mid) with susp := some f }).taken
  else if f.op = 0x69 || f.op = 0x6A then
    let idx := (List.range (p - f.seen)).map fun k => f.base.toNat + f.seen + k
    let (e1, j, _) := s.scanFrom (f.op == 0x6A) f.mode e f.next idx
    s.setEng l { e1 with susp := some { f with seen := max p f.seen, next := j } }
  else s.setEng l { e with susp := some f }

/-- EVENT_TAKE at the boundary before the instruction at the engine's address, a wait included, or at a safe point of a
long instruction (R220, R223, R259). A call whose budget is spent completes first (R263), and so does an RDRPT that holds its item, which
nothing discards but a retirement (R173, R218). -/
def execEventTake (l : Fin 16) (safePoint : Option (BitVec 12)) (s : State) : Res :=
  let e := s.eng l
  let stalled := s.stalls l
  let spent := e.tenantCode && e.call.any fun c => c.left == 0
  if !s.up 4 || !s.bound l || s.flt.fatal || stalled || e.item.isSome || spent || e.st == .stopped || e.st == .starting then .next s
  else match e.takeable with
    | none => .next s
    | some k =>
      match safePoint with
      | none =>
        let s1 := if e.st == .running then s else (s.waited l).setPstate l 0
        .next (s1.setEng l (({ s1.eng l with st := .running } : Engine).takeEvent k e.pc))
      | some p =>
        if e.st != .running || !s.bit (Reg.MTN_L_CTRL l) 1 then .next s
        else match longFrame e with
          | none => .next s
          | some f =>
            if f.op ≠ 0x68 && f.op ≠ 0x79 && f.count.toNat < p.toNat then .next s
            else
              let s1 := (((s.dispatch l).atSafePoint l p.toNat f).inc (Reg.MTN_L_CNT_SUSPEND l)).setSuspBit l true
              .next (s1.setEng l ((s1.eng l).takeEvent k e.pc))

/-! RUN, mailboxes, power (R233 to R237). -/

/-- ENGINE_RUN: a write of MTN_Ll_CTRL with RUN = 1 (R236). -/
def execEngineRun (l : Fin 16) (v : Word) (s : State) : Res :=
  s.opWrite (Reg.MTN_L_CTRL l) (
    if !v.getLsbD 0 then .next s
    else if !s.bit Reg.MTN_STATUS 0 || !s.bound l then .next (s.inc Reg.MTN_CNT_REFUSED)
    else
      let s := s.setF (Reg.MTN_L_CTRL l) 1 0 (fldW v 1 0)
      let e := s.eng l
      .next (if e.st == .stopped then s.setEng l { e with st := .starting } else s.setEng l { e with stopping := false }))

/-- ENGINE_STOP: a write of MTN_Ll_CTRL with RUN = 0, at an instruction boundary (R236). It does not end the stall of R169, nor an RDRPT
that holds its item (R173): the program stops at the boundary after it. -/
def execEngineStop (l : Fin 16) (v : Word) (s : State) : Res :=
  s.opWrite (Reg.MTN_L_CTRL l) (
    if v.getLsbD 0 then .next s
    else
      let e := s.eng l
      let s := if e.st == .running || e.st == .stopped || e.st == .starting then s else s.waited l
      let s := if s.stalls l || e.item.isSome then (s.setB (Reg.MTN_L_CTRL l) 0 false).setEng l { e with stopping := true } else s.engStop l
      .next (s.setB (Reg.MTN_L_CTRL l) 1 (v.getLsbD 1)))

/-- MTN_MBOX_WRITE (R237). -/
def execMtnMboxWrite (l : Fin 16) (v : Word) (s : State) : Res :=
  s.opWrite (Reg.MTN_L_MBOX l) (
    let ty := fun r => s.fld (Reg.HIF_RING r 0) 30 28
    let ok := !s.bit (Reg.MTN_L_CTRL l) 0 && (!v.getLsbD 31 || ty (fldW v 25 16) == 5) &&
      (!v.getLsbD 30 || ty (fldW v 9 0) == 6)
    .next (if ok then s.wr (Reg.MTN_L_MBOX l) (v &&& 0xC3FF03FF) else s.inc Reg.MTN_CNT_REFUSED))

/-- ENGINE_WAKE: an engine in M1 or M2 leaves its state (R233, R234). -/
def execEngineWake (l : Fin 16) (s : State) : Res := .next (s.setPstate l 0)

/-! Program commands (R265, R266). -/

/-- A program command ends with its status (Table 07.12). -/
def State.progDone (s : State) (d : Desc) (status : Nat) : State :=
  ((if status = 5 then s.dmaFail (fldW d.data 119 112 == 0x41) else s).complete d false 0 status).cmdNext d.ring

/-- The engine and the segment of a program command (Table 19.8). -/
def progEng (d : Desc) : Nat := fldW d.data 123 120
def progSeg (d : Desc) : Nat := fldW d.data 126 124

/-- A program runs on the engine: RUN is 1, or a stop waits for the boundary after a stall (R169, R236). -/
def State.progRuns (s : State) (l : Nat) : Bool := s.bit (Reg.MTN_L_CTRL l) 0 || (s.eng l).stopping

/-- PSEG. -/
def execPseg (r : Fin 1024) (s : State) : Res :=
  match s.cmdHead r 0x40 with
  | none => .next s
  | some d =>
    let l := progEng d
    let g := progSeg d
    if !s.bound l then .next (s.progDone d 4)
    else if (s.ringTenant r).isSome then .next (s.progDone d 1)
    else if g = 0 then .next (s.progDone d 3)
    else if s.progRuns l then .next (s.progDone d 2)
    else
      let e := s.eng l
      let own := if d.data.getLsbD 132 then fldW d.data 131 128 + 1 else 0
      let s := s.setEng l { e with owner := e.owner.put 0 g own, prog := e.prog.filter fun x => x.1 / 512 != g }
      .next (s.progDone d 0)

/-- The refusal of a PLOAD or PREAD by ownership and range, 0 if none. -/
def State.progCheck (s : State) (r : Nat) (d : Desc) : Nat :=
  let l := progEng d
  let g := progSeg d
  let n := descN d
  if !s.bound l then 4
  else if (s.ringTenant r).any fun t => (s.eng l).owner.look 0 g != t + 1 then 1
  else if n = 0 || decide (512 < n) || decide (512 < descAddr d + n) then 3
  else 0

/-- PLOAD: the N instructions read from host memory. While the engine runs, the load of a segment but 0 is held. -/
def execPload (r : Fin 1024) (data : List Word64) (dmaOk : Bool) (s : State) : Res :=
  match s.cmdHead r 0x41 with
  | none => .next s
  | some d =>
    let l := progEng d
    let g := progSeg d
    let run := s.progRuns l
    let c := s.progCheck r d
    if c ≠ 0 then .next (s.progDone d c)
    else if run && g == 0 then .next (s.progDone d 2)
    else if dmaOk && data.length ≠ descN d then .next s
    else
    let s := s.dmaRead r (descHost d) (8 * descN d)
    if !dmaOk then .next (s.progDone d 5)
    else if run then
      let e := s.eng l
      .next ((s.setEng l { e with held := e.held ++ [{ seg := g, off := descAddr d, words := data, desc := d }] }).cmdNext r)
    else .next ((s.setEng l ((s.eng l).load (512 * g + descAddr d) data)).progDone d 0)

/-- The bytes of instructions in host memory, least significant first. -/
def wordBytes (w : Word64) : List Byte := (List.range 8).map fun k => BitVec.ofNat 8 (w.toNat >>> (8 * k))

/-- PREAD: the memory as it stands, without the held loads. -/
def execPread (r : Fin 1024) (dmaOk : Bool) (s : State) : Res :=
  match s.cmdHead r 0x42 with
  | none => .next s
  | some d =>
    let c := s.progCheck r d
    if c ≠ 0 then .next (s.progDone d c)
    else if !dmaOk then .next (s.progDone d 5)
    else
      let e := s.eng (progEng d)
      let ws := (List.range (descN d)).map fun k => e.prog.look 0 (512 * progSeg d + descAddr d + k)
      .next ((s.emit (.host (s.ringOwner r) (descHost d) (ws.flatMap wordBytes))).progDone d 0)

end Sys2Proof.Machine
end

