-- ==== Sys2Proof/Machine/Tpa.lean ====
section
/-! DEFINITION. The commands of the tree ports and the optics buses (02). -/

namespace Sys2Proof.Machine

/-! Mode and enable (R47 to R59, R82 to R85). -/

/-- The word that a write leaves in TPA_n_MODE: PAIR of an odd port is reserved (R52). -/
def modeWord (n : Nat) (v : Word) : Word := if n % 2 = 0 then v &&& 0x7B else v &&& 0x3B

/-- MODE of a port goes to GNT and RNG, for the port and for the other of its pair (Table 01.9). -/
def State.tellMode (s : State) (n : Nat) : State :=
  (s.tell 3 n (Reg.TPA_MODE n)).tell 3 (pairOf n) (Reg.TPA_MODE n)

/-- TPA_MODE_WRITE (R51, R55). DESIGN CHOICE: a write of an idle even port that makes its pair invalid takes PON_TXEN of a
running odd port low (Table 02.3) but is no cause that R688 names, so DFR_RUN of that port stays (log 69). -/
def execTpaModeWrite (n : Fin 32) (v : Word) (s : State) : Res :=
  s.opWrite (Reg.TPA_MODE n) (
    .next (if !s.idlePort n || (s.paired n && !s.idlePort (pairOf n)) then s.tpaRefused n
      else ((s.wr (Reg.TPA_MODE n) (modeWord n v)).tellMode n).seeLight))

/-- LASER_EN takes a value; 0 on a member of a valid pair clears both (R54, R62). -/
def State.laser (s : State) (n : Nat) (v : Bool) : State :=
  let s1 := s.setB (Reg.TPA_CTRL n) 1 v
  let both := !v && s.pairValid n
  let s2 := if both then s1.setB (Reg.TPA_CTRL (pairOf n)) 1 false else s1
  let s3 := s2.txenSettle n
  if both then s3.txenSettle (pairOf n) else s3

/-- LASER_EN and SD_GATE as written. -/
def State.ctrlRest (s : State) (n : Nat) (laserEn sdGate : Bool) : State :=
  (s.setB (Reg.TPA_CTRL n) 2 sdGate).laser n laserEn

/-- PORT_ENABLE: a write of TPA_n_CTRL with EN = 1 (R49, R53, R59, R84). The three broadcasts of R685 are due from here, so that RNG
assigns nothing before the third is sent. -/
def execPortEnable (n : Fin 32) (laserEn sdGate : Bool) (s : State) : Res :=
  s.opWrite (Reg.TPA_CTRL n) (
    let s1 := s.ctrlRest n laserEn sdGate
    .next (if !s.drained n || s.modeErr n || s.pairErr n || s.pattern n != 0 then
        (s1.setB (Reg.TPA_STATUS n) 5 true).tpaRefused n
      else if s.en n then s1
      else (((s1.setB (Reg.TPA_CTRL n) 0 true).tell 3 n (Reg.TPA_CTRL n)).dueBroadcasts n 3).seeLight))

/-- Every frame that waits in the framer of a disabled port is discarded as queued frames are (R82, R458). -/
def State.dropFramer (s : State) (n : Nat) : Nat → State
  | 0 => s
  | k + 1 => (s.dropReady n (Reg.TMG_E_CNT_DISCARD n)).dropFramer n k

/-- EN of a port is cleared (R82, R83, R287, R311, Table 04.3). DESIGN CHOICE: DRAINED falls here and not before: it reads 1
while EN is 1, whatever is in flight (Table 02.6 against Table 02.11; log 69). -/
def State.disablePort (s : State) (n : Nat) : State :=
  let run := s.dfrRun n
  let s := (((s.setB (Reg.TPA_CTRL n) 0 false).setB (Reg.TPA_STATUS n) 0 false).tell 3 n (Reg.TPA_CTRL n)).tell 3 n
    (Reg.TPA_STATUS n)
  let s := s.setTport n { s.tport n with shutting := run, fPrev := none }
  let s := (s.busyQueues n).foldl (fun s q => s.flushQueue q) s
  let s := s.dropRemainder n
  let s := s.dropFramer n (s.dport n).ready.length
  let s := s.invalidateAll n
  let s := (List.range 512).foldl (fun s l => if s.termSt n l = 0 then s else s.toFree n l) s
  let s := ((s.udf.parts.filter fun e => strPort e.1 == n).map (·.1)).foldl (fun s st => s.dropPartial st) s
  let s := (s.emptyPloams n).dueBroadcasts n 0
  let s := s.setGport n { s.gport n with rngQ := [], disc := none }
  let s := (s.setDport n { s.dport n with announce := [], tods := [] }).emptyQueue 7 n
  s.txenSettle n

/-- PORT_DISABLE: a write of TPA_n_CTRL with EN = 0. -/
def execPortDisable (n : Fin 32) (laserEn sdGate : Bool) (s : State) : Res :=
  s.opWrite (Reg.TPA_CTRL n) (.next ((if s.en n then s.disablePort n else s).ctrlRest n laserEn sdGate))

/-- PORT_DRAINED: nothing of the port remains in flight, its last-owner list among it (Table 02.6, R421). -/
def execPortDrained (n : Fin 32) (s : State) : Res :=
  let busy := s.en n || s.dfrRun n || !(s.busyQueues n).isEmpty || !(s.dport n).ready.isEmpty ||
    !(s.lastList n).isEmpty || !(s.bport n).snaps.isEmpty || !(s.bport n).missed.isEmpty || !(s.udf.port.look {} n).bursts.isEmpty
  .next (if busy then s else (s.setB (Reg.TPA_STATUS n) 0 true).tell 3 n (Reg.TPA_STATUS n))

/-- LASER_EN_CLEAR. -/
def execLaserEnClear (n : Fin 32) (s : State) : Res := s.opWrite (Reg.TPA_CTRL n) (.next (s.laser n false))

/-- LASER_EN_SET. -/
def execLaserEnSet (n : Fin 32) (s : State) : Res := s.opWrite (Reg.TPA_CTRL n) (.next (s.laser n true))

/-- PMA_PATTERN_WRITE: a write of TPA_n_PMA (R58). -/
def execPmaPatternWrite (n : Fin 32) (v : Word) (s : State) : Res :=
  s.opWrite (Reg.TPA_PMA n) (
    .next (if fldW v 15 14 ≠ 0 && !s.idlePort n then s.tpaRefused n
      else (s.wr (Reg.TPA_PMA n) (v &&& 0xFFFF)).seeLight))

/-- FRAMING_START: the first frame tick at or after the end of SETTLE (R64, R685). -/
def execFramingStart (n : Fin 32) (s : State) : Res :=
  let taking := s.pst n == 3
  .next (if !s.txen n || !s.en n || s.pattern n != 0 || s.dfrRun n then s
    else
      let s := (s.setB (Reg.TPA_STATUS n) 1 true).tell 3 n (Reg.TPA_STATUS n)
      let s := s.setDport n { s.dport n with next := s.sfc, first := true }
      if taking then s.dueBroadcasts n 0 else s)

/-! The lines to the optics (R66 to R75). -/

/-- TPA acts on burst k of a frame: BRX follows its page and PON_TXEN is high (R75, R688). -/
def State.tpaBurst (s : State) (n frame k : Nat) : Option CalEnt :=
  if !s.en n || s.pattern n != 0 || !s.txen n then none else (s.received n frame k).map headOf

/-- A granted burst passes while PON_TXEN is low: no pulse is sent for it, but it is the previous granted burst of the next and ends a
quiet interval (R68, R73, R688). -/
def State.burstPassed (s : State) (n frame k : Nat) : State :=
  match if s.en n && s.pattern n == 0 then s.received n frame k else none with
  | none => s
  | some b => s.setTport n { s.tport n with fPrev := some (frameCycles * frame + (headOf b).fin), rogued := false }

/-- BURST_RESET_PULSE. -/
def execBurstResetPulse (n : Fin 32) (frame : BitVec 51) (k : Fin 512) (s : State) : Res :=
  let base : Int := (frameCycles * frame.toNat : Nat)
  match s.tpaBurst n frame.toNat k with
  | none => .next (s.burstPassed n frame.toNat k)
  | some h =>
    let lead := s.fld (Reg.TPA_BRST n) 7 0
    let width := s.fld (Reg.TPA_BRST n) 13 8
    let stop := base + h.first - lead
    let first := stop - width
    let t := s.tport n
    let lim : Int := match t.fPrev with
      | some f => f + 1
      | none => first
    let start := max first lim
    let s := s.setTport n { t with fPrev := some (base + h.fin).toNat, rogued := false }
    .next (if stop - start < s.fld (Reg.TPA_BRST n) 21 16 then s.inc (Reg.TPA_CNT_BRST_SUPP n)
      else (s.incIf (decide (first < lim)) (Reg.TPA_CNT_BRST_CLIP n)).emit
        (.brst n start.toNat (stop - start).toNat))

/-- The run of silent frames after one SD check of a frame (Table 18.3). -/
def State.silentRun (s : State) (n frame : Nat) (miss : Bool) : State :=
  let (f0, fail) := s.prot.judged.look (0, false) n
  let run := s.prot.silent.look 0 n
  let p := if f0 = frame + 1 then
      { s.prot with judged := s.prot.judged.put (0, false) n (frame + 1, fail && miss)
                    silent := s.prot.silent.put 0 n (if fail && miss then run else 0) }
    else
      { s.prot with judged := s.prot.judged.put (0, false) n (frame + 1, miss)
                    silent := s.prot.silent.put 0 n (if !miss then 0 else if f0 = frame then run + 1 else 1) }
  { s with prot := p }

/-- SD_CHECK: cycle A + CHECK of a burst, with the level of PON_SD (R70 to R72). -/
def execSdCheck (n : Fin 32) (frame : BitVec 51) (k : Fin 512) (pin : Bool) (s : State) : Res :=
  match s.tpaBurst n frame.toNat k with
  | none => .next s
  | some h =>
    if h.kind = 1 || h.kind = 2 then .next s
    else
      let light := pin != s.bit (Reg.TPA_SD n) 31
      let s := s.silentRun n frame.toNat (!light)
      if light then .next s
      else
        let s := s.inc (Reg.TPA_CNT_SD_MISS n)
        .next (if s.bit (Reg.TPA_CTRL n) 2 then s.abandonBurst n frame.toNat k else s)

/-- Cycles from `at_` on, `len` of them, lie in no granted burst's span widened by its pulse and by TAIL (R73). -/
def State.quietAt (s : State) (n at_ len : Nat) : Bool :=
  let before : Int := s.fld (Reg.TPA_BRST n) 7 0 + s.fld (Reg.TPA_BRST n) 13 8
  let tail : Int := s.fld (Reg.TPA_SD n) 15 8
  !(s.gport n).pages.any fun g => s.planned n g.frame && (burstsOf g.ents).zipIdx.any fun x =>
    let base : Int := (frameCycles * g.frame : Nat)
    liveBurst x.1 && !g.leftOut.contains x.2 && decide (base + (headOf x.1).first - before < (at_ : Int) + len) &&
      decide ((at_ : Int) < base + (headOf x.1).fin + tail)

/-- ROGUE_EVENT: light for ROGUE_LIM cycles in a quiet interval, from a cycle of a frame on (R54, R73, R74, R290, R688).
DESIGN CHOICE: on a port with EN = 0 none is counted: a port that grants nothing has no quiet interval (log 69). -/
def execRogueEvent (n : Fin 32) (frame : BitVec 51) (cycle : BitVec 16) (s : State) : Res :=
  let t := s.tport n
  let at_ := frameCycles * frame.toNat + cycle.toNat
  let early := match t.fPrev with
    | some f => decide (at_ < f + s.fld (Reg.TPA_SD n) 15 8)
    | none => false
  .next (if !s.en n || !s.dfrRun n || s.holding n || decide (s.now < t.hush) || t.rogued || early ||
      !s.quietAt n at_ (s.fld (Reg.TPA_SD n) 27 16) then s
    else
      let s := s.setTport n { t with rogued := true }
      let s := (s.inc (Reg.TPA_CNT_ROGUE n)).setB (Reg.TPA_STATUS n) 4 true
      let s := if s.pairValid n then s.setB (Reg.TPA_STATUS (pairOf n)) 4 true else s
      let s := s.wr (Reg.TPA_ROGUE_POS n) (BitVec.ofNat 32 (2 ^ 28 * (frame.toNat % 16) + cycle.toNat))
      s.raise 26 n)

/-! The optics buses (R76 to R80). -/

def State.i2cBusy (s : State) (m : Nat) : Bool := s.bit (Reg.TPA_I_STATUS m) 4

/-- A command ends with a RESULT; after a failure the channel is selected again (R78). -/
def State.i2cEnd (s : State) (m result : Nat) (chan : Option Nat) : State :=
  let s := s.wr (Reg.TPA_I_STATUS m) (BitVec.ofNat 32 result)
  { s with tpa := { s.tpa with i2c := s.tpa.i2c.put {} m { chan := chan } } }

/-- I2C_CMD_GO: a write of TPA_Im_CMD with GO = 1 (R76, R80). DESIGN CHOICE: a command refused for its length, which is not
started, is no failed command of R78, so the channel last selected stands (log 69). -/
def execI2cCmdGo (m : Fin 4) (v : Word) (s : State) : Res :=
  s.opWrite (Reg.TPA_I_CMD m) (
    .next (if s.i2cBusy m then s
      else
        let s := s.wr (Reg.TPA_I_CMD m) (v &&& 0x07FFFF0F)
        if fldW v 3 0 = 0 || decide (8 < fldW v 3 0) then s.wr (Reg.TPA_I_STATUS m) 5
        else s.setB (Reg.TPA_I_STATUS m) 4 true))

/-- Step 1 of Table 02.5 is made: MUX_EN is 1 and PORT differs from the last channel selected. -/
def State.i2cMux (s : State) (m : Nat) : Bool :=
  s.bit (Reg.TPA_I_CFG m) 16 && (s.tpa.i2c.look {} m).chan != some (s.fld (Reg.TPA_I_CMD m) 26 24)

/-- The bytes of TPA_Im_DATA0 and TPA_Im_DATA1 as one number, byte 0 lowest. -/
def State.i2cData (s : State) (m : Nat) : Nat :=
  (s.rd (Reg.TPA_I_DATA0 m)).toNat + 2 ^ 32 * (s.rd (Reg.TPA_I_DATA1 m)).toNat

/-- All that the command in progress does on the bus when every byte is acknowledged (Table 02.5); `data` are the bytes that
the module gives, of which the master acknowledges all but the last. A STOP ends the write of step 1. -/
def State.i2cPlan (s : State) (m : Nat) (data : BitVec 64) : List I2cAct :=
  let c := s.rd (Reg.TPA_I_CMD m)
  let dev := 2 * fldW c 22 16
  let at_ (x i : Nat) : Byte := BitVec.ofNat 8 (x >>> (8 * i))
  let sent (x : Nat) : I2cAct := .sent (BitVec.ofNat 8 x) true
  let places := List.range (fldW c 3 0)
  (if s.i2cMux m then [.start, sent (2 * s.fld (Reg.TPA_I_CFG m) 23 17), sent (2 ^ fldW c 26 24), .stop] else []) ++
    [.start, sent dev, sent (fldW c 15 8)] ++
    (if c.getLsbD 23 then
        .start :: sent (dev + 1) :: places.map fun i => .got (at_ data.toNat i) (decide (i + 1 < fldW c 3 0))
      else places.map fun i => .sent (at_ (s.i2cData m) i) true) ++ [.stop]

/-- The actions before START k, from 0. -/
def beforeStart : Nat → List I2cAct → List I2cAct
  | _, [] => []
  | 0, .start :: _ => []
  | k + 1, .start :: r => .start :: beforeStart k r
  | k, a :: r => a :: beforeStart k r

/-- The actions up to the i-th byte sent, from 0, which is not acknowledged. -/
def untilNack : Nat → List I2cAct → List I2cAct
  | _, [] => []
  | 0, .sent b _ :: _ => [.sent b false]
  | i + 1, .sent b _ :: r => .sent b true :: untilNack i r
  | i, a :: r => a :: untilNack i r

/-- RESULT when the i-th byte sent is not acknowledged: the multiplexer's two bytes come first where step 1 is made, then DEV,
then OFFSET and the rest; 0 where the command sends no such byte (Table 02.5). -/
def State.i2cNack (s : State) (m i : Nat) : Nat :=
  let c := s.rd (Reg.TPA_I_CMD m)
  let mux := if s.i2cMux m then 2 else 0
  if i < mux then 6
  else if i = mux then 1
  else if i < mux + 2 + (if c.getLsbD 23 then 1 else fldW c 3 0) then 2
  else 0

/-- I2C_CMD_DONE: the command of Table 02.5 ends on the bus; a read returns bytes, byte i in bits 8i+7:8i. -/
def execI2cCmdDone (m : Fin 4) (r : I2cResult) (data : BitVec 64) (s : State) : Res :=
  if !s.i2cBusy m then .next s
  else
    let plan := s.i2cPlan m data
    let code := match r with
      | .ok => 0
      | .nack i => s.i2cNack m i
      | .recovered _ => 4
    match r, code with
    | .recovered k, _ =>
      let starts := (plan.filter (· == .start)).length
      .next ((s.drive (.i2c m (beforeStart (min k (starts - 1)) plan ++ [.freed]))).i2cEnd m 4 none)
    | .nack i, c + 1 => .next ((s.drive (.i2c m (untilNack i plan ++ [.stop]))).i2cEnd m (c + 1) none)
    | _, _ =>
      let c := s.rd (Reg.TPA_I_CMD m)
      let held := s.i2cData m
      let k := 2 ^ (8 * fldW c 3 0)
      let now_ := held - held % k + data.toNat % k
      let chan := if s.bit (Reg.TPA_I_CFG m) 16 then some (fldW c 26 24) else (s.tpa.i2c.look {} m).chan
      let s := if c.getLsbD 23 then
          (s.wr (Reg.TPA_I_DATA0 m) (wordOf now_ 0)).wr (Reg.TPA_I_DATA1 m) (wordOf now_ 1)
        else s
      .next ((s.drive (.i2c m plan)).i2cEnd m 0 chan)

/-- I2C_TIMEOUT: SCL is held low for longer than TIMEOUT, or SDA is still low after the recovery, when the first
`stop.done` actions of the command have been made (R77, R79). DESIGN CHOICE: the bytes of a read that have come by then reach
neither DATA0 nor DATA1, of which R77 says nothing (log 77). -/
def execI2cTimeout (stop : I2cStop) (s : State) : Res :=
  .next (if s.i2cBusy stop.m then
      (s.drive (.i2c stop.m ((s.i2cPlan stop.m stop.data).take stop.done ++ [.freed]))).i2cEnd stop.m 3 none
    else s)

end Sys2Proof.Machine
end

