-- ==== Sys2Proof/Machine/Reset.lean ====
section
/-! DEFINITION. Resets (21): what each block gives back before a soft reset and keeps through it (R28, R29, R635), the resets
of the device and their extents (R618, R620), the seal of the Sett (R625), and what a release does. -/

namespace Sys2Proof.Machine

/-! Registers. -/

/-- The block number of Table 01.1 of a bit of RCP_BLK_RST; OBS is 21. -/
def bitBlock (b : Nat) : Nat := if b = 18 then 21 else b + 1

/-- The block that a word of the tenant pages belongs to, by its bit of RCP_BLK_RST: FDB, TMG and CRY have their command sets
there, and the rest is HIF's (R587). -/
def tenBlk (k : Nat) : Nat :=
  match k % 0x10000 / 0x1000 with
  | 2 => 10
  | 3 => 12
  | 4 => 13
  | _ => 17

/-- The registers of a block return to their reset words, but for those that `keep` names; its held words and latches are
discarded (R684), and the words of its command sets in the tenant pages (R587). -/
def State.clearBlock (s : State) (b : Nat) (keep : Nat → Bool) : State :=
  { s with
    regs := s.regs.keep fun a => keep a || blkBit a != some b
    hif := { s.hif with held := s.hif.held.keep fun k => k % 32 != bitBlock b
                        latch := s.hif.latch.keep fun k => k % 32 != bitBlock b
                        ten := s.hif.ten.keep fun k => tenBlk k != b } }

/-! Descriptors whose rings a reset takes away. -/

/-- A descriptor that no ring will hear of again. -/
def orphan (d : Desc) : Desc := { d with ring := d.ring % 1024 + 1024 }
def Frm.orphan (f : Frm) : Frm := { f with desc := f.desc.map Machine.orphan }

/-- Frames on their way keep going, but their descriptors complete no more. -/
def State.orphanFrames (s : State) : State :=
  { s with
    tmg := { s.tmg with arrivals := s.tmg.arrivals.map Frm.orphan
                        queues := s.tmg.queues.map fun x => (x.1, x.2.map Frm.orphan)
                        leaving := s.tmg.leaving.map fun l => { l with frm := l.frm.orphan } }
    dfr := { s.dfr with port := s.dfr.port.map fun x => (x.1, { x.2 with ready := x.2.ready.map Frm.orphan }) } }

/-- Commands that have started go on (R582), and messages in the PLOAM queues are sent (R579). -/
def State.orphanCommands (s : State) : State :=
  { s with
    cls := { s.cls with swap := s.cls.swap.map orphan }
    mtn := { s.mtn with eng := s.mtn.eng.map fun x => (x.1, { x.2 with held := x.2.held.map fun h => { h with desc := orphan h.desc } }) }
    hif := { s.hif with ploams := s.hif.ploams.map fun x => (x.1, x.2.map fun m => (orphan m.1, m.2)) } }

/-! What each block returns before its soft reset (R28, R29). -/

/-- HIF: frames bound for host rings, and frames of the host that have a buffer and are not admitted. -/
def State.returnHif (s : State) : State :=
  let mine := s.tmg.arrivals.filter fun f => f.holder == 0x46
  let s : State := { s with
    tmg := { s.tmg with arrivals := s.tmg.arrivals.filter fun f => f.holder != 0x46 }
    bpm := { s.bpm with wants := s.bpm.wants.filter fun w => w.req != 7 } }
  let s := mine.foldl (fun s f => s.free f.buf 0x46) s
  let s := s.rx.foldl (fun s x => match x with
    | .frame _ _ f => s.free f.buf 0x39
    | .ploam .. => s) s
  ({ s with rx := [] } : State).orphanFrames.orphanCommands

/-- TMG: every queued frame, presented by its egress, and the frames that wait for admission. -/
def State.returnTmg (s : State) : State :=
  let s := s.tmg.queues.foldl (fun s x => x.2.foldl (fun s f => s.dropQueued (s.qEgress x.1) f) s) s
  let s := s.tmg.arrivals.foldl (fun s f => (s.free f.buf f.holder).dropDone 0 f) s
  { s with tmg := { leaving := s.tmg.leaving } }

/-- DFR: the frames in its framers; a message of the host completes as dropped. -/
def State.returnDfr (s : State) : State :=
  let s := (List.range 32).foldl (fun s n =>
    let fs := (s.dport n).ready
    let s := fs.foldl (fun s f => (s.finish f.buf n).dropDone n f) s
    let s := (s.hif.ploams.look [] n).foldl (fun s m => s.ptxDone (some m.1) 6 0) s
    (s.stopFraming n).emptyPloams n) s
  { s with hif := { s.hif with ploams := [] } }

/-- A value of 64 bits that the spec leaves open. -/
def State.fresh64 (s : State) : Word64 := BitVec.ofNat 64 (s.fresh.toNat + 2 ^ 32 * s.taken.fresh.toNat)

/-- The stall of a read of a report FIFO ends with the reset of the FIFO (R169): the read ends, and what it puts in g[d] the spec
leaves open. -/
def State.endStall (s : State) (m : Nat) : State :=
  match (s.fifo m).stalled with
  | none => s
  | some l =>
    let s1 := ((((s.setFifo m { s.fifo m with stalled := none }).waited l).setStalled l false).setPstate l 0)
    let e := s1.eng l
    let w := e.prog.look 0 e.pc
    (s1.setEng l (e.put (iD w) s1.fresh64)).taken.taken.sisEnd l e.pc (e.pc + 1) 10 false

/-- Every report FIFO empty, its credits restored and its stall ended (R24, R169, R173). -/
def State.emptyFifos (s : State) : State :=
  let s := (List.range 8).foldl (fun s m => s.endStall m) s
  { s with gnt := { s.gnt with fifo := [] } }

/-- UDF's return of grant bytes: of each live page that UDF receives, the counts made so far go to GNT, and the rest is lost-burst
(R29, R201). -/
def State.returnCounts (s : State) : State :=
  (List.range 32).foldl (fun s n =>
    (s.gport n).pages.foldl (fun s g =>
      if s.planned n g.frame && g.counts.isNone then
        s.setPage n { g with counts := some ((s.udf.port.look {} n).pageCounts g) }
      else s) s) s

/-- UDF: the counts of pages already begun go to GNT; partial frames return their buffers; report FIFOs empty (R173, R201). -/
def State.returnUdf (s : State) : State :=
  let s := s.returnCounts
  let s := (s.udf.parts.map (·.1)).foldl (fun s st => s.dropPartial st) s
  ({ s with bpm := { s.bpm with wants := s.bpm.wants.filter fun w => w.req != 5 } } : State).emptyFifos

/-- TCE: received pseudowire packets. -/
def State.returnTce (s : State) : State :=
  let s := s.tce.packets.foldl (fun s x => s.free x.2.2.buf 0x3A) s
  { s with bpm := { s.bpm with wants := s.bpm.wants.filter fun w => w.req != 6 } }

/-- UPL: frames selected and not yet on the line. -/
def State.returnUpl (s : State) : State :=
  let mine := fun (l : Leaving) => decide (32 ≤ l.egress) && decide (l.egress < 56) && decide (l.status ≠ 6)
  let s := (s.tmg.leaving.filter mine).foldl (fun s l => s.finish l.frm.buf l.egress) s
  { s with tmg := { s.tmg with leaving := s.tmg.leaving.map fun l => if mine l then { l with status := 6, bytes := [] } else l } }

/-- PRS and CLS: packets in flight. -/
def State.returnPkts (s : State) (l : List Pkt) : State :=
  l.foldl (fun s p => match p.buf with
    | some b => s.free b 0x45
    | none => s) s

/-- What BRX is to expect of each terminal, as RNG holds it (log 71). -/
def State.reexpect (s : State) : State :=
  let ctx := (s.regs.filter fun x => decide (0xE00000 ≤ x.1) && decide (x.1 < 0x1000000) && decide (0x8000 ≤ x.1 % 0x10000) &&
    x.1 % 32 == 4).map fun x => 512 * ((x.1 - 0xE00000) / 0x10000) + (x.1 % 0x10000 - 0x8000) / 32
  let all := (ctx ++ s.rng.term.map (·.1)).foldl (fun (t : Tab Expect) i => t.put {} i (s.expectOf (i / 512) (i % 512))) []
  { s with brx := { s.brx with expect := all } }

/-! The blocks, blank. -/

/-- What a block holds beside its registers after a reset of the block; a soft reset keeps what the spec says it keeps: the
banks of CLS, the programs and segment owners of MTN (R690), and the ledger's tracking of OBS. -/
def State.blank (s : State) (b : Nat) (soft : Bool) : State :=
  match b with
  | 0 => { s with tpa := {}, prot := {} }
  | 1 => { s with brx := {} }
  | 2 => { s with rng := {} }
  | 3 => { s with gnt := {} }
  | 4 => if soft then { s with mtn := {
      eng := (s.mtn.eng.map fun x => (x.1, ({ prog := x.2.prog, owner := x.2.owner } : Engine))).filter fun x => x.2 != {} } }
    else { s with mtn := {} }
  | 5 => { s with dfr := {} }
  | 6 => { s with udf := {} }
  | 7 => { s with tce := {} }
  | 8 => { s with cls := { s.cls with ingress := [] } }
  | 9 => if soft then { s with cls := { ingress := s.cls.ingress, nodes := s.cls.nodes, rules := s.cls.rules } }
    else { s with cls := {} }
  | 10 => { s with fdb := {} }
  | 11 => { s with bpm := {} }
  | 12 => { s with tmg := { leaving := s.tmg.leaving } }
  | 13 => { s with cry := {} }
  | 14 => { s with upl := {} }
  | 15 => { s with tsu := {}, clk := {} }
  | 16 => { s with mlk := {} }
  | 17 => { s with hif := { held := s.hif.held, latch := s.hif.latch, ten := s.hif.ten, ploams := s.hif.ploams, lostInReset := s.hif.lostInReset } }
  | _ => { s with obs := { lit := s.obs.lit, thermUp := s.obs.thermUp, thermRef := s.obs.thermRef
                           mirroring := s.obs.mirroring, waiting := s.obs.waiting, image := s.obs.image } }

/-- Registers that a soft reset of a block keeps: the root tables of CLS; SUSP_EN and the mailboxes of MTN (R690); REF_SEL
of TSU, which applies at the release (R513); READY of the ledger. -/
def softKeep (b a : Nat) : Bool :=
  match b with
  | 4 => decide (0x1200100 ≤ a) && decide (a < 0x1200300) && (a % 32 == 0 || a % 32 == 8)
  | 9 => decide (0x1900200 ≤ a) && decide (a < 0x1900240)
  | 15 => a == Reg.TSU_CTRL
  | 18 => a == Reg.OBS_LDG_STATUS
  | _ => false

/-- Of the registers kept, only the fields that R690 and R513 name. -/
def State.softTrim (s : State) (b : Nat) : State :=
  match b with
  | 4 => (List.range 16).foldl (fun s l => s.setB (Reg.MTN_L_CTRL l) 0 false) s
  | 15 => s.wr Reg.TSU_CTRL (s.rd Reg.TSU_CTRL &&& 1)
  | 18 => s.wr Reg.OBS_LDG_STATUS (s.rd Reg.OBS_LDG_STATUS &&& 1)
  | _ => s

/-- The return that a block makes before it stays in reset. -/
def State.giveBack (s : State) (b : Nat) : State :=
  match b with
  | 0 => (List.range 32).foldl (fun s n => if s.en n then s.disablePort n else s) s
  | 2 => (List.range 32).foldl (fun s n => s.emptyPloams n) s
  | 3 => s.emptyFifos
  | 4 => (List.range 16).foldl (fun s l => s.applyLoads l) s
  | 5 => s.returnDfr
  | 6 => s.returnUdf
  | 7 => s.returnTce
  | 8 => s.returnPkts s.cls.ingress
  | 9 => s.returnPkts (s.cls.recirc.flatMap (·.2))
  | 12 => s.returnTmg
  | 14 => s.returnUpl
  | 17 => s.returnHif
  | _ => s

/-- A block is in reset. -/
def State.enterReset (s : State) (b : Nat) : State :=
  { s with rcp := { s.rcp with inReset := setBitW s.rcp.inReset b true, soft := setBitW s.rcp.soft b true } }

/-- The reset of an uplink port or of a terminal link makes its bins PARTIAL (R348). -/
def State.partialOf (s : State) (b : Nat) : State :=
  let es := if b = 14 then ((List.range 24).filter fun u => s.bit (Reg.UPL_u_CTRL u) 31).map fun u => 20480 + u
    else if b = 2 then ((List.range 16384).filter fun t => s.termSt (t / 512) (t % 512) != 0).map fun t => 4096 + t
    else []
  es.foldl (fun s e => s.pmPartial e) s

/-- A soft reset of a block but BPM (R29, R635). -/
def State.softBlock (s : State) (b : Nat) : State :=
  let old := s.clk
  let s := if b = 15 then s.outsLow else s
  let s := s.partialOf b
  let s := (((s.giveBack b).blank b true).clearBlock b (softKeep b)).softTrim b
  let s := ((s.enterReset b).seeLight).resync b
  match b with
  | 4 => { s with gnt := { s.gnt with
    fifo := (s.gnt.fifo.map fun x => (x.1, { x.2 with stalled := none })).filter fun x => x.2 != {} } }
  | 15 => s.clockStepped old
  | 1 | 2 => s.reexpect
  | _ => s

/-! BPM (R426). -/

/-- The rings that carry packets. -/
def State.packetRing (s : State) (r : Nat) : Bool := s.fld (Reg.HIF_RING r 0) 30 28 == 1 || s.fld (Reg.HIF_RING r 0) 30 28 == 2

/-- HIF's packet rings return to their reset value; the frames they hold are discarded without frees, and the PLOAM messages that wait
for DFR, which is reset too, go with them. -/
def State.resetPacketRings (s : State) : State :=
  let rs := (List.range 1024).filter s.packetRing
  let s := s.orphanFrames
  { s with
    rx := []
    hif := { s.hif with fetched := s.hif.fetched.filter (fun d => !rs.contains d.ring)
                        taken := s.hif.taken.filter (fun d => !rs.contains d.ring)
                        ploams := [] }
    regs := s.regs.keep fun a => !rs.any fun r => decide (Reg.HIF_RING r 0 ≤ a) && decide (a < Reg.HIF_RING (r + 1) 0) }

/-- A soft reset of BPM resets the blocks that hold a buffer pointer, whose frames are discarded without frees, and rebuilds
every pool. Credits and grant bytes are returned (R29). -/
def State.softBpm (s : State) : State :=
  let s := (s.resetPacketRings.returnCounts).emptyFifos
  let s := (List.range 32).foldl (fun s n => s.emptyPloams n) s
  let s := [12, 5, 6, 7, 11].foldl (fun s b => ((s.blank b false).clearBlock b fun _ => false).enterReset b) s
  let s := (((List.range 32).foldl (fun s n => s.setB (Reg.TPA_STATUS n) 1 false) s).resync 5).resync 6
  let keep := fun (p : Pkt) => p.buf.isNone
  let s := ((s.cls.recirc.flatMap (·.2)).filter fun p => p.buf.isSome).foldl (fun s p => s.inflStep p.epoch false) s
  let s : State := { s with
    tmg := {}
    cls := { s.cls with ingress := s.cls.ingress.filter keep, recirc := (s.cls.recirc.map fun x => (x.1, x.2.filter keep)).filter fun x => x.2 != [] } }
  s.rebuildPools

/-- A write of 1 to bit b of RCP_BLK_RST; a block already in reset stays as it is. -/
def State.softReset (s : State) (b : Nat) : State :=
  if !s.up b then s else if b = 11 then s.softBpm else s.softBlock b

/-! Resets of the device (R618, R620, R626). -/

/-- Extent: the greater resets more. -/
def ResetSrc.rank : ResetSrc → Nat
  | .powerAon => 5
  | .powerCore => 4
  | .faultRecovery => 3
  | .porst => 2
  | _ => 1

/-- LAST (Table 21.7). -/
def ResetSrc.code : ResetSrc → Nat
  | .powerAon => 1
  | .powerCore => 2
  | .porst => 3
  | .sysrst => 4
  | .software => 5
  | .watchdog => 6
  | .faultRecovery => 7

/-- The steps that a source repeats (Table 21.2): the strap; the trim load, the PLLs and the memory test. -/
def ResetSrc.strap (r : ResetSrc) : Bool := r == .powerAon || r == .powerCore || r == .porst
def ResetSrc.full (r : ResetSrc) : Bool := r.strap || r == .faultRecovery

/-- A register that a reset of the device leaves. GLB stays through SYSRST_N, the software reset and the watchdog (R661). -/
def keptBy (r : ResetSrc) (a : Nat) : Bool :=
  if a < 0x100000 then !r.full
  else if a < 0x200000 then (a == Reg.RCP_STRAP && !r.strap) || a == Reg.RCP_CAUSE || a == Reg.RCP_STATUS ||
    (decide (0x100040 ≤ a) && decide (a < 0x100080)) || (decide (0x110000 ≤ a) && decide (a < 0x120000))
  else if a < 0x300000 then !r.clearsFlt
  else false

/-- The word at a Sett offset as it reads: the runtime repair record and the cycle-tracking state have formats that the spec
leaves open (R687, Table 22.8). -/
def State.retWord (s : State) (o : Nat) : Word :=
  if o < 0x1000 then
    if s.rcp.repairs = [] then 0 else Config.repairWord (s.rcp.repairs.map fun r => (r.kind, r.blk, r.loc)) o
  else if o = 0x1248 ∨ o = 0x124C then
    if s.obs.thermUp ∧ s.obs.thermRef = none then 0 else Config.thermWord s.obs.thermUp s.obs.thermRef o
  else s.rd (Reg.RCP_RET o)

/-- The seal: CRC-32C of the backup registers and of the retained memory (R625). -/
def State.sealOf (s : State) : Word :=
  let bytes := ((List.range 16).flatMap fun i => bytesLE 4 (s.rd (Reg.RCP_BKP i)).toNat) ++
    (List.range 16384).flatMap fun i => bytesLE 4 (s.retWord (4 * i)).toNat
  BitVec.ofNat 32 (crc32c 0xFFFFFFFF bytes)

/-- FLT copies the first-fault record to FLT_PREV, which lies in the Sett (R604, R687). -/
def State.copyRecord (s : State) : State :=
  let put := fun (s : State) (o a : Nat) => s.wr (Reg.RCP_RET o) (s.rd a)
  put (put (put (put (put s 0x1100 Reg.FLT_FFR_INFO) 0x1104 Reg.FLT_FFR_TIME_LO) 0x1108 Reg.FLT_FFR_TIME_HI) 0x110C
    Reg.FLT_FFR_AON_LO) 0x1110 Reg.FLT_FFR_AON_HI

/-- The reset is absorbed: a greater one is asserted or releasing (R620). After TRIM_ERR a power-on reset or PORST_N repeats
the load all the same (R622). -/
def State.absorbs (s : State) (r : ResetSrc) : Bool :=
  match s.rcp.releasing with
  | none => false
  | some x => decide (r.rank < x.rank) && !(s.bit Reg.RCP_STATUS 4 && r.strap)

/-- Every block but RCP, FLT and GLB, blank; the latched words of FLT go only when FLT is reset (R684). -/
def State.blankAll (s : State) (flt : Bool) : State :=
  { s with
    clk := {}, obs := { lit := s.obs.lit, thermUp := s.obs.thermUp, thermRef := s.obs.thermRef }
    hif := if flt then {} else { latch := s.hif.latch.keep fun k => k % 32 == blockNo Reg.FLT_CTRL }
    tpa := {}, brx := {}, rng := {}
    gnt := {}, udf := {}, tce := {}, cls := {}, fdb := {}, bpm := {}, tmg := {}, cry := {}, dfr := {}, prot := {}, upl := {}
    mlk := {}, mtn := {}, tsu := {}, dcq := [], rx := [] }

/-- The spare rows in use when the copies in progress are cut: theirs are unused again. -/
def Rcp.freeCopies (r : Rcp) : Tab Nat :=
  r.copying.foldl (fun t x => t.put 0 (65536 * x.1 + x.2.1) (t.look 0 (65536 * x.1 + x.2.1) - 1)) r.rowsUsed

/-- A reset of the device is asserted and reaches its origin. -/
def State.assertReset (s : State) (r : ResetSrc) : State :=
  if s.absorbs r then s
  else
    let s := if r.clearsFlt then s.outsLow.endPass.copyRecord else s.outsLow.endPass
    let sum := s.sealOf
    let status := s.rd Reg.RCP_STATUS &&& (if r.full && !(s.bit Reg.RCP_STATUS 4 && r == .faultRecovery) then 0x20 else 0x38)
    let cause := setFldW (s.rd Reg.RCP_CAUSE) 3 0 r.code
    let cause := if r == .powerAon then setBitW cause 6 true else cause
    let flt := if r.clearsFlt then { aon := if r == .powerAon then 0 else s.flt.aon }
      else if r == .porst then { s.flt with alive := false } else s.flt
    let rcp := { s.rcp with
      phase := 2, releasing := some r, domains := 0, inReset := BitVec.allOnes 19, soft := 0, trimFails := 0, swKey := false
      wdArmed := false, hwin := [], rowsUsed := s.rcp.freeCopies, copying := [], pipeWatch := 0, upow := [], quietLeft := none, needDisc := 0, cause := [r.code, r.code, r.code]
      aonLost := s.rcp.aonLost || r == .powerAon }
    let s := ({ s with flt := flt, rcp := rcp, regs := s.regs.keep (keptBy r) } : State).blankAll r.clearsFlt
    (((s.wr Reg.RCP_STATUS status).wr Reg.RCP_CAUSE cause).wr Reg.RCP_SEAL sum).seeLight

/-! Releases. -/

/-- What a block does at its release: MTN binds its engines (R205), TSU reads REF_SEL and shows the lock of its PLL (R513) and its clock starts at 0, a
frame tick where FT_OFFSET is 0 (R270), HIF counts the frames it lost (R590), and the ledger of a trusted Sett is ready (R658). -/
def State.releaseBlock (s : State) (b : Nat) : State :=
  let s : State := { s with rcp := { s.rcp with inReset := setBitW s.rcp.inReset b false, soft := setBitW s.rcp.soft b false } }
  match b with
  | 4 => s.bindEngines
  | 15 =>
    let s : State := { s.setB Reg.TSU_STATUS 0 (!s.rcp.tsPllLost) with tsu := { s.tsu with refSel := s.bit Reg.TSU_CTRL 0 } }
    if s.up 5 && s.ftOffset = 0 then s.frameTick else s
  | 18 =>
    let s : State := { s with obs := { s.obs with mirrorFailed := false } }
    if s.bit Reg.RCP_STATUS 5 then s.setB Reg.OBS_LDG_STATUS 0 true else s
  | 17 => ({ s with hif := { s.hif with lostInReset := 0 } } : State).incN Reg.HIF_CNT_NORING s.hif.lostInReset
  | _ => s

end Sys2Proof.Machine
end

