-- ==== Sys2Proof/Machine/Rcp.lean ====
section
/-! DEFINITION. The commands of reset, strap, power and boot (21), the resets of HIF alone (R590), and the quiet timer of the
Fatal state (R605, R606). -/

namespace Sys2Proof.Machine

/-! Reset sources (Table 21.2). -/

/-- POWER_ON_AON: VDD_AON has been below its threshold, and every rail is back in its window. -/
def execPowerOnAon (s : State) : Res := .next (s.assertReset .powerAon)

/-- POWER_ON_CORE: another rail has been below its power-good threshold. -/
def execPowerOnCore (s : State) : Res := .next (s.assertReset .powerCore)

/-- PORST: PORST_N has been low for 25 CLK_AON edges, and is released. -/
def execPorst (s : State) : Res := .next (s.assertReset .porst)

/-- SYSRST: SYSRST_N has been low for 25 CLK_AON edges, and is released. -/
def execSysrst (s : State) : Res := .next (s.assertReset .sysrst)

/-- SOFTWARE_GLOBAL_RESET: a write of v to RCP_SWRST; `late` says that more than 1 ms has passed since the first key. The keys
are 0xD2 and 0x2D (R630). -/
def execSoftwareGlobalReset (v : Word) (late : Bool) (s : State) : Res :=
  s.opWrite Reg.RCP_SWRST <|
    let key := fun (s : State) (b : Bool) => ({ s with rcp := { s.rcp with swKey := b } } : State)
    if v = 0x2D && s.rcp.swKey && !late then .next (s.assertReset .software)
    else if v = 0xD2 then .next ((key s true).incIf s.rcp.swKey Reg.RCP_CNT_REFUSED)
    else .next ((key s false).inc Reg.RCP_CNT_REFUSED)

/-- WATCHDOG_EXPIRE: 2 s without a feed after OUT_REL (R631). -/
def execWatchdogExpire (s : State) : Res :=
  .next (if s.rcp.wdArmed then (s.raise 3 0).assertReset .watchdog else s)

/-- SUPPLY_OUT_OF_WINDOW: a rail has left its operating range (R618, R673, R597). -/
def execSupplyOutOfWindow (rail : Fin 16) (s : State) : Res := .next (s.raiseLevel 1 rail)

/-! The release (Table 21.4). -/

/-- The device is in a phase of Table 21.3. -/
def State.phase (s : State) (n : Nat) : Bool := s.rcp.phase == n
def State.setPhase (s : State) (n : Nat) : State := { s with rcp := { s.rcp with phase := n } }

/-- The reset that is releasing. -/
def State.origin (s : State) : ResetSrc := s.rcp.releasing.getD .sysrst

/-- The Sett without its content: everything but the cause (R625). Spares taken by runtime repairs are free again (R45), those of fuse
repair are not. -/
def State.clearSett (s : State) : State :=
  { s with
    regs := s.regs.keep fun a => !(decide (0x100040 ≤ a) && decide (a < 0x100080)) && !(decide (0x110000 ≤ a) && decide (a < 0x120000))
    rcp := if s.rcp.fusesLogged then ({ s.rcp with repairs := [] } : Rcp).withSpares
      else { s.rcp with repairs := [], rowsUsed := [], pipes := 0b01111, pipesRetired := 0, slices := 0, spared := [] }
    obs := { s.obs with thermUp := true, thermRef := none, lit := {} } }

/-- SETT_CHECK: `find.sealHolds` says that no word of the Sett is uncorrectable and its content matches the seal. The cause latches
are read back by majority; `find.upset` is a latch that reads otherwise than it was written, with what it reads (R625, R626). -/
def execSettCheck (find : SettFind) (s : State) : Res :=
  if !s.phase 2 then .next s
  else
    let ok := find.sealHolds && !s.rcp.aonLost
    let latches := find.upset.elim s.rcp.cause fun x => s.rcp.cause.set x.1 x.2
    let vote := match latches with
      | [a, b, c] => if a = b || a = c then a else b
      | _ => s.fld Reg.RCP_CAUSE 3 0
    let s := if latches.all (· == vote) then s else s.setB Reg.RCP_CAUSE 7 true
    let s := s.setF Reg.RCP_CAUSE 3 0 vote
    let s : State := { s with rcp := { s.rcp with cause := [vote, vote, vote], aonLost := false } }
    let s := s.setB Reg.RCP_STATUS 5 ok
    let s := if ok then s else s.clearSett.raise 7 0
    .next (s.setPhase (if s.origin.strap then 3 else if s.origin.full then 4 else 6))

/-- RCP_STRAP for a measured code (Table 21.1, R616). -/
def strapWord (code : Nat) : Word :=
  let role := if code < 12 then code / 4 else 0
  let host := code == 12 || (decide (code < 12) && code / 2 % 2 == 1)
  let x4 := decide (code < 12) && code % 2 == 1
  BitVec.ofNat 32 (2 ^ 15 * (decide (14 ≤ code)).toNat + 2 ^ 14 * (code == 13).toNat + 2 ^ 13 * (code == 12).toNat +
    2 ^ 12 * x4.toNat + 2 ^ 10 * role + 2 ^ 9 * host.toNat + code)

/-- STRAP_MEASURE (R614 to R616). -/
def execStrapMeasure (code : Fin 16) (s : State) : Res :=
  .next (if s.phase 3 then (s.wr Reg.RCP_STRAP (strapWord code)).setPhase 4 else s)

/-- The fuse repairs of this chip by element and location: engines, of MTN, and the others. -/
def fuseRepairs : List (Nat × Nat) :=
  (((List.range 18).filter fun p => Config.fusedOut.getLsbD p).map fun p => (5, p)) ++
    Config.fuseRepairs.map fun f => (f.blk, f.loc)

/-- The fuse load finds the fuse repairs; the first time, each is logged (R44, R656). DESIGN CHOICE: a fuse repair that has taken
the last spare of a kind raises no Notice here; R43 does not say whether it does (log 77). -/
def State.logFuses (s : State) : State :=
  if s.rcp.fusesLogged then s
  else
    let s := fuseRepairs.foldl (fun s e => s.ledgerLog 1 e.1 e.2 0) s
    { s with rcp := { s.rcp with fusesLogged := true } }

/-- TRIM_LOAD: one load of fuses and trims, with the repairs of both kinds (R45); after three whose CRC fails the device stops (R622). A fault-recovery reset does
not repeat a load that has set TRIM_ERR. -/
def execTrimLoad (crcMatch : Bool) (s : State) : Res :=
  if !s.phase 4 || decide (3 ≤ s.rcp.trimFails) || s.bit Reg.RCP_STATUS 4 then .next s
  else if crcMatch then
    let s := s.logFuses
    .next ((({ s with rcp := s.rcp.withSpares } : State).setB Reg.RCP_STATUS 3 true).setPhase 5)
  else
    let n := s.rcp.trimFails + 1
    let s : State := { s with rcp := { s.rcp with trimFails := n } }
    .next (if n = 3 then s.setB Reg.RCP_STATUS 4 true else s)

/-- PLL_LOCK: the PLLs of phase 5 are locked. -/
def execPllLock (s : State) : Res :=
  .next (if s.phase 5 then ({ s with rcp := { s.rcp with tsPllLost := false } } : State).setPhase 6 else s)

/-- A lasting defect that the self-test finds: a spare row, or none left (R623, R42, R44). A row already remapped is no new
defect. -/
def State.bistDefect (s : State) (d : MemDefect) : State :=
  let blk := d.blk.val
  let loc := 65536 * d.mac.toNat + d.row.toNat
  let key := 65536 * blk + d.mac.toNat
  let used := s.rcp.rowsUsed.look 0 key
  if s.rcp.repairs.any fun r => r.kind == 2 && r.blk == blk && r.loc == loc then s
  else if 4 ≤ used then s.raise 12 blk
  else
    let s : State := { s with rcp := { s.rcp with rowsUsed := s.rcp.rowsUsed.put 0 key (used + 1) } }
    let s := s.repairDone 2 blk loc
    if used + 1 = 4 then s.raise 11 blk else s

/-- MEMORY_BIST: phase 6; a warm reset only reapplies the runtime repairs. In code 13 the release stops here (R617, R623, R45). -/
def execMemoryBist (defects : List MemDefect) (s : State) : Res :=
  if !s.phase 6 || s.bit Reg.RCP_STATUS 2 then .next s
  else
    let s := if s.origin.full then defects.foldl (fun s d => s.bistDefect d) s else s
    let s := s.setB Reg.RCP_STATUS 2 true
    .next (if s.bit Reg.RCP_STRAP 14 || !s.bit Reg.RCP_STATUS 3 then s else s.setPhase 7)

/-- The blocks of each step of phase 7, by RCP_BLK_RST bit: OBS; TSU; the blocks of CLK_CORE; of CLK_ME; the port, lane and
mate domains; HIF. -/
def domainBlocks : Nat → List Nat
  | 0 => [18]
  | 1 => [15]
  | 2 => [5, 6, 7, 8, 9, 10, 11, 12, 13, 14, 16]
  | 3 => [2, 3, 4]
  | 4 => [0, 1]
  | _ => [17]

/-- The boot ROM starts: a host code waits for the host (R628, Table 21.8). -/
def State.startRom (s : State) : State :=
  let s : State := { s.setPhase 8 with rcp := { s.rcp with phase := 8, releasing := none } }
  s.setF Reg.RCP_BOOT 19 16 (if s.bit Reg.RCP_STRAP 9 then 2 else 1)

/-- DOMAIN_RELEASE: the next clock domain of phase 7; HIF, the last, waits while PERST_N is low, as `perst` says (Table 21.4). -/
def execDomainRelease (perst : Bool) (s : State) : Res :=
  if !s.phase 7 || (perst && s.rcp.domains == 5) then .next s
  else
    let d := s.rcp.domains
    let s := (domainBlocks d).foldl (fun s b => s.releaseBlock b) s
    let s : State := { s with rcp := { s.rcp with domains := d + 1 } }
    .next (if d < 5 then s else s.startRom)

/-! Boot (R627 to R629). -/

/-- ERR of a failed check (Table 21.8). -/
def bootCode : BootCheck → Nat
  | .good => 0
  | .sig => 1
  | .devid => 2
  | .svn => 3
  | .read => 4

/-- Firmware of a version runs (phase 9). -/
def State.runFirmware (s : State) (version : Word) : State :=
  ((s.setF Reg.RCP_BOOT 19 16 3).wr Reg.RCP_FW_VER version).setPhase 9

/-- BOOT_ROM: what the ROM finds of the two copies in flash, and the version of the one that passes (R627). -/
def execBootRom (copyA copyB : BootCheck) (version : Word) (s : State) : Res :=
  if !s.phase 8 || s.fld Reg.RCP_BOOT 19 16 ≠ 1 then .next s
  else if bootCode copyA = 0 then .next ((s.setB Reg.RCP_BOOT 0 false).runFirmware version)
  else if bootCode copyB = 0 then .next ((s.setB Reg.RCP_BOOT 0 true).runFirmware version)
  else .next ((s.setF Reg.RCP_BOOT 27 24 (bootCode copyB)).setF Reg.RCP_BOOT 19 16 5)

/-- HOST_LOAD: a write of RCP_HLOAD with LEN and GO = 1, the check of the image in RCP_HWIN, whether it is marked as a
recovery image, and its version (R628). -/
def execHostLoad (len : BitVec 20) (check : BootCheck) (recovery : Bool) (version : Word) (s : State) : Res :=
  s.opWrite Reg.RCP_HLOAD <|
    if s.fld Reg.RCP_BOOT 19 16 ≠ 2 then .next (s.inc Reg.RCP_CNT_REFUSED)
    else
      let s := s.setF Reg.RCP_HLOAD 19 0 len.toNat
      let err := if bootCode check ≠ 0 then bootCode check else if s.bit Reg.RCP_STRAP 13 && !recovery then 5 else 0
      let s := s.setF Reg.RCP_BOOT 27 24 err
      .next (if err = 0 then s.runFirmware version else s)

/-! The ledger after a loss of the Sett (R658). -/

/-- Sett offsets of the lifetime counters (Table 22.8). -/
def ledgerCounters : List Nat :=
  [0x1210, 0x1240, 0x1244] ++ (List.range 16).map (fun i => 0x1250 + 4 * i) ++ (List.range 32).map (fun i => 0x1290 + 4 * i) ++
    (List.range 9).map fun i => 0x1314 + 4 * i

/-- An entry logged before the restore follows those of the image. -/
def State.keepEntry (s : State) (e : List Word) : State :=
  let n := (s.rd (ldg 0x120C)).toNat
  if 1024 ≤ n then s.ldgBump 0x1210 1
  else
    let s := (List.range 8).foldl (fun s i => s.wr (ldg (0x1600 + 32 * n + 4 * i)) (e.getD i 0)) s
    let s := s.wr (ldg 0x120C) (BitVec.ofNat 32 (n + 1))
    if n + 1 = 1024 then s.setB (ldg 0x1204) 1 true else s

/-- An image becomes the ledger, its cycle-tracking state included; the counts since the release are added (R658). -/
def State.loadImage (s : State) (img : LedgerSlot) : State :=
  let s := s.endPass
  let counts := ledgerCounters.map fun o => (o, (s.rd (ldg o)).toNat)
  let entries := (List.range (s.rd (ldg 0x120C)).toNat).map fun j => (List.range 8).map fun i => s.rd (ldg (0x1600 + 32 * j + 4 * i))
  let s := (List.range 8448).foldl (fun s i => s.wr (ldg (0x1200 + 4 * i)) (img.words.getD i 0)) s
  let s := counts.foldl (fun s c => s.ldgBump c.1 c.2) s
  let s := entries.foldl (fun s e => s.keepEntry e) s
  let s : State := { s with obs := { s.obs with thermUp := img.thermUp, thermRef := img.thermRef } }
  (s.ledgerLog 8 21 0 img.seq.toNat).setB (ldg 0x1204) 2 true

/-- The valid slot with the higher MIRROR_SEQ. -/
def newerSlot : Option LedgerSlot → Option LedgerSlot → Option LedgerSlot
  | some a, some b => if a.seq.toNat < b.seq.toNat then some b else some a
  | some a, none => some a
  | none, b => b

/-- LEDGER_RESTORE, by boot firmware after a loss of the Sett. -/
def State.restoreLedger (s : State) (slotA slotB : Option LedgerSlot) : State :=
  if s.bit Reg.OBS_LDG_STATUS 0 then s
  else
    let s := match newerSlot slotA slotB with
      | some img => s.loadImage img
      | none => (s.wr (ldg 0x1200) 0x10000).setB (ldg 0x1204) 3 true
    s.setB Reg.OBS_LDG_STATUS 0 true

/-- A base-image refusal stands in LOAD_ERR (Table 06.6). -/
def State.baseRefused (s : State) : Bool := decide (1 ≤ s.fld Reg.MTN_STATUS 27 24) && decide (s.fld Reg.MTN_STATUS 27 24 ≤ 5)

/-- OUT_REL: boot firmware has started housekeeping; the ledger images it reads in the two flash slots, where they are valid
(R629, R658). A recovery image reads no flash at start (R628). Without OUT_REL the device stays in phase 9. -/
def execOutRel (slotA slotB : Option LedgerSlot) (s : State) : Res :=
  if !s.phase 9 then .next s
  else
    let flash := !s.bit Reg.RCP_STRAP 13
    let s : State := if flash then
        { s with rcp := { s.rcp with slotSeq := (slotA.map (·.seq), slotB.map (·.seq)) } }
      else s
    let s := s.restoreLedger (if flash then slotA else none) (if flash then slotB else none)
    .next (if s.baseRefused || s.flt.fatal || !s.bit Reg.MTN_STATUS 0 then s
      else
        let s := (s.setB Reg.RCP_STATUS 7 true).setF Reg.RCP_BOOT 19 16 4
        ({ s with rcp := { s.rcp with phase := 10, wdArmed := true } } : State).seeLight)

/-! Soft resets (R635), and the resets of HIF alone (R590). -/

/-- BLOCK_SOFT_RESET: a write of RCP_BLK_RST. -/
def execBlockSoftReset (mask : BitVec 19) (s : State) : Res :=
  s.opWrite Reg.RCP_BLK_RST (.next (((List.range 19).filter fun b => mask.getLsbD b).foldl (fun s b => s.softReset b) s))

/-- BLOCK_RESET_RELEASE: a block under a soft reset has met R29 and is released. -/
def execBlockResetRelease (b : Fin 19) (s : State) : Res :=
  .next (if s.rcp.soft.getLsbD b then s.releaseBlock b else s)

/-- PCIE_RESET: a conventional or hot reset, a function-level reset of PF0, or with `loss` a loss of the link (R590). -/
def execPcieReset (loss : Bool) (s : State) : Res :=
  if !s.up 17 then .next s
  else .next ((if loss then s.raise 47 0 else s).softBlock 17)

/-! Recovery from the Fatal state (R605, R606). -/

/-- The history takes the present CLK_AON count; the last 16 stay (Table 21.16). -/
def State.appendRecovery (s : State) : State :=
  let p := Reg.RCP_RET 0x1000
  let entry := fun i => Reg.RCP_RET (0x1008 + 8 * i)
  let n := s.fld p 4 0
  let s := if n < 16 then s
    else (List.range 15).foldl (fun s i => (s.wr (entry i) (s.rd (entry (i + 1)))).wr (entry i + 4) (s.rd (entry (i + 1) + 4))) s
  let k := min n 15
  let s := (s.wr (entry k) (wordOf s.flt.aon.toNat 0)).wr (entry k + 4) (wordOf s.flt.aon.toNat 1)
  (s.setF p 4 0 (k + 1)).satField p 23 16 1

/-- A level source of class Fatal is active, which holds the quiet timer. -/
def State.fatalLevel (s : State) : Bool := (List.range 52).any fun i => s.flt.active.getLsbD i && decide (s.clsOf i = 3)

/-- QUIET_TIMER_EXPIRE: QUIET_S seconds in the Fatal state without a Fatal event and without a Fatal level. -/
def execQuietTimerExpire (s : State) : Res :=
  if !s.mateRole || !s.flt.fatal || s.fatalLevel || s.pco then .next s
  else if s.fld Reg.FLT_RCV_CTRL 3 0 < s.recoveriesIn24h + 1 then
    .next (((s.setB (Reg.RCP_RET 0x1000) 31 true).raise 51 0).ledgerLog 9 20 0 0)
  else .next ((s.appendRecovery.ledgerLog 6 20 0 0).assertReset .faultRecovery)

/-! Power states (R632, R633). -/

/-- QUIET_ENTER: QUIET_MS milliseconds without a frame on any uplink or the mate link have passed; since the last stay a discovery
window has run on every enabled port (R633). -/
def execQuietEnter (s : State) : Res :=
  let free := fun n => s.portMode n == 0 || s.portMode n == 3 || (List.range 512).all fun l => s.termSt n l == 0
  let found := fun n => !s.en n || !s.rcp.needDisc.getLsbD n
  if !s.bit Reg.RCP_PWR 31 || !s.phase 10 || !(List.range 32).all fun n => free n && found n then .next s
  else .next ((List.range 32).foldl (fun s n => (s.setB (Reg.BRX_STATUS n) 2 false).setF (Reg.BRX_STATUS n) 1 0 3)
    (s.setB Reg.RCP_STATUS 6 true))

/-- QUIET_EXIT: the first of the events of R633. -/
def execQuietExit (why : QuietExit) (s : State) : Res :=
  .next (if s.bit Reg.RCP_STATUS 6 then
      (if why = .disabled then s.setB Reg.RCP_PWR 31 false else s).leaveQuiet
    else s)

/-- Power state of an uplink egress: 0 to 2 for U0 to U2 (Table 21.9). -/
def State.setUpow (s : State) (u p : Nat) : State := { s with rcp := { s.rcp with upow := s.rcp.upow.put 0 u p } }

/-- Nanoseconds to the next opening of the gate of a queue of egress e that holds frames; none where it is not gated or its class opens
at no entry (R450). -/
def State.toOpening (s : State) (e q : Nat) : Option Nat :=
  match s.gateBit e q with
  | none => none
  | some b =>
    let g := s.gate e
    let isOpen := fun (j : Nat) => Nat.testBit (s.gStates e j) b
    let l := rotFrom g.len g.pos
    let before := l.takeWhile isOpen ++ (l.dropWhile isOpen).takeWhile fun j => !isOpen j
    if l.any isOpen then
      some ((before.map (s.gInterval e)).sum - ((s.now : Int) - (g.start + (s.gOffset e g.pos : Nat))).toNat)
    else none

/-- Nanoseconds to the next event of a queue of an egress that is known: the launch time of its head, or the next opening of its gate. -/
def State.queueEvent (s : State) (e q : Nat) : Option Nat :=
  match (s.queueOf q).head? with
  | none => none
  | some f => match f.launch with
    | some l => some (s.launchIn l).toNat
    | none => if s.gateOpen e q f.len then none else s.toOpening e q

/-- Nanoseconds to the next known event of an egress (R632). -/
def State.egressEvent (s : State) (e : Nat) : Option Nat :=
  ((s.busyQueues e).filterMap (s.queueEvent e)).foldl (fun m d => some (min d (m.getD d))) none

/-- UPLINK_EGRESS_SLEEP: an egress that sends no frame rests in the deepest state that its next known event leaves time for, and with
none known in U1 (R632, Table 21.9). -/
def execUplinkEgressSleep (u : Fin 24) (sending : Bool) (s : State) : Res :=
  .next (s.setUpow u (if sending then 0 else match s.egressEvent (32 + u) with
    | none => 1
    | some g => if 540 ≤ g then 2 else if 50 ≤ g then 1 else 0))

/-- A tree port whose framer, encoder and BRX are powered down: its MODE is Off, or EN = 0 with DRAINED = 1 (R632). -/
def State.poweredDown (s : State) (n : Nat) : Bool :=
  s.portMode n == 0 || s.portMode n == 3 || (!s.en n && s.bit (Reg.TPA_STATUS n) 0)

/-- UPLINK_EGRESS_WAKE: 40 ns and the wake time before the event (R632). -/
def execUplinkEgressWake (u : Fin 24) (s : State) : Res := .next (s.setUpow u 0)

end Sys2Proof.Machine
end

