-- ==== Sys2Proof/Machine/Udf.lean ====
section
/-! DEFINITION. Upstream deframing (09): codewords, the plan of a burst, the three terms of the grant-byte ledger,
reassembly, reports and PLOAM messages. -/

namespace Sys2Proof.Machine

def State.uport (s : State) (n : Nat) : UdfPort := s.udf.port.look {} n
def State.setUport (s : State) (n : Nat) (p : UdfPort) : State :=
  { s with udf := { s.udf with port := s.udf.port.put {} n p } }

/-- I: information bytes of a full codeword (R296). -/
def State.cwInfo (s : State) (n : Nat) : Nat := if s.xgs n then 232 else 1824

/-- The XGEM header's fields (PRESUMED from the standard: PLI 14 bits, Key Index 2, Port-ID 16, options 18, LF 1, HEC 13,
the first bit most significant). -/
def xgemPli (h : List Byte) : Nat := fldN (joinBytesBE (h.take 8)) 63 50
def xgemKey (h : List Byte) : Nat := fldN (joinBytesBE (h.take 8)) 49 48
def xgemPort (h : List Byte) : Nat := fldN (joinBytesBE (h.take 8)) 47 32
def xgemLast (h : List Byte) : Bool := Nat.testBit (joinBytesBE (h.take 8)) 13

/-- A length padded to a multiple of 4 bytes (08). -/
def pad4 (n : Nat) : Nat := (n + 3) / 4 * 4

/-- The tenant in whose share a terminal lies (R242, R355). -/
def State.termTenant (s : State) (t : Nat) : Option Nat :=
  if s.bit (Reg.GNT_STR_w1 (4 * t)) 26 then some (s.fld (Reg.GNT_STR_w1 (4 * t)) 25 22) else none

/-- Bytes of a stream in burst k of a frame placed in received and in reported-unused (R306). -/
def State.udfCount (s : State) (n k frame stream rx unused : Nat) : State :=
  let p := s.uport n
  let mine := fun (c : UdfCount) => c.frame == frame && c.k == k && c.stream == stream
  let c := (p.counts.find? mine).getD { frame := frame, k := k, stream := stream }
  let rest := p.counts.filter fun c => !mine c
  s.setUport n { p with counts := rest ++ [{ c with rx := c.rx + rx, unused := c.unused + unused }] }

/-- The burst is bad: BRX will hear so at the verdict (R92, R302). -/
def State.markBad (s : State) (n : Nat) (u : UdfBurst) : State :=
  let p := s.bport n
  s.setBport n { p with snaps := p.snaps.map fun x =>
    if x.frame == u.frame && x.k == u.k then { x with bad := true } else x }

/-! Frames and partial frames (R307 to R311). -/

def State.partial? (s : State) (st : Nat) : Option Partial := (s.udf.parts.find? fun e => e.1 == st).map (·.2)

/-- A partial frame goes without a count, its buffer returned by R28. -/
def State.voidPartial (s : State) (st : Nat) : State :=
  match s.partial? st with
  | none => s
  | some p =>
    let s := { s with udf := { s.udf with parts := s.udf.parts.drop st } }
    match p.buf with
    | some b => s.free b 0x45
    | none => s

/-- A frame on the stream of segment g that begins with header h would continue the stream's partial frame (R310). -/
def State.continues (s : State) (g : Seg) (h : List Byte) : Bool :=
  g.fresh && (match s.partial? g.stream with
    | some p => p.portId == xgemPort h
    | none => false)

/-- The frame in progress is dropped. Where it is the first of its allocation, or no frame of the allocation could be
read, the partial frame goes too: a frame that continues it is lost, and any other discards it (R307, R310). -/
def State.dropFrame (s : State) (g : Seg) : State := if g.fresh then s.voidPartial g.stream else s

/-- An allocation that ends without an XGEM frame discards the partial frame of its stream: nothing of it continues the frame
(R310). -/
def State.endFresh (s : State) (g : Seg) : State := if g.left = 0 then s.dropFrame g else s

/-- A whole upstream frame enters the packet pipelines (Table 01.5, R355). -/
def State.upFrame (s : State) (t : Nat) (data : List Byte) (buf : Option Nat) : State :=
  let p : Pkt := { kind := 0, port := t / 512, data := data, tenant := s.termTenant t, term := t, buf := buf }
  { s with cls := { s.cls with ingress := s.cls.ingress ++ [p] } }

/-- The state of a terminal's key slot 1 or 2: 0 EMPTY, 1 READY, 2 ACTIVE (CRY_TK_t). -/
def State.keySlot (s : State) (t slot : Nat) : Nat :=
  if slot = 1 then s.fld (Reg.CRY_TK t 0) 25 24 else s.fld (Reg.CRY_TK t 0) 27 26

/-- A payload received under key index `key` of terminal t, decrypted with the slot that the index names: the counter block is
that of the upstream frame and of the word of the burst at which the XGEM frame begins (R462, R467). -/
def State.openPayload (s : State) (t key frame word : Nat) (d : List Byte) : List Byte :=
  if key = 0 then d else xgemCipher (s.cry.tkeys.look [] (2 * t + key - 1)) true frame word d

/-- An XGEM frame taken whole: header and payload (R305, R309, R310, R466, R467); a circuit's frame
or fragment goes to TCE (R321). -/
def State.takeFrame (s : State) (n : Nat) (u : UdfBurst) (g : Seg) (acc : List Byte) : State :=
  let t := 512 * n + u.loc
  let port := xgemPort acc
  let key := xgemKey acc
  let cont := s.continues g acc
  let s := if g.fresh && !cont then s.voidPartial g.stream else s
  if port = 0xFFFF then s
  else if key = 3 then (s.dropFrame g).inc Reg.CRY_CNT_US_BADIDX
  else if key ≠ 0 && s.keySlot t key == 0 then (s.dropFrame g).inc Reg.CRY_CNT_US_NOKEY
  else
    let payload := s.openPayload t key u.frame ((u.pos + 1 - acc.length) / 4) ((acc.drop 8).take (xgemPli acc))
    match s.circuitEnd t port with
    | some e => s.feed e payload
    | none =>
    match (if cont then s.partial? g.stream else none) with
    | some p =>
      let data := p.data ++ payload
      if 16384 < data.length then s.dropPartial g.stream
      else if xgemLast acc then
        ({ s with udf := { s.udf with parts := s.udf.parts.drop g.stream } } : State).upFrame t data p.buf
      else
        { s with udf := { s.udf with
          parts := Tab.place g.stream { p with data := data, frame := u.frame } (s.udf.parts.drop g.stream) } }
    | none =>
      if xgemLast acc then s.upFrame t payload none
      else
        let s := s.voidPartial g.stream
        if 1024 ≤ s.udf.parts.length then s.inc Reg.UDF_CNT_REASM_NOSLOT
        else
          let p : Partial := { portId := port, data := payload, frame := u.frame }
          let s := { s with udf := { s.udf with parts := Tab.place g.stream p s.udf.parts } }
          s.want 5 16384 true { dest := .reasm g.stream }

/-- A DBRu (R312, R166): BufOcc in bytes 0 to 2, CRC-8 in byte 3. EN, SS and RPRIO of the stream are UDF's copy. -/
def State.takeDbru (s : State) (n : Nat) (u : UdfBurst) (st : Nat) (acc : List Byte) (bad : Bool) : State :=
  let occ := joinBytesBE (acc.take 3)
  if bad || occ == 0xFFFFFF then s.inc (Reg.UDF_n_CNT_DBRU_ERR n)
  else if !(s.udfStr st).getLsbD 31 then s.inc Reg.GNT_CNT_RPT_DIS
  else
    let item := 2 ^ 60 * fldW (s.udfStr st) 30 27 + 2 ^ 40 * st + 2 ^ 16 * min (4 * occ) 0xFFFFFF + u.frame % 65536
    s.reportItem (n / 4) st (BitVec.ofNat 64 item)

/-- A PLOAMu of terminal l (R314): a ranging or serial-number message goes to RNG through its crossing, and any other to the host
receive ring. -/
def State.takePloam (s : State) (n l : Nat) (acc : List Byte) (bad rngMsg : Bool) : State :=
  if bad then s.inc (Reg.UDF_n_CNT_PLOAM_ERR n)
  else if rngMsg then s.cross 5 n (.ploam l acc)
  else { s with rx := s.rx ++ [.ploam (s.fld (Reg.HIF_TP n) 9 0) n acc] }

/-- The header agrees with the plan: ONU-ID and the PLOAMu-present bit, taken as the highest bit of the indication field
(R298, Table 09.1). -/
def headerOk (u : UdfBurst) (acc : List Byte) : Bool :=
  let h := joinBytesBE acc
  fldN h 31 22 == u.loc && Nat.testBit h 21 == u.segs.any fun g => g.kind == 1

/-- A burst that fails R298. -/
def State.headerFail (s : State) (n : Nat) (u : UdfBurst) : State × UdfBurst :=
  let t := 512 * n + u.loc
  let s := ((s.markBad n u).inc (Reg.UDF_TSTAT_HDR_ERR t)).udfDefect t
  let s := u.segs.foldl (fun s g => if g.kind = 2 then s.dropPartial g.stream else s) s
  (s, { u with segs := [], acc := [], bad := true })

/-- What a byte that ends (or does not end) a structure of an allocation does. A header whose PLI runs past the allocation's end
makes its bytes received, also one of an idle frame (R308). -/
def State.allocByte (s : State) (n : Nat) (u : UdfBurst) (g : Seg) (acc : List Byte) (fail : Bool) :
    State × Seg × List Byte :=
  let f := u.frame
  if g.dead then (s, g, [])
  else if g.dbru then
    let s := s.udfCount n u.k f g.stream 1 0
    let s := s.endFresh g
    if acc.length = 4 then (s.takeDbru n u g.stream acc fail, { g with dbru := false }, []) else (s, g, acc)
  else if acc.length < 8 then
    if g.left = 0 then ((s.udfCount n u.k f g.stream 0 acc.length).endFresh g, g, []) else (s, g, acc)
  else
    let tooLong := decide (acc.length + g.left < 8 + pad4 (xgemPli acc))
    let idle := xgemPort acc == 0xFFFF && !tooLong
    let m := if acc.length = 8 then 8 else 1
    if acc.length = 8 && fail then
      let s := s.inc (Reg.UDF_n_CNT_XGEM_HEC n)
      (if g.begun then s.dropFrame g else s.dropPartial g.stream, { g with dead := true }, [])
    else
      let s := if idle then s.udfCount n u.k f g.stream 0 m else s.udfCount n u.k f g.stream m 0
      if acc.length = 8 + pad4 (xgemPli acc) then
        (s.takeFrame n u g acc, { g with fresh := false, begun := true }, [])
      else if g.left = 0 then
        ((s.dropFrame g).inc (Reg.UDF_n_CNT_LENERR n), { g with fresh := false }, [])
      else (s, { g with begun := true }, acc)

/-- One byte of a decoded codeword (R305, R306). `fails` are the places in the burst where a structure begins whose check
(HEC, CRC-8, MIC, BIP) fails. -/
def State.udfByte (s : State) (n : Nat) (u : UdfBurst) (b : Byte) (fails : List Nat) (rngMsg : Bool) :
    State × UdfBurst :=
  match u.segs with
  | [] => (s, { u with pos := u.pos + 1 })
  | g :: rest =>
    let acc := u.acc ++ [b]
    let left := g.left - 1
    let start := u.pos + 1 - acc.length
    let u1 := { u with pos := u.pos + 1 }
    let go := fun (s : State) => (s, if left = 0 then { u1 with segs := rest, acc := [] }
      else { u1 with segs := { g with left := left } :: rest, acc := acc })
    match g.kind with
    | 2 =>
      let (s, g', acc') := s.allocByte n u { g with left := left } acc (fails.contains start)
      (s, if left = 0 then { u1 with segs := rest, acc := [] }
        else { u1 with segs := { g' with begun := g'.begun || (g.dbru && !g'.dbru) } :: rest, acc := acc' })
    | 0 =>
      if left = 0 && (fails.contains start || !headerOk u acc) then s.headerFail n u1 else go s
    | 1 => go (if left = 0 then s.takePloam n u.loc acc (fails.contains start) rngMsg else s)
    | _ => go (s.incIf (left == 0 && fails.contains start) (Reg.UDF_TSTAT_BIP_ERR (512 * n + u.loc)))

/-- The bytes of a decoded codeword, in order. -/
def State.udfBytes (s : State) (n : Nat) (u : UdfBurst) (fails : List Nat) (rngMsg : Bool) : List Byte → State × UdfBurst
  | [] => (s, u)
  | b :: t =>
    let (s, u) := s.udfByte n u b fails rngMsg
    s.udfBytes n u fails rngMsg t

/-- Delineation of an allocation ends at a lost codeword (R306, R307, R311). -/
def State.cutAlloc (s : State) (n : Nat) (u : UdfBurst) (g : Seg) (acc : List Byte) : State :=
  if g.dead then s
  else if !g.begun && acc.isEmpty then s.dropPartial g.stream
  else if g.dbru || 8 ≤ acc.length then s.dropFrame g
  else (s.udfCount n u.k u.frame g.stream acc.length 0).dropFrame g

/-- `m` bytes of an uncorrectable or missing codeword pass over the plan: what begins or goes on in them is lost. -/
def State.loseSegs (s : State) (n : Nat) (u : UdfBurst) : List Seg → Nat → List Byte → State × List Seg
  | [], _, _ => (s, [])
  | g :: t, m, acc =>
    if m = 0 then (s, g :: t)
    else
      let s := if g.kind = 2 then s.cutAlloc n u g acc else s
      if g.left ≤ m then s.loseSegs n u t (m - g.left) []
      else (s, { g with left := g.left - m, dead := true, begun := true } :: t)

/-- The loss of m bytes at the present place of a burst; a header in them fails R298. -/
def State.udfLose (s : State) (n : Nat) (u : UdfBurst) (m : Nat) : State × UdfBurst :=
  if u.segs.any fun g => g.kind == 0 then
    let (s, u) := s.headerFail n u
    (s, { u with pos := u.pos + m })
  else
    let (s, segs) := s.loseSegs n u u.segs m u.acc
    (s, { u with segs := segs, acc := [], pos := u.pos + m })

/-- The burst in UDF, put back. -/
def State.setBurst (s : State) (n : Nat) (u : UdfBurst) : State :=
  let p := s.uport n
  s.setUport n { p with bursts := p.bursts.map fun x => if x.frame == u.frame && x.k == u.k then u else x }

def State.burst? (s : State) (n frame k : Nat) : Option UdfBurst :=
  (s.uport n).bursts.find? fun x => x.frame == frame && x.k == k

/-- The statistics of one codeword of a terminal (R315, R316). -/
def State.countCw (s : State) (n t : Nat) (ok : Bool) (corr : Nat) : State :=
  let s := (s.add64 (Reg.UDF_n_CNT_CW_LO n) 1).add64 (Reg.UDF_TSTAT_CW_LO t) 1
  let x := s.udf.second.look (0, 0, false) t
  let s := { s with udf := { s.udf with
    second := s.udf.second.put (0, 0, false) t (x.1 + 1, x.2.1 + (!ok).toNat, x.2.2) } }
  if ok then
    if 0 < corr then (s.inc (Reg.UDF_TSTAT_CORR_CW t)).incN (Reg.UDF_TSTAT_CORR_BITS t) corr else s
  else (s.inc (Reg.UDF_n_CNT_UNCORR n)).inc (Reg.UDF_TSTAT_UNCORR_CW t)

/-- CODEWORD_DECODE: the next codeword of a burst: correctable with its bytes, or uncorrectable (R296, R299 to R301). -/
def execCodewordDecode (n : Fin 32) (frame : BitVec 51) (k : Fin 512) (need : Option (Fin 16)) (corrBits : BitVec 16)
    (data : List Byte) (fails : List Nat) (rngMsg : Bool) (s : State) : Res :=
  match s.burst? n frame.toNat k with
  | none => .next s
  | some u =>
    let ok := s.correctable n need
    let size := min (s.cwInfo n) (u.len - u.pos)
    if size = 0 || (ok && data.length != size) then .next s
    else
      let s := s.countCw n (512 * n + u.loc) ok corrBits.toNat
      if ok then
        let (s, u) := s.udfBytes n u fails rngMsg data
        .next (s.setBurst n u)
      else
        let (s, u) := (s.markBad n u).udfLose n { u with bad := true, uncorr := u.uncorr + 1 } size
        .next (s.setBurst n u)

/-- BURST_TRUNCATION: loss of lock before the last planned codeword has ended (R303). -/
def execBurstTruncation (n : Fin 32) (frame : BitVec 51) (k : Fin 512) (s : State) : Res :=
  match s.burst? n frame.toNat k with
  | none => .next s
  | some u =>
    if u.len ≤ u.pos then .next s
    else
      let t := 512 * n.val + u.loc
      let s := ((s.inc (Reg.UDF_n_CNT_UNCORR n)).inc (Reg.UDF_TSTAT_UNCORR_CW t)).inc (Reg.UDF_TSTAT_TRUNC t)
      let x := s.udf.second.look (0, 0, false) t
      let s := { s with udf := { s.udf with second := s.udf.second.put (0, 0, false) t (x.1, x.2.1 + 1, true) } }
      let (s, u) := (s.markBad n u).udfLose n { u with bad := true, uncorr := u.uncorr + 1, cut := true } (u.len - u.pos)
      .next (s.setBurst n u)

/-- The upstream frame that a port can be receiving: the frame reference of frame N falls TEQ after FT(N) (R125). -/
def State.upNow (s : State) (n : Nat) : Nat := (s.sfc + 2 ^ 51 - s.teqNs n / 125000 % 2 ^ 51) % 2 ^ 51

/-- REASM_TIMEOUT: REASM_TO whole frames have passed without an allocation of the stream (R311). The last allocation is that of the
last fragment, since any later one continues the partial frame or discards it (R310). -/
def execReasmTimeout (st : BitVec 16) (s : State) : Res :=
  match s.partial? st.toNat with
  | none => .next s
  | some p =>
    let n := strPort st.toNat
    let busy := (s.uport n).bursts.any fun u => u.segs.any fun g => g.kind == 2 && g.stream == st.toNat
    let passed := (s.upNow n + 2 ^ 51 - p.frame) % 2 ^ 51
    .next (if !busy && decide (s.fld (Reg.UDF_n_CTRL n) 15 8 < passed) && decide (passed < 2 ^ 50) then s.dropPartial st.toNat else s)

end Sys2Proof.Machine
end

