-- ==== Sys2Proof/Machine/Tce.lean ====
section
/-! DEFINITION. The commands of tributary carriage (10): circuits, alignment, carrier frames, pseudowires and performance
monitoring. -/

namespace Sys2Proof.Machine

/-! Circuits and pseudowire entries (R318 to R320, R325, R340). -/

/-- Words 0 to 3 of a circuit entry as one number. -/
def State.circEntry (s : State) (c : Nat) : Nat := joinWords ((List.range 4).map fun w => s.rd (Reg.TCE_CIRC c w))

/-- The ends that circuit c would use, in a state that holds its new entry. -/
def State.namedEnds (s : State) (c : Nat) : List Nat := if s.circSlot c then [2 * c] else [2 * c, 2 * c + 1]

/-- Two ends name the same pseudowire, or the same terminal and Port-ID. -/
def State.sameEnd (s : State) (e e' : Nat) : Bool :=
  s.endKind e == s.endKind e' && s.endIdx e == s.endIdx e' && (s.endKind e == 0 || s.endPort e == s.endPort e')

/-- The checks of R320 on circuit c in a state that holds its new entry, that of a changed field apart. -/
def State.circBad (s : State) (c : Nat) : Bool :=
  let k := s.circK c
  let u := s.circU c
  let mine := s.namedEnds c
  let others := (s.liveEnds.filter fun e => e / 2 != c)
  u == 0 || decide (40 < u) || decide (39100 < k * u) ||
    (!s.circSlot c && s.endKind (2 * c) != 1) ||
    (s.circSlot c && (u != 1 || decide (2047 < s.cw c 0 27 17 + k - 1) || decide (2047 < s.cw c 0 12 2 + k - 1))) ||
    mine.any (fun e => decide (1 < s.endKind e) || (s.endKind e == 0 && decide (2047 < s.endIdx e)) ||
      others.any (s.sameEnd e) || mine.any (fun e' => e' != e && s.sameEnd e e')) ||
    (s.circEn c && decide (4194304 < s.storeSum))

/-- An end at the setting of EN: a terminal end searches from its next bit; three frames carry NDF new (R331, R332). -/
def State.startEnd (s : State) (e : Nat) : State :=
  (s.setTend e { ndf := 3 }).setAlign e (if s.endKind e = 1 then 1 else 0)

/-- CIRCUIT_COMMIT: a write of word 3 of a circuit entry, with its held words 0 to 2. DESIGN CHOICE (log 77): a circuit enabled
again before the FT at which its last run would stop (R325) stops then and there, and the new run begins. -/
def execCircuitCommit (c : Fin 2048) (v : Word) (s : State) : Res :=
  s.opWrite (Reg.TCE_CIRC_w3 c) <|
  let a := Reg.TCE_CIRC_w0 c
  let old := s.circEntry c
  let w0 : Word := s.heldWord .op 8 a 0 &&& 0xFFFFFFFC
  let w1 : Word := s.heldWord .op 8 a 1 &&& 0xFFFCFFFF
  let w2 : Word := s.heldWord .op 8 a 2 &&& 0xFFFCFFFF
  let w3 : Word := v &&& 0xFFFFFFC3
  let s := s.dropHeld .op 8
  let wasEn := s.circEn c
  let s1 := (((s.wr a w0).wr (a + 4) w1).wr (a + 8) w2).wr (a + 12) w3
  let same := old % 2 ^ 127 == s1.circEntry c % 2 ^ 127
  if (wasEn && !same) || s1.circBad c then .next (s.inc Reg.TCE_CNT_REFUSED)
  else
    let en := s1.circEn c
    let s2 := if en == wasEn then s1 else (s1.pmPartial (endEntity (2 * c))).pmPartial (endEntity (2 * c + 1))
    if en && !wasEn then
      let s2 := if s2.tce.closing.contains c.val then s2.stopCircuit c else s2
      let s3 : State := { s2 with tce := { s2.tce with closing := s2.tce.closing.filter fun x => x != c.val } }
      .next ((s3.namedEnds c).foldl State.startEnd s3).settleStore
    else if wasEn && !en then .next { s2 with tce := { s2.tce with closing := s2.tce.closing ++ [c.val] } }
    else .next s2

/-- PW_ENTRY_COMMIT: a write of word 0 of a pseudowire entry with its held word 1: PLEN is in its range,
and no enabled circuit end uses the entry (R340, Table 10.7). -/
def execPwEntryCommit (w : Fin 2048) (v : Word) (s : State) : Res :=
  s.opWrite (Reg.TCE_PW_w0 w) <|
  let a := Reg.TCE_PW_w0 w
  let w1 := s.heldWord .op 8 a 1
  let s := s.dropHeld .op 8
  let s1 := (s.wr a (v &&& 0xFFFE0000)).wr (a + 4) w1
  let ok := decide (32 ≤ s1.pwPlen w) && decide (s1.pwPlen w ≤ 1440) && (s.pwEnd w).isNone
  .next (if ok then s1 else s.inc Reg.TCE_CNT_REFUSED)

/-! Alignment (R332 to R334). -/

/-- The alignment word 0x5E2C_B7A1. -/
def alignWord : List Bool := [(0x5E : Byte), 0x2C, 0xB7, 0xA1].flatMap bitsOf

/-- Bits in one carrier frame of an end: 8L, L = 12 + U × (K + 1) (R326). -/
def State.frameBits (s : State) (e : Nat) : Nat := 8 * (12 + s.circU (e / 2) * (s.circK (e / 2) + 1))

/-- The place of the first alignment word in bits; if none, how many bits were tested. -/
def findWord : List Bool → Nat → Nat ⊕ Nat
  | [], i => .inr i
  | b :: t, i =>
    if (b :: t).length < 32 then .inr i
    else if (b :: t).take 32 == alignWord then .inl i else findWord t (i + 1)

/-- n bits of an end's stream from bit p, if received. -/
def TceEnd.window (t : TceEnd) (p n : Nat) : Option (List Bool) :=
  if t.base ≤ p && decide (p + n ≤ t.base + t.bits.length) then some ((t.bits.drop (p - t.base)).take n) else none

/-- Bits before p are done with. -/
def TceEnd.trim (t : TceEnd) (p : Nat) : TceEnd :=
  let n := min (p - t.base) t.bits.length
  { t with bits := t.bits.drop n, base := t.base + n }

/-- A candidate is abandoned at bit x (R333). -/
def State.abandon (s : State) (e x : Nat) : State :=
  let t := s.tend e
  let m := s.frameBits e
  let y := x + (t.cand + 1 + m - x % m) % m
  (s.setTend e { t with pos := y, found := 0 }).setAlign e 1

/-- The first twelve bytes of a frame. -/
def headOk (h : List Byte) : Bool := crc8 ((h.drop 4).take 7) 0 == (h.getD 11 0).toNat
def headWord (h : List Byte) : Bool := h.take 4 == [0x5E, 0x2C, 0xB7, 0xA1]
def headMfi (h : List Byte) : Nat := (h.getD 4 0).toNat / 16
def headPtr (h : List Byte) : Nat := (h.getD 5 0).toNat % 4 * 256 + (h.getD 6 0).toNat

/-- HUNT: the search tests every bit from its place on. -/
def State.huntStep (s : State) (e : Nat) : State :=
  let t := s.tend e
  let t := t.trim t.pos
  if t.base < t.pos then s.setTend e t
  else match findWord t.bits 0 with
    | .inl i =>
      let c := t.base + i
      (s.setTend e { t with cand := c, found := 0, pos := c + s.frameBits e }).setAlign e 2
    | .inr i => s.setTend e { t.trim (t.base + i) with pos := t.base + i }

/-- PRESYNC: a word is due one frame on. -/
def State.presyncStep (s : State) (e : Nat) : State :=
  let t := s.tend e
  match t.window t.pos 32 with
  | none => s
  | some w =>
    if w == alignWord then
      if t.found = 0 then s.setTend e { t.trim t.pos with found := 1, pos := t.pos + s.frameBits e }
      else (s.setTend e { t.trim t.pos with found := 0, cand := t.pos }).setAlign e 3
    else s.abandon e (t.pos + 32)

/-- MF_SEEK: the reference frame and the next 15 (Table 10.5). -/
def State.mfSeekStep (s : State) (e : Nat) : State :=
  let t := s.tend e
  match t.window t.pos 96 with
  | none => s
  | some w =>
    let h := bytesOf w
    let mfiOk := t.found == 0 || headMfi h == t.mfi
    if !(headWord h && headOk h && mfiOk) then s.abandon e (t.pos + 96)
    else if t.found < 15 then
      let t' := { t.trim t.pos with found := t.found + 1, mfi := (headMfi h + 1) % 16, pos := t.pos + s.frameBits e }
      s.setTend e t'
    else
      let p := headPtr h
      let bad := decide (s.circK (e / 2) ≤ p)
      let t := { t with
        mfi := headMfi h, badWord := 0, badMfi := 0, expect := if bad then 0 else p, seen := none, miss := 0, bip := none
        defect := true }
      let s := ((s.setTend e t).setAlign e 4).setF (Reg.TCE_CST e 0) 27 26 0
      if bad then s.setB (Reg.TCE_CST e 0) 25 true else s.setF (Reg.TCE_CST e 0) 9 0 p

/-- ALIGN_WORD_MATCH: the next step of the search of an end that is not in SYNC, on the bits received (R332, R333). -/
def execAlignWordMatch (e : Fin 4096) (s : State) : Res :=
  .next (match s.align e with
    | 1 => s.huntStep e
    | 2 => s.presyncStep e
    | 3 => s.mfSeekStep e
    | _ => s)

/-! Carrier frames in SYNC (R327 to R329, R335). -/

/-- The majority of three 2-bit copies, bit by bit; the invalid code counts as none (R328, Table 10.4). -/
def majorityJc (a b c : Nat) : Nat :=
  let m := (a &&& b) ||| (a &&& c) ||| (b &&& c)
  if m = 3 then 0 else m

/-- AIS_RX and RDI_RX change after two consecutive valid frames that say so. -/
def State.takeAis (s : State) (e : Nat) (ais rdi : Bool) : State :=
  let t := s.tend e
  let a := if ais == s.bit (Reg.TCE_CST e 0) 24 then 0 else t.ais + 1
  let r := if rdi == s.bit (Reg.TCE_CST e 0) 23 then 0 else t.rdi + 1
  let s := if 2 ≤ a then s.setB (Reg.TCE_CST e 0) 24 ais else s
  let s := if 2 ≤ r then s.setB (Reg.TCE_CST e 0) 23 rdi else s
  s.setTend e { t with ais := if 2 ≤ a then 0 else a, rdi := if 2 ≤ r then 0 else r }

/-- The active pointer of a frame becomes p: LOP clears. -/
def State.newPtr (s : State) (e p : Nat) (evt : Bool) : State :=
  let s := s.setTend e { s.tend e with expect := p, seen := none, miss := 0 }
  ((s.setB (Reg.TCE_CST e 0) 25 false).setF (Reg.TCE_CST e 0) 9 0 p).incIf evt (Reg.TCE_CST_PTR_EVT e)

/-- A frame that gives no match: after eight in a row LOP sets. -/
def State.noPtr (s : State) (e : Nat) (seen : Option (Nat × Nat)) : State :=
  let t := s.tend e
  let s := (s.setTend e { t with seen := seen, miss := t.miss + 1 }).setF (Reg.TCE_CST e 0) 9 0 t.expect
  if 8 ≤ t.miss + 1 then s.setB (Reg.TCE_CST e 0) 25 true else s

/-- The pointer of a frame with a good CRC-8 (R329). -/
def State.takePtr (s : State) (e : Nat) (h : List Byte) : State :=
  let t := s.tend e
  let p := headPtr h
  let ndf := (h.getD 5 0).toNat / 16
  if s.circK (e / 2) ≤ p then s.noPtr e none
  else if ndf = 9 then s.newPtr e p true
  else if ndf ≠ 6 then s.noPtr e none
  else if p = t.expect then s.newPtr e p false
  else
    let n := match t.seen with
      | some (q, n) => if q = p then n + 1 else 1
      | none => 1
    if 3 ≤ n then s.newPtr e p true else s.noPtr e (some (p, n))

/-- Extracted data goes to the end's store while its direction has no defect; a slot circuit keeps its store cut at block
boundaries, so that after a pointer change the bytes of the broken block are left out (R324, R327, R335, R336). -/
def State.storeData (s : State) (e : Nat) (data : List Byte) (ptr : Nat) : State :=
  if s.rxDefect e then s
  else
    let t := s.tend e
    let k := s.circK (e / 2)
    let have_ := t.store.length
    let all := if s.circSlot (e / 2) && (have_ + ptr) % k != 0 then
        t.store.take (have_ - have_ % k) ++ data.drop ptr
      else t.store ++ data
    let s := (s.setTend e { t with store := all }).buildPacket (mateEnd e)
    let t := s.tend e
    s.setTend e { t with store := t.store.take (s.storeSize e) }

/-- CARRIER_FRAME_RECEIVE: the next frame of an end in SYNC (Table 10.5, R326 to R329, R335, Table 10.8). -/
def execCarrierFrameReceive (e : Fin 4096) (s : State) : Res :=
  let t := s.tend e
  let k := s.circK (e.val / 2)
  let u := s.circU (e.val / 2)
  let m := s.frameBits e
  match (if s.align e = 4 then t.window t.pos m else none) with
  | none => .next s
  | some bits =>
    let fr := bytesOf bits
    let was := s.rxDefect e
    let badWord := if headWord fr then 0 else t.badWord + 1
    if 4 ≤ badWord then
      let s := (s.setTend e { t with badWord := 0, pos := t.pos + 32, defect := true }).setB
        (Reg.TCE_CST e 0) 27 true
      let s := s.setAlign e 1
      .next (if was then s else s.raise 34 (e.val / 2))
    else
      let good := headOk fr
      let mfiBad := good && headMfi fr != t.mfi
      let badMfi := if mfiBad then t.badMfi + 1 else if good then 0 else t.badMfi
      let body := fr.drop 12
      let wrong := !good || (t.bip.any fun b => b != fr.getD 8 0)
      let jc := majorityJc ((fr.getD 5 0).toNat / 4 % 4) ((fr.getD 7 0).toNat / 64) ((fr.getD 7 0).toNat / 16 % 4)
      let d := if jc = 2 then k + 1 else if jc = 1 then k - 1 else k
      let t1 := { t.trim (t.pos + m) with
        pos := t.pos + m, badWord := badWord, badMfi := badMfi, mfi := (t.mfi + 1) % 16, bip := some (bip8 body)
        err := t.err + wrong.toNat }
      let s := (s.setTend e t1).incIf wrong (Reg.TCE_CST_BIP e)
      let s := (s.incIf (jc == 1) (Reg.TCE_CST_PJ e)).incIf (jc == 2) (Reg.TCE_CST_NJ e)
      let s := if good then
          (s.takeAis e ((fr.getD 4 0).getLsbD 2) ((fr.getD 4 0).getLsbD 3)).takePtr e fr
        else s.setF (Reg.TCE_CST e 0) 9 0 t.expect
      let s := if 2 ≤ badMfi then
          ((s.setTend e { s.tend e with found := 0, badMfi := 0, cand := t.pos + m }).setB (Reg.TCE_CST e 0) 26
            true).setAlign e 3
        else s
      let data := if jc = 2 then body else if jc = 1 then body.drop (2 * u) else body.drop u
      let p := (s.tend e).expect
      let s := s.storeData e data p
      let t2 := s.tend e
      let now := s.rxDefect e
      let s := if now && !was then s.raise 34 (e.val / 2) else s
      .next (s.setTend e { t2 with expect := nextPtr p k d, defect := t2.defect || was || now })

/-- TCE_SWAP: a write of SWAP = 1 (R338). -/
def execTceSwap (s : State) : Res :=
  s.opWrite Reg.TCE_SWAP <|
  .next (if s.bit Reg.TCE_STATUS 0 then s
    else ({ s with tce := { s.tce with swapAt := s.now } } : State).setB Reg.TCE_STATUS 0 true)

/-! Pseudowires (R339 to R343). -/

/-- The header template of a pseudowire as bytes. -/
def State.pwTemplate (s : State) (w : Nat) : List Byte :=
  (List.range 16).flatMap fun i => bytesLE 4 (s.rd (Reg.TCE_PWH (16 * w + i))).toNat

/-- The payload of the next packet of end e, if it is whole; the next one is begun. L is 1 while the source direction is in
defect. -/
def State.pwPayload (s : State) (e n : Nat) : Option (List Byte × Bool × State) :=
  if !s.circSlot (e / 2) && s.rxDefect (mateEnd e) then some (ones n, true, s)
  else
    let t := s.tend e
    if t.asm.length < n then none
    else some (t.asm.take n, false, (s.setTend e { t with asm := t.asm.drop n }).buildPacket e)

/-- PW_PACKET_SEND: the end's source has the bytes of one packet (R323, R340, R342); the RTP header's sequence number is
that of the control word, its payload type and source are open. -/
def execPwPacketSend (w : Fin 2048) (s : State) : Res :=
  match s.pwEnd w with
  | none => .next s
  | some e =>
    match s.pwPayload e (s.pwPlen w) with
    | none => .next s
    | some (data, l, s) =>
      let t := s.tend e
      let ctl := bytesBE 4 (2 ^ 27 * l.toNat + 2 ^ 26 * t.loss.toNat + t.seq)
      let us := s.now / 1000
      let rtp := if s.pwRtp w then
          [0x80, Config.rtpType] ++ bytesBE 2 t.seq ++ bytesBE 4 us ++ bytesBE 4 (Config.rtpSource w.val).toNat
        else []
      let pkt := (s.pwTemplate w).take (s.pwHlen w) ++ ctl ++ rtp ++ data
      let s := s.setTend e { t with seq := (t.seq + 1) % 65536 }
      .next (s.want 6 pkt.length true
        { pkt := { kind := 0, data := pkt }, dest := .queue (65536 + s.pwEq w), queue := 65536 + s.pwEq w })

/-- Bytes enter a pseudowire end's store, and JB_RUN sets when its fill reaches the centre; those that find it full are dropped, and their packet counts (R343). -/
def State.pwStore (s : State) (e : Nat) (data : List Byte) : State :=
  let t := s.tend e
  let all := t.store ++ data
  let room := s.storeRoom e
  let s := s.setTend e { t with store := all.take room }
  let s := if s.pwCentre e ≤ all.length then s.setB (Reg.TCE_CST e 0) 22 true else s
  if room < all.length then s.pwDrop e else s

/-- A packet is accepted: its payload stored, E and the runs brought on (R341, R342). -/
def State.pwAccept (s : State) (e seq : Nat) (payload : List Byte) (l : Bool) : State :=
  let s := s.pwStore e payload
  let t := s.tend e
  let acc := t.accepted + 1
  s.setTend e { t with
    due := (seq + 1) % 65536, drops := 0, inserted := 0, accepted := min acc 8, loss := t.loss && decide (acc < 8)
    defect := t.defect || l || t.loss }

/-- Packets inserted in place of lost ones: the errored blocks of a pseudowire end (R341, Tables 10.8 and 10.13). -/
def State.pwInsert (s : State) (e d n : Nat) : State :=
  let s := ((s.pwStore e (ones (d * n))).incN (Reg.TCE_CST_PW_LOST e) d).incN (Reg.TCE_CST_BIP e) d
  let t := s.tend e
  let ins := t.inserted + d
  let loss := t.loss || decide (8 ≤ ins)
  s.setTend e { t with inserted := min ins 8, accepted := 0, loss := loss, err := t.err + d, defect := t.defect || loss }

/-- PW_PACKET_RECEIVE: the oldest packet of the pseudowire that the classifier handed over (R323, R341 to R343). -/
def execPwPacketReceive (w : Fin 2048) (s : State) : Res :=
  match s.tce.packets.find? fun p => p.1 == w.val with
  | none => .next s
  | some pk =>
    let s : State := { s with tce := { s.tce with packets := s.tce.packets.erase pk } }
    let f := pk.2.2
    let s := s.free f.buf 0x3A
    match s.pwEnd w with
    | none => .next s
    | some e =>
      let data := f.pkt.data.drop pk.2.1
      let ctl := joinBytesBE (data.take 4)
      let n := s.pwPlen w
      let l := Nat.testBit ctl 27
      let payload := if l then ones n else (data.drop (if s.pwRtp w then 16 else 4)).take n
      let seq := ctl % 65536
      let t := s.tend e
      let d := (seq + 65536 - t.due) % 65536
      if d = 0 || 8 ≤ t.drops then .next (s.pwAccept e seq payload l)
      else if d ≤ 32 then .next ((s.pwInsert e d n).pwAccept e seq payload l)
      else .next ((s.pwDrop e).setTend e { t with drops := t.drops + 1, accepted := 0 })

/-! Performance monitoring (R344 to R349). -/

/-- PM_EN. -/
def State.pmEn (s : State) : Bool := s.bit Reg.TCE_CTRL 7

/-- The inputs of an entity for a second: errored seconds are kept until they are committed (R344, R345). -/
def State.pmInput (s : State) (en sec blocks err : Nat) (defect : Bool) : State :=
  let ses := defect || (decide (0 < blocks) && decide (3 * blocks ≤ 10 * err))
  if (decide (0 < err) || defect) && s.pmEn then
    let l := s.tce.seconds.look [] en
    { s with tce := { s.tce with seconds := s.tce.seconds.put [] en (l ++ [(sec, ses)]) } }
  else s

/-- Packets due in a second on a pseudowire end: its rate over PLEN (Table 10.8). -/
def State.packetsDue (s : State) (e : Nat) : Nat :=
  8000 * s.circK (e / 2) * s.circU (e / 2) / max 1 (s.pwPlen (s.endIdx e))

/-- The inputs of one circuit end. -/
def State.pmEndInput (s : State) (sec e : Nat) : State :=
  let t := s.tend e
  let term := s.endKind e == 1
  let now := if term then s.rxDefect e else t.loss
  let s := s.pmInput (endEntity e) sec (if term then 8000 else s.packetsDue e) t.err (t.defect || now)
  s.setTend e { t with err := 0, defect := false }

/-- An uplink port's codewords of a second: its counters, and the inputs of its entity. -/
def State.pmFec (s : State) (sec : Nat) (f : FecSecond) (down : Bool) : State :=
  let s := (s.add64 (Reg.UPL_u_CNT_FEC_CORR_LO f.lane) f.corrected.toNat).incN (Reg.UPL_u_CNT_FEC_UNCORR f.lane)
    f.uncorr.toNat
  s.pmInput (20480 + f.lane) sec f.received.toNat f.uncorr.toNat down

/-- SECOND_BOUNDARY: second `sec` of the precision clock begins (R316, R344, R399). -/
def execSecondBoundary (sec : BitVec 34) (fec : List FecSecond) (s : State) : Res :=
  if !s.tsuUp then .next s
  else
    let s := s.advanceTo (sec.toNat * 1000000000)
    let was := sec.toNat - 1
    let s := s.liveEnds.foldl (fun s e => s.pmEndInput was e) s
    let s := s.udf.second.foldl (fun s x => s.pmInput (4096 + x.1) was x.2.1 x.2.2.1 x.2.2.2) s
    let s : State := { s with udf := { s.udf with second := [] } }
    let lost := s.upl.lost
    let still := (List.range 24).filter fun u => s.bit (Reg.UPL_u_CTRL u) 31 && s.fld (Reg.UPL_u_STATUS u) 2 0 != 3
    let s := fec.foldl (fun s f => s.pmFec was f (lost.contains f.lane.val)) s
    let s := (lost.filter fun x => !fec.any fun f => f.lane.val == x).foldl
      (fun s x => s.pmInput (20480 + x) was 0 0 true) s
    let s : State := { s with upl := { s.upl with lost := still } }
    .next (if s.up 10 then s.setF Reg.FDB_STATUS 31 16 (s.fld Reg.FDB_STATUS 31 16 + 1) else s)

/-! Bins (R347, R348). -/

/-- The second at which the bin of a kind that contains a second begins on the grid: multiples of 900, or DAY_OFF × 900 modulo
86,400; the bin that second 0 falls into begins with the clock. -/
def State.binGrid (s : State) (day : Bool) (sec : Nat) : Nat :=
  let off := 900 * s.fld Reg.TCE_CTRL 6 0
  if day then (if sec < off then 0 else sec - (sec - off) % 86400) else sec - sec % 900

/-- The start of the bin that contains a second: a step begins new bins from the stepped time. -/
def State.binOf (s : State) (day : Bool) (sec : Nat) : Nat :=
  let g := s.binGrid day sec
  if g < s.tce.stepTo && s.tce.stepTo ≤ sec then s.tce.stepTo else g

/-- The end of the bin that begins at second b. -/
def State.binEnd (s : State) (day : Bool) (b : Nat) : Nat :=
  let off := 900 * s.fld Reg.TCE_CTRL 6 0
  if day then (if b < off then off else s.binGrid day b + 86400) else s.binGrid day b + 900

/-- The bin of a kind in TCE_PMCUR_e. -/
def State.currentBin (s : State) (e : Nat) (day : Bool) : Nat :=
  (s.tce.bins.look none (2 * e + day.toNat)).getD (s.binOf day s.nowSec)

/-- PARTIAL of the bin of an entity that begins at second b. -/
def State.binPartial (s : State) (e b : Nat) (day : Bool) : Bool :=
  let fin := s.binEnd day b
  (!s.pmEn && decide (s.tce.pmOff < fin)) || (s.tce.gaps.any fun g => decide (g.1 < fin) && decide (b ≤ g.2)) ||
    (s.tce.marks.look [] e).any fun m => decide (b ≤ m) && decide (m < fin)

/-- Second `sec` counts in word w (15 minutes) or w + 3 (24 hours) of an entity, in the bin that contains it. While the words still
hold an earlier bin, which closes before, nothing counts. -/
def State.binCount (s : State) (e w sec : Nat) (day : Bool) : State :=
  let b := s.binOf day sec
  let i := 2 * e + day.toNat
  if (s.tce.bins.look none i).getD b = b then
    ({ s with tce := { s.tce with bins := s.tce.bins.put none i (some b) } } : State).inc (Reg.TCE_PMCUR e (w + 3 * day.toNat))
  else s

/-- PM_SECOND_COMMIT: second `sec` of an entity, now that the ten after it are over (R346, R347, R349). -/
def execPmSecondCommit (e : Fin 20504) (sec : BitVec 34) (s : State) : Res :=
  if !s.pmEn then .next s
  else
    let l := s.tce.seconds.look [] e
    let at_ := fun i => l.find? fun x => x.1 == sec.toNat + i
    let es := (at_ 0).isSome
    let ses := fun i => (at_ i).any (·.2)
    let was := s.tce.unavail.contains e.val
    let un := if was then (List.range 10).any ses else (List.range 10).all ses
    let rest := s.tce.unavail.filter fun x => x != e.val
    let s : State := { s with tce := { s.tce with
      unavail := if un then rest ++ [e.val] else rest
      seconds := s.tce.seconds.put [] e (l.filter fun x => decide (sec.toNat < x.1)) } }
    let cnt := fun (s : State) (w : Nat) => (s.binCount e w sec.toNat false).binCount e w sec.toNat true
    .next (if un then cnt s 2
      else
        let s := if es then cnt s 0 else s
        if ses 0 then cnt s 1 else s)

/-- PM_BIN_CLOSE: the bin of an entity that began at second `start` closes; its record goes to host memory (R347, Table
10.9). No bin begins off the grid but where a step led, and none closes while the words hold another. One that closes before ten
seconds after its end is one that a step closes: PARTIAL (R348). The marks that the 15-minute bin needs, which ends with a day or
within it, stay when the day's bin closes. -/
def execPmBinClose (e : Fin 20504) (day : Bool) (start : BitVec 34) (dmaOk : Bool) (s : State) : Res :=
  let b := start.toNat
  let i := if day then 3 else 0
  let fin := s.binEnd day b
  let held := s.tce.bins.look none (2 * e.val + day.toNat)
  if held.any (· != b) || (held.isNone && b != s.binOf day b && b != s.tce.stepTo) then .next s
  else
  let vals := (List.range 3).map fun j => (s.rd (Reg.TCE_PMCUR e (i + j))).toNat
  let part := s.binPartial e b day || decide (s.nowSec < fin + 10)
  let flags := 1 + 2 * part.toNat + 4 * day.toNat
  let rec_ := bytesLE 8 b ++ vals.flatMap (bytesLE 4) ++ bytesLE 4 flags ++ bytesLE 8 0
  let base := (s.rd Reg.TCE_PM_BASE_LO).toNat + 2 ^ 32 * (s.rd Reg.TCE_PM_BASE_HI).toNat
  let addr := base + ((e.val * 2 + day.toNat) * 32 + b / (if day then 86400 else 900) % 32) * 32
  let s := if dmaOk then s.emit (.host .op (addr % 2 ^ 64) rec_) else s.inc Reg.TCE_CNT_PM_DMA
  let s := (List.range 3).foldl (fun s j => s.wr (Reg.TCE_PMCUR e (i + j)) 0) s
  let kept := (s.tce.bins.look none (2 * e.val)).elim (fin - 900) (min (fin - 900))
  let marks := (s.tce.marks.look [] e).filter fun m => !day || decide (kept ≤ m)
  .next { s with tce := { s.tce with
    bins := s.tce.bins.put none (2 * e + day.toNat) none, marks := s.tce.marks.put [] e marks } }

end Sys2Proof.Machine
end

