-- ==== Sys2Proof/Machine/Views.lean ====
section
/-! DEFINITION. What a read of a register returns: the stored word, but for fields that show a present condition, values
computed at the read, trims, and fields that read as zero (the register tables of 02 to 23). -/

namespace Sys2Proof.Machine

/-! Observation (Table 22.10). -/

/-- Word i of the sample record at index RIDX (R647). -/
def State.sampleWord (s : State) (i : Nat) : Word :=
  let n := s.obs.smpNext
  let back := (n + 4096 - 1 - s.fld Reg.OBS_SMP_RIDX 11 0) % 4096
  let l := s.obs.samples.length
  if back < l then (s.obs.samples.getD (l - 1 - back) []).getD i 0 else 0

def obsView (s : State) (a : Nat) : Option Word :=
  if a = Reg.OBS_SMP_STATUS then
    some (BitVec.ofNat 32 (65536 * s.obs.samples.length + s.obs.smpNext % 4096))
  else if 0x301014 ≤ a && a < 0x301024 then some (s.sampleWord ((a - 0x301014) / 4))
  else if 0x302020 ≤ a && a < 0x302040 then
    some ((s.obs.trace.look [] (s.fld Reg.OBS_TRC_RIDX 16 0)).getD ((a - 0x302020) / 4) 0)
  else none

/-! RCP (Table 21.10). -/

def rcpView (s : State) (a : Nat) : Option Word :=
  if a = Reg.RCP_BLK_RST then some (s.rcp.inReset.setWidth 32)
  else if 0x110000 ≤ a && a < 0x120000 then some (s.retWord (a - 0x110000))
  else none

/-! TSU (Table 17.10). -/

def tsuView (s : State) (a : Nat) : Option Word :=
  if a = Reg.TSU_NOW_FRAC then some (BitVec.ofNat 32 s.clk.frac.toNat)
  else if a = Reg.TSU_NOW_LO then some (wordOf s.now 0)
  else if a = Reg.TSU_NOW_HI then some (wordOf s.now 1)
  else if a = Reg.TSU_TOD_RX then
    some (match s.tsu.rx with
      | b :: _ => BitVec.ofNat 32 (2 ^ 31 + b.toNat)
      | [] => 0)
  else if a = Reg.TSU_TOD_STATUS then some (BitVec.ofNat 32 (65536 * s.tsu.rx.length + s.tsu.tx.length))
  else none

/-! Burst receivers: the terminal memory (Table 03.1). -/

/-- Words 0 and 1 of a terminal memory entry. -/
def State.memWord (s : State) (n l i : Nat) : Word :=
  let e := s.brx.ents.look {} (512 * n + l)
  if i = 0 then
    BitVec.ofNat 32 (2 ^ 31 * e.valid.toNat + 2 ^ 30 * e.lastOk.toNat + 2 ^ 28 * (e.rate % 4) + 2 ^ 22 * (e.phase % 64) +
      2 ^ 17 * (e.peak % 32) + s.ageOf e)
  else BitVec.ofNat 32 (256 * wrapN 24 e.drift + e.failRun % 256)

def brxView (s : State) (a : Nat) : Option Word :=
  let o := (a - 0xC00000) % 0x10000
  if 0x8000 ≤ o && o < 0x9000 then some (s.memWord ((a - 0xC00000) / 0x10000) ((o - 0x8000) / 8) (o / 4 % 2)) else none

/-! GNT (Table 05.10). -/

/-- QH_LEFT: frames of the sealed quiet horizons still to run, none counted twice, at most 255 (Table 05.10, R191, R203). DESIGN
CHOICE (log 70): two horizons can leave more than the field holds, and it then stays at its top; a frame is still to run while the
superframe counter has not reached it, so that the frame in progress is left out, and TEQ, by which a frame's upstream ends later, is
not considered. -/
def State.qhLeft (s : State) (n : Nat) : Nat :=
  let hi := ((s.gport n).horizon.map (·.2)).foldl max 0
  min 255 ((List.range (hi - s.sfc)).filter fun i => (s.gport n).covered (s.sfc + 1 + i)).length

/-- DISC_ACTIVE of RNG_n_STATUS (Table 04.5). -/
def rngView (s : State) (a : Nat) : Option Word :=
  if a % 0x10000 = 0x20 then some (setBitW (s.rd a) 1 (s.bport ((a - 0xE00000) / 0x10000)).inDisc) else none

def gntView (s : State) (a : Nat) : Option Word :=
  let o := a - 0x1000000
  if 0x100 ≤ o && o < 0x180 && o % 16 = 4 then some (BitVec.ofNat 32 (s.fifo ((o - 0x100) / 16)).items.length)
  else if 0x20000 ≤ o && o < 0x22000 && o % 256 = 4 then
    let n := (o - 0x20000) / 256
    let p := s.gport n
    some (BitVec.ofNat 32 (512 * (!p.rngQ.isEmpty).toNat + 256 * p.disc.isSome.toNat + s.qhLeft n))
  else if 0x100000 ≤ o && o % 8 = 0 then some (setBitW (s.rd a) 0 (s.strDrained ((o - 0x100000) / 8)))
  else none

/-! TCE: PARTIAL of the current bins (Table 10.11, R348). -/

def tceView (s : State) (a : Nat) : Option Word :=
  if 0x1700000 ≤ a && a % 32 = 24 then
    let e := (a - 0x1700000) / 32
    let p := fun day => (s.binPartial e (s.currentBin e day) day).toNat
    some (BitVec.ofNat 32 (2 * p true + p false))
  else none

/-! The lanes: SPARE (16). -/

/-- SPARE of UPL_L_l_RX and MLK_l_RX. -/
def laneView (s : State) (a : Nat) : Option Word :=
  if Reg.UPL_L_RX 0 ≤ a && decide (a ≤ Reg.UPL_L_RX 23) && (a - Reg.UPL_L_RX 0) % 64 == 0 then
    some (setBitW (s.rd a) 3 (s.rcp.spared.contains (15, (a - Reg.UPL_L_RX 0) / 64)))
  else if Reg.MLK_l_RX 0 ≤ a && decide (a ≤ Reg.MLK_l_RX 7) && (a - Reg.MLK_l_RX 0) % 64 == 0 then
    some (setBitW (s.rd a) 3 (s.rcp.spared.contains (17, (a - Reg.MLK_l_RX 0) / 64)))
  else none

/-! The whole map. -/

/-- Trims that BAR0 shows: GLB, where GRADE never holds a reserved code, and the selection leads of TMG. -/
def trimView (a : Nat) (w : Word) : Word :=
  if a = 0 then setFldW w 9 8 (1 + ((Config.trimWord 0).getLsbD 8).toNat)
  else if (0 < a && a < 0x10) || (0x1C01000 ≤ a && a < 0x1C01720 && a % 32 = 4) then
    match regAt a with
    | some d => w ||| (Config.trimWord a &&& BitVec.ofNat 32 d.trim)
    | none => w
  else w

/-- The present value of a defined register, before VIEW and latches. -/
def State.view (s : State) (a : Nat) : Word :=
  let special := match a / 0x100000 with
    | 1 => rcpView s a
    | 2 => fltView s a
    | 3 => obsView s a
    | 8 => tsuView s a
    | 10 | 11 => if a % 0x80000 = 0x8004 then some (setBitW (s.rd a) 31 (s.i2cBusy ((a - 0xA00000) / 0x80000))) else tpaView s a
    | 12 | 13 => brxView s a
    | 14 | 15 => rngView s a
    | 16 | 17 => gntView s a
    | 21 => if a = Reg.UDF_STATUS then some (BitVec.ofNat 32 s.udf.parts.length) else none
    | 23 => tceView s a
    | 34 | 36 => laneView s a
    | 48 | 49 | 50 | 51 | 52 => some (wordOf (s.fdbAt ((a - 0x3000000) / 16)).toNat (a / 4 % 4))
    | _ => none
  if s.unusedLane a then 0
  else
    let w := trimView a (special.getD (s.rd a))
    match regAt a with
    | some d => w &&& ~~~(BitVec.ofNat 32 d.wo)
    | none => 0

end Sys2Proof.Machine
end

