-- ==== Sys2Proof/Machine/Reads.lean ====
section
/-! DEFINITION. Reads of registers by a function: latches of word groups and counter pairs (R637, R684), fields that clear on
read (R638), the view of a function (R642), and a tenant's page (R587, R588, R652, R653). -/

namespace Sys2Proof.Machine

/-! Word groups: a read of word 0 latches the words that follow. -/

/-- Groups of words: base, two strides with their counts, and how many words follow word 0. -/
def wordGroups (window : Nat) : List (Nat × Nat × Nat × Nat × Nat × Nat) :=
  match window with
  | 0 => [(0x8, 0, 1, 0, 1, 1)]
  | 2 => [(0x200008, 8, 2, 0, 1, 1), (0x200040, 0, 1, 0, 1, 4), (0x200080, 0, 1, 0, 1, 3)]
  | 3 => [(0x301014, 0, 1, 0, 1, 3), (0x302020, 0, 1, 0, 1, 7)]
  | 4 => [(0x410000, 32, 1024, 0, 1, 7)]
  | 8 => [(0x800010, 0, 1, 0, 1, 2), (0x800110, 32, 16, 0, 1, 1), (0x800504, 32, 2, 0, 1, 2), (0x800610, 0, 1, 0, 1, 1),
      (0x800704, 0, 1, 0, 1, 1)]
  | 12 | 13 => [(0xC08000, 0x10000, 32, 8, 512, 1)]
  | 14 | 15 => [(0xE00018, 0x10000, 32, 0, 1, 1), (0xE08000, 0x10000, 32, 32, 512, 7)]
  | 16 | 17 => [(0x1000010, 0, 1, 0, 1, 3), (0x1080000, 8, 2048, 0, 1, 1), (0x1100000, 8, 65536, 0, 1, 1)]
  | 20 => [(0x1400008, 0, 1, 0, 1, 1), (Reg.DFR_n_FSTAMP_LO 0, 0x400, 32, 0, 1, 1)]
  | 21 => [(0x1580000, 32, 16384, 0, 1, 7)]
  | 22 | 23 => [(0x1620000, 32, 4096, 0, 1, 7), (0x1640000, 8, 2048, 0, 1, 1), (0x1700000, 32, 20504, 0, 1, 7)]
  | 26 => [(0x1A00020, 0, 1, 0, 1, 3)]
  | 27 => [(0x1B00010, 0, 1, 0, 1, 3), (0x1B00030, 0, 1, 0, 1, 1)]
  | 28 | 30 | 31 => [(0x1C00010, 0, 1, 0, 1, 3), (0x1E00000, 16, 69632, 0, 1, 3)]
  | 32 => [(0x2010004, 16, 2048, 0, 1, 1)]
  | 48 | 49 | 50 | 51 | 52 => [(0x3000000, 16, 264192, 0, 1, 3)]
  | _ => []

/-- The word of a group that an address is, if it is one of its words. -/
def groupWord (a : Nat) (g : Nat × Nat × Nat × Nat × Nat × Nat) : Option Nat :=
  let (base, s1, n1, s2, n2, k) := g
  if a < base then none
  else match hitDim s1 n1 (a - base) with
    | none => none
    | some r1 => match hitDim s2 n2 r1 with
      | none => none
      | some r2 => if r2 % 4 = 0 && decide (r2 / 4 ≤ k) then some (r2 / 4) else none

/-- The place of an address in its group, 0 for the word that latches, and the addresses that follow it there. Entries of TCE_CIRC
latch words 0 to 2 at word 3 (R319); counter pairs are groups of two (R637). -/
def groupAt (a : Nat) : Nat × List Nat :=
  let found := (wordGroups (a / 0x100000)).filterMap fun g => (groupWord a g).map fun p => (p, g.2.2.2.2.2)
  if 0x1610000 ≤ a && a < 0x1618000 then
    if a % 16 = 12 then (0, [a - 12, a - 8, a - 4]) else (a % 16 / 4 + 1, [])
  else match found.head? with
    | some (0, k) => (0, (List.range k).map fun i => a + 4 * (i + 1))
    | some (p, _) => (p, [])
    | none => match regAt a with
      | none => (0, [])
      | some d => match d.kind with
        | .trafLo | .perfLo => (0, [a + 4])
        | .trafHi | .perfHi => (1, [])
        | .plain | .mon => (0, [])

/-! What a function sees. -/

/-- VIEW of a function (R642). -/
def State.viewOn (s : State) : Fn → Bool
  | .op => s.bit Reg.OBS_CTRL 31
  | .t n => (s.ten (0x10000 * n.val + 0x6004)).getLsbD 0

/-- The word at a defined address as a function sees it. -/
def State.seen (s : State) (fn : Fn) (a : Nat) : Word :=
  if s.viewOn fn && isCounter a then s.obs.shadow.look 0 a else s.view a

/-- The fields that clear on read return to their reset word, but not through a shadow (R638, R642); the lowest free count starts
again from the present one (Table 13.7). -/
def State.clearRead (s : State) (fn : Fn) (a : Nat) : State :=
  match regAt a with
  | none => s
  | some d =>
    if d.rc = 0 || (s.viewOn fn && isCounter a) then s
    else
      let m := BitVec.ofNat 32 d.rc
      let s := s.wr a ((s.rd a &&& ~~~m) ||| (resetWord a &&& m))
      if Reg.BPM_k_MIN_FREE 0 ≤ a && decide (a ≤ Reg.BPM_k_MIN_FREE 7) && s.bit Reg.BPM_CTRL 0 then
        s.wr a (s.rd (a - Reg.BPM_k_MIN_FREE 0 + Reg.BPM_k_FREE 0) &&& m)
      else s

def State.setLatch (s : State) (fn : Fn) (blk : Nat) (ws : List Word) : State :=
  { s with hif := { s.hif with latch := s.hif.latch.put [] (heldKey fn blk) ws } }

/-- What else a read of a register of TSU does: CAP_HI clears VALID, TOD_RX takes a byte (R529, R531). -/
def State.readHook (s : State) (a : Nat) : State :=
  if a = Reg.TSU_TOD_RX then { s with tsu := { s.tsu with rx := s.tsu.rx.drop 1 } }
  else if a = Reg.TSU_PPI_CAP_HI 0 then s.setB (Reg.TSU_PPI_CTRL 0) 0 false
  else if a = Reg.TSU_PPI_CAP_HI 1 then s.setB (Reg.TSU_PPI_CTRL 1) 0 false
  else s

/-- A read that returns w. -/
def State.answer (s : State) (w : Word) : State := { s with rdata := w }

/-- A read of a defined register by a function whose accesses reach it. -/
def State.readReg (s : State) (fn : Fn) (a : Nat) : State :=
  let w := s.seen fn a
  match groupAt a with
  | (0, []) => ((s.clearRead fn a).readHook a).answer w
  | (0, follow) =>
    let s1 := s.setLatch fn (blockNo a) (follow.map (s.seen fn))
    ((a :: follow).foldl (fun s x => s.clearRead fn x) s1).answer w
  | (p, _) => (s.readHook a).answer ((s.hif.latch.look [] (heldKey fn (blockNo a))).getD (p - 1) w)

/-- A read of the operator at a byte address of BAR0 (R660, R664, R667). -/
def State.readOp (s : State) (a : Nat) : State :=
  if s.windowShut a then (s.refuseAt Reg.GLB_CNT_INRST a false).answer 0
  else match regAt a with
    | none => (s.refuseAt Reg.GLB_CNT_RSV a false).answer 0
    | some _ => s.readReg .op a

/-! A tenant's page (Table 19.11). -/

/-- The group that a tenant reaches through a slot. -/
def State.slotGroup (s : State) (n slot : Nat) : Option Nat :=
  (List.range 64).find? fun j => s.bit (Reg.HIF_GRP j) 31 && s.fld (Reg.HIF_GRP j) 30 27 == n && s.groupSlot j == slot

/-- Slots of a tenant's page to which a group is mapped. -/
def State.slotMap (s : State) (n : Nat) : Nat :=
  ((List.range 8).filter fun x => (s.slotGroup n x).isSome).foldl (fun m x => m + 2 ^ x) 0

/-- The operator's address of a word of a command set in a tenant's page. -/
def setAddr (o : Nat) : Option Nat :=
  if 0x2000 ≤ o && o < 0x2020 then some (Reg.FDB_CMD + (o - 0x2000))
  else if 0x3000 ≤ o && o < 0x3018 then some (Reg.TMG_SCMD + (o - 0x3000))
  else if 0x4000 ≤ o && o < 0x404C then some (Reg.CRY_CMD + (o - 0x4000))
  else none

/-- A read of a function's own command set: FDB_DATA0 latches the data words that follow (R404). -/
def State.readSet (s : State) (n : Fin 16) (a : Nat) : State :=
  match regAt a with
  | none => s.answer 0
  | some d =>
    if s.windowShut a then s.answer 0
    else
      let w := s.cs (.t n) a &&& ~~~(BitVec.ofNat 32 d.wo)
      if a = Reg.FDB_DATA 0 then
        (s.setLatch (.t n) 11 ((List.range 3).map fun i => s.cs (.t n) (Reg.FDB_DATA (i + 1)))).answer w
      else if Reg.FDB_DATA 0 < a && a ≤ Reg.FDB_DATA 3 then
        s.answer ((s.hif.latch.look [] (heldKey (.t n) 11)).getD ((a - Reg.FDB_DATA 0) / 4 - 1) w)
      else s.answer w

/-- A word of the tables as a tenant sees it through a window; a block in reset shows zero (R667). -/
def State.peek (s : State) (n : Fin 16) (a : Nat) : Word := if s.windowShut a then 0 else s.seen (.t n) a

/-- A circuit is in a tenant's share (R318). -/
def State.circOf (s : State) (c n : Nat) : Bool :=
  s.bit (Reg.TCE_CIRC_w3 c) 28 && s.fld (Reg.TCE_CIRC_w3 c) 27 24 == n

/-- Addresses of the words of the object that TW_SEL names; none outside the share or of a reserved KIND (R588). -/
def State.twObject (s : State) (n : Fin 16) (kind i : Nat) : Option (List Nat) :=
  let words := fun (a k : Nat) => some ((List.range k).map fun w => a + 4 * w)
  match kind with
  | 0 => if i < 16384 && s.termKeyOf (.t n) i then words (Reg.CRY_TK i 0) 4 else none
  | 1 => if i < 2048 && s.saKeyOf (.t n) i then words (Reg.CRY_SA_w0 i) 4 else none
  | 2 => if i < 4096 && s.circOf (i / 2) n then words (Reg.TCE_CST i 0) 8 else none
  | 3 => if (i < 4096 && s.circOf (i % 2048) n) || (4096 ≤ i && i < 20480 && s.termIn (i - 4096) n) then
      words (Reg.TCE_PMCUR i 0) 8 else none
  | 4 => if i < 2048 && s.circOf i n then words (Reg.TCE_CIRC_w0 i) 4 else none
  | _ => none

/-- The same of TC_SEL (Table 22.7). -/
def State.tcObject (s : State) (n : Fin 16) (kind i : Nat) : Option (List Nat) :=
  let words := fun (a k : Nat) => some ((List.range k).map fun w => a + 4 * w)
  match kind with
  | 0 => if i < 16384 && s.termIn i n then words (Reg.UDF_TSTAT i 0) 8 else none
  | 1 => if i < 69632 && s.queueIn i n then words (Reg.TMG_SMP i 0) 4 else none
  | 2 => if i < 69632 && s.queueIn i n then words (Reg.TMG_QD i) 1 else none
  | 3 => if i < 2 then words (Reg.TMG_TLIM_LIMIT n i) 2 else none
  | 4 => if i < 1024 && s.ringIn i n then words (Reg.HIF_r_CNT_DONE_LO i) 4 else none
  | 5 => words (Reg.FDB_TSHARE_MAX n 0) 4
  | _ => none

/-- A read of word 0 of a window at offset o: the object's words, words 1 to 7 latched beside it; zero and a refused access where
there is none (R588, R653). -/
def State.readWindow (s : State) (n : Fin 16) (o : Nat) (obj : Option (List Nat)) : State :=
  let ws := match obj with
    | some l => l.map (s.peek n)
    | none => []
  let s1 := (List.range 7).foldl (fun s i => s.setTen (0x10000 * n.val + o + 4 * (i + 1)) (ws.getD (i + 1) 0)) s
  (if obj.isSome then s1 else s1.tenantRefused n false o).answer (ws.getD 0 0)

/-- A read of TW_DATA0 (R588). -/
def State.readTw (s : State) (n : Fin 16) : State :=
  let sel := s.ten (0x10000 * n.val + 0x5000)
  s.readWindow n 0x5010 (s.twObject n (fldW sel 31 28) (fldW sel 15 0))

/-- A read of the counter window (R652, R653). -/
def State.readTc (s : State) (n : Fin 16) (o : Nat) : State :=
  let k := 0x10000 * n.val
  if !s.bit (Reg.OBS_TGRANT n) 0 then (s.tenantRefused n false o).answer 0
  else if o = 0x6008 then s.answer (BitVec.ofNat 32 (1 + 2 * (s.bit Reg.OBS_STATUS 1).toNat))
  else if o = 0x6010 then
    let sel := s.ten (k + 0x6000)
    s.readWindow n 0x6010 (s.tcObject n (fldW sel 31 28) (fldW sel 19 0))
  else if o = 0x6000 || o = 0x6004 || (0x6010 < o && o < 0x6030) then s.answer (s.ten (k + o))
  else if 0x6100 ≤ o && o < 0x6130 then
    let a := Reg.OBS_TEN_LO n ((o - 0x6100) / 8)
    if o % 8 = 0 then (s.setLatch (.t n) 21 [s.peek n (a + 4)]).answer (s.peek n a)
    else s.answer ((s.hif.latch.look [] (heldKey (.t n) 21)).getD 0 (s.peek n (a + 4)))
  else if o = 0x6200 then s.answer (s.rd Reg.OBS_SNAP_TIME_LO)
  else if o = 0x6204 then s.answer (s.rd Reg.OBS_SNAP_TIME_HI)
  else (s.tenantRefused n false o).answer 0

/-- An offset of the tenant page that Table 19.11 lists, rings and doorbells apart. -/
def pageListed (o : Nat) : Bool :=
  o == 0 || o == 4 || o == 8 || (decide (0x800 ≤ o) && decide (o < 0xE10)) || (setAddr o).isSome || o == 0x5000 ||
    (decide (0x5010 ≤ o) && decide (o < 0x5030)) || o == 0x6000 || o == 0x6004 || o == 0x6008 ||
    (decide (0x6010 ≤ o) && decide (o < 0x6030)) || (decide (0x6100 ≤ o) && decide (o < 0x6130)) || o == 0x6200 || o == 0x6204

/-- A read at offset o of the doorbell page of group j: DEV_IDX at +4 of a ring, else zero (R575, R668). -/
def State.readBell (s : State) (j o : Nat) : State :=
  s.answer (if o % 256 = 4 then BitVec.ofNat 32 (s.fld (Reg.HIF_RING (16 * j + o / 256) 2) 16 0) else 0)

/-- A read of tenant n at offset o of its page. -/
def State.readTen (s : State) (n : Fin 16) (o : Nat) : State :=
  let k := 0x10000 * n.val
  let refused := (s.tenantRefused n false o).answer 0
  if 0x8000 ≤ o then match s.slotGroup n ((o - 0x8000) / 0x1000) with
    | none => refused
    | some j => s.readBell j (o % 0x1000)
  else if 0x6000 ≤ o then s.readTc n o
  else if 0x1000 ≤ o && o < 0x2000 then match s.slotGroup n ((o - 0x1000) / 512) with
    | none => refused
    | some j => s.readReg (.t n) (Reg.HIF_RING (16 * j + o / 32 % 16) (o / 4 % 8))
  else match setAddr o with
    | some a => s.readSet n a
    | none =>
      if o = 0 then s.answer (BitVec.ofNat 32 (n.val + 256 * s.slotMap n))
      else if o = 4 then
        if s.viewOn (.t n) then s.answer (s.obs.shadow.look 0 (tenShadow (k + 4)))
        else (s.setTen (k + 4) 0).answer (s.ten (k + 4))
      else if o = 0x5010 then s.readTw n
      else if pageListed o then s.answer (s.ten (k + o))
      else refused

/-- A read by a function at a word address, which for the operator counts BAR0 and, from bit 24 on, BAR4 (R668); while HIF is in reset nothing is reachable (R667). -/
def State.readAt (s : State) (fn : Fn) (a : BitVec 25) : State :=
  if !s.up 17 then s
  else match fn with
    | .op => if a.getLsbD 24 then s.readBell (4 * a.toNat / 0x1000 % 64) (4 * a.toNat % 0x1000) else s.readOp (4 * a.toNat)
    | .t n => s.readTen n (4 * a.toNat % 0x10000)

end Sys2Proof.Machine
end

