-- ==== Sys2Proof/Machine/Writes.lean ====
section
/-! DEFINITION. Writes of registers by a function: fields by access type (Table 00.4, R665), held words (R684), locks (R666),
the checks that a chapter makes of a write, and what a write does at once; a tenant's page (R587, R589). Fields whose write
has a row of its own keep their values here. -/

namespace Sys2Proof.Machine

/-! Held words. -/

/-- The block, entry and word number of an address whose writes are held until a commit (R163, R196, R319, R339, R352, R383, R508,
R521, R571). -/
def heldAt (a : Nat) : Option (Nat × Nat × Nat) :=
  if 0x1100000 ≤ a && a < 0x1180000 && a % 8 = 4 then some (4, a - 4, 1)
  else if 0x1080000 ≤ a && a < 0x1084000 && a % 8 = 4 then some (4, a - 4, 1)
  else if 0x1610000 ≤ a && a < 0x1618000 && a % 16 ≠ 12 then some (8, a - a % 16, a % 16 / 4)
  else if 0x1640000 ≤ a && a < 0x1644000 && a % 8 = 4 then some (8, a - 4, 1)
  else if 0x1801000 ≤ a && a < 0x1801800 && a % 8 = 4 then some (9, a - 4, 1)
  else if 0x1804000 ≤ a && a < 0x1808000 && a % 256 ≠ 0 && a % 256 < 0xC0 then some (9, a - a % 256, a % 256 / 4)
  else if 0x410000 ≤ a && a < 0x418000 && a % 32 ≠ 0 then some (18, a - a % 32, a % 32 / 4)
  else if a = 0x800020 then some (16, a, 0)
  else if 0x800100 ≤ a && a < 0x800300 && a % 32 = 4 then some (16, a, 0)
  else none

/-- A word joins the held set of its entry, or begins a new set (R684). -/
def State.hold (s : State) (fn : Fn) (blk entry i : Nat) (v : Word) : State :=
  let h := s.hif.held.look {} (heldKey fn blk)
  let ws := if h.entry = entry then h.words else []
  let h' : HeldSet := { entry := entry, words := Tab.place i v (Tab.drop i ws) }
  { s with hif := { s.hif with held := s.hif.held.put {} (heldKey fn blk) h' } }

/-! The word that a write stores. -/

/-- A register whose bit 31 starts a command: with that bit 0 its other fields are stored, with it 1 the command has a row. -/
def goReg (d : RegD) : Bool := Nat.testBit d.own 31 && !Nat.testBit d.rw 31 && !Nat.testBit d.w1c 31

/-- The fields that a write of v reaches: writable ones, but for those whose write has a row of its own. -/
def reach (d : RegD) (v : Word) : Word :=
  let m := BitVec.ofNat 32 d.rw
  if goReg d && !v.getLsbD 31 then m else m &&& ~~~(BitVec.ofNat 32 d.own)

/-- The lock of an RWL field at an address is closed (Table 23.7). -/
def State.shutLock (s : State) (a : Nat) : Bool :=
  match a / 0x100000 with
  | 2 => s.flt.lock
  | 8 => s.tsu.locked
  | _ => false

/-- What a write of v leaves of `old`: reached fields within their bounds, W1C bits cleared where v has a one, locked fields held
(R665, R666). -/
def State.newWord (s : State) (d : RegD) (a : Nat) (old v : Word) : Word :=
  let m := reach d v
  let m := if s.shutLock a then m &&& ~~~(BitVec.ofNat 32 d.rwl) else m
  let c := v &&& BitVec.ofNat 32 d.w1c &&& ~~~(BitVec.ofNat 32 d.own)
  clampWord d.clamps (((old &&& ~~~m) ||| (v &&& m)) &&& ~~~c)

/-- The refused counter of a block with RWL fields. -/
def lockCnt (a : Nat) : Nat := if a / 0x100000 = 2 then Reg.FLT_CNT_REFUSED else Reg.TSU_CNT_REFUSED

/-- A write that would change a locked field, as it would be stored, counts (R666). -/
def State.countLock (s : State) (d : RegD) (a : Nat) (old v : Word) : State :=
  let m := reach d v
  let l := m &&& BitVec.ofNat 32 d.rwl
  s.incIf (s.shutLock a && (old &&& l) != (clampWord d.clamps ((old &&& ~~~m) ||| (v &&& m)) &&& l)) (lockCnt a)

/-! Writes that a chapter refuses or carries out in its own way, by window. -/

/-- RCP: RCP_RET outside the user area (Table 21.6), and the load window outside WAIT_HOST (R628). -/
def State.guardRcp (s : State) (a : Nat) (v : Word) : Option State :=
  let wait := s.fld Reg.RCP_BOOT 19 16 == 2
  if 0x110000 ≤ a && a < 0x120000 && !(0x11D000 ≤ a && a < 0x11F000) then some (s.inc Reg.RCP_CNT_REFUSED)
  else if 0x180000 ≤ a then
    some (if wait then { s with rcp := { s.rcp with hwin := s.rcp.hwin.put 0 a v } } else s.inc Reg.RCP_CNT_REFUSED)
  else if a = Reg.RCP_HLOAD && !wait then some (s.inc Reg.RCP_CNT_REFUSED)
  else none

/-- TSU: a periodic unit with PERIOD below 1,000 ns (R522), a clock output with P below 3.2 ns (R526). -/
def State.guardTsu (s : State) (a : Nat) (v : Word) : Option State :=
  let o := (a - 0x800480) / 32
  if 0x800100 ≤ a && a < 0x800300 then
    let k := (a - 0x800100) / 32
    if (a % 32 = 0 && v.getLsbD 30 && decide ((s.rd (Reg.TSU_CMP_PERIOD k)).toNat < 1000)) ||
      (a % 32 = 12 && s.bit (Reg.TSU_CMP_CTRL k) 30 && decide (v.toNat < 1000)) then some s.tsuRefused
    else none
  else if a = Reg.TSU_CKO_PER_LO 0 || a = Reg.TSU_CKO_PER_LO 1 then
    if v.toNat + 2 ^ 32 * s.fld (Reg.TSU_CKO_PER_HI o) 15 0 < 209716 then some s.tsuRefused else none
  else if a = Reg.TSU_CKO_PER_HI 0 || a = Reg.TSU_CKO_PER_HI 1 then
    if (s.rd (Reg.TSU_CKO_PER_LO o)).toNat + 2 ^ 32 * fldW v 15 0 < 209716 then some s.tsuRefused else none
  else none

/-- A port is protected no more. -/
def State.unprotect (s : State) (n : Nat) (v : Word) : State :=
  let s := if s.inGap n && !s.bit (Reg.TPA_PROT n) 30 then s.setGap (s.partner n) false else s
  let s := ((((s.wr (Reg.TPA_PROT n) (v &&& 0x7F3FFFFF)).tell 3 n (Reg.TPA_PROT n)).setPst n 0).setGap n false).setB (Reg.TPA_PSTAT n) 5 false
  let s : State := { s with prot := { s.prot with
    releasing := s.prot.releasing.drop n, taking := s.prot.taking.drop n, lit := setBitW s.prot.lit n false
    silent := s.prot.silent.drop n, judged := s.prot.judged.drop n
    shadow := s.prot.shadow.filter fun e => e.1 / 512 != n } }
  s.txenSettle n

/-- TPA: an I2C master that is BUSY (R80), the reserved protection command, and a write of EN = 0 to TPA_n_PROT. -/
def State.guardTpa (s : State) (a : Nat) (v : Word) : Option State :=
  let n := (a - 0xA00000) / 0x10000
  let o := a % 0x10000
  if a % 0x80000 = 0x8004 || a % 0x80000 = 0x8008 || a % 0x80000 = 0x800C then
    if s.i2cBusy ((a - 0xA00000) / 0x80000) then some s else none
  else if o = 0x9000 && !v.getLsbD 31 then some (s.unprotect n v)
  else if o = 0x9008 && v.getLsbD 31 && fldW v 1 0 = 3 then some (s.inc (Reg.TPA_CNT_REFUSED n))
  else none

/-- FDB, TMG and CRY command sets of a function: a reserved OP ends with RANGE (Tables 12.4, 15.2); key words go to the function's
own (R464). -/
def State.guardSet (s : State) (fn : Fn) (a : Nat) (v : Word) : Option State :=
  if a = Reg.FDB_CMD && v.getLsbD 31 && 5 ≤ fldW v 18 16 then some (s.fdbDone fn (fldW v 18 16) 4)
  else if a = Reg.CRY_CMD && v.getLsbD 31 && 6 ≤ fldW v 19 16 then some (s.keyDone fn (fldW v 19 16) 1)
  else if Reg.CRY_KEY 0 ≤ a && a ≤ Reg.CRY_KEY 10 then
    some { s with cry := { s.cry with words := s.cry.words.put 0 (16 * fnNo fn + (a - Reg.CRY_KEY 0) / 4) v } }
  else none

/-- A write of the operator that does not store its word as Table 00.4 has it. -/
def State.guardWrite (s : State) (a : Nat) (v : Word) : Option State :=
  match a / 0x100000 with
  | 1 => s.guardRcp a v
  | 8 => s.guardTsu a v
  | 10 | 11 => s.guardTpa a v
  | 12 | 13 =>
    if a % 0x10000 = 0x20 && (s.rd a).getLsbD 31 then some (s.inc (Reg.BRX_CNT_REFUSED ((a - 0xC00000) / 0x10000))) else none
  | 14 | 15 =>
    if a % 0x10000 = 0x14 && v.getLsbD 31 && 5 ≤ fldW v 26 24 then
      some ((s.wr a (v &&& 0x070001FF)).inc (Reg.RNG_CNT_REFUSED ((a - 0xE00000) / 0x10000)))
    else none
  | 22 => if 0x16A0000 ≤ a && a < 0x16C0000 && s.bit Reg.TCE_STATUS 0 then some (s.inc Reg.TCE_CNT_REFUSED) else none
  | 26 | 32 => s.guardSet .op a v
  | 34 => if Reg.UPL_Q 0 ≤ a && a ≤ Reg.UPL_Q 5 && s.quadBusy ((a - Reg.UPL_Q 0) / 4) then some (s.inc Reg.UPL_CNT_REFUSED) else none
  | 28 =>
    if 0x1C08000 ≤ a && a < 0x1C16000 && s.bit (Reg.TMG_G_CTRL ((a - 0x1C08000) / 1024)) 30 then
      some (s.inc Reg.TMG_CNT_REFUSED)
    else none
  | _ => none

/-! What a stored write does at once. -/

/-- A ledger record is cleared and armed (R32). -/
def State.clearRecord (s : State) (a : Nat) : State := (((s.wr a 0).wr (a + 4) 0).wr (a + 8) 0).wr (a + 12) 0

/-- What follows a write of v over `old`, by window. -/
def State.writeHook (s : State) (a : Nat) (old v : Word) : State :=
  match a / 0x100000 with
  | 1 => if a = Reg.RCP_PWR && !v.getLsbD 31 then s.leaveQuiet else s
  | 2 =>
    if a = Reg.FLT_CTRL then s.mateDarken (s.wr a old).aliveRun
    else if a = Reg.FLT_STATE && v.getLsbD 8 then s.clearRecord Reg.FLT_CRED_IDX
    else s
  | 4 =>
    let i := (a - Reg.HIF_PF_MSIX_MASK 0) / 16
    if Reg.HIF_PF_MSIX_MASK 0 ≤ a && a < 0x442000 && a % 16 = 12 && !v.getLsbD 0 && s.bit (Reg.HIF_PF_PBA (i / 32)) (i % 32) then
      (s.setB (Reg.HIF_PF_PBA (i / 32)) (i % 32) false).emit (.msix .op i)
    else s
  | 8 =>
    let k := (a - 0x800100) / 32
    if 0x800100 ≤ a && a < 0x800300 && a % 32 = 0 && v.getLsbD 31 && !old.getLsbD 31 then s.commitUnit k
    else if (a = Reg.TSU_PPO_CTRL 0 || a = Reg.TSU_PPO_CTRL 1) && v.getLsbD 31 && !old.getLsbD 31 then
      s.ppsTake ((a - Reg.TSU_PPO_CTRL 0) / 32)
    else if (a = Reg.TSU_PPO_CTRL 0 || a = Reg.TSU_PPO_CTRL 1) && !v.getLsbD 31 then s.outLow false ((a - Reg.TSU_PPO_CTRL 0) / 32)
    else if (a = Reg.TSU_CKO_CTRL 0 || a = Reg.TSU_CKO_CTRL 1) && !v.getLsbD 31 then s.outLow true ((a - Reg.TSU_CKO_CTRL 0) / 32)
    else if a = Reg.TSU_TOD_CTRL then s.todFlush
    else s
  | 12 | 13 => if a % 0x10000 = 4 then s.tell 0 ((a - 0xC00000) / 0x10000) a else s
  | 16 => if a = Reg.GNT_STATUS && v.getLsbD 0 then s.clearRecord Reg.GNT_LEDG_IDX else s
  | 22 =>
    if a = Reg.TCE_CTRL && v.getLsbD 7 != old.getLsbD 7 then
      if v.getLsbD 7 then { s with tce := { s.tce with gaps := s.tce.gaps ++ [(s.tce.pmOff, s.nowSec)] } }
      else { s with tce := { s.tce with pmOff := s.nowSec } }
    else s
  | 27 => if a = Reg.BPM_STATUS && v.getLsbD 1 then s.clearRecord Reg.BPM_LEDG_IDX else s
  | 28 => if a = Reg.TMG_STATUS && v.getLsbD 0 then s.clearRecord Reg.TMG_LEDG_IDX else s
  | _ => s

/-- A write of the operator at a byte address of BAR0 (R663 to R667, R684). -/
def State.writeOp (s : State) (a : Nat) (v : Word) : State :=
  if s.windowShut a then s.refuseAt Reg.GLB_CNT_INRST a true
  else match regAt a with
    | none => s.refuseAt Reg.GLB_CNT_RSV a true
    | some d =>
      if s.unusedLane a then s
      else match heldAt a with
        | some (blk, e, i) => s.hold .op blk e i v
        | none => match s.guardWrite a v with
          | some s' => s'
          | none =>
            let old := s.rd a
            ((s.countLock d a old v).wr a (s.newWord d a old v)).writeHook a old v

/-! A tenant's page. -/

/-- A write of a word of a tenant's command set; a block in reset ignores it. -/
def State.writeSet (s : State) (n : Fin 16) (a : Nat) (v : Word) : State :=
  match regAt a with
  | none => s
  | some d =>
    if s.windowShut a then s
    else match s.guardSet (.t n) a v with
      | some s' => s'
      | none => s.setCs (.t n) a (s.newWord d a (s.cs (.t n) a) v)

/-- A write of a word of a tenant's MSI-X table; an unmask sends the message that is pending (R585). DESIGN CHOICE: every bit of the
four words of an entry is stored and read back, bits 31:1 of the vector-control word among them, whose format the spec does not give
(log 75). -/
def State.writeMsix (s : State) (n : Fin 16) (o : Nat) (v : Word) : State :=
  let k := 0x10000 * n.val
  let i := (o - 0x800) / 16
  let p := k + 0xE00 + 4 * (i / 32)
  let s := s.setTen (k + o) v
  if o % 16 = 12 && !v.getLsbD 0 && (s.ten p).getLsbD (i % 32) then
    (s.setTen p (setBitW (s.ten p) (i % 32) false)).emit (.msix (.t n) i)
  else s

/-- A write at offset o of the doorbell page of group j: a doorbell at +0 of a ring, else ignored (R575). -/
def State.writeBell (s : State) (fn : Fn) (j o : Nat) (v : Word) : State :=
  if o % 256 = 0 then s.doorbell fn (16 * j + o / 256) v else s

/-- An offset of tenant n's page that Table 19.11 lists, in a slot that has a group (Table 19.12). -/
def State.tenListed (s : State) (n : Nat) (o : Nat) : Bool :=
  if 0x8000 ≤ o then (s.slotGroup n ((o - 0x8000) / 0x1000)).isSome
  else if 0x1000 ≤ o && o < 0x2000 then (s.slotGroup n ((o - 0x1000) / 512)).isSome
  else pageListed o

/-- A write of tenant n at offset o of its page. -/
def State.writeTen (s : State) (n : Fin 16) (o : Nat) (v : Word) : State :=
  let k := 0x10000 * n.val
  if 0x8000 ≤ o then match s.slotGroup n ((o - 0x8000) / 0x1000) with
    | some j => s.writeBell (.t n) j (o % 0x1000) v
    | none => s.tenantRefused n true o
  else if 0x1000 ≤ o && o < 0x2000 then match s.slotGroup n ((o - 0x1000) / 512) with
    | none => s.tenantRefused n true o
    | some j => match heldAt (Reg.HIF_RING (16 * j + o / 32 % 16) (o / 4 % 8)) with
      | some (blk, e, i) => s.hold (.t n) blk e i v
      | none => s
  else match setAddr o with
    | some a => s.writeSet n a v
    | none =>
      if !pageListed o then s.tenantRefused n true o
      else if 0x800 ≤ o && o < 0xE00 then s.writeMsix n o v
      else if o = 0x5000 then s.setTen (k + o) (v &&& 0xF000FFFF)
      else if o = 0x6000 then s.setTen (k + o) (v &&& 0xF00FFFFF)
      else if o = 0x6004 then s.setTen (k + o) (v &&& 1)
      else s

/-- A write by a function at a word address (R668); while HIF is in reset nothing is reachable (R667). -/
def State.writeAt (s : State) (fn : Fn) (a : BitVec 25) (v : Word) : State :=
  if !s.up 17 then s
  else match fn with
    | .op => if a.getLsbD 24 then s.writeBell .op (4 * a.toNat / 0x1000 % 64) (4 * a.toNat % 0x1000) v else s.writeOp (4 * a.toNat) v
    | .t n => s.writeTen n (4 * a.toNat % 0x10000) v

end Sys2Proof.Machine
end

