-- ==== Sys2Proof/Machine/Access.lean ====
section
/-! DEFINITION. The commands of the register map (23): writes and reads of registers by a function, and accesses that are
refused. An address is that of a word: of BAR0 for the operator, of the tenant page for a tenant. -/

namespace Sys2Proof.Machine

/-- REGISTER_WRITE (R662, R665, R666). -/
def execRegisterWrite (fn : Fn) (a : BitVec 25) (v : Word) (s : State) : Res := .next (s.writeAt fn a v)

/-- HELD_WORD_WRITE (R684). -/
def execHeldWordWrite (fn : Fn) (a : BitVec 25) (v : Word) (s : State) : Res := .next (s.writeAt fn a v)

/-- PARTIAL_BYTE_WRITE: byte enables `be`, not all set (R663); a doorbell page ignores it (R575), and a tenant's at an offset that is not
listed counts (R589). -/
def execPartialByteWrite (fn : Fn) (a : BitVec 25) (_be : Fin 15) (s : State) : Res :=
  .next (match fn with
    | .op => if s.up 17 && !a.getLsbD 24 then s.refuseAt Reg.GLB_CNT_RSV (4 * a.toNat) true else s
    | .t n =>
      let o := 4 * a.toNat % 0x10000
      if s.up 17 && !s.tenListed n.val o then s.tenantRefused n true o else s)

/-- RESERVED_ACCESS: a read or, with `wr`, a write of an address that holds no register (R664, R589). -/
def execReservedAccess (fn : Fn) (a : BitVec 25) (wr : Bool) (s : State) : Res :=
  let o := 4 * a.toNat % 0x10000
  let back := fun (s : State) => if wr then s else s.answer 0
  .next (if !s.up 17 then s
    else match fn with
      | .op => if a.getLsbD 24 || s.windowShut (4 * a.toNat) || (regAt (4 * a.toNat)).isSome then s
        else back (s.refuseAt Reg.GLB_CNT_RSV (4 * a.toNat) wr)
      | .t n => if s.tenListed n.val o then s else back (s.tenantRefused n wr o))

/-- IN_RESET_ACCESS: a read or, with `wr`, a write of the window of a block in reset (R667). -/
def execInResetAccess (fn : Fn) (a : BitVec 25) (wr : Bool) (s : State) : Res :=
  let back := fun (s : State) => if wr then s else s.answer 0
  .next (if !s.up 17 then s
    else match fn with
      | .op => if !a.getLsbD 24 && s.windowShut (4 * a.toNat) then back (s.refuseAt Reg.GLB_CNT_INRST (4 * a.toNat) wr) else s
      | .t _ => match setAddr (4 * a.toNat % 0x10000) with
        | some x => if s.windowShut x then back s else s
        | none => s)

/-- LATCHING_READ: a read of word 0 of a group latches the words that follow (R684). -/
def execLatchingRead (fn : Fn) (a : BitVec 25) (s : State) : Res := .next (s.readAt fn a)

/-- COUNTER_LOW_READ: a read of the low word of a counter latches the high word (R637). -/
def execCounterLowRead (fn : Fn) (a : BitVec 25) (s : State) : Res := .next (s.readAt fn a)

/-- CLEAR_ON_READ (R638). -/
def execClearOnRead (fn : Fn) (a : BitVec 25) (s : State) : Res := .next (s.readAt fn a)

/-- TW_DATA0_READ: a read of tenant t through the window that TW_SEL points (R588). -/
def execTwData0Read (t : Fin 16) (s : State) : Res := .next (if s.up 17 then s.readTw t else s)

end Sys2Proof.Machine
end

