-- ==== Sys2Proof/Machine/Dfr.lean ====
section
/-! DEFINITION. The commands of downstream framing but FRAME_TICK (08): loads of the counter and the grid, the read of a
page, the start of a line frame, announcements and holds. -/

namespace Sys2Proof.Machine

/-- SFC_LOAD: a write of DFR_CTRL with SFC_LOAD = 1 (R272); a refused write is ignored whole. -/
def execSfcLoad (v : Word) (s : State) : Res :=
  s.opWrite Reg.DFR_CTRL <|
  if s.anyRun then .next (s.inc Reg.DFR_CNT_REFUSED)
  else
    let s := (s.wr Reg.DFR_CTRL (fitWord Reg.DFR_CTRL (s.rd Reg.DFR_CTRL) v)).setB Reg.DFR_CTRL 0 true
    .next { s with dfr := { s.dfr with load := true } }

/-- FT_OFFSET_WRITE (R272, Table 08.5). -/
def execFtOffsetWrite (v : Word) (s : State) : Res :=
  s.opWrite Reg.DFR_FT_OFFSET <|
  .next (if s.anyRun || decide (124999 < fldW v 16 0) then s.inc Reg.DFR_CNT_REFUSED
    else s.setF Reg.DFR_FT_OFFSET 16 0 (fldW v 16 0))

/-! The read of a page (R277 to R280). -/

/-- MAP_READ: DFR reads page P of the port 2 µs before line frame P; `unc` says that its copy holds an uncorrectable word
(R277, R278). What the frame that it sends does with the map is accounted when it is sent. -/
def execMapRead (n : Fin 32) (frame : BitVec 51) (unc : Bool) (s : State) : Res :=
  let f := frame.toNat
  let final? := (s.page n f).filter fun g => g.st == .final
  let map := if unc then none else final?.map s.mapOf
  .next (if s.txen n then
      s.setDport n { s.dport n with read := some (f, map), readFinal := final?.map (·.frame) }
    else s)

/-! The start of a line frame (R57, R273, R274, R276). -/

/-- Framing ends with the frame in progress after EN was cleared (Table 02.3, Table 02.6). -/
def State.stopDisabled (s : State) (n : Nat) : State :=
  ((s.stopFraming n).setTport n { (s.stopFraming n).tport n with shutting := false }).seeLight

/-- FT_PHASE, the slip test and the stamp of a frame whose first bit crosses `phase` ps after its tick ft in ns (R274,
R276). -/
def State.stampFrame (s : State) (n f : Nat) (ft phase : Int) : State :=
  let at_ := ((ft * 1000 + phase) / 1000).toNat
  let s := (s.advanceTo at_).wr (Reg.DFR_n_FT_PHASE n) (BitVec.ofInt 32 (satSigned 32 phase))
  let s := s.tell 8 n (Reg.DFR_n_FT_PHASE n)
  let s := s.wr (Reg.DFR_n_FSTAMP_LO n) (wordOf at_ 0)
  let s := s.wr (Reg.DFR_n_FSTAMP_HI n) (BitVec.ofNat 32 (2 ^ 16 * (f % 2 ^ 16) + at_ / 2 ^ 32 % 256))
  if decide (1000 * s.fld Reg.DFR_CTRL 15 8 < phase.natAbs) then
    ((s.inc (Reg.DFR_n_CNT_FT_SLIP n)).setB (Reg.DFR_n_STATUS n) 0 true).raise 30 n
  else s

/-- A whole frame is built and sent: map, PLOAM messages, XGEM space (R268, Table 08.1). -/
def State.buildFrame (s : State) (n f : Nat) : State :=
  let (m, s) := s.frameMap n f
  let (ps, s) := s.framePloams n f
  let (xs, s) := s.fillXgem n f (s.fecPayload n - 8 - 8 * m.length - 48 * ps.length)
  let s := ((s.add64 (Reg.DFR_n_CNT_FRAMES_LO n) 1).emit (.line n f (Config.ponId n) m (s.pd n) ps xs)).takingDone n
  s.sendMap n m

/-- LINE_FRAME_START: line frame P of the port begins, `phase` ps after FT(P); or framing stops there, after EN was
cleared. DESIGN CHOICE: AMP, POST, PRE and POL take effect here only, so on a port that sends a test pattern or settles they wait for its
first frame (R57; log 69). -/
def execLineFrameStart (n : Fin 32) (phase : Int) (s : State) : Res :=
  if !s.dfrRun n || !s.txen n then .next s
  else if (s.tport n).shutting then .next (s.stopDisabled n)
  else
    let p := s.dport n
    let f := p.next
    let s := s.stampFrame n f (s.ftAt f) phase
    let s := s.setTport n { s.tport n with pma := s.rd (Reg.TPA_PMA n) &&& 0x3FFF }
    let s := if p.first then s.announceAll n else s
    let s := s.setDport n { s.dport n with next := (f + 1) % 2 ^ 51, first := false }
    .next (s.buildFrame n f)

/-- PROFILE_ANNOUNCE: PROF_PERIOD has passed (R282). -/
def execProfileAnnounce (n : Fin 32) (s : State) : Res :=
  .next (if s.dfrRun n then s.announceAll n else s)

/-! Holds (R289, R292, R293). -/

/-- HOLD_BEGIN: a write of DFR_n_CTRL that sets HOLD; the hold begins at the next line frame. -/
def execHoldBegin (n : Fin 32) (v : Word) (s : State) : Res :=
  s.opWrite (Reg.DFR_n_CTRL n) <|
  let a := Reg.DFR_n_CTRL n
  .next (s.wr a (setBitW (fitWord a (s.rd a) v) 31 true))

/-- HOLD_END: a write of DFR_n_CTRL that clears HOLD; with HOLD_AUTO = 0 the hold ends at the next line frame. -/
def execHoldEnd (n : Fin 32) (v : Word) (s : State) : Res :=
  s.opWrite (Reg.DFR_n_CTRL n) <|
  let a := Reg.DFR_n_CTRL n
  .next (s.wr a (setBitW (fitWord a (s.rd a) v) 31 false))

/-- HOLD_EXPIRE: HOLD_MAX frames of the hold have been sent (R293). -/
def execHoldExpire (n : Fin 32) (s : State) : Res :=
  let p := s.dport n
  if s.holding n && decide (s.fld (Reg.DFR_n_CTRL n) 19 14 ≤ p.held) && !p.expired then
    .next (((s.setB (Reg.DFR_n_STATUS n) 2 true).raise 31 n).setDport n { p with expired := true })
  else .next s

end Sys2Proof.Machine
end

