-- ==== Sys2Proof/Machine/Mlk.lean ====
section
/-! DEFINITION. The commands of the mate link (16). -/

namespace Sys2Proof.Machine

/-- TRAIN blocks on lanes (Table 16.4). -/
def State.sendTrain (s : State) (lanes : List Nat) : State :=
  lanes.foldl (fun s l =>
    s.transmit (.block l (mateBlock 15 l ((List.range 29).map fun i => BitVec.ofNat 8 (i ^^^ 0xA7))))) s

/-- A write of MLK_CTRL (R491, R496, R497). TRAIN = 1 takes the link down for the alignment loop; TRAIN = 0 in that loop
announces LANES on its lanes, and the others keep sending TRAIN blocks. -/
def State.mateCtrl (s : State) (v : Word) : State :=
  let v := v &&& 0xC00000FF
  let looping := s.bit Reg.MLK_CTRL 31 && s.mateState == 1
  if v.getLsbD 31 && !s.mateRole then s.inc Reg.MLK_CNT_REFUSED
  else
    let s1 := s.wr Reg.MLK_CTRL v
    if !v.getLsbD 31 then s1.mateLeft 0
    else if v.getLsbD 30 then
      let s2 := if looping && s.bit Reg.MLK_CTRL 30 then s1 else ((s1.mateLeft 1).setF Reg.MLK_STATUS 15 8 0)
      s2.sendTrain (List.range 8)
    else if looping then
      let own := fldW v 7 0
      let (lanes, others) := (List.range 8).partition fun l => Nat.testBit own l
      (({ s1 with mlk := { s1.mlk with announcing := true, partner := none } } : State).sendWidth lanes 31 (255 - own)
        own).sendTrain others
    else s1

/-- MLK_ENABLE: a write of MLK_CTRL that sets or clears EN (R491). -/
def execMlkEnable (v : Word) (s : State) : Res := s.opWrite Reg.MLK_CTRL <| .next (s.mateCtrl v)

/-- MLK_TRAIN_START: a write of MLK_CTRL with TRAIN = 1 (R496, R502). -/
def execMlkTrainStart (v : Word) (s : State) : Res := s.opWrite Reg.MLK_CTRL <| .next (s.mateCtrl (setBitW v 30 true))

/-- MLK_TRAIN_END: a write of MLK_CTRL with TRAIN = 0 (R497). -/
def execMlkTrainEnd (v : Word) (s : State) : Res := s.opWrite Reg.MLK_CTRL <| .next (s.mateCtrl (setBitW v 30 false))

/-- BITSLIP (R496). -/
def execBitslip (l : Fin 8) (s : State) : Res :=
  s.opWrite (Reg.MLK_l_CMD l) <|
  let a := Reg.MLK_l_STATUS l
  let s := (s.setF a 6 0 ((s.fld a 6 0 + 1) % 128)).setB a 8 false
  .next (s.setMlane l { s.mlane l with tp := 0 })

/-- MLK_LINK_UP: 1 µs after both announcements (R497; R559 mirrors every context). -/
def execMlkLinkUp (s : State) : Res :=
  match s.mlk.announcing, s.mlk.partner with
  | true, some m =>
    match setsWithin (s.fld Reg.MLK_CTRL 7 0 &&& m) with
    | [] => .next s.mateDown
    | c :: _ =>
      let s := (s.setF Reg.MLK_STATUS 2 0 2).setF Reg.MLK_STATUS 5 3 c
      let s := ({ s with mlk := { s.mlk with announcing := false, partner := none } } : State)
      .next ((List.range 32).foldl (fun s n => if s.isMate n && s.pst n == 1 then s.mirrorAll n else s) s)
  | _, _ => .next s

/-! Blocks received (R492 to R499). -/

/-- The 32 bytes of a block, and its CRC-8 and type are right. -/
def blockBytes (b : BitVec 256) : List Byte := bytesBE 32 b.toNat
def blockType (b : BitVec 256) : Nat := fldW b 255 252
def blockLen (b : BitVec 256) : Nat := fldW b 251 247
def blockData (b : BitVec 256) : List Byte := ((blockBytes b).drop 2).take 29
def blockGood (b : BitVec 256) : Bool :=
  crc8 ((blockBytes b).take 31) 0 == fldW b 7 0 && (decide (blockType b ≤ 5) || blockType b == 15)

/-- The frame in reception on a lane is dropped (R494). -/
def State.cutLane (s : State) (l : Nat) : State :=
  let x := s.mlane l
  (s.setMlane l { x with head := none, data := [], broken := false, headless := false }).incIf (x.head.isSome || x.headless)
    Reg.MLK_CNT_RX_DROP

/-- A frame is whole (R494, Table 16.5): handed to PRS, or dropped. -/
def State.mateFrame (s : State) (l : Nat) : State :=
  let x := s.mlane l
  match x.head with
  | none => s
  | some h =>
    let s1 := s.setMlane l { x with head := none, data := [], broken := false }
    let b := fun (i : Nat) => (h.getD i 0).toNat
    if x.broken || joinBytesBE ((h.drop 2).take 2) != x.data.length ||
        joinBytesBE ((h.drop 4).take 4) != crc32c 0xFFFFFFFF x.data then s1.inc Reg.MLK_CNT_RX_DROP
    else
      let p : Pkt := { kind := 2, down := decide (128 ≤ b 0), data := x.data, cls := b 0 / 16 % 4
                       tenant := if Nat.testBit (b 0) 6 then some (b 1 / 16) else none }
      let s1 := s1.add64 (Reg.MLK_l_CNT_FRAMES_LO l) 1
      { s1 with cls := { s1.cls with ingress := s1.cls.ingress ++ [p] } }

/-- A good block on a lane in service while the link is up (R493 to R495, R499). An END without a START ends a frame whose START
was bad, and counts where a bad block came before it; so does what follows DATA without a START, where its END was bad too. -/
def State.upBlock (s : State) (l : Nat) (b : BitVec 256) : State :=
  let x := s.mlane l
  let d := blockData b
  match blockType b with
  | 1 => (s.leaveQuiet.cutLane l).setMlane l { x with head := some (d.take 8), data := d.drop 8, broken := false, headless := false }
  | 2 => s.setMlane l (if x.head.isSome then { x with data := x.data ++ d } else { x with headless := x.broken })
  | 3 =>
    let n := blockLen b
    if x.head.isNone then
      (s.setMlane l { x with broken := false, headless := false }).incIf (x.broken || x.headless) Reg.MLK_CNT_RX_DROP
    else
      (s.setMlane l { x with data := x.data ++ d.take n, broken := x.broken || n == 0 || decide (29 < n) }).mateFrame l
  | 4 =>
    let s := s.cutLane l
    { s with mlk := { s.mlk with control := s.mlk.control ++ [(d, s.now, s.clk.frac.toNat)] } }
  | 5 =>
    let s := s.cutLane l
    if blockLen b < 8 then s.narrow ((d.getD 0 0).toNat ||| 2 ^ blockLen b) else s
  | _ => s.cutLane l

/-- MLK_BLOCK_RECEIVE (R492 to R499). -/
def execMlkBlockReceive (l : Fin 8) (b : BitVec 256) (s : State) : Res :=
  if !s.bit Reg.MLK_CTRL 31 || !s.bit Reg.MLK_STATUS 16 then .next s
  else
    let x := s.mlane l
    let a := Reg.MLK_l_STATUS l
    if !blockGood b then
      let s := (s.inc (Reg.MLK_l_CNT_BAD_BLK l)).setB a 8 false
      .next (s.setMlane l { x with bad := x.bad + 1, tp := 0, broken := true })
    else
      let train := blockType b == 15 || blockType b == 5
      let n := if train then min (x.tp + 1) 32 else 0
      let s := (s.setMlane l { x with bad := 0, tp := n }).setB a 8 (n == 32)
      let s := if blockType b == 15 && blockLen b != l.val then s.setB a 9 true else s
      if s.mateState = 2 then .next (if s.mateLanes.contains l.val then s.upBlock l b else s)
      else if blockType b == 5 && blockLen b == 31 && s.mlk.announcing && s.bit Reg.MLK_CTRL l then
        .next { s with mlk := { s.mlk with partner := some ((blockData b).getD 1 0).toNat } }
      else .next s

/-- MLK_LANE_DROP: a lane in service has received 8 consecutive bad blocks (R498, R499). -/
def execMlkLaneDrop (l : Fin 8) (s : State) : Res :=
  .next (if s.mateState = 2 ∧ s.mateLanes.contains l.val ∧ 8 ≤ (s.mlane l).bad then s.dropLane l else s)

/-- MLK_NARROW_DONE: the link resumes at the narrower width (R499 to R501). -/
def execMlkNarrowDone (s : State) : Res :=
  match s.mlk.target with
  | none => .next s
  | some c =>
    let s := s.setF Reg.MLK_STATUS 5 3 c
    .next { s with mlk := { s.mlk with target := none } }

/-- MLK_LANE_RETRAIN: the retrain of a lane that left the set ends, with lock or without (R503, R42). -/
def execMlkLaneRetrain (l : Fin 8) (locks : Bool) (s : State) : Res :=
  if !s.mlk.retrain.contains l.val then .next s
  else
    let gone : State := { s with mlk := { s.mlk with
      retrain := s.mlk.retrain.filter fun x => x != l.val, tried := s.mlk.tried.filter fun x => x != l.val } }
    if locks then .next ((gone.setB (Reg.MLK_l_STATUS l) 7 true).setB (Reg.MLK_l_RX l) 0 true)
    else if s.mlk.tried.contains l.val then .next (gone.raise 12 l)
    else
      let (ok, s1) := s.useSlice 7 17 l
      if ok then
        .next { s1 with mlk := { s1.mlk with tried := l.val :: s1.mlk.tried } }
      else .next (gone.raise 12 l)

/-- MLK_CLOCK_LOSS: no transitions on MLK_CLKI for 100 ns (R504). -/
def execMlkClockLoss (s : State) : Res :=
  let s := s.setB Reg.MLK_STATUS 16 false
  .next (if s.mateState = 0 then s else s.mateDown)

/-- MLK_CLOCK_RETURN (R504). -/
def execMlkClockReturn (s : State) : Res := .next (s.setB Reg.MLK_STATUS 16 true)

end Sys2Proof.Machine
end

