-- ==== Sys2Proof/Machine/SisAlu.lean ====
section
/-! DEFINITION. Arithmetic and logic of the Scheduler Instruction Set (Table 07.5, R239, R249). -/

namespace Sys2Proof.Machine

/-- ADD: g[d] = g[a] + g[b]. -/
def execSisAdd (l : Fin 16) (s : State) : Res := s.sisRun l 0x01 (sisReg l 2 (· + ·) addC addV)

/-- SUB: g[d] = g[a] − g[b]. -/
def execSisSub (l : Fin 16) (s : State) : Res := s.sisRun l 0x02 (sisReg l 2 (· - ·) subC subV)

/-- AND. -/
def execSisAnd (l : Fin 16) (s : State) : Res := s.sisRun l 0x03 (sisReg l 2 (· &&& ·) none2 none2)

/-- OR. -/
def execSisOr (l : Fin 16) (s : State) : Res := s.sisRun l 0x04 (sisReg l 2 (· ||| ·) none2 none2)

/-- XOR. -/
def execSisXor (l : Fin 16) (s : State) : Res := s.sisRun l 0x05 (sisReg l 2 (· ^^^ ·) none2 none2)

/-- SHL: by g[b] and 63. -/
def execSisShl (l : Fin 16) (s : State) : Res :=
  s.sisRun l 0x06 (sisReg l 2 (fun a b => a <<< (b.toNat % 64)) none2 none2)

/-- SHR: logical, by g[b] and 63. -/
def execSisShr (l : Fin 16) (s : State) : Res :=
  s.sisRun l 0x07 (sisReg l 2 (fun a b => a >>> (b.toNat % 64)) none2 none2)

/-- ASR: arithmetic, by g[b] and 63. -/
def execSisAsr (l : Fin 16) (s : State) : Res :=
  s.sisRun l 0x08 (sisReg l 2 (fun a b => a.sshiftRight (b.toNat % 64)) none2 none2)

/-- MIN: signed. -/
def execSisMin (l : Fin 16) (s : State) : Res :=
  s.sisRun l 0x09 (sisReg l 2 (fun a b => if sgn b < sgn a then b else a) none2 none2)

/-- MAX: signed. -/
def execSisMax (l : Fin 16) (s : State) : Res :=
  s.sisRun l 0x0A (sisReg l 2 (fun a b => if sgn a < sgn b then b else a) none2 none2)

/-- MUL: the low 64 bits. -/
def execSisMul (l : Fin 16) (s : State) : Res := s.sisRun l 0x0B (sisReg l 6 (· * ·) none2 none2)

/-- The low `n` bits set, n from 1 to 64. -/
def maskLow (n : Nat) : Word64 := BitVec.ofNat 64 (2 ^ n - 1)

/-- lo and w of EXT and INS: w of 0 means 64. -/
def fieldLo (i : Word64) : Nat := fldW i 5 0
def fieldWidth (i : Word64) : Nat := if fldW i 11 6 = 0 then 64 else fldW i 11 6

/-- Field B and AUX[15:12] are zero. -/
def zeroField (i : Word64) : Bool := zeroReg i && iB i == 0 && fldW i 15 12 == 0

/-- EXT. -/
def execSisExt (l : Fin 16) (s : State) : Res :=
  s.sisRun l 0x0C fun s e i =>
    if zeroField i then s.alu l e i ((e.get (iA i) >>> fieldLo i) &&& maskLow (fieldWidth i)) false false 3 else .exc 1

/-- INS. -/
def execSisIns (l : Fin 16) (s : State) : Res :=
  s.sisRun l 0x0D fun s e i =>
    let m := maskLow (fieldWidth i) <<< fieldLo i
    if zeroField i then
      s.alu l e i ((e.get (iD i) &&& ~~~m) ||| ((e.get (iA i) <<< fieldLo i) &&& m)) false false 3
    else .exc 1

/-- ADDI. -/
def execSisAddi (l : Fin 16) (s : State) : Res := s.sisRun l 0x21 (sisImm l 2 (fun _ => true) (· + ·) addC addV)

/-- ANDI. -/
def execSisAndi (l : Fin 16) (s : State) : Res := s.sisRun l 0x23 (sisImm l 2 (fun _ => true) (· &&& ·) none2 none2)

/-- ORI. -/
def execSisOri (l : Fin 16) (s : State) : Res := s.sisRun l 0x24 (sisImm l 2 (fun _ => true) (· ||| ·) none2 none2)

/-- XORI. -/
def execSisXori (l : Fin 16) (s : State) : Res := s.sisRun l 0x25 (sisImm l 2 (fun _ => true) (· ^^^ ·) none2 none2)

/-- IMM[31:6] is zero. -/
def shiftImm (i : Word64) : Bool := fldW i 31 6 == 0

/-- SHLI. -/
def execSisShli (l : Fin 16) (s : State) : Res :=
  s.sisRun l 0x26 (sisImm l 2 shiftImm (fun a b => a <<< (b.toNat % 64)) none2 none2)

/-- SHRI. -/
def execSisShri (l : Fin 16) (s : State) : Res :=
  s.sisRun l 0x27 (sisImm l 2 shiftImm (fun a b => a >>> (b.toNat % 64)) none2 none2)

/-- ASRI. -/
def execSisAsri (l : Fin 16) (s : State) : Res :=
  s.sisRun l 0x28 (sisImm l 2 shiftImm (fun a b => a.sshiftRight (b.toNat % 64)) none2 none2)

/-- MULI. -/
def execSisMuli (l : Fin 16) (s : State) : Res := s.sisRun l 0x2B (sisImm l 6 (fun _ => true) (· * ·) none2 none2)

/-- LI: field A is zero. -/
def execSisLi (l : Fin 16) (s : State) : Res :=
  s.sisRun l 0x2E (sisImm l 2 (fun i => iA i == 0) (fun _ b => b) none2 none2)

/-- LIH: IMM becomes the upper half of g[a]. -/
def execSisLih (l : Fin 16) (s : State) : Res :=
  s.sisRun l 0x2F (sisImm l 2 (fun _ => true) (fun a b => (a &&& 0xFFFFFFFF) ||| (b <<< 32)) none2 none2)

end Sys2Proof.Machine
end

