-- ==== Sys2Proof/Machine/SisCtl.lean ====
section
/-! DEFINITION. Control and system instructions (Tables 07.2, 07.6), tenant calls (R262, R263), and the end of a spent
budget. -/

namespace Sys2Proof.Machine

/-- The conditions of Table 07.9; none for a reserved code. -/
def cbCond (code : Nat) (a b : Word64) : Option Bool := match code with
  | 0 => some true
  | 1 => some (a == b)
  | 2 => some (a != b)
  | 3 => some (decide (sgn a < sgn b))
  | 4 => some (decide (sgn b ≤ sgn a))
  | 5 => some (decide (a.toNat < b.toNat))
  | 6 => some (decide (b.toNat ≤ a.toNat))
  | _ => none

/-- CB. -/
def execSisCb (l : Fin 16) (s : State) : Res :=
  s.sisRun l 0x40 fun s e i =>
    match zeroReg i, cbCond (iD i) (e.get (iA i)) (e.get (iB i)) with
    | true, some true => .jump s (e.pc + iOff i) 3
    | true, some false => .done s 2 false
    | _, _ => .exc 1

/-- CALL. -/
def execSisCall (l : Fin 16) (s : State) : Res :=
  s.sisRun l 0x41 fun s e i =>
    if zeroReg i && iA i == 0 && iB i == 0 then
      .jump (s.setEng l (e.put (iD i) (BitVec.ofNat 64 (e.pc + 1)))) (e.pc + iOff i) 3
    else .exc 1

/-- JR. -/
def execSisJr (l : Fin 16) (s : State) : Res :=
  s.sisRun l 0x42 fun s e i =>
    if zeroReg i && iD i == 0 && iB i == 0 && iAux i == 0 then .jump s ((e.get (iA i)).toNat % 4096 : Nat) 3 else .exc 1

/-- CALLX (R262): the segment must belong to a tenant; the address after it must lie in the segment. -/
def execSisCallx (l : Fin 16) (s : State) : Res :=
  s.sisRun l 0x43 fun s e i =>
    let seg := iAux i % 8
    let b := (e.get (iA i)).toNat % 2 ^ 24
    if !zeroReg i then .exc 1
    else if e.tenantCode || e.ten then .exc 2
    else if seg = 0 || e.owner.look 0 seg == 0 || (e.pc + 1) % 512 == 0 then .exc 3
    else
      let e' : Engine :=
        { e with shadow := e.g.filter (fun x => decide (16 ≤ x.1)), g := e.g.filter (fun x => decide (x.1 < 16))
                 call := some { ret := e.pc + 1, dst := iD i, left := if b = 0 then 2 ^ 24 else b, last := 0 } }
      .goto (s.setEng l (e'.setFlag 7 true)) (512 * seg) 24

/-- RETX (R263): the call completes with code 0. -/
def execSisRetx (l : Fin 16) (s : State) : Res :=
  s.sisRun l 0x44 fun s e i =>
    if fldW i 55 0 != 0 || !e.tenantCode then .exc 1
    else
      let e' := ({ e with call := e.call.map fun c => { c with last := e.pc } } : Engine).endCall 0
      .goto (s.setEng l e') e'.pc 20

/-- BUDGET_SPENT (R263): the budget of a call has reached zero. -/
def execSisBudgetSpent (l : Fin 16) (s : State) : Res :=
  let e := s.eng l
  .next (if e.call.any fun c => c.left == 0 then s.setEng l (e.endCall 0x0A) else s)

/-- A return that does not go back to a tagged instruction which an event broke off: that one has no end, and no record. DESIGN CHOICE,
log 77. -/
def Engine.leaveFor (e : Engine) (pc : Nat) : Engine :=
  if e.susp.isNone && e.tagged.isSome && e.tagged != some pc && e.tagged != some e.pc then { e with tagged := none } else e

/-- ERET (R259). -/
def execSisEret (l : Fin 16) (s : State) : Res :=
  s.sisRun l 0x45 fun s e i =>
    if fldW i 55 0 != 0 then .exc 1
    else if e.tenantCode then .exc 2
    else if !e.evact then .exc 1
    else .goto (s.setEng l ((e.setFlag 6 false).leaveFor e.epc)) e.epc 4

/-- HALT: the program stops and RUN clears (R236). -/
def execSisHalt (l : Fin 16) (s : State) : Res :=
  s.sisRun l 0x46 fun s e i =>
    if !zeroReg i then .exc 1 else privileged e (.stop s 2)

/-- A system register (Table 07.2). -/
def State.sysReg (s : State) (l : Nat) (e : Engine) (code : Nat) : Nat := match code with
  | 0 => e.pc
  | 1 => e.flags.toNat
  | 2 => e.emask.toNat
  | 3 => e.epc
  | 4 => e.ecause
  | 5 => e.cwb.toNat
  | 6 => l
  | 7 => s.now % 2 ^ 32
  | 8 => e.frame
  | _ => e.fnote.toNat

/-- The system registers that tenant code reads (R245). -/
def tenantSys (code : Nat) : Bool := code == 0 || code == 1 || code == 6 || code == 7 || code == 8

/-- RDSYS (R245). -/
def execSisRdsys (l : Fin 16) (s : State) : Res :=
  s.sisRun l 0x48 fun s e i =>
    if !(zeroReg i && decide (iAux i < 10)) then .exc 1
    else if e.tenantCode && !tenantSys (iAux i) then .exc 2
    else .done (s.setEng l (e.put (iD i) (BitVec.ofNat 64 (s.sysReg l e (iAux i))))) 2 false

/-- WRSYS (R245): FLAGS bits 5:0, EMASK, EPC. -/
def execSisWrsys (l : Fin 16) (s : State) : Res :=
  s.sisRun l 0x49 fun s e i =>
    let v := e.get (iA i)
    if !(zeroReg i && decide (iAux i < 10)) then .exc 1
    else privileged e (match iAux i with
      | 1 => .done (s.setEng l { e with flags := setFldW e.flags 5 0 v.toNat }) 3 false
      | 2 => .done (s.setEng l { e with emask := v.setWidth 3 }) 3 false
      | 3 => .done (s.setEng l { e with epc := v.toNat % 4096 }) 3 false
      | _ => .exc 6)

/-- The suspended instruction is discarded, and its sample with it. -/
def Engine.dropSusp (e : Engine) : Engine :=
  { e with susp := none, tagged := if e.susp.any (fun f => e.tagged == some f.pc) then none else e.tagged }

/-- WAITFT (R225, R260): a pending tick is consumed at once; else the engine waits for the next one. -/
def execSisWaitft (l : Fin 16) (s : State) : Res :=
  s.sisRun l 0x4A fun s e i =>
    if !(zeroReg i && iA i == 0 && iB i == 0 && iAux i == 0) then .exc 1
    else privileged e (
      if (e.pc + 1) % 512 == 0 then .exc 3
      else
        let s1 := if e.susp.isSome then
            (((s.setEng l (e.dropSusp)).someSlots l 1).setSuspBit l false).inc (Reg.MTN_L_CNT_SUSP_DISCARD l)
          else s
        let e1 := s1.eng l
        if e1.pend.getLsbD 1 then
          let s2 := (s1.setEng l (({ e1 with pend := setBitW e1.pend 1 false } : Engine).setFlag 5 true)).applyLoads l
          .done (s2.setEng l ((s2.eng l).put (iD i) (BitVec.ofNat 64 e.frame))) (4 + e.loadCycles) false
        else .wait ((s1.setEng l { e1 with st := .waitTick (iD i) }).setPstate l
          (s1.engRest (some (s1.knownEvent l)))))

end Sys2Proof.Machine
end

