-- ==== Sys2Proof/Machine/Tick.lean ====
section
/-! DEFINITION. The ticks of the precision clock (17): the frame tick, a step, and what passes while no command waits: one tick
of CLK_TS (R506), with the cycles of the other clocks that threshold units and idle pipelines count (R643, R645). -/

namespace Sys2Proof.Machine

/-! Frame ticks (R270). -/

/-- Whole instants of the grid of FT at or below clock time t. -/
def State.gridAt (s : State) (t : Nat) : Int := ((t : Int) - s.ftOffset) / 125000

/-- FRAME_TICK: the clock reaches the next instant of the grid. -/
def execFrameTick (s : State) : Res :=
  .next (if !s.tsuUp then s
    else
      let t := (s.ftOffset : Int) + 125000 * (s.gridAt s.now + 1)
      (s.advanceTo t.toNat).frameTick)

/-! Steps (R510, R512). -/

/-- The clock value in the SET registers, in units of 2^-32 ns. -/
def State.setUnits (s : State) : Nat := joinWords [s.rd Reg.TSU_SET_FRAC, s.rd Reg.TSU_SET_LO, s.rd Reg.TSU_SET_HI]

/-- Enabled compare units whose target lies ahead. -/
def State.aheadUnits (s : State) : List Nat := (List.range 16).filter fun k => s.bit (Reg.TSU_CMP_CTRL k) 31 && !s.dueUnit k

/-- The users of the clock see a step from clock time `old` (Table 17.1, R91, R399, R521). -/
def State.stepUsers (s : State) (ahead : List Nat) (was : Clk) : State :=
  let old := was.ns.toNat
  let passed := ahead.filter s.dueUnit
  let s : State := { s with tsu := { s.tsu with stepped := passed.foldl (fun b k => setBitW b k true) s.tsu.stepped } }
  let s := if old / 1000000 < s.now / 1000000 && s.up 1 then s.ageAll else s
  let s := if old / 1000000000 < s.now / 1000000000 && s.up 10 then
      s.setF Reg.FDB_STATUS 31 16 (s.fld Reg.FDB_STATUS 31 16 + 1) else s
  let s := if s.gridAt old < s.gridAt s.now then s.frameTick else s
  (s.clockStepped was).fireDue

/-- The pending step at a tick, which the outputs' shadow takes as any other tick (R527). -/
def State.applyStep (s : State) : State :=
  let s := if s.tsu.step then s.holdGain (s.tsu.slew.getD s.tsu.inc) else s
  if !s.tsu.step then s
  else if s.setUnits < s.clk.units then
    ({ s with tsu := { s.tsu with step := false, locked := false } } : State).tsuRefused
  else
    let s1 : State := ({ s with tsu := { s.tsu with step := false }, clk := clkOf s.setUnits } : State).setB Reg.TSU_STATUS 2 false
    s1.stepUsers s.aheadUnits s.clk

/-- STEP_APPLY: the next tick after an accepted GO. -/
def execStepApply (s : State) : Res := .next (if s.tsuUp then s.applyStep else s)

/-! One tick of CLK_TS. -/

/-- The increment of this tick, of which a slew uses up one (R508, R509). -/
def State.spendSlew (s : State) : State :=
  match s.tsu.slew with
  | none => s
  | some _ =>
    let n := (s.rd Reg.TSU_SLEW_TICKS).toNat - 1
    if n = 0 then s.endSlew else s.wr Reg.TSU_SLEW_TICKS (BitVec.ofNat 32 n)

/-- The clock gains the increment in force (R506). -/
def State.gainTick (s : State) : State :=
  let v := s.tsu.slew.getD s.tsu.inc
  let s1 := (s.holdGain v).spendSlew
  ({ s1 with clk := clkOf (s.clk.units + v) } : State).holdMet

/-- A tick of CLK_TS: the pending step, or the increment; then FT and the fires that are due (R270, R510, R521). -/
def State.clockTick (s : State) : State :=
  if !s.tsuUp then s
  else if s.tsu.step then s.applyStep
  else
    let s1 := s.gainTick
    (if s.gridAt s.now < s.gridAt s1.now then s1.frameTick else s1).fireDue

/-! One tick passes. -/

/-- No command waits: one tick of CLK_TS passes. -/
def State.idle (s : State) : State := s.clockTick.countCycles

end Sys2Proof.Machine
end

