-- ==== Sys2Proof/Machine/Dispatch.lean ====
section
/-! DEFINITION. One arm per command: its meaning. -/

namespace Sys2Proof.Machine

/-- The effect of one command on everything but the queue. -/
def exec (i : Instr) (s : State) : Host.Outcome State Fault Refusal :=
  match i with
  | .registerWrite fn a v => Sys2Proof.Machine.execRegisterWrite fn a v s
  | .heldWordWrite fn a v => Sys2Proof.Machine.execHeldWordWrite fn a v s
  | .partialByteWrite fn a be => Sys2Proof.Machine.execPartialByteWrite fn a be s
  | .reservedAccess fn a wr => Sys2Proof.Machine.execReservedAccess fn a wr s
  | .inResetAccess fn a wr => Sys2Proof.Machine.execInResetAccess fn a wr s
  | .latchingRead fn a => Sys2Proof.Machine.execLatchingRead fn a s
  | .counterLowRead fn a => Sys2Proof.Machine.execCounterLowRead fn a s
  | .clearOnRead fn a => Sys2Proof.Machine.execClearOnRead fn a s
  | .dcqItemVisible x => Sys2Proof.Machine.execDcqItemVisible x s
  | .faultSourceEvent src info baseImage blk queue diff => Sys2Proof.Machine.execFaultSourceEvent src info baseImage blk queue diff s
  | .faultAck srcs sameCycle => Sys2Proof.Machine.execFaultAck srcs sameCycle s
  | .memoryErrorRetry blk macro_ row unc again => Sys2Proof.Machine.execMemoryErrorRetry blk macro_ row unc again s
  | .rowRemapDone blk macro_ row => Sys2Proof.Machine.execRowRemapDone blk macro_ row s
  | .pipelineError p => Sys2Proof.Machine.execPipelineError p s
  | .pipelineWatchExpire p => Sys2Proof.Machine.execPipelineWatchExpire p s
  | .tpaModeWrite n v => Sys2Proof.Machine.execTpaModeWrite n v s
  | .portEnable n laserEn sdGate => Sys2Proof.Machine.execPortEnable n laserEn sdGate s
  | .portDisable n laserEn sdGate => Sys2Proof.Machine.execPortDisable n laserEn sdGate s
  | .portDrained n => Sys2Proof.Machine.execPortDrained n s
  | .laserEnClear n => Sys2Proof.Machine.execLaserEnClear n s
  | .laserEnSet n => Sys2Proof.Machine.execLaserEnSet n s
  | .pmaPatternWrite n v => Sys2Proof.Machine.execPmaPatternWrite n v s
  | .framingStart n => Sys2Proof.Machine.execFramingStart n s
  | .burstResetPulse n frame k => Sys2Proof.Machine.execBurstResetPulse n frame k s
  | .sdCheck n frame k pin => Sys2Proof.Machine.execSdCheck n frame k pin s
  | .rogueEvent n frame cycle => Sys2Proof.Machine.execRogueEvent n frame cycle s
  | .i2cCmdGo m v => Sys2Proof.Machine.execI2cCmdGo m v s
  | .i2cCmdDone m r data => Sys2Proof.Machine.execI2cCmdDone m r data s
  | .i2cTimeout stop => Sys2Proof.Machine.execI2cTimeout stop s
  | .brxProfWrite n k v => Sys2Proof.Machine.execBrxProfWrite n k v s
  | .brxCtrlWrite n v => Sys2Proof.Machine.execBrxCtrlWrite n v s
  | .memInvalidateOne n l => Sys2Proof.Machine.execMemInvalidateOne n l s
  | .memInvalidateAll all => Sys2Proof.Machine.execMemInvalidateAll all s
  | .memCmdDone n => Sys2Proof.Machine.execMemCmdDone n s
  | .ageTick => Sys2Proof.Machine.execAgeTick s
  | .burstKindsFixed n frame cycle => Sys2Proof.Machine.execBurstKindsFixed n frame cycle s
  | .brxSleep n cycle => Sys2Proof.Machine.execBrxSleep n cycle s
  | .brxWake n frame k => Sys2Proof.Machine.execBrxWake n frame k s
  | .planningPoint n frame copyBad => Sys2Proof.Machine.execPlanningPoint n frame copyBad s
  | .burstAcquire n frame k eye found delim => Sys2Proof.Machine.execBurstAcquire n frame k eye found delim s
  | .burstVerdict n frame k payload => Sys2Proof.Machine.execBurstVerdict n frame k payload s
  | .teqWrite n v => Sys2Proof.Machine.execTeqWrite n v s
  | .rngDiscWrite n v => Sys2Proof.Machine.execRngDiscWrite n v s
  | .rngTrackWrite n v => Sys2Proof.Machine.execRngTrackWrite n v s
  | .discRequest n => Sys2Proof.Machine.execDiscRequest n s
  | .snResponse n frame k got sn rnd delim phase => Sys2Proof.Machine.execSnResponse n frame k got sn rnd delim phase s
  | .assignTimeout n => Sys2Proof.Machine.execAssignTimeout n s
  | .rngAssign n l => Sys2Proof.Machine.execRngAssign n l s
  | .rngReject n l => Sys2Proof.Machine.execRngReject n l s
  | .rngRerange n l => Sys2Proof.Machine.execRngRerange n l s
  | .rngDeactivate n l => Sys2Proof.Machine.execRngDeactivate n l s
  | .rngInvalidate n l => Sys2Proof.Machine.execRngInvalidate n l s
  | .rangingRequest n l => Sys2Proof.Machine.execRangingRequest n l s
  | .rangingBurst n => Sys2Proof.Machine.execRangingBurst n s
  | .rangingAttemptFail n => Sys2Proof.Machine.execRangingAttemptFail n s
  | .offsetTrack n => Sys2Proof.Machine.execOffsetTrack n s
  | .pendTimeout n l => Sys2Proof.Machine.execPendTimeout n l s
  | .lockFailReport n => Sys2Proof.Machine.execLockFailReport n s
  | .lostTimeout n l => Sys2Proof.Machine.execLostTimeout n l s
  | .recordPublish n l => Sys2Proof.Machine.execRecordPublish n l s
  | .gntStreamCommit st v => Sys2Proof.Machine.execGntStreamCommit st v s
  | .ssWindowCommit w v => Sys2Proof.Machine.execSsWindowCommit w v s
  | .gntPortCfgWrite n f => Sys2Proof.Machine.execGntPortCfgWrite n f s
  | .coalesceDrain m => Sys2Proof.Machine.execCoalesceDrain m s
  | .reportStallLimit m => Sys2Proof.Machine.execReportStallLimit m s
  | .missingPage n frame => Sys2Proof.Machine.execMissingPage n frame s
  | .ledgerClose n frame => Sys2Proof.Machine.execLedgerClose n frame s
  | .udfCountsDeliver n frame => Sys2Proof.Machine.execUdfCountsDeliver n frame s
  | .microcodeLoad base ver image patches => Sys2Proof.Machine.execMicrocodeLoad base ver image patches s
  | .microcodeLoadDone => Sys2Proof.Machine.execMicrocodeLoadDone s
  | .engineFault l fault itemHeld => Sys2Proof.Machine.execEngineFault l fault itemHeld s
  | .migrateDone l unc => Sys2Proof.Machine.execMigrateDone l unc s
  | .eventPending l ev => Sys2Proof.Machine.execEventPending l ev s
  | .eventTake l safePoint => Sys2Proof.Machine.execEventTake l safePoint s
  | .engineRun l v => Sys2Proof.Machine.execEngineRun l v s
  | .engineStop l v => Sys2Proof.Machine.execEngineStop l v s
  | .mtnMboxWrite l v => Sys2Proof.Machine.execMtnMboxWrite l v s
  | .engineWake l => Sys2Proof.Machine.execEngineWake l s
  | .sisAdd l => Sys2Proof.Machine.execSisAdd l s
  | .sisSub l => Sys2Proof.Machine.execSisSub l s
  | .sisAnd l => Sys2Proof.Machine.execSisAnd l s
  | .sisOr l => Sys2Proof.Machine.execSisOr l s
  | .sisXor l => Sys2Proof.Machine.execSisXor l s
  | .sisShl l => Sys2Proof.Machine.execSisShl l s
  | .sisShr l => Sys2Proof.Machine.execSisShr l s
  | .sisAsr l => Sys2Proof.Machine.execSisAsr l s
  | .sisMin l => Sys2Proof.Machine.execSisMin l s
  | .sisMax l => Sys2Proof.Machine.execSisMax l s
  | .sisMul l => Sys2Proof.Machine.execSisMul l s
  | .sisExt l => Sys2Proof.Machine.execSisExt l s
  | .sisIns l => Sys2Proof.Machine.execSisIns l s
  | .sisAddi l => Sys2Proof.Machine.execSisAddi l s
  | .sisAndi l => Sys2Proof.Machine.execSisAndi l s
  | .sisOri l => Sys2Proof.Machine.execSisOri l s
  | .sisXori l => Sys2Proof.Machine.execSisXori l s
  | .sisShli l => Sys2Proof.Machine.execSisShli l s
  | .sisShri l => Sys2Proof.Machine.execSisShri l s
  | .sisAsri l => Sys2Proof.Machine.execSisAsri l s
  | .sisMuli l => Sys2Proof.Machine.execSisMuli l s
  | .sisLi l => Sys2Proof.Machine.execSisLi l s
  | .sisLih l => Sys2Proof.Machine.execSisLih l s
  | .sisCb l => Sys2Proof.Machine.execSisCb l s
  | .sisCall l => Sys2Proof.Machine.execSisCall l s
  | .sisJr l => Sys2Proof.Machine.execSisJr l s
  | .sisCallx l => Sys2Proof.Machine.execSisCallx l s
  | .sisRetx l => Sys2Proof.Machine.execSisRetx l s
  | .sisBudgetSpent l => Sys2Proof.Machine.execSisBudgetSpent l s
  | .sisEret l => Sys2Proof.Machine.execSisEret l s
  | .sisHalt l => Sys2Proof.Machine.execSisHalt l s
  | .sisRdsys l => Sys2Proof.Machine.execSisRdsys l s
  | .sisWrsys l => Sys2Proof.Machine.execSisWrsys l s
  | .sisWaitft l => Sys2Proof.Machine.execSisWaitft l s
  | .sisLds l => Sys2Proof.Machine.execSisLds l s
  | .sisSts l => Sys2Proof.Machine.execSisSts l s
  | .sisLdt l => Sys2Proof.Machine.execSisLdt l s
  | .sisStt l => Sys2Proof.Machine.execSisStt l s
  | .sisLdl l => Sys2Proof.Machine.execSisLdl l s
  | .sisStl l => Sys2Proof.Machine.execSisStl l s
  | .sisSort l => Sys2Proof.Machine.execSisSort l s
  | .sisScans l => Sys2Proof.Machine.execSisScans l s
  | .sisScant l => Sys2Proof.Machine.execSisScant l s
  | .sisRdrpt l => Sys2Proof.Machine.execSisRdrpt l s
  | .sisRptlv l => Sys2Proof.Machine.execSisRptlv l s
  | .sisMbs l => Sys2Proof.Machine.execSisMbs l s
  | .sisMbr l => Sys2Proof.Machine.execSisMbr l s
  | .sisEmit l => Sys2Proof.Machine.execSisEmit l s
  | .sisCali l => Sys2Proof.Machine.execSisCali l s
  | .sisSeal l => Sys2Proof.Machine.execSisSeal l s
  | .pseg r => Sys2Proof.Machine.execPseg r s
  | .pload r data dmaOk => Sys2Proof.Machine.execPload r data dmaOk s
  | .pread r dmaOk => Sys2Proof.Machine.execPread r dmaOk s
  | .frameTick => Sys2Proof.Machine.execFrameTick s
  | .sfcLoad v => Sys2Proof.Machine.execSfcLoad v s
  | .ftOffsetWrite v => Sys2Proof.Machine.execFtOffsetWrite v s
  | .lineFrameStart n phase => Sys2Proof.Machine.execLineFrameStart n phase s
  | .mapRead n frame unc => Sys2Proof.Machine.execMapRead n frame unc s
  | .profileAnnounce n => Sys2Proof.Machine.execProfileAnnounce n s
  | .holdBegin n v => Sys2Proof.Machine.execHoldBegin n v s
  | .holdEnd n v => Sys2Proof.Machine.execHoldEnd n v s
  | .holdExpire n => Sys2Proof.Machine.execHoldExpire n s
  | .codewordDecode n frame k need corrBits data fails rngMsg => Sys2Proof.Machine.execCodewordDecode n frame k need corrBits data fails rngMsg s
  | .burstTruncation n frame k => Sys2Proof.Machine.execBurstTruncation n frame k s
  | .reasmTimeout st => Sys2Proof.Machine.execReasmTimeout st s
  | .secondBoundary sec fec => Sys2Proof.Machine.execSecondBoundary sec fec s
  | .circuitCommit c v => Sys2Proof.Machine.execCircuitCommit c v s
  | .pwEntryCommit w v => Sys2Proof.Machine.execPwEntryCommit w v s
  | .carrierFrameReceive e => Sys2Proof.Machine.execCarrierFrameReceive e s
  | .alignWordMatch e => Sys2Proof.Machine.execAlignWordMatch e s
  | .tceSwap => Sys2Proof.Machine.execTceSwap s
  | .pwPacketSend w => Sys2Proof.Machine.execPwPacketSend w s
  | .pwPacketReceive w => Sys2Proof.Machine.execPwPacketReceive w s
  | .pmSecondCommit e sec => Sys2Proof.Machine.execPmSecondCommit e sec s
  | .pmBinClose e day start dmaOk => Sys2Proof.Machine.execPmBinClose e day start dmaOk s
  | .selectionCommit x v => Sys2Proof.Machine.execSelectionCommit x v s
  | .profileCommit p v => Sys2Proof.Machine.execProfileCommit p v s
  | .packetPass p unc => Sys2Proof.Machine.execPacketPass p unc s
  | .tnode r data dmaOk => Sys2Proof.Machine.execTnode r data dmaOk s
  | .trule r data dmaOk => Sys2Proof.Machine.execTrule r data dmaOk s
  | .troot r data dmaOk => Sys2Proof.Machine.execTroot r data dmaOk s
  | .tread r dmaOk => Sys2Proof.Machine.execTread r dmaOk s
  | .eswap r => Sys2Proof.Machine.execEswap r s
  | .epochSwapPoint => Sys2Proof.Machine.execEpochSwapPoint s
  | .learnPlace draw => Sys2Proof.Machine.execLearnPlace draw s
  | .ageOut loc => Sys2Proof.Machine.execAgeOut loc s
  | .fdbRead fn => Sys2Proof.Machine.execFdbRead fn s
  | .fdbWrite fn => Sys2Proof.Machine.execFdbWrite fn s
  | .fdbInsert fn draw => Sys2Proof.Machine.execFdbInsert fn draw s
  | .fdbDelete fn => Sys2Proof.Machine.execFdbDelete fn s
  | .fdbSearch fn => Sys2Proof.Machine.execFdbSearch fn s
  | .fdbSeedWrite v => Sys2Proof.Machine.execFdbSeedWrite v s
  | .fidWrite f v => Sys2Proof.Machine.execFidWrite f v s
  | .bufferAlloc j pick metaBad => Sys2Proof.Machine.execBufferAlloc j pick metaBad s
  | .bufferFree ptr code metaBad => Sys2Proof.Machine.execBufferFree ptr code metaBad s
  | .bufferShare ptr code copies last => Sys2Proof.Machine.execBufferShare ptr code copies last s
  | .bpmEnable en => Sys2Proof.Machine.execBpmEnable en s
  | .bpmInitDone => Sys2Proof.Machine.execBpmInitDone s
  | .bpmCfgWrite k count v => Sys2Proof.Machine.execBpmCfgWrite k count v s
  | .frameAdmit => Sys2Proof.Machine.execFrameAdmit s
  | .egressSelect e => Sys2Proof.Machine.execEgressSelect e s
  | .shaperTick x => Sys2Proof.Machine.execShaperTick x s
  | .shaperWrite fn fill => Sys2Proof.Machine.execShaperWrite fn fill s
  | .shaperRead go => Sys2Proof.Machine.execShaperRead go s
  | .gateCommit g v => Sys2Proof.Machine.execGateCommit g v s
  | .gateTakeover g => Sys2Proof.Machine.execGateTakeover g s
  | .gateEntryAdvance g => Sys2Proof.Machine.execGateEntryAdvance g s
  | .launchSelect e => Sys2Proof.Machine.execLaunchSelect e s
  | .queueDisable x v => Sys2Proof.Machine.execQueueDisable x v s
  | .queueDrained x => Sys2Proof.Machine.execQueueDrained x s
  | .queueEnable x v => Sys2Proof.Machine.execQueueEnable x v s
  | .tmgGrpWrite k v => Sys2Proof.Machine.execTmgGrpWrite k v s
  | .queueSample q => Sys2Proof.Machine.execQueueSample q s
  | .tkey fn => Sys2Proof.Machine.execTkey fn s
  | .tswitch fn => Sys2Proof.Machine.execTswitch fn s
  | .tclear fn => Sys2Proof.Machine.execTclear fn s
  | .sakey fn => Sys2Proof.Machine.execSakey fn s
  | .saena fn => Sys2Proof.Machine.execSaena fn s
  | .sadis fn => Sys2Proof.Machine.execSadis fn s
  | .saDone a => Sys2Proof.Machine.execSaDone a s
  | .gscWrite k v => Sys2Proof.Machine.execGscWrite k v s
  | .txscAnWrite c v => Sys2Proof.Machine.execTxscAnWrite c v s
  | .quadModeWrite q v => Sys2Proof.Machine.execQuadModeWrite q v s
  | .uplPortEnable u v => Sys2Proof.Machine.execUplPortEnable u v s
  | .uplPortDisable u v => Sys2Proof.Machine.execUplPortDisable u v s
  | .laneLock l fit => Sys2Proof.Machine.execLaneLock l fit s
  | .laneLockLoss l => Sys2Proof.Machine.execLaneLockLoss l s
  | .pcsAlign u => Sys2Proof.Machine.execPcsAlign u s
  | .alignTimeout u => Sys2Proof.Machine.execAlignTimeout u s
  | .retrainTimeout u => Sys2Proof.Machine.execRetrainTimeout u s
  | .uplRxFrame u data fcsBad uncorr cutOff ns frac => Sys2Proof.Machine.execUplRxFrame u data fcsBad uncorr cutOff ns frac s
  | .uplGroupWrite g v => Sys2Proof.Machine.execUplGroupWrite g v s
  | .protGroupEnable g v => Sys2Proof.Machine.execProtGroupEnable g v s
  | .mlkEnable v => Sys2Proof.Machine.execMlkEnable v s
  | .mlkTrainStart v => Sys2Proof.Machine.execMlkTrainStart v s
  | .bitslip l => Sys2Proof.Machine.execBitslip l s
  | .mlkTrainEnd v => Sys2Proof.Machine.execMlkTrainEnd v s
  | .mlkLinkUp => Sys2Proof.Machine.execMlkLinkUp s
  | .mlkBlockReceive l b => Sys2Proof.Machine.execMlkBlockReceive l b s
  | .mlkLaneDrop l => Sys2Proof.Machine.execMlkLaneDrop l s
  | .mlkNarrowDone => Sys2Proof.Machine.execMlkNarrowDone s
  | .mlkLaneRetrain l locks => Sys2Proof.Machine.execMlkLaneRetrain l locks s
  | .mlkClockLoss => Sys2Proof.Machine.execMlkClockLoss s
  | .incCommit v => Sys2Proof.Machine.execIncCommit v s
  | .slewStart v => Sys2Proof.Machine.execSlewStart v s
  | .slewCancel => Sys2Proof.Machine.execSlewCancel s
  | .slewEnd => Sys2Proof.Machine.execSlewEnd s
  | .stepGo => Sys2Proof.Machine.execStepGo s
  | .stepApply => Sys2Proof.Machine.execStepApply s
  | .rearmWrite v late => Sys2Proof.Machine.execRearmWrite v late s
  | .tsrefLoss => Sys2Proof.Machine.execTsrefLoss s
  | .tsPllUnlock => Sys2Proof.Machine.execTsPllUnlock s
  | .compareTargetCommit k v => Sys2Proof.Machine.execCompareTargetCommit k v s
  | .compareFire k => Sys2Proof.Machine.execCompareFire k s
  | .ppsConfigWrite o f v => Sys2Proof.Machine.execPpsConfigWrite o f v s
  | .ppsOutPulse o => Sys2Proof.Machine.execPpsOutPulse o s
  | .outHoldSet => Sys2Proof.Machine.execOutHoldSet s
  | .outHoldClear => Sys2Proof.Machine.execOutHoldClear s
  | .holdConverged => Sys2Proof.Machine.execHoldConverged s
  | .ppsInCapture x ns frac => Sys2Proof.Machine.execPpsInCapture x ns frac s
  | .todTxWrite b => Sys2Proof.Machine.execTodTxWrite b s
  | .todRxByte b idle => Sys2Proof.Machine.execTodRxByte b idle s
  | .mateTimeSend => Sys2Proof.Machine.execMateTimeSend s
  | .mateTimeReceive => Sys2Proof.Machine.execMateTimeReceive s
  | .todPeriodStart n => Sys2Proof.Machine.execTodPeriodStart n s
  | .protEnable n v => Sys2Proof.Machine.execProtEnable n v s
  | .protForce n => Sys2Proof.Machine.execProtForce n s
  | .protLockout n => Sys2Proof.Machine.execProtLockout n s
  | .protClear n => Sys2Proof.Machine.execProtClear n s
  | .silentDetect n => Sys2Proof.Machine.execSilentDetect n s
  | .mateTimeout n => Sys2Proof.Machine.execMateTimeout n s
  | .switchReceive => Sys2Proof.Machine.execSwitchReceive s
  | .darkReceive => Sys2Proof.Machine.execDarkReceive s
  | .takingLight n => Sys2Proof.Machine.execTakingLight n s
  | .releasingDark n => Sys2Proof.Machine.execReleasingDark n s
  | .stateBlockSend => Sys2Proof.Machine.execStateBlockSend s
  | .stateBlockReceive => Sys2Proof.Machine.execStateBlockReceive s
  | .mirror n l => Sys2Proof.Machine.execMirror n l s
  | .mirrorReceive => Sys2Proof.Machine.execMirrorReceive s
  | .mapBlockReceive => Sys2Proof.Machine.execMapBlockReceive s
  | .hifGrpWrite j v => Sys2Proof.Machine.execHifGrpWrite j v s
  | .ringContextCommit fn r v => Sys2Proof.Machine.execRingContextCommit fn r v s
  | .ringDisable fn r v => Sys2Proof.Machine.execRingDisable fn r v s
  | .doorbell fn r v => Sys2Proof.Machine.execDoorbell fn r v s
  | .descriptorFetch r data dmaOk => Sys2Proof.Machine.execDescriptorFetch r data dmaOk s
  | .ptxQueue r data dmaOk => Sys2Proof.Machine.execPtxQueue r data dmaOk s
  | .ptxPloam r data dmaOk => Sys2Proof.Machine.execPtxPloam r data dmaOk s
  | .ptxComplete e ns frac => Sys2Proof.Machine.execPtxComplete e ns frac s
  | .prxDeliver dmaOk wrOk => Sys2Proof.Machine.execPrxDeliver dmaOk wrOk s
  | .msixModTimer r => Sys2Proof.Machine.execMsixModTimer r s
  | .twData0Read t => Sys2Proof.Machine.execTwData0Read t s
  | .pcieReset loss => Sys2Proof.Machine.execPcieReset loss s
  | .vfFlr t => Sys2Proof.Machine.execVfFlr t s
  | .fltStatusClear hi v => Sys2Proof.Machine.execFltStatusClear hi v s
  | .sourceClassWrite src cls => Sys2Proof.Machine.execSourceClassWrite src cls s
  | .ffrClear => Sys2Proof.Machine.execFfrClear s
  | .aliveToggle => Sys2Proof.Machine.execAliveToggle s
  | .fltInj src sameCycle => Sys2Proof.Machine.execFltInj src sameCycle s
  | .quietTimerExpire => Sys2Proof.Machine.execQuietTimerExpire s
  | .fltRcvClr v late => Sys2Proof.Machine.execFltRcvClr v late s
  | .fltLock => Sys2Proof.Machine.execFltLock s
  | .mateAliveLoss => Sys2Proof.Machine.execMateAliveLoss s
  | .powerOnAon => Sys2Proof.Machine.execPowerOnAon s
  | .powerOnCore => Sys2Proof.Machine.execPowerOnCore s
  | .porst => Sys2Proof.Machine.execPorst s
  | .sysrst => Sys2Proof.Machine.execSysrst s
  | .softwareGlobalReset v late => Sys2Proof.Machine.execSoftwareGlobalReset v late s
  | .watchdogExpire => Sys2Proof.Machine.execWatchdogExpire s
  | .supplyOutOfWindow rail => Sys2Proof.Machine.execSupplyOutOfWindow rail s
  | .settCheck find => Sys2Proof.Machine.execSettCheck find s
  | .strapMeasure code => Sys2Proof.Machine.execStrapMeasure code s
  | .trimLoad crcMatch => Sys2Proof.Machine.execTrimLoad crcMatch s
  | .pllLock => Sys2Proof.Machine.execPllLock s
  | .memoryBist defects => Sys2Proof.Machine.execMemoryBist defects s
  | .domainRelease perst => Sys2Proof.Machine.execDomainRelease perst s
  | .bootRom copyA copyB version => Sys2Proof.Machine.execBootRom copyA copyB version s
  | .hostLoad len check recovery version => Sys2Proof.Machine.execHostLoad len check recovery version s
  | .outRel slotA slotB => Sys2Proof.Machine.execOutRel slotA slotB s
  | .blockSoftReset mask => Sys2Proof.Machine.execBlockSoftReset mask s
  | .blockResetRelease b => Sys2Proof.Machine.execBlockResetRelease b s
  | .quietEnter => Sys2Proof.Machine.execQuietEnter s
  | .quietExit why => Sys2Proof.Machine.execQuietExit why s
  | .uplinkEgressSleep u sending => Sys2Proof.Machine.execUplinkEgressSleep u sending s
  | .snapGo at_ => Sys2Proof.Machine.execSnapGo at_ s
  | .snapCopy => Sys2Proof.Machine.execSnapCopy s
  | .thresholdCommit k v => Sys2Proof.Machine.execThresholdCommit k v s
  | .traceMark v => Sys2Proof.Machine.execTraceMark v s
  | .traceCtrlWrite v => Sys2Proof.Machine.execTraceCtrlWrite v s
  | .lifetimeSecond second => Sys2Proof.Machine.execLifetimeSecond second s
  | .ledgerMirror => Sys2Proof.Machine.execLedgerMirror s
  | .mirrorNow en => Sys2Proof.Machine.execMirrorNow en s
  | .mirrorWriteDone ok => Sys2Proof.Machine.execMirrorWriteDone ok s
  | .levelConditionAbsent src => Sys2Proof.Machine.execLevelConditionAbsent src s
  | .clkTsPllRelock => Sys2Proof.Machine.execClkTsPllRelock s
  | .mlkClockReturn => Sys2Proof.Machine.execMlkClockReturn s
  | .pcsAlignmentLoss u => Sys2Proof.Machine.execPcsAlignmentLoss u s
  | .uplinkEgressWake u => Sys2Proof.Machine.execUplinkEgressWake u s
  | .clkOutEdge o rise => Sys2Proof.Machine.execClkOutEdge o rise s
  | .tracePortSend => Sys2Proof.Machine.execTracePortSend s
  | .pcieLinkTrained width8 up => Sys2Proof.Machine.execPcieLinkTrained width8 up s

end Sys2Proof.Machine
end

