-- ==== Sys2Proof/WellFormed.lean ====
section
/-! DEFINITION. Which commands a sender can form. A list that the environment hands over is no longer than its source: a
descriptor's count, a codeword, the words of a ledger image; a tenant reaches 64 KiB; a phase fits its register. exec answers
every command; what is refused here is a command that no board, line or host gives. -/

namespace Sys2Proof

/-- The word addresses of a function: BAR0 and, from bit 24 on, the 256 KiB of BAR4 for OP, the tenant page of 64 KiB for a
tenant (R563, R668). -/
def addrOk (fn : Fn) (a : BitVec 25) : Bool :=
  match fn with
  | .op => decide (a.toNat < 0x1010000)
  | .t _ => decide (a.toNat < 0x4000)

/-- A ledger image covers Sett offsets 0x1200 to 0x95FF (Table 22.8). -/
def slotOk (x : Option LedgerSlot) : Bool := x.all fun l => l.words.length == 8448

/-- A command that some sender can form. -/
def Instr.wf : Instr → Bool
  | .registerWrite fn a _ => addrOk fn a
  | .heldWordWrite fn a _ => addrOk fn a
  | .partialByteWrite fn a _ => addrOk fn a
  | .reservedAccess fn a _ => addrOk fn a
  | .inResetAccess fn a _ => addrOk fn a
  | .latchingRead fn a => addrOk fn a
  | .counterLowRead fn a => addrOk fn a
  | .clearOnRead fn a => addrOk fn a
  | .lineFrameStart _ phase => decide (-(2 ^ 31 : Int) ≤ phase) && decide (phase < 2 ^ 31)
  | .codewordDecode _ _ _ _ _ data fails _ => decide (data.length ≤ 1824) && fails.all fun i => decide (i < 1048576)
  | .lifetimeSecond x => decide (x.lit.length ≤ 32) && x.lit.all fun c => decide (c.toNat ≤ 25000000)
  | .microcodeLoad _ _ image _ => decide (image.words.length ≤ 16384)
  | .secondBoundary _ fec => decide (fec.length ≤ 24)
  | .pload _ data dmaOk => !dmaOk || (decide (1 ≤ data.length) && decide (data.length ≤ 512))
  | .tnode _ data dmaOk => !dmaOk || decide (data.length ≤ 4096)
  | .trule _ data dmaOk => !dmaOk || decide (data.length ≤ 1024)
  | .troot _ data dmaOk => !dmaOk || data.length == 8
  | .ptxQueue _ data dmaOk => !dmaOk || decide (data.length ≤ 16384)
  | .ptxPloam _ data dmaOk => !dmaOk || data.length == 48
  | .outRel slotA slotB => slotOk slotA && slotOk slotB
  | _ => true

end Sys2Proof
end

