-- ==== Sys2Proof/Safety.lean ====
section
/-! DEFINITION. What claims call a sound state and a run that goes on. -/

namespace Sys2Proof.Machine

/-- The register table is in canonical form: addresses strictly rise, and no listed word is the reset word of its address. -/
abbrev State.RegsCanonical (s : State) : Prop := Tab.wf resetWord s.regs = true

/-- Every command that waits is one that a sender can form. -/
abbrev State.QueueFormed (s : State) : Prop := s.pending.all Instr.wf = true

/-- A step answers a next state. -/
def Goes (s : State) : Prop := ∃ t, step s = .next t

/-- A write of a register by its function acts: HIF runs, and the block of the register at byte address a is out of reset. -/
abbrev State.reaches (s : State) (a : Nat) : Prop := s.up 17 = true ∧ s.windowShut a = false

/-- The register whose write by a function is the command, where it is the write of one register: the function, and the byte
address in BAR0. -/
def registerOf : Instr → Option (Fn × Nat)
  | .tpaModeWrite n _ => some (.op, Reg.TPA_MODE n)
  | .portEnable n _ _ => some (.op, Reg.TPA_CTRL n)
  | .portDisable n _ _ => some (.op, Reg.TPA_CTRL n)
  | .laserEnClear n => some (.op, Reg.TPA_CTRL n)
  | .laserEnSet n => some (.op, Reg.TPA_CTRL n)
  | .pmaPatternWrite n _ => some (.op, Reg.TPA_PMA n)
  | .i2cCmdGo m _ => some (.op, Reg.TPA_I_CMD m)
  | .brxProfWrite n k _ => some (.op, Reg.BRX_PROF n k)
  | .brxCtrlWrite n _ => some (.op, Reg.BRX_CTRL n)
  | .memInvalidateOne n _ => some (.op, Reg.BRX_MEM_CMD n)
  | .memInvalidateAll x => some (.op, Reg.BRX_MEM_CMD x.n)
  | .teqWrite n _ => some (.op, Reg.RNG_CTRL n)
  | .rngDiscWrite n _ => some (.op, Reg.RNG_DISC n)
  | .rngTrackWrite n _ => some (.op, Reg.RNG_TRACK n)
  | .rngAssign n _ => some (.op, Reg.RNG_CMD n)
  | .rngReject n _ => some (.op, Reg.RNG_CMD n)
  | .rngRerange n _ => some (.op, Reg.RNG_CMD n)
  | .rngDeactivate n _ => some (.op, Reg.RNG_CMD n)
  | .rngInvalidate n _ => some (.op, Reg.RNG_CMD n)
  | .gntStreamCommit st _ => some (.op, Reg.GNT_STR_w0 st.toNat)
  | .ssWindowCommit w _ => some (.op, Reg.GNT_SSW_w0 w)
  | .gntPortCfgWrite n f => some (.op, match f with
    | .pay k _ => Reg.GNT_n_PAY n k
    | .cfg _ => Reg.GNT_n_CFG n
    | .guard _ => Reg.BRX_GUARD n)
  | .engineRun l _ => some (.op, Reg.MTN_L_CTRL l)
  | .engineStop l _ => some (.op, Reg.MTN_L_CTRL l)
  | .mtnMboxWrite l _ => some (.op, Reg.MTN_L_MBOX l)
  | .sfcLoad _ => some (.op, Reg.DFR_CTRL)
  | .ftOffsetWrite _ => some (.op, Reg.DFR_FT_OFFSET)
  | .holdBegin n _ => some (.op, Reg.DFR_n_CTRL n)
  | .holdEnd n _ => some (.op, Reg.DFR_n_CTRL n)
  | .circuitCommit c _ => some (.op, Reg.TCE_CIRC_w3 c)
  | .pwEntryCommit w _ => some (.op, Reg.TCE_PW_w0 w)
  | .tceSwap => some (.op, Reg.TCE_SWAP)
  | .selectionCommit i _ => some (.op, Reg.PRS_SEL_w0 i)
  | .profileCommit p _ => some (.op, Reg.PRS_p_CTRL p)
  | .fdbRead fn => some (fn, Reg.FDB_CMD)
  | .fdbWrite fn => some (fn, Reg.FDB_CMD)
  | .fdbInsert fn _ => some (fn, Reg.FDB_CMD)
  | .fdbDelete fn => some (fn, Reg.FDB_CMD)
  | .fdbSearch fn => some (fn, Reg.FDB_CMD)
  | .fdbSeedWrite _ => some (.op, Reg.FDB_HASH_SEED)
  | .fidWrite f _ => some (.op, Reg.FDB_FID f.toNat)
  | .bpmEnable _ => some (.op, Reg.BPM_CTRL)
  | .bpmCfgWrite k count _ => some (.op, if count then Reg.BPM_COUNT k else Reg.BPM_CFG k)
  | .shaperWrite fn _ => some (fn, Reg.TMG_SCMD)
  | .shaperRead fn => some (fn.fn, Reg.TMG_SCMD)
  | .gateCommit g _ => some (.op, Reg.TMG_G_CTRL g)
  | .queueDisable x _ => some (.op, (qnodeReg x).getD Reg.TMG_CTRL)
  | .queueEnable x _ => some (.op, (qnodeReg x).getD Reg.TMG_CTRL)
  | .tmgGrpWrite k _ => some (.op, Reg.TMG_GRP k)
  | .tkey fn => some (fn, Reg.CRY_CMD)
  | .tswitch fn => some (fn, Reg.CRY_CMD)
  | .tclear fn => some (fn, Reg.CRY_CMD)
  | .sakey fn => some (fn, Reg.CRY_CMD)
  | .saena fn => some (fn, Reg.CRY_CMD)
  | .sadis fn => some (fn, Reg.CRY_CMD)
  | .gscWrite k _ => some (.op, Reg.CRY_GSC k)
  | .txscAnWrite c _ => some (.op, Reg.CRY_TXSC_w0 c)
  | .quadModeWrite q _ => some (.op, Reg.UPL_Q q)
  | .uplPortEnable u _ => some (.op, Reg.UPL_u_CTRL u)
  | .uplPortDisable u _ => some (.op, Reg.UPL_u_CTRL u)
  | .uplGroupWrite g _ => some (.op, Reg.UPL_GRP g)
  | .protGroupEnable g _ => some (.op, Reg.UPL_PG g)
  | .mlkEnable _ => some (.op, Reg.MLK_CTRL)
  | .mlkTrainStart _ => some (.op, Reg.MLK_CTRL)
  | .bitslip l => some (.op, Reg.MLK_l_CMD l)
  | .mlkTrainEnd _ => some (.op, Reg.MLK_CTRL)
  | .incCommit _ => some (.op, Reg.TSU_INC_NS)
  | .slewStart _ => some (.op, Reg.TSU_SLEW_TICKS)
  | .slewCancel => some (.op, Reg.TSU_SLEW_TICKS)
  | .stepGo => some (.op, Reg.TSU_STEP)
  | .rearmWrite _ _ => some (.op, Reg.TSU_REARM)
  | .compareTargetCommit k _ => some (.op, Reg.TSU_CMP_TGT_HI k)
  | .outHoldSet => some (.op, Reg.TSU_CTRL)
  | .outHoldClear => some (.op, Reg.TSU_CTRL)
  | .todTxWrite _ => some (.op, Reg.TSU_TOD_TX)
  | .protEnable n _ => some (.op, Reg.TPA_PROT n)
  | .protForce n => some (.op, Reg.TPA_PCMD n)
  | .protLockout n => some (.op, Reg.TPA_PCMD n)
  | .protClear n => some (.op, Reg.TPA_PCMD n)
  | .hifGrpWrite j _ => some (.op, Reg.HIF_GRP j)
  | .ringContextCommit fn r _ => some (fn, Reg.HIF_RING r 0)
  | .ringDisable fn r _ => some (fn, Reg.HIF_RING r 0)
  | .fltStatusClear hi _ => some (.op, fltHalf hi)
  | .sourceClassWrite src _ => some (.op, Reg.FLT_SRC src)
  | .ffrClear => some (.op, Reg.FLT_FFR_INFO)
  | .fltInj _ _ => some (.op, Reg.FLT_INJ)
  | .fltRcvClr _ _ => some (.op, Reg.FLT_RCV_CLR)
  | .fltLock => some (.op, Reg.FLT_CTRL)
  | .softwareGlobalReset _ _ => some (.op, Reg.RCP_SWRST)
  | .hostLoad _ _ _ _ => some (.op, Reg.RCP_HLOAD)
  | .blockSoftReset _ => some (.op, Reg.RCP_BLK_RST)
  | .snapGo _ => some (.op, Reg.OBS_SNAP)
  | .thresholdCommit k _ => some (.op, Reg.OBS_THR_CFG k)
  | .traceMark _ => some (.op, Reg.OBS_TRC_MARK)
  | .traceCtrlWrite _ => some (.op, Reg.OBS_TRC_CTRL)
  | .mirrorNow _ => some (.op, Reg.OBS_LDG_CTRL)
  | .ppsConfigWrite o f _ => some (.op, match f with
    | .period => Reg.TSU_PPO_PERIOD o
    | .width => Reg.TSU_PPO_WIDTH o
    | .offset => Reg.TSU_PPO_OFS o)
  | _ => none

/-- What a write by a function of a register at byte address a does while it cannot reach the register (R590, R667). -/
def State.shutOut (s : State) (fn : Fn) (a : Nat) : State :=
  if s.up 17 && fn == .op then s.refuseAt Reg.GLB_CNT_INRST a true else s

/-- The instruction at the program counter of logical engine l. -/
def State.insn (s : State) (l : Nat) : Word64 := (s.eng l).prog.look 0 (s.eng l).pc

/-- Logical engine l can run now, and the instruction at its program counter has opcode op. -/
abbrev State.runs (s : State) (l op : Nat) : Prop :=
  s.engReady l = true ∧ (s.eng l).st = .running ∧ iOp (s.insn l) = op

/-- It runs, and the address after it lies in its segment. -/
abbrev State.steps (s : State) (l op : Nat) : Prop := s.runs l op ∧ (((s.dispatch l).eng l).pc + 1) % 512 ≠ 0

/-- It runs, and it is the last word of its segment. -/
abbrev State.runsLast (s : State) (l op : Nat) : Prop := s.runs l op ∧ (((s.dispatch l).eng l).pc + 1) % 512 = 0

/-- An instruction of engine l, dispatched in s, that comes to what f makes of the engine. -/
def State.sisNext (s : State) (l : Nat) (f : State → Engine → SisRes) : Res :=
  let t := s.dispatch l
  .next (t.sisFinish l (f t (t.eng l)))

/-- The end of an arithmetic instruction of `cycles`: g[d] takes r of the engine, C and V as given, Z and N follow r, and the
engine goes on at the next address. -/
def State.aluDone (s : State) (l cycles : Nat) (r : Engine → Word64) (c v : Engine → Bool) : State :=
  let t := s.dispatch l
  let e := t.eng l
  (t.setEng l ((e.put (iD (s.insn l)) (r e)).setZNCV (r e) (c e) (v e))).sisEnd l e.pc (e.pc + 1) cycles false

end Sys2Proof.Machine
end

