-- ==== Sys2Proof/Certificates/Slice0/Obligations.lean ====
section
/-! DEFINITION. The statements for the provers. Each conjunct of a statement about commands says what one command, or one form of it,
answers: the whole next state, so that what is not named is as before. -/

open Sys2Proof Sys2Proof.Machine

/-- For every command c, every queue q behind it and every state s: a step with c in front is exec of c in the state whose
queue is q. That an empty queue lets one tick of CLK_TS pass is the model's choice, log entry 3, and not a rule of the
spec. (95_what_each_step_holds.md, What each step holds; 17_time.md, The precision clock.) -/
def Obligations.StepTakesTheFront : Prop :=
  (∀ (c : Instr) (q : List Instr) (s : State), step { s with pending := c :: q } = exec c { s with pending := q }) ∧
  ∀ (s : State), s.pending = [] → step s = .next s.idle

/-- The state after reset is that of the origin of a power-on AON reset: no command waits, every block is in reset and the
release is in its second phase; RCP_CAUSE reads AON_LOST and LAST 1 and every other register its reset word; the
register table is in canonical form, the queue holds only commands that a sender can form, and nothing has been sent.
Reset words that the tables do not give are the model's (log entries 30 and 31). (21_reset_power_boot.md, Reset
sources; 21_reset_power_boot.md, Table 21.7; 21_reset_power_boot.md, Release sequence.) -/
def Obligations.ResetState : Prop :=
  State.reset.pending = [] ∧ State.reset.outs = [] ∧ State.reset.rcp.phase = 2 ∧ State.reset.rcp.inReset = BitVec.allOnes 19 ∧
  State.reset.rd Reg.RCP_CAUSE = 0x41 ∧ (∀ a, a ≠ Reg.RCP_CAUSE → State.reset.rd a = resetWord a) ∧
  State.reset.RegsCanonical ∧ State.reset.QueueFormed

/-- In the register table addresses strictly rise and no listed word is the reset word of its address. Whatever the state,
if this holds of it and a step answers a next state, it holds of that state. (23_register_map.md, BAR0 layout;
95_what_each_step_holds.md, What each step holds.) -/
def Obligations.StepKeepsTheRegisterTable : Prop :=
  ∀ s t, s.RegsCanonical → step s = .next t → t.RegsCanonical

/-- Whatever the state, a step that answers a next state leaves in the queue what stood behind its front, in the same
order. So a queue of commands that senders can form stays one. (95_what_each_step_holds.md, What each step holds;
23_register_map.md, Tenant and doorbell windows.) -/
def Obligations.StepKeepsTheQueue : Prop :=
  ∀ s t, step s = .next t → t.pending = s.pending.tail ∧ (s.QueueFormed → t.QueueFormed)

/-- For every command and state: the queue is left alone, what the device has sent before stays sent, in its order, with
what the command sends after it, and the count of values that the spec leaves open never goes back.
(95_what_each_step_holds.md, What each step holds.) -/
def Obligations.CommandsSendInOrder : Prop :=
  ∀ c s t, exec c s = .next t → t.pending = s.pending ∧ s.outs <+: t.outs ∧ s.freeN ≤ t.freeN

/-- No command faults and none is refused: whatever the state and the operands, exec answers a next state. A command that
the spec has the device refuse is counted or answered there, and that is its effect. (95_what_each_step_holds.md, What
each step holds.) -/
def Obligations.EveryCommandAnswers : Prop :=
  ∀ c s, ∃ t, exec c s = .next t

/-- For each command that is a function's write of one register: while the write cannot reach the register, because HIF is
in reset or the register lies in the window of a block in reset, the state stays as it is; but with HIF up the
operator's write is counted in GLB_CNT_INRST and recorded in GLB_RSV_LAST. (23_register_map.md, Blocks in reset;
19_host_interface.md, Resets and link loss.) -/
def Obligations.WritesThatDoNotReach : Prop :=
  ∀ c fn a s, registerOf c = some (fn, a) → ¬ s.reaches a → exec c s = .next (s.shutOut fn a)

/-- TPA_MODE_WRITE stores the mode of a port that is disabled and drained (of a pair: both members), else it is counted.
PORT_ENABLE stores LASER_EN and SD_GATE; on a port not drained, with a mode or pair error or a test pattern, it sets
the refusal bit and is counted and EN stays; else EN is 1. PORT_DISABLE clears EN by the port's whole disable.
PORT_DRAINED sets DRAINED when nothing of the port remains. LASER_EN_SET and _CLEAR write LASER_EN. PMA_PATTERN_WRITE
refuses a pattern on a port that is not idle. FRAMING_START sets DFR_RUN at the superframe counter's value.
(02_tree_ports.md, Port modes; 02_tree_ports.md, Enabling and disabling a port; 02_tree_ports.md, Downstream drive;
02_tree_ports.md, Table 02.11.) -/
def Obligations.TpaPortSettings : Prop :=
  (∀ (n : Fin 32) (v : Word) (s : State),
    s.reaches (Reg.TPA_MODE n) →
    (!s.idlePort n || (s.paired n && !s.idlePort (pairOf n))) = false →
    exec (.tpaModeWrite n v) s = .next (((s.wr (Reg.TPA_MODE n) (modeWord n v)).tellMode n).seeLight)) ∧
  (∀ (n : Fin 32) (v : Word) (s : State),
    s.reaches (Reg.TPA_MODE n) →
    (!s.idlePort n || (s.paired n && !s.idlePort (pairOf n))) = true →
    exec (.tpaModeWrite n v) s = .next (s.tpaRefused n)) ∧
  (∀ (n : Fin 32) (laserEn sdGate : Bool) (s : State),
    s.reaches (Reg.TPA_CTRL n) →
    let s1 := s.ctrlRest n laserEn sdGate
    (!s.drained n || s.modeErr n || s.pairErr n || s.pattern n != 0) = false →
    s.en n = false →
    exec (.portEnable n laserEn sdGate) s =
        .next ((((s1.setB (Reg.TPA_CTRL n) 0 true).tell 3 n (Reg.TPA_CTRL n)).dueBroadcasts n 3).seeLight)) ∧
  (∀ (n : Fin 32) (laserEn sdGate : Bool) (s : State),
    s.reaches (Reg.TPA_CTRL n) →
    let s1 := s.ctrlRest n laserEn sdGate
    (!s.drained n || s.modeErr n || s.pairErr n || s.pattern n != 0) = false →
    s.en n = true →
    exec (.portEnable n laserEn sdGate) s = .next s1) ∧
  (∀ (n : Fin 32) (laserEn sdGate : Bool) (s : State),
    s.reaches (Reg.TPA_CTRL n) →
    let s1 := s.ctrlRest n laserEn sdGate
    (!s.drained n || s.modeErr n || s.pairErr n || s.pattern n != 0) = true →
    exec (.portEnable n laserEn sdGate) s = .next ((s1.setB (Reg.TPA_STATUS n) 5 true).tpaRefused n)) ∧
  (∀ (n : Fin 32) (laserEn : Bool) (sdGate : Bool) s, s.reaches (Reg.TPA_CTRL n) →
    exec (.portDisable n laserEn sdGate) s = .next ((if s.en n then s.disablePort n else s).ctrlRest n laserEn sdGate)) ∧
  (∀ (n : Fin 32) (s : State),
    let busy := s.en n || s.dfrRun n || !(s.busyQueues n).isEmpty || !(s.dport n).ready.isEmpty ||
      !(s.lastList n).isEmpty || !(s.bport n).snaps.isEmpty || !(s.bport n).missed.isEmpty || !(s.udf.port.look {}
          n).bursts.isEmpty
    busy = false →
    exec (.portDrained n) s = .next ((s.setB (Reg.TPA_STATUS n) 0 true).tell 3 n (Reg.TPA_STATUS n))) ∧
  (∀ (n : Fin 32) s, s.reaches (Reg.TPA_CTRL n) →
    exec (.laserEnClear n) s = .next (s.laser n false)) ∧
  (∀ (n : Fin 32) s, s.reaches (Reg.TPA_CTRL n) →
    exec (.laserEnSet n) s = .next (s.laser n true)) ∧
  (∀ (n : Fin 32) (v : Word) (s : State),
    s.reaches (Reg.TPA_PMA n) →
    ¬ (fldW v 15 14 ≠ 0 && !s.idlePort n) →
    exec (.pmaPatternWrite n v) s = .next ((s.wr (Reg.TPA_PMA n) (v &&& 0xFFFF)).seeLight)) ∧
  (∀ (n : Fin 32) (v : Word) (s : State),
    s.reaches (Reg.TPA_PMA n) →
    (fldW v 15 14 ≠ 0 && !s.idlePort n) →
    exec (.pmaPatternWrite n v) s = .next (s.tpaRefused n)) ∧
  (∀ (n : Fin 32) (s : State),
    let taking := s.pst n == 3
    (!s.txen n || !s.en n || s.pattern n != 0 || s.dfrRun n) = false →
    let t1 := (s.setB (Reg.TPA_STATUS n) 1 true).tell 3 n (Reg.TPA_STATUS n)
    let t2 := t1.setDport n { t1.dport n with next := t1.sfc, first := true }
    taking = false →
    exec (.framingStart n) s = .next t2) ∧
  (∀ (n : Fin 32) (s : State),
    let taking := s.pst n == 3
    (!s.txen n || !s.en n || s.pattern n != 0 || s.dfrRun n) = false →
    let t1 := (s.setB (Reg.TPA_STATUS n) 1 true).tell 3 n (Reg.TPA_STATUS n)
    let t2 := t1.setDport n { t1.dport n with next := t1.sfc, first := true }
    taking = true →
    exec (.framingStart n) s = .next (t2.dueBroadcasts n 0))

/-- For a burst that TPA acts on: BURST_RESET_PULSE remembers its last cycle and sends the pulse from F − WIDTH to F, F
being LEAD before the first cycle, clipped after the previous burst and counted when clipped, or counted as suppressed
when shorter than the least width; SD_CHECK with light changes only the silent-frame run, and without light counts a
miss (and abandons the snapshot with SD_GATE). ROGUE_EVENT in a quiet interval counts, sets ROGUE (on both members of
a pair), stores the position and raises the fault. An I2C command sets BUSY, or ends at once with result 5 for a bad
length; it ends as Table 02.5 says, a timeout with 3. (02_tree_ports.md, Burst reset and signal detect;
02_tree_ports.md, Laser enable; 02_tree_ports.md, Optics management buses.) -/
def Obligations.TpaLinesAndOpticsBus : Prop :=
  (∀ (n : Fin 32) (frame : BitVec 51) (k : Fin 512) (s : State),
    let base : Int := (frameCycles * frame.toNat : Nat)
    ∀ h, s.tpaBurst n frame.toNat k = some h →
    let lead := s.fld (Reg.TPA_BRST n) 7 0
    let width := s.fld (Reg.TPA_BRST n) 13 8
    let stop := base + h.first - lead
    let first := stop - width
    let t := s.tport n
    let lim : Int := match t.fPrev with
      | some f => f + 1
      | none => first
    let start := max first lim
    let t1 := s.setTport n { t with fPrev := some (base + h.fin).toNat, rogued := false }
    ¬ (stop - start < t1.fld (Reg.TPA_BRST n) 21 16) →
    exec (.burstResetPulse n frame k) s = .next ((t1.incIf (decide (first < lim)) (Reg.TPA_CNT_BRST_CLIP n)).emit
      (.brst n start.toNat (stop - start).toNat))) ∧
  (∀ (n : Fin 32) (frame : BitVec 51) (k : Fin 512) (s : State),
    let base : Int := (frameCycles * frame.toNat : Nat)
    ∀ h, s.tpaBurst n frame.toNat k = some h →
    let lead := s.fld (Reg.TPA_BRST n) 7 0
    let width := s.fld (Reg.TPA_BRST n) 13 8
    let stop := base + h.first - lead
    let first := stop - width
    let t := s.tport n
    let lim : Int := match t.fPrev with
      | some f => f + 1
      | none => first
    let start := max first lim
    let t1 := s.setTport n { t with fPrev := some (base + h.fin).toNat, rogued := false }
    stop - start < t1.fld (Reg.TPA_BRST n) 21 16 →
    exec (.burstResetPulse n frame k) s = .next (t1.inc (Reg.TPA_CNT_BRST_SUPP n))) ∧
  (∀ (n : Fin 32) (frame : BitVec 51) (k : Fin 512) (s : State),
    s.tpaBurst n frame.toNat k = none →
    exec (.burstResetPulse n frame k) s = .next (s.burstPassed n frame.toNat k)) ∧
  (∀ (n : Fin 32) (frame : BitVec 51) (k : Fin 512) (pin : Bool) (s : State),
    ∀ h, s.tpaBurst n frame.toNat k = some h →
    ¬ (h.kind = 1 || h.kind = 2) →
    let light := pin != s.bit (Reg.TPA_SD n) 31
    let t1 := s.silentRun n frame.toNat (!light)
    light = true →
    exec (.sdCheck n frame k pin) s = .next t1) ∧
  (∀ (n : Fin 32) (frame : BitVec 51) (k : Fin 512) (pin : Bool) (s : State),
    ∀ h, s.tpaBurst n frame.toNat k = some h →
    ¬ (h.kind = 1 || h.kind = 2) →
    let light := pin != s.bit (Reg.TPA_SD n) 31
    let t1 := s.silentRun n frame.toNat (!light)
    light = false →
    let t2 := t1.inc (Reg.TPA_CNT_SD_MISS n)
    t2.bit (Reg.TPA_CTRL n) 2 = false →
    exec (.sdCheck n frame k pin) s = .next t2) ∧
  (∀ (n : Fin 32) (frame : BitVec 51) (k : Fin 512) (pin : Bool) (s : State),
    ∀ h, s.tpaBurst n frame.toNat k = some h →
    ¬ (h.kind = 1 || h.kind = 2) →
    let light := pin != s.bit (Reg.TPA_SD n) 31
    let t1 := s.silentRun n frame.toNat (!light)
    light = false →
    let t2 := t1.inc (Reg.TPA_CNT_SD_MISS n)
    t2.bit (Reg.TPA_CTRL n) 2 = true →
    exec (.sdCheck n frame k pin) s = .next (t2.abandonBurst n frame.toNat k)) ∧
  (∀ (n : Fin 32) (frame : BitVec 51) (cycle : BitVec 16) (s : State),
    let t := s.tport n
    let at_ := frameCycles * frame.toNat + cycle.toNat
    let early := match t.fPrev with
      | some f => decide (at_ < f + s.fld (Reg.TPA_SD n) 15 8)
      | none => false
    (!s.en n || !s.dfrRun n || s.holding n || decide (s.now < t.hush) || t.rogued || early || !s.quietAt n at_ (s.fld
        (Reg.TPA_SD n) 27 16)) = false →
    let t1 := s.setTport n { t with rogued := true }
    let t2 := (t1.inc (Reg.TPA_CNT_ROGUE n)).setB (Reg.TPA_STATUS n) 4 true
    let t3 := if t2.pairValid n then t2.setB (Reg.TPA_STATUS (pairOf n)) 4 true else t2
    let t4 := t3.wr (Reg.TPA_ROGUE_POS n) (BitVec.ofNat 32 (2 ^ 28 * (frame.toNat % 16) + cycle.toNat))
    exec (.rogueEvent n frame cycle) s = .next (t4.raise 26 n)) ∧
  (∀ (m : Fin 4) (v : Word) (s : State),
    s.reaches (Reg.TPA_I_CMD m) →
    s.i2cBusy m = false →
    let t1 := s.wr (Reg.TPA_I_CMD m) (v &&& 0x07FFFF0F)
    ¬ (fldW v 3 0 = 0 || decide (8 < fldW v 3 0)) →
    exec (.i2cCmdGo m v) s = .next (t1.setB (Reg.TPA_I_STATUS m) 4 true)) ∧
  (∀ (m : Fin 4) (v : Word) (s : State),
    s.reaches (Reg.TPA_I_CMD m) →
    s.i2cBusy m = false →
    let t1 := s.wr (Reg.TPA_I_CMD m) (v &&& 0x07FFFF0F)
    (fldW v 3 0 = 0 || decide (8 < fldW v 3 0)) →
    exec (.i2cCmdGo m v) s = .next (t1.wr (Reg.TPA_I_STATUS m) 5)) ∧
  (∀ (m : Fin 4) data s, s.i2cBusy m = true →
    let held := s.i2cData m
    let k := 2 ^ (8 * fldW (s.rd (Reg.TPA_I_CMD m)) 3 0)
    let got := held - held % k + data.toNat % k
    let chan := if s.bit (Reg.TPA_I_CFG m) 16 then some (fldW (s.rd (Reg.TPA_I_CMD m)) 26 24) else (s.tpa.i2c.look {} m).chan
    let t := if (s.rd (Reg.TPA_I_CMD m)).getLsbD 23 then
        (s.wr (Reg.TPA_I_DATA0 m) (wordOf got 0)).wr (Reg.TPA_I_DATA1 m) (wordOf got 1)
      else s
    exec (.i2cCmdDone m .ok data) s = .next ((t.drive (.i2c m (s.i2cPlan m data))).i2cEnd m 0 chan)) ∧
  (∀ (m : Fin 4) i data s c, s.i2cBusy m = true → s.i2cNack m i = c + 1 →
    exec (.i2cCmdDone m (.nack i) data) s =
      .next ((s.drive (.i2c m (untilNack i (s.i2cPlan m data) ++ [.stop]))).i2cEnd m (c + 1) none)) ∧
  (∀ (m : Fin 4) k data s, s.i2cBusy m = true →
    let plan := s.i2cPlan m data
    let starts := (plan.filter (· == .start)).length
    exec (.i2cCmdDone m (.recovered k) data) s =
      .next ((s.drive (.i2c m (beforeStart (min k (starts - 1)) plan ++ [.freed]))).i2cEnd m 4 none)) ∧
  (∀ (stop : I2cStop) (s : State),
    s.i2cBusy stop.m = true →
    exec (.i2cTimeout stop) s =
        .next ((s.drive (.i2c stop.m ((s.i2cPlan stop.m stop.data).take stop.done ++ [.freed]))).i2cEnd stop.m 3 none))

/-- BRX_PROF_WRITE and BRX_CTRL_WRITE store their word (zeros of BRX_CTRL as 1) only where the port is idle and all four
profiles meet the preamble bounds (for BRX_CTRL only when WSRCH changes), and are counted otherwise.
MEM_INVALIDATE_ONE clears validity, last result and drift of one entry and sets BUSY; MEM_INVALIDATE_ALL does it for
the port's 512; while BUSY both are counted. MEM_CMD_DONE clears BUSY, AGE_TICK adds a millisecond while BRX is out of
reset. (03_burst_recovery.md, The receiver; 03_burst_recovery.md, Terminal memory; 03_burst_recovery.md, Table 03.9.) -/
def Obligations.BrxProfilesAndMemory : Prop :=
  (∀ (n : Fin 32) (k : Fin 4) (v : Word) (s : State),
    s.reaches (Reg.BRX_PROF n k) →
    let v' : Word := v &&& 0xE3FFF0FF
    let ok := s.idlePort n && profsOk (s.fld (Reg.BRX_CTRL n) 11 8) fun j => if j = k then v' else s.rd (Reg.BRX_PROF n j)
    ok = true →
    exec (.brxProfWrite n k v) s = .next ((s.wr (Reg.BRX_PROF n k) v').tell 2 n (Reg.BRX_PROF n k))) ∧
  (∀ (n : Fin 32) (k : Fin 4) (v : Word) (s : State),
    s.reaches (Reg.BRX_PROF n k) →
    let v' : Word := v &&& 0xE3FFF0FF
    let ok := s.idlePort n && profsOk (s.fld (Reg.BRX_CTRL n) 11 8) fun j => if j = k then v' else s.rd (Reg.BRX_PROF n j)
    ok = false →
    exec (.brxProfWrite n k v) s = .next (s.inc (Reg.BRX_CNT_REFUSED n))) ∧
  (∀ (n : Fin 32) (v : Word) (s : State),
    s.reaches (Reg.BRX_CTRL n) →
    let v1 : Word := v &&& 0xFFFFFF06
    let v2 := if fldW v1 31 16 = 0 then setFldW v1 31 16 1 else v1
    let v3 := if fldW v2 11 8 = 0 then setFldW v2 11 8 1 else v2
    let ws := fldW v3 11 8
    let ok := ws == s.fld (Reg.BRX_CTRL n) 11 8 ||
      (s.idlePort n && profsOk ws fun j => s.rd (Reg.BRX_PROF n j))
    ok = true →
    exec (.brxCtrlWrite n v) s = .next (((s.wr (Reg.BRX_CTRL n) v3).tell 2 n (Reg.BRX_CTRL n)).holdB0 n)) ∧
  (∀ (n : Fin 32) (v : Word) (s : State),
    s.reaches (Reg.BRX_CTRL n) →
    let v1 : Word := v &&& 0xFFFFFF06
    let v2 := if fldW v1 31 16 = 0 then setFldW v1 31 16 1 else v1
    let v3 := if fldW v2 11 8 = 0 then setFldW v2 11 8 1 else v2
    let ws := fldW v3 11 8
    let ok := ws == s.fld (Reg.BRX_CTRL n) 11 8 ||
      (s.idlePort n && profsOk ws fun j => s.rd (Reg.BRX_PROF n j))
    ok = false →
    exec (.brxCtrlWrite n v) s = .next (s.inc (Reg.BRX_CNT_REFUSED n))) ∧
  (∀ (n : Fin 32) (l : Fin 512) (s : State),
    s.reaches (Reg.BRX_MEM_CMD n) →
    s.memBusy n = false →
    exec (.memInvalidateOne n l) s = .next ((s.wr (Reg.BRX_MEM_CMD n) (BitVec.ofNat 32 (2 ^ 31 + l))).invalidate n l)) ∧
  (∀ (n : Fin 32) (l : Fin 512) (s : State),
    s.reaches (Reg.BRX_MEM_CMD n) →
    s.memBusy n = true →
    exec (.memInvalidateOne n l) s = .next (s.inc (Reg.BRX_CNT_REFUSED n))) ∧
  (∀ (all : MemAll) (s : State),
    s.reaches (Reg.BRX_MEM_CMD all.n) →
    s.memBusy all.n = false →
    exec (.memInvalidateAll all) s =
        .next ((s.wr (Reg.BRX_MEM_CMD all.n) (BitVec.ofNat 32 (0x80010000 + all.l))).invalidateAll all.n)) ∧
  (∀ (all : MemAll) (s : State),
    s.reaches (Reg.BRX_MEM_CMD all.n) →
    s.memBusy all.n = true →
    exec (.memInvalidateAll all) s = .next (s.inc (Reg.BRX_CNT_REFUSED all.n))) ∧
  (∀ (n : Fin 32) s, exec (.memCmdDone n) s = .next (s.setB (Reg.BRX_MEM_CMD n) 31 false)) ∧
  (∀ (s : State),
    s.up 1 = true →
    exec .ageTick s = .next s.ageAll)

/-- PLANNING_POINT judges the missed bursts of the frames before, records that BRX follows a page that is sealed,
announced and not in a quiet horizon, with a failed attempt for each ranging grant left out of it, makes the bursts of
a page that it does not follow lost and missed, and records that it does not follow a frame without a page. BRX_SLEEP
clears the burst bit, ends the receipt of a discovery window and enters the rest state, B3 in Quiet. BURST_KINDS_FIXED
sends the kinds of a closed page's bursts to GNT. BRX_WAKE snapshots the entry of the burst's terminal, or begins the
receipt of a discovery window, and enters state B0; while EN is 0 the burst is lost and missed. BURST_ACQUIRE without
a delimiter is a failed lock; a delimiter where it is sought locks the burst, clears the deaf run and starts UDF on
it. A good BURST_VERDICT ends the burst: the entry learns from it, the count of good bursts rises, the offset goes to
RNG and the trace has a record. (03_burst_recovery.md, Warm and cold; 03_burst_recovery.md, Power states;
03_burst_recovery.md, Acquisition; 05_grant_scheduling.md, Seal, kind and demotion.) -/
def Obligations.BrxBursts : Prop :=
  (∀ (n : Fin 32) (frame : BitVec 51) (copyBad : Bool) (s : State),
    let f := frame.toNat
    let t1 := s.missedDue n fun x => decide (x < f)
    t1.page n f = none →
    exec (.planningPoint n frame copyBad) s = .next ((t1.plan n f false).unsnap n f)) ∧
  (∀ (n : Fin 32) (frame : BitVec 51) (copyBad : Bool) (s : State),
    let f := frame.toNat
    let t1 := s.missedDue n fun x => decide (x < f)
    ∀ g, t1.page n f = some g →
    let quiet := (t1.gport n).covered f
    let ok := g.sealed && g.announced && !quiet && !copyBad && t1.en n
    let t2 := if g.sealed && quiet then
        t1.incN (Reg.BRX_CNT_WAKE_LATE n) ((burstsOf g.ents).filter liveBurst).length else t1
    let t3 := if ok then t2 else (t2.setPage n { g with allLost := true }).lostAllocs g.ents
    let t4 := ((t3.plan n f ok).unsnap n f).missRanging n g ok
    (g.sealed && g.announced && !ok) = false →
    exec (.planningPoint n frame copyBad) s = .next t4) ∧
  (∀ (n : Fin 32) (frame : BitVec 51) (copyBad : Bool) (s : State),
    let f := frame.toNat
    let t1 := s.missedDue n fun x => decide (x < f)
    ∀ g, t1.page n f = some g →
    let quiet := (t1.gport n).covered f
    let ok := g.sealed && g.announced && !quiet && !copyBad && t1.en n
    let t2 := if g.sealed && quiet then
        t1.incN (Reg.BRX_CNT_WAKE_LATE n) ((burstsOf g.ents).filter liveBurst).length else t1
    let t3 := if ok then t2 else (t2.setPage n { g with allLost := true }).lostAllocs g.ents
    let t4 := ((t3.plan n f ok).unsnap n f).missRanging n g ok
    (g.sealed && g.announced && !ok) = true →
    exec (.planningPoint n frame copyBad) s = .next (t4.missPageBursts n g)) ∧
  (∀ (n : Fin 32) (cycle : BitVec 64) s, exec (.brxSleep n cycle) s = (
      let p := s.bport n
      let rest := p.awake.drop 1
      let d := if rest.isEmpty then s.restState n cycle.toNat else 0
      let s : State := if (p.awake.take 1).any fun x => x.2.2 then
          { s with rcp := { s.rcp with needDisc := setBitW s.rcp.needDisc n false } }
        else s
      let d := if s.quiet then 3 else d
      .next (((s.setB (Reg.BRX_STATUS n) 2 false).setF (Reg.BRX_STATUS n) 1 0 d).setBport n
        { p with awake := rest, inDisc := rest.any fun x => x.2.2 }) : Res)) ∧
  (∀ (n : Fin 32) (frame : BitVec 51) (cycle : BitVec 64) (s : State),
    ∀ g, s.page n frame.toNat = some g →
    (g.st != .closed) = false →
    let t1 := s.cross 2 n (.kinds frame.toNat ((burstsOf g.ents).map fun b => s.kindOf n b))
    let d := t1.restState n cycle.toNat
    (!t1.isAwake n && decide (t1.fld (Reg.BRX_STATUS n) 1 0 < d)) = false →
    exec (.burstKindsFixed n frame cycle) s = .next t1) ∧
  (∀ (n : Fin 32) (frame : BitVec 51) (k : Option (Fin 512)) (s : State),
    let f := frame.toNat
    s.quiet = false →
    s.en n = true →
    ∀ k', k = some k' →
    ∀ b, s.wakesFor n f k' = some b →
    let h := headOf b
    let t1 := s.missedDue n fun x => decide (x ≤ f)
    let p := t1.bport n
    let disc := h.kind == 2
    let p := { p with awake := p.awake ++ [(f, k'.val, disc)], inDisc := p.inDisc || disc
                      snaps := if disc then p.snaps else p.snaps ++ [t1.snapOf n f k' h] }
    exec (.brxWake n frame k) s = .next ((t1.setBport n p).setF (Reg.BRX_STATUS n) 1 0 0)) ∧
  (∀ (n : Fin 32) (frame : BitVec 51) (k : Option (Fin 512)) (s : State),
    let f := frame.toNat
    s.quiet = false →
    s.en n = true →
    k = none →
    s.knownFrame n f = false →
    exec (.brxWake n frame k) s = .next (s.setF (Reg.BRX_STATUS n) 1 0 0)) ∧
  (∀ (n : Fin 32) (frame : BitVec 51) (k : Option (Fin 512)) (s : State),
    let f := frame.toNat
    s.quiet = false →
    s.en n = false →
    ∀ x, (k.bind fun j => (s.wakesFor n f j).map fun b => (b, j.val)) = some x →
    ((headOf x.1).kind == 2) = false →
    exec (.brxWake n frame k) s = .next (((s.lostAllocs x.1).miss n f [x]).missedDue n fun y => decide (y ≤ f))) ∧
  (∀ (n : Fin 32) (frame : BitVec 51) (k : Fin 512) (eye : Bool) (found : SearchEnd) (delim : Option Int) (s : State),
    ∀ sn b, (s.bport n).snap frame.toNat k = some sn → s.received n frame.toNat k = some b →
    let h := headOf b
    ¬ (h.kind = 2 || sn.found.isSome || sn.judged.isSome) →
    let t1 := if sn.warm && !sn.ent.valid then s.inc (Reg.BRX_CNT_WARM_STALE n) else s
    let t2 := t1.setB (Reg.BRX_STATUS n) 2 true
    delim = none →
    exec (.burstAcquire n frame k eye found delim) s = .next (t2.lockFail n sn b)) ∧
  (∀ (n : Fin 32) (frame : BitVec 51) (k : Fin 512) (eye : Bool) (found : SearchEnd) (delim : Option Int) (s : State),
    ∀ sn b, (s.bport n).snap frame.toNat k = some sn → s.received n frame.toNat k = some b →
    let h := headOf b
    ¬ (h.kind = 2 || sn.found.isSome || sn.judged.isSome) →
    let t1 := if sn.warm && !sn.ent.valid then s.inc (Reg.BRX_CNT_WARM_STALE n) else s
    let t2 := t1.setB (Reg.BRX_STATUS n) 2 true
    let near := decide ((wrap64 found.code sn.est).natAbs ≤ t2.fld (Reg.BRX_CTRL n) 11 8)
    ∀ d, delim = some d →
    let kk := rbPerBit sn.rate
    let off : Int := 64 * kk * d + kk * found.code
    (sn.abandoned || (sn.warm && !(eye && near)) || !t2.delimOk n h sn d off) = false →
    let sn := { sn with found := some found.code.val, off := off, peak := if sn.warm then sn.peak else found.peak }
    let p := (t2.bport n).setSnap sn
    exec (.burstAcquire n frame k eye found delim) s = .next ((t2.setBport n { p with deaf := 0 }).udfStart n sn b)) ∧
  (∀ (n : Fin 32) (frame : BitVec 51) (k : Fin 512) (eye : Bool) (found : SearchEnd) (delim : Option Int) (s : State),
    ∀ sn b, (s.bport n).snap frame.toNat k = some sn → s.received n frame.toNat k = some b →
    let h := headOf b
    ¬ (h.kind = 2 || sn.found.isSome || sn.judged.isSome) →
    let t1 := if sn.warm && !sn.ent.valid then s.inc (Reg.BRX_CNT_WARM_STALE n) else s
    let t2 := t1.setB (Reg.BRX_STATUS n) 2 true
    let near := decide ((wrap64 found.code sn.est).natAbs ≤ t2.fld (Reg.BRX_CTRL n) 11 8)
    ∀ d, delim = some d →
    let kk := rbPerBit sn.rate
    let off : Int := 64 * kk * d + kk * found.code
    (sn.abandoned || (sn.warm && !(eye && near)) || !t2.delimOk n h sn d off) = true →
    exec (.burstAcquire n frame k eye found delim) s = .next (t2.lockFail n sn b)) ∧
  (∀ (n : Fin 32) (frame : BitVec 51) (k : Fin 512) (payload : PayloadEnd) (s : State),
    ∀ sn b, (s.bport n).snap frame.toNat k = some sn → s.received n frame.toNat k = some b →
    let rec_ := (s.udf.port.look {} n).bursts.find? fun u => u.frame == sn.frame && u.k == sn.k
    ∀ ph, sn.found = some ph → sn.judged = none →
    (rec_.any fun u => decide (u.pos < u.len)) = false →
    let h := headOf b
    let unc := (rec_.map (·.uncorr)).getD 0
    let moves := peakMoves (s.fld (Reg.BRX_ADAPT n) 25 16) (payload.blocks.take (s.payloadBlocks sn h))
    let pk := shadowPeak sn.peak payload.peak moves
    let up := s.udf.port.look {} n
    let up' := { up with bursts := up.bursts.filter fun u => !(u.frame == sn.frame && u.k == sn.k) }
    let t1 := { s with udf := { s.udf with port := s.udf.port.put {} n up' } }
    (sn.bad || rec_.isNone) = false →
    let t2 := (t1.judge n sn (.good ph pk)).inc (if sn.warm then Reg.BRX_CNT_WARM_OK n else Reg.BRX_CNT_COLD_OK n)
    let t3 := t2.rngResult n { l := sn.loc, ranging := h.kind == 1, off := some sn.off, gen := sn.gen }
    exec (.burstVerdict n frame k payload) s = .next (t3.traceBurst n sn h.prof 0 pk unc (grantOf b))) ∧
  (∀ (n : Fin 32) (frame : BitVec 51) (k : Fin 512) (payload : PayloadEnd) (s : State),
    ∀ sn b, (s.bport n).snap frame.toNat k = some sn → s.received n frame.toNat k = some b →
    let rec_ := (s.udf.port.look {} n).bursts.find? fun u => u.frame == sn.frame && u.k == sn.k
    ∀ ph, sn.found = some ph → sn.judged = none →
    (rec_.any fun u => decide (u.pos < u.len)) = false →
    let h := headOf b
    let unc := (rec_.map (·.uncorr)).getD 0
    let moves := peakMoves (s.fld (Reg.BRX_ADAPT n) 25 16) (payload.blocks.take (s.payloadBlocks sn h))
    let pk := shadowPeak sn.peak payload.peak moves
    let up := s.udf.port.look {} n
    let up' := { up with bursts := up.bursts.filter fun u => !(u.frame == sn.frame && u.k == sn.k) }
    let t1 := { s with udf := { s.udf with port := s.udf.port.put {} n up' } }
    (sn.bad || rec_.isNone) = true →
    let t2 := (t1.judge n sn .bad).incIf (decide (0 < unc)) (Reg.BRX_CNT_UNCORR n)
    let t3 := if h.kind = 1 then t2.rngResult n { l := sn.loc, ranging := true, off := none, gen := sn.gen } else t2
    exec (.burstVerdict n frame k payload) s =
        .next (t3.traceBurst n sn h.prof (if rec_.any (·.cut) then 4 else 3) pk unc (grantOf b)))

/-- TEQ_WRITE stores its word (zero timeouts as 1) unless TEQ_Q would change on a port that is not idle or to a value
outside 4 to 40. RNG_DISC_WRITE stores its word and clears DISC_ERR where RTD_MIN lies below RTD_MAX, RTD_MAX within
TEQ and the window within 250 µs, and sets DISC_ERR otherwise. RNG_TRACK_WRITE stores its word (zero fields as 1)
where ADJ_TH lies below DRIFT_LIM and DRIFT_LIM below the search window. A write turned away is counted in CNT_REFUSED
and changes nothing else. (04_ranging.md, Ranging bits and the frame reference; 04_ranging.md, Discovery windows;
04_ranging.md, Tracking drift.) -/
def Obligations.RngGuardedRegisters : Prop :=
  (∀ (n : Fin 32) (v : Word) (s : State),
    s.reaches (Reg.RNG_CTRL n) →
    let v1 : Word := v &&& 0xFFFFFF3F
    let v2 := if fldW v1 31 16 = 0 then setFldW v1 31 16 1 else v1
    let v3 := if fldW v2 15 8 = 0 then setFldW v2 15 8 1 else v2
    let q := fldW v3 5 0
    let ok := q == s.fld (Reg.RNG_CTRL n) 5 0 || ((s.rngSees n).idlePort n && decide (4 ≤ q) && decide (q ≤ 40))
    ok = true →
    exec (.teqWrite n v) s = .next (s.wr (Reg.RNG_CTRL n) v3)) ∧
  (∀ (n : Fin 32) (v : Word) (s : State),
    s.reaches (Reg.RNG_CTRL n) →
    let v1 : Word := v &&& 0xFFFFFF3F
    let v2 := if fldW v1 31 16 = 0 then setFldW v1 31 16 1 else v1
    let v3 := if fldW v2 15 8 = 0 then setFldW v2 15 8 1 else v2
    let q := fldW v3 5 0
    let ok := q == s.fld (Reg.RNG_CTRL n) 5 0 || ((s.rngSees n).idlePort n && decide (4 ≤ q) && decide (q ≤ 40))
    ok = false →
    exec (.teqWrite n v) s = .next (s.inc (Reg.RNG_CNT_REFUSED n))) ∧
  (∀ (n : Fin 32) (v : Word) (s : State),
    s.reaches (Reg.RNG_DISC n) →
    let v1 : Word := v &&& 0x03FF0FFF
    let lo := fldW v1 9 0
    let hi := fldW v1 25 16
    let ok := decide (lo < hi) && decide (hi ≤ 25 * s.fld (Reg.RNG_CTRL n) 5 0) && decide (discW v1 ≤ 250)
    ok = true →
    exec (.rngDiscWrite n v) s = .next ((s.wr (Reg.RNG_DISC n) v1).setB (Reg.RNG_STATUS n) 3 false)) ∧
  (∀ (n : Fin 32) (v : Word) (s : State),
    s.reaches (Reg.RNG_DISC n) →
    let v1 : Word := v &&& 0x03FF0FFF
    let lo := fldW v1 9 0
    let hi := fldW v1 25 16
    let ok := decide (lo < hi) && decide (hi ≤ 25 * s.fld (Reg.RNG_CTRL n) 5 0) && decide (discW v1 ≤ 250)
    ok = false →
    exec (.rngDiscWrite n v) s = .next ((s.inc (Reg.RNG_CNT_REFUSED n)).setB (Reg.RNG_STATUS n) 3 true)) ∧
  (∀ (n : Fin 32) (v : Word) (s : State),
    s.reaches (Reg.RNG_TRACK n) →
    let v1 := if fldW v 31 28 = 0 then setFldW v 31 28 1 else v
    let v2 := if fldW v1 7 0 = 0 then setFldW v1 7 0 1 else v1
    let lim := fldW v2 23 16
    let ok := decide (fldW v2 15 8 < lim) && decide (lim < s.driftTop n)
    ok = true →
    exec (.rngTrackWrite n v) s = .next (s.wr (Reg.RNG_TRACK n) v2)) ∧
  (∀ (n : Fin 32) (v : Word) (s : State),
    s.reaches (Reg.RNG_TRACK n) →
    let v1 := if fldW v 31 28 = 0 then setFldW v 31 28 1 else v
    let v2 := if fldW v1 7 0 = 0 then setFldW v1 7 0 1 else v1
    let lim := fldW v2 23 16
    let ok := decide (fldW v2 15 8 < lim) && decide (lim < s.driftTop n)
    ok = false →
    exec (.rngTrackWrite n v) s = .next (s.inc (Reg.RNG_CNT_REFUSED n)))

/-- DISC_REQUEST asks GNT for a window of W cycles when the device is not in Quiet nor in its first millisecond after, the
port runs, discovery is enabled without error, no broadcast is pending and an index is FREE. In a discovery burst of
an enabled port SN_RESPONSE counts its codewords, and sends RNG a bad burst or a serial number through the crossing; a
message that fails its check is counted. When it becomes visible, a bad burst counts a collision; a serial number
already held on the port or its pair counts a duplicate, posts an event and raises the fault; a new one with AUTO
assigns the lowest FREE index, where RNG may assign and one is FREE, and is deferred otherwise; without AUTO it fills
the empty pending slot and posts SN_FOUND, or is deferred. ASSIGN_TIMEOUT empties the slot and counts. (04_ranging.md,
Discovery windows; 04_ranging.md, Serial numbers and local indices.) -/
def Obligations.RngDiscovery : Prop :=
  (∀ (n : Fin 32) (s : State),
    let ok := !s.quiet && !s.justLeftQuiet && (s.rngSees n).dfrRun n && s.bit (Reg.RNG_DISC n) 10 && !s.bit (Reg.RNG_STATUS
        n) 3 && (s.rport n).bcast == 0 &&
      (s.lowestFree n).isSome
    ok = true →
    exec (.discRequest n) s = .next (s.setGport n { s.gport n with disc := some (s.windowCycles n) })) ∧
  (∀ (n : Fin 32) (frame : BitVec 51) (k : Fin 512) (got : SnBurst) (sn : Word64) (rnd : BitVec 16) (delim : Int) (phase :
      Fin 64) (s : State),
    ∀ b, (if s.en n then s.received n frame.toNat k else none) = some b →
    ((headOf b).kind != 2) = false →
    let unc := got.cws.countP fun need => !s.correctable n need
    let t1 := s.discCws n got.cws.length unc
    let good := got.good && unc == 0
    let t2 := (t1.incIf (unc != 0) (Reg.BRX_CNT_UNCORR n)).incIf good (Reg.BRX_CNT_COLD_OK n)
    good = false →
    exec (.snResponse n frame k got sn rnd delim phase) s = .next (t2.cross 5 n (.serial none))) ∧
  (∀ (n : Fin 32) (frame : BitVec 51) (k : Fin 512) (got : SnBurst) (sn : Word64) (rnd : BitVec 16) (delim : Int) (phase :
      Fin 64) (s : State),
    ∀ b, (if s.en n then s.received n frame.toNat k else none) = some b →
    ((headOf b).kind != 2) = false →
    let unc := got.cws.countP fun need => !s.correctable n need
    let t1 := s.discCws n got.cws.length unc
    let good := got.good && unc == 0
    let t2 := (t1.incIf (unc != 0) (Reg.BRX_CNT_UNCORR n)).incIf good (Reg.BRX_CNT_COLD_OK n)
    good = true →
    got.mic = false →
    exec (.snResponse n frame k got sn rnd delim phase) s = .next (t2.inc (Reg.UDF_n_CNT_PLOAM_ERR n))) ∧
  (∀ (n : Fin 32) (frame : BitVec 51) (k : Fin 512) (got : SnBurst) (sn : Word64) (rnd : BitVec 16) (delim : Int) (phase :
      Fin 64) (s : State),
    ∀ b, (if s.en n then s.received n frame.toNat k else none) = some b →
    ((headOf b).kind != 2) = false →
    let unc := got.cws.countP fun need => !s.correctable n need
    let t1 := s.discCws n got.cws.length unc
    let good := got.good && unc == 0
    let t2 := (t1.incIf (unc != 0) (Reg.BRX_CNT_UNCORR n)).incIf good (Reg.BRX_CNT_COLD_OK n)
    let kk := rbPerBit (t2.slowRate n)
    let x : SnReport := { sn := sn.toNat, rnd := rnd.toNat, off := 64 * kk * delim + kk * phase }
    good = true →
    got.mic = true →
    exec (.snResponse n frame k got sn rnd delim phase) s = .next (t2.cross 5 n (.serial (some x)))) ∧
  (∀ (n : Fin 32) (s : State),
    s.pend n = true →
    exec (.assignTimeout n) s = .next ((s.emptyPend n).inc (Reg.RNG_CNT_SN_DEFER n))) ∧
  (∀ (n : Fin 32) s, (s.crossing (32 * 5 + n)).items.head? = some (.serial none) →
    exec (.dcqItemVisible (.messages n)) s = .next ((s.crossVisible 5 n).inc (Reg.RNG_CNT_COLLIDE n))) ∧
  (∀ (n : Fin 32) x s, (s.crossing (32 * 5 + n)).items.head? = some (.serial (some x)) →
    let t := s.crossVisible 5 n
    ∀ l, t.snOn n x.sn = some l →
    exec (.dcqItemVisible (.messages n)) s = .next (((t.inc (Reg.RNG_CNT_DUP n)).rngEvent n 2 l x.sn 0).raise 33 n)) ∧
  (∀ (n : Fin 32) x s, (s.crossing (32 * 5 + n)).items.head? = some (.serial (some x)) →
    let t := s.crossVisible 5 n
    t.snOn n x.sn = none → (t.rngSees n).pairValid n = true →
    ∀ l, t.snOn (pairOf n) x.sn = some l →
    exec (.dcqItemVisible (.messages n)) s = .next (((t.inc (Reg.RNG_CNT_DUP_PAIR n)).rngEvent n 3 l x.sn 0).raise 33 n)) ∧
  (∀ (n : Fin 32) x s, (s.crossing (32 * 5 + n)).items.head? = some (.serial (some x)) →
    let t := s.crossVisible 5 n
    t.snOn n x.sn = none → ((t.rngSees n).pairValid n = true → t.snOn (pairOf n) x.sn = none) →
    t.bit (Reg.RNG_DISC n) 11 = true → t.mayAssign n = true → ∀ l, t.lowestFree n = some l →
    exec (.dcqItemVisible (.messages n)) s = .next ((t.inc (Reg.RNG_CNT_SN_OK n)).assignIdx n l x.sn x.off
      (x.rnd * (t.rngSees n).rbHundredths n / 100000))) ∧
  (∀ (n : Fin 32) x s, (s.crossing (32 * 5 + n)).items.head? = some (.serial (some x)) →
    let t := s.crossVisible 5 n
    t.snOn n x.sn = none → ((t.rngSees n).pairValid n = true → t.snOn (pairOf n) x.sn = none) →
    t.bit (Reg.RNG_DISC n) 11 = true → (t.mayAssign n = false ∨ t.lowestFree n = none) →
    exec (.dcqItemVisible (.messages n)) s = .next (t.inc (Reg.RNG_CNT_SN_DEFER n))) ∧
  (∀ (n : Fin 32) x s, (s.crossing (32 * 5 + n)).items.head? = some (.serial (some x)) →
    let t := s.crossVisible 5 n
    t.snOn n x.sn = none → ((t.rngSees n).pairValid n = true → t.snOn (pairOf n) x.sn = none) →
    t.bit (Reg.RNG_DISC n) 11 = false → t.pend n = true →
    exec (.dcqItemVisible (.messages n)) s = .next (t.inc (Reg.RNG_CNT_SN_DEFER n))) ∧
  (∀ (n : Fin 32) x s, (s.crossing (32 * 5 + n)).items.head? = some (.serial (some x)) →
    let t := s.crossVisible 5 n
    t.snOn n x.sn = none → ((t.rngSees n).pairValid n = true → t.snOn (pairOf n) x.sn = none) →
    t.bit (Reg.RNG_DISC n) 11 = false → t.pend n = false →
    let u := (t.wr (Reg.RNG_PEND_SN0 n) (wordOf x.sn 0)).wr (Reg.RNG_PEND_SN1 n) (wordOf x.sn 1)
    let v := u.setRport n { u.rport n with pendOff := x.off, pendRnd := x.rnd * (t.rngSees n).rbHundredths n / 100000 }
    exec (.dcqItemVisible (.messages n)) s =
      .next (((v.setB (Reg.RNG_STATUS n) 2 true).inc (Reg.RNG_CNT_SN_OK n)).rngEvent n 1 0 x.sn 0))

/-- Each stores its OP and LOCAL and, where its condition holds, acts; else it is counted in CNT_REFUSED. ASSIGN moves the
pending serial number to a FREE index and empties the slot; REJECT empties it; RERANGE moves an index in OPER or LOST
to RANGING; DEACTIVATE invalidates the entry and queues the message of an index not FREE; INVALIDATE clears the
entry's validity. RANGING_REQUEST puts one pending ranging grant of a terminal in RANGING behind the others.
(04_ranging.md, Table 04.9; 04_ranging.md, Table 04.3.) -/
def Obligations.RngSoftwareCommands : Prop :=
  (∀ (n : Fin 32) (l : Fin 512) (s : State),
    s.reaches (Reg.RNG_CMD n) →
    let t1 := s.rngCmd n 0 l
    (t1.pend n && t1.termSt n l == 0 && t1.mayAssign n) = true →
    let sn := (t1.rd (Reg.RNG_PEND_SN0 n)).toNat + 2 ^ 32 * (t1.rd (Reg.RNG_PEND_SN1 n)).toNat
    let p := t1.rport n
    exec (.rngAssign n l) s = .next ((t1.emptyPend n).assignIdx n l sn p.pendOff p.pendRnd)) ∧
  (∀ (n : Fin 32) (l : Fin 512) (s : State),
    s.reaches (Reg.RNG_CMD n) →
    let t1 := s.rngCmd n 0 l
    (t1.pend n && t1.termSt n l == 0 && t1.mayAssign n) = false →
    exec (.rngAssign n l) s = .next (t1.rngRefused n)) ∧
  (∀ (n : Fin 32) (l : Fin 512) (s : State),
    s.reaches (Reg.RNG_CMD n) →
    let t1 := s.rngCmd n 1 l
    t1.pend n = true →
    exec (.rngReject n l) s = .next (t1.emptyPend n)) ∧
  (∀ (n : Fin 32) (l : Fin 512) (s : State),
    s.reaches (Reg.RNG_CMD n) →
    let t1 := s.rngCmd n 1 l
    t1.pend n = false →
    exec (.rngReject n l) s = .next (t1.rngRefused n)) ∧
  (∀ (n : Fin 32) (l : Fin 512) (s : State),
    s.reaches (Reg.RNG_CMD n) →
    let t1 := s.rngCmd n 2 l
    (t1.termSt n l == 2 || t1.termSt n l == 3) = true →
    exec (.rngRerange n l) s = .next (t1.rerange n l)) ∧
  (∀ (n : Fin 32) (l : Fin 512) (s : State),
    s.reaches (Reg.RNG_CMD n) →
    let t1 := s.rngCmd n 2 l
    (t1.termSt n l == 2 || t1.termSt n l == 3) = false →
    exec (.rngRerange n l) s = .next (t1.rngRefused n)) ∧
  (∀ (n : Fin 32) (l : Fin 512) (s : State),
    s.reaches (Reg.RNG_CMD n) →
    let t1 := s.rngCmd n 3 l
    (t1.termSt n l == 0) = false →
    exec (.rngDeactivate n l) s = .next ((t1.tellInvalid n l).deactivate n l true)) ∧
  (∀ (n : Fin 32) (l : Fin 512) (s : State),
    s.reaches (Reg.RNG_CMD n) →
    let t1 := s.rngCmd n 3 l
    (t1.termSt n l == 0) = true →
    exec (.rngDeactivate n l) s = .next (t1.rngRefused n)) ∧
  (∀ (n : Fin 32) (l : Fin 512) s, s.reaches (Reg.RNG_CMD n) →
    exec (.rngInvalidate n l) s = .next ((s.rngCmd n 4 l).tellInvalid n l)) ∧
  (∀ (n : Fin 32) (l : Fin 512) (s : State),
    let t := s.term n l
    (s.termSt n l == 1 && !t.assigning && !(t.asked && s.rangingTrace n l) && !t.waiting && !t.leaving) = true →
    let p := s.gport n
    exec (.rangingRequest n l) s =
        .next (((s.setTerm n l { t with asked := true }).setGport n { p with rngQ := p.rngQ ++ [l.val] }).tellExpect n l))

/-- RANGING_BURST takes the oldest good result of a terminal whose ranging grant was asked for: an RTD outside its bounds
counts RANGE_ERR, posts its event and deactivates the terminal. RANGING_ATTEMPT_FAIL counts a failure, the third posts
RANGE_FAIL and deactivates. LOCK_FAIL_REPORT counts a missed burst of a terminal, and at the limit it is LOST.
OFFSET_TRACK of an offset beyond the drift limit re-ranges the terminal; one within it, with no adjustment pending, is
filtered. PEND_TIMEOUT re-sends an adjustment once and then re-ranges. LOST_TIMEOUT deactivates a lost terminal, and
RECORD_PUBLISH publishes a record whose OFF_F has changed. (04_ranging.md, Directed ranging and the equalisation
delay; 04_ranging.md, Tracking drift; 04_ranging.md, Table 04.3.) -/
def Obligations.RngMeasurements : Prop :=
  (∀ (n : Fin 32) (s : State),
    ∀ r t1, (s.takeResult n fun r => r.ranging && r.off.isSome) = some (r, t1) →
    (t1.termSt n r.l != 1 || !(t1.term n r.l).asked) = false →
    let off := r.off.getD 0
    let c := t1.rngSees n
    let rtd : Int := off / 64 + c.teq n - c.pd n
    let t := t1.term n r.l
    let t2 := t1.setTerm n r.l { t with fails := 0, asked := false, unproven := false }
    (rtd < c.rtdMin n ∨ (c.teq n : Int) < rtd) →
    exec (.rangingBurst n) s = .next (((t2.inc (Reg.RNG_CNT_RANGE_ERR n)).rngPlain n 6 r.l).deactivate n r.l false)) ∧
  (∀ (n : Fin 32) (s : State),
    ∀ r t1, (s.takeResult n fun r => r.ranging && r.off.isSome) = some (r, t1) →
    (t1.termSt n r.l != 1 || !(t1.term n r.l).asked) = false →
    let off := r.off.getD 0
    let c := t1.rngSees n
    let rtd : Int := off / 64 + c.teq n - c.pd n
    let t := t1.term n r.l
    let t2 := t1.setTerm n r.l { t with fails := 0, asked := false, unproven := false }
    ¬ (rtd < c.rtdMin n ∨ (c.teq n : Int) < rtd) →
    let t3 := t2.setF (Reg.RNG_CTX n r.l 2) 27 0 rtd.toNat
    let t4 := t3.setTerm n r.l { t3.term n r.l with waiting := true, newEqd := c.teq n - rtd, newOff := off % 64 }
    exec (.rangingBurst n) s = .next (t4.sendEqd n r.l (c.teq n - rtd))) ∧
  (∀ (n : Fin 32) (s : State),
    ∀ r t1, (s.takeResult n fun r => r.ranging && r.off.isNone) = some (r, t1) →
    (t1.termSt n r.l != 1 || !(t1.term n r.l).asked) = false →
    let t := t1.term n r.l
    let t2 := t1.setTerm n r.l { t with fails := t.fails + 1, asked := false }
    ¬ (3 ≤ t.fails + 1) →
    exec (.rangingAttemptFail n) s = .next t2) ∧
  (∀ (n : Fin 32) (s : State),
    ∀ r t1, (s.takeResult n fun r => r.ranging && r.off.isNone) = some (r, t1) →
    (t1.termSt n r.l != 1 || !(t1.term n r.l).asked) = false →
    let t := t1.term n r.l
    let t2 := t1.setTerm n r.l { t with fails := t.fails + 1, asked := false }
    3 ≤ t.fails + 1 →
    exec (.rangingAttemptFail n) s = .next (((t2.inc (Reg.RNG_CNT_RANGE_FAIL n)).rngPlain n 5 r.l).deactivate n r.l false)) ∧
  (∀ (n : Fin 32) (s : State),
    ∀ r t1, (s.takeResult n fun r => !r.ranging && r.off.isNone) = some (r, t1) →
    let l := r.l
    (!(t1.termSt n l == 2 || t1.termSt n l == 3)) = false →
    let t2 := t1.satField (Reg.RNG_CTX n l 0) 27 24 1
    ¬ (t2.termSt n l = 2 ∧ t2.fld (Reg.RNG_TRACK n) 31 28 ≤ t2.fld (Reg.RNG_CTX n l 0) 27 24) →
    exec (.lockFailReport n) s = .next t2) ∧
  (∀ (n : Fin 32) (s : State),
    ∀ r t1, (s.takeResult n fun r => !r.ranging && r.off.isNone) = some (r, t1) →
    let l := r.l
    (!(t1.termSt n l == 2 || t1.termSt n l == 3)) = false →
    let t2 := t1.satField (Reg.RNG_CTX n l 0) 27 24 1
    (t2.termSt n l = 2 ∧ t2.fld (Reg.RNG_TRACK n) 31 28 ≤ t2.fld (Reg.RNG_CTX n l 0) 27 24) →
    exec (.lockFailReport n) s = .next (((t2.setTermSt n l 3).inc (Reg.RNG_CNT_LOST n)).rngPlain n 10 l)) ∧
  (∀ (n : Fin 32) (s : State),
    ∀ r t1, (s.takeResult n fun r => !r.ranging && r.off.isSome) = some (r, t1) →
    let l := r.l
    (!(t1.termSt n l == 2 || t1.termSt n l == 3)) = false →
    let d := r.off.getD 0
    let t2 := t1.setF (Reg.RNG_CTX n l 0) 27 24 0
    let t3 := t2.setTerm n l { t2.term n l with unproven := false }
    64 * t3.driftLim n < d.natAbs →
    exec (.offsetTrack n) s = .next (t3.rerange n l)) ∧
  (∀ (n : Fin 32) (s : State),
    ∀ r t1, (s.takeResult n fun r => !r.ranging && r.off.isSome) = some (r, t1) →
    let l := r.l
    (!(t1.termSt n l == 2 || t1.termSt n l == 3)) = false →
    let d := r.off.getD 0
    let t2 := t1.setF (Reg.RNG_CTX n l 0) 27 24 0
    let t3 := t2.setTerm n l { t2.term n l with unproven := false }
    ¬ (64 * t3.driftLim n < d.natAbs) →
    let t4 := if t3.termSt n l = 3 then (t3.setTermSt n l 2).publish n l else t3.settleRec n l
    t4.adjPend n l = false →
    exec (.offsetTrack n) s = .next (t4.filterOff n l d)) ∧
  (∀ (n : Fin 32) (s : State),
    ∀ r t1, (s.takeResult n fun r => !r.ranging && r.off.isSome) = some (r, t1) →
    let l := r.l
    (!(t1.termSt n l == 2 || t1.termSt n l == 3)) = false →
    let d := r.off.getD 0
    let t2 := t1.setF (Reg.RNG_CTX n l 0) 27 24 0
    let t3 := t2.setTerm n l { t2.term n l with unproven := false }
    ¬ (64 * t3.driftLim n < d.natAbs) →
    let t4 := if t3.termSt n l = 3 then (t3.setTermSt n l 2).publish n l else t3.settleRec n l
    t4.adjPend n l = true →
    (d - (t4.offF n l - 64 * (t4.term n l).delta)).natAbs ≤ 128 →
    exec (.offsetTrack n) s = .next (t4.confirmAdjust n l d)) ∧
  (∀ (n : Fin 32) (s : State),
    ∀ r t1, (s.takeResult n fun r => !r.ranging && r.off.isSome) = some (r, t1) →
    let l := r.l
    (!(t1.termSt n l == 2 || t1.termSt n l == 3)) = false →
    let d := r.off.getD 0
    let t2 := t1.setF (Reg.RNG_CTX n l 0) 27 24 0
    let t3 := t2.setTerm n l { t2.term n l with unproven := false }
    ¬ (64 * t3.driftLim n < d.natAbs) →
    let t4 := if t3.termSt n l = 3 then (t3.setTermSt n l 2).publish n l else t3.settleRec n l
    t4.adjPend n l = true →
    ¬ ((d - (t4.offF n l - 64 * (t4.term n l).delta)).natAbs ≤ 128) →
    exec (.offsetTrack n) s = .next t4) ∧
  (∀ (n : Fin 32) (l : Fin 512) (s : State),
    let t := s.term n l
    (!s.adjPend n l || t.waiting) = false →
    t.sends ≤ 1 →
    exec (.pendTimeout n l) s = .next ((s.setTerm n l { t with waiting := true }).sendEqd n l ((s.eqd n l : Int) - t.delta))) ∧
  (∀ (n : Fin 32) (l : Fin 512) (s : State),
    let t := s.term n l
    (!s.adjPend n l || t.waiting) = false →
    ¬ (t.sends ≤ 1) →
    s.termSt n l = 2 →
    exec (.pendTimeout n l) s = .next ((s.rngPlain n 8 l).rerange n l)) ∧
  (∀ (n : Fin 32) (l : Fin 512) (s : State),
    (s.termSt n l == 3 && !(s.term n l).leaving) = true →
    exec (.lostTimeout n l) s = .next (s.deactivate n l true)) ∧
  (∀ (n : Fin 32) (l : Fin 512) (s : State),
    (s.offF n l != (s.term n l).pubOff) = true →
    exec (.recordPublish n l) s = .next (s.publish n l))

/-- GNT_STREAM_COMMIT takes the held word 1; a change of a fixed field of an enabled or undrained stream, or an enable of
an undrained one, is counted and nothing is stored but that the held word is dropped; else both words are stored, and
a disable voids the stream's entries in open pages and drops its partial frame. SS_WINDOW_COMMIT stores both words
unless an enabled window would break the window rules. PAY, GNT_n_CFG and BRX_n_GUARD are stored when the port is idle
or the guarded field keeps its value (GUARD 0 as 1), and counted otherwise. (05_grant_scheduling.md, Grant streams;
05_grant_scheduling.md, Scheduled service; 05_grant_scheduling.md, Table 05.10.) -/
def Obligations.GrantTables : Prop :=
  (∀ (st : BitVec 16) (v : Word) (s : State),
    s.reaches (Reg.GNT_STR_w0 st.toNat) →
    let i := st.toNat
    let a0 := Reg.GNT_STR_w0 i
    let w1 : Word := s.heldWord .op 4 a0 1 &&& 0xFFF03FFF
    let old := s.rd (Reg.GNT_STR_w1 i)
    let t1 := s.dropHeld .op 4
    let fixed := (w1 ^^^ old) &&& 0x07F03FFF != 0
    let wasEn := old.getLsbD 31
    let en := w1.getLsbD 31
    ((fixed && (wasEn || !t1.strDrained i)) || (en && !wasEn && !t1.strDrained i)) = false →
    let t2 := ((t1.wr a0 (v &&& 0xFFFFF000)).wr (Reg.GNT_STR_w1 i) w1).tell 4 (strPort i) (Reg.GNT_STR_w1 i)
    (wasEn && !en) = false →
    exec (.gntStreamCommit st v) s = .next t2) ∧
  (∀ (st : BitVec 16) (v : Word) (s : State),
    s.reaches (Reg.GNT_STR_w0 st.toNat) →
    let i := st.toNat
    let a0 := Reg.GNT_STR_w0 i
    let w1 : Word := s.heldWord .op 4 a0 1 &&& 0xFFF03FFF
    let old := s.rd (Reg.GNT_STR_w1 i)
    let t1 := s.dropHeld .op 4
    let fixed := (w1 ^^^ old) &&& 0x07F03FFF != 0
    let wasEn := old.getLsbD 31
    let en := w1.getLsbD 31
    ((fixed && (wasEn || !t1.strDrained i)) || (en && !wasEn && !t1.strDrained i)) = false →
    let t2 := ((t1.wr a0 (v &&& 0xFFFFF000)).wr (Reg.GNT_STR_w1 i) w1).tell 4 (strPort i) (Reg.GNT_STR_w1 i)
    (wasEn && !en) = true →
    exec (.gntStreamCommit st v) s = .next ((t2.voidOpen i).dropPartial i)) ∧
  (∀ (st : BitVec 16) (v : Word) (s : State),
    s.reaches (Reg.GNT_STR_w0 st.toNat) →
    let i := st.toNat
    let a0 := Reg.GNT_STR_w0 i
    let w1 : Word := s.heldWord .op 4 a0 1 &&& 0xFFF03FFF
    let old := s.rd (Reg.GNT_STR_w1 i)
    let t1 := s.dropHeld .op 4
    let fixed := (w1 ^^^ old) &&& 0x07F03FFF != 0
    let wasEn := old.getLsbD 31
    let en := w1.getLsbD 31
    ((fixed && (wasEn || !t1.strDrained i)) || (en && !wasEn && !t1.strDrained i)) = true →
    exec (.gntStreamCommit st v) s = .next (t1.inc Reg.GNT_CNT_REFUSED)) ∧
  (∀ (w : Fin 2048) (v : Word) (s : State),
    s.reaches (Reg.GNT_SSW_w0 w) →
    let a0 := Reg.GNT_SSW_w0 w
    let w1 : Word := s.heldWord .op 4 a0 1 &&& 0xFFF8FFFF
    let t1 := s.dropHeld .op 4
    let s' := (t1.wr a0 v).wr (Reg.GNT_SSW_w1 w) w1
    (w1.getLsbD 31 && s'.windowBad w) = false →
    exec (.ssWindowCommit w v) s = .next (s')) ∧
  (∀ (w : Fin 2048) (v : Word) (s : State),
    s.reaches (Reg.GNT_SSW_w0 w) →
    let a0 := Reg.GNT_SSW_w0 w
    let w1 : Word := s.heldWord .op 4 a0 1 &&& 0xFFF8FFFF
    let t1 := s.dropHeld .op 4
    let s' := (t1.wr a0 v).wr (Reg.GNT_SSW_w1 w) w1
    (w1.getLsbD 31 && s'.windowBad w) = true →
    exec (.ssWindowCommit w v) s = .next (t1.inc Reg.GNT_CNT_REFUSED)) ∧
  (∀ (n : Fin 32) (f : PortCfg) (s : State),
    s.reaches (match f with | .pay k _ => Reg.GNT_n_PAY n k | .cfg _ => Reg.GNT_n_CFG n | .guard _ => Reg.BRX_GUARD n) →
    ∀ k v, f = .pay k v →
    let w := v.setWidth 32
    (w == s.rd (Reg.GNT_n_PAY n k) || (s.gntSees n).idlePort n) = true →
    exec (.gntPortCfgWrite n f) s = .next (s.wr (Reg.GNT_n_PAY n k) w)) ∧
  (∀ (n : Fin 32) (f : PortCfg) (s : State),
    s.reaches (match f with | .pay k _ => Reg.GNT_n_PAY n k | .cfg _ => Reg.GNT_n_CFG n | .guard _ => Reg.BRX_GUARD n) →
    ∀ k v, f = .pay k v →
    let w := v.setWidth 32
    (w == s.rd (Reg.GNT_n_PAY n k) || (s.gntSees n).idlePort n) = false →
    exec (.gntPortCfgWrite n f) s = .next (s.inc Reg.GNT_CNT_REFUSED)) ∧
  (∀ (n : Fin 32) (f : PortCfg) (s : State),
    s.reaches (match f with | .pay k _ => Reg.GNT_n_PAY n k | .cfg _ => Reg.GNT_n_CFG n | .guard _ => Reg.BRX_GUARD n) →
    ∀ v, f = .cfg v →
    let w := v &&& 0x0F03FF00
    (fldW w 15 8 == s.ovh n || (s.gntSees n).idlePort n) = true →
    exec (.gntPortCfgWrite n f) s = .next (s.wr (Reg.GNT_n_CFG n) w)) ∧
  (∀ (n : Fin 32) (f : PortCfg) (s : State),
    s.reaches (match f with | .pay k _ => Reg.GNT_n_PAY n k | .cfg _ => Reg.GNT_n_CFG n | .guard _ => Reg.BRX_GUARD n) →
    ∀ v, f = .cfg v →
    let w := v &&& 0x0F03FF00
    (fldW w 15 8 == s.ovh n || (s.gntSees n).idlePort n) = false →
    exec (.gntPortCfgWrite n f) s = .next (s.inc Reg.GNT_CNT_REFUSED)) ∧
  (∀ (n : Fin 32) (f : PortCfg) (s : State),
    s.reaches (match f with | .pay k _ => Reg.GNT_n_PAY n k | .cfg _ => Reg.GNT_n_CFG n | .guard _ => Reg.BRX_GUARD n) →
    ∀ v, f = .guard v →
    let w : Word := if v = 0 then 1 else v.setWidth 32
    (w == s.rd (Reg.BRX_GUARD n) || s.idlePort n) = true →
    exec (.gntPortCfgWrite n f) s = .next ((s.wr (Reg.BRX_GUARD n) w).tell 2 n (Reg.BRX_GUARD n))) ∧
  (∀ (n : Fin 32) (f : PortCfg) (s : State),
    s.reaches (match f with | .pay k _ => Reg.GNT_n_PAY n k | .cfg _ => Reg.GNT_n_CFG n | .guard _ => Reg.BRX_GUARD n) →
    ∀ v, f = .guard v →
    let w : Word := if v = 0 then 1 else v.setWidth 32
    (w == s.rd (Reg.BRX_GUARD n) || s.idlePort n) = false →
    exec (.gntPortCfgWrite n f) s = .next (s.inc (Reg.BRX_CNT_REFUSED n)))

/-- COALESCE_DRAIN moves the next full slot of a FIFO with a credit into it, marked as coalesced. REPORT_STALL_LIMIT
raises the fault of a FIFO whose read is stalled. MISSING_PAGE seals a page still open, as its policy says; a sealed
one is left alone. UDF_COUNTS_DELIVER sends GNT the counts of a page, every granted byte that UDF did not count as
lost-burst. LEDGER_CLOSE checks every stream of a sealed page, keeps its ranging grants and windows for BRX, and
releases the page. (05_grant_scheduling.md, Reports; 05_grant_scheduling.md, Seal, kind and demotion;
05_grant_scheduling.md, The grant-byte ledger.) -/
def Obligations.GrantReportsAndPages : Prop :=
  (∀ (m : Fin 8) (s : State),
    let f := s.fifo m
    ∀ st item, f.nextSlot = some (st, item) →
    f.credit = true →
    exec (.coalesceDrain m) s = .next (s.settleFifo m
      { f with hidden := f.hidden ++ [setBitW item 59 true], used := f.used + 1, slots := f.slots.drop st, lastSlot := some
                 st })) ∧
  (∀ (m : Fin 8) (s : State),
    ((s.fifo m).stalled.isSome) = true →
    exec (.reportStallLimit m) s = .next (s.raise 25 m)) ∧
  (∀ (n : Fin 32) (frame : BitVec 51) (s : State),
    ∀ g, s.page n frame.toNat = some g →
    g.sealed = false →
    exec (.missingPage n frame) s = .next (s.missPage n g)) ∧
  (∀ (n : Fin 32) (frame : BitVec 51) (s : State),
    ∀ g, (if s.up 6 then s.page n frame.toNat else none) = some g →
    let u := s.udf.port.look {} n
    let u' := { u with counts := u.counts.filter fun c => c.frame != frame.toNat }
    let t1 := { s with udf := { s.udf with port := s.udf.port.put {} n u' } }
    exec (.udfCountsDeliver n frame) s = .next (t1.cross 6 n (.counts frame.toNat (u.pageCounts g)))) ∧
  (∀ (n : Fin 32) (frame : BitVec 51) (s : State),
    ∀ g, s.page n frame.toNat = some g →
    g.sealed = true →
    let t1 := s.checkGrants { g with allLost := g.allLost || !s.up 6 } (g.counts.getD []) (grantsOf g.ents)
    let t2 := t1.keepSpans n g
    let p := t2.gport n
    exec (.ledgerClose n frame) s = .next (t2.setGport n { p with pages := p.pages.filter fun x => x.frame != g.frame }))

/-- A MICROCODE_LOAD whose base image is refused leaves its code in LOAD_ERR, if none stands there, and raises
MTN_F_IMAGE; MICROCODE_LOAD_DONE sets READY. ENGINE_RUN on a ready, bound, stopped engine makes it start at the next
tick, on one not ready or not bound it counts. ENGINE_STOP of a running engine stops it, in a stall or with a report
item held when that instruction ends. MTN_MBOX_WRITE binds rings of the right types while RUN is 0, else it counts.
The oldest PSEG, PLOAD or PREAD of a ring with no reason to refuse it stores the owner and clears the segment, stores
the instructions, or writes them to the host; each then completes with status 0. (06_marten_engines.md, The control
store; 06_marten_engines.md, Safe points, suspend and resume; 07_scheduler_instruction_set.md, Table 07.12.) -/
def Obligations.EnginePrograms : Prop :=
  (∀ (base : UcodeCheck) (ver : Word) (image : BaseWords) (patches : List UcodePatch) (s : State),
    (!s.up 4 || decide (s.rcp.phase < 9) || s.bit Reg.MTN_STATUS 0 || s.mtn.loading) = false →
    baseCode base ≠ 0 →
    exec (.microcodeLoad base ver image patches) s = .next (s.refuseBase (baseCode base))) ∧
  (∀ ver (image : BaseWords) patches s, s.up 4 = true → 9 ≤ s.rcp.phase → s.bit Reg.MTN_STATUS 0 = false → s.mtn.loading = false →
    storeCrc (imageStore image.words) ≠ image.crc →
    exec (.microcodeLoad .good ver image patches) s = .next ((s.writeStores (imageStore image.words)).refuseBase 5)) ∧
  (∀ ver image patches s, s.up 4 = true → 9 ≤ s.rcp.phase → s.bit Reg.MTN_STATUS 0 = false → s.mtn.loading = false →
    let t := (((s.writeStores (imageStore image)).wr Reg.MTN_UCODE_VER ver).setF Reg.MTN_STATUS 23 16 0).applyPatches ver
      (imageStore image) patches
    let u := (t.2.writeStores t.1).wr Reg.MTN_CS_CRC (storeCrc t.1)
    exec (.microcodeLoad .good ver ⟨storeCrc (imageStore image), image⟩ patches) s =
      .next { u with mtn := { u.mtn with loading := true } }) ∧
  (∀ (s : State),
    s.mtn.loading = true →
    exec .microcodeLoadDone s =
        .next (({ s with mtn := { s.mtn with loading := false } } : State).setB Reg.MTN_STATUS 0 true)) ∧
  (∀ (l : Fin 16) (v : Word) (s : State),
    s.reaches (Reg.MTN_L_CTRL l) →
    v.getLsbD 0 = true →
    (!s.bit Reg.MTN_STATUS 0 || !s.bound l) = false →
    let t1 := s.setF (Reg.MTN_L_CTRL l) 1 0 (fldW v 1 0)
    let e := t1.eng l
    (e.st == .stopped) = true →
    exec (.engineRun l v) s = .next (t1.setEng l { e with st := .starting })) ∧
  (∀ (l : Fin 16) (v : Word) (s : State),
    s.reaches (Reg.MTN_L_CTRL l) →
    v.getLsbD 0 = true →
    (!s.bit Reg.MTN_STATUS 0 || !s.bound l) = false →
    let t1 := s.setF (Reg.MTN_L_CTRL l) 1 0 (fldW v 1 0)
    let e := t1.eng l
    (e.st == .stopped) = false →
    exec (.engineRun l v) s = .next (t1.setEng l { e with stopping := false })) ∧
  (∀ (l : Fin 16) (v : Word) (s : State),
    s.reaches (Reg.MTN_L_CTRL l) →
    v.getLsbD 0 = true →
    (!s.bit Reg.MTN_STATUS 0 || !s.bound l) = true →
    exec (.engineRun l v) s = .next (s.inc Reg.MTN_CNT_REFUSED)) ∧
  (∀ (l : Fin 16) (v : Word) (s : State),
    s.reaches (Reg.MTN_L_CTRL l) →
    v.getLsbD 0 = false →
    let e := s.eng l
    let t1 := if e.st == .running || e.st == .stopped || e.st == .starting then s else s.waited l
    let t2 := if t1.stalls l || e.item.isSome then (t1.setB (Reg.MTN_L_CTRL l) 0 false).setEng l { e with stopping := true }
        else t1.engStop l
    exec (.engineStop l v) s = .next (t2.setB (Reg.MTN_L_CTRL l) 1 (v.getLsbD 1))) ∧
  (∀ (l : Fin 16) (v : Word) (s : State),
    s.reaches (Reg.MTN_L_MBOX l) →
    let ty := fun r => s.fld (Reg.HIF_RING r 0) 30 28
    let ok := !s.bit (Reg.MTN_L_CTRL l) 0 && (!v.getLsbD 31 || ty (fldW v 25 16) == 5) &&
      (!v.getLsbD 30 || ty (fldW v 9 0) == 6)
    ok = true →
    exec (.mtnMboxWrite l v) s = .next (s.wr (Reg.MTN_L_MBOX l) (v &&& 0xC3FF03FF))) ∧
  (∀ (l : Fin 16) (v : Word) (s : State),
    s.reaches (Reg.MTN_L_MBOX l) →
    let ty := fun r => s.fld (Reg.HIF_RING r 0) 30 28
    let ok := !s.bit (Reg.MTN_L_CTRL l) 0 && (!v.getLsbD 31 || ty (fldW v 25 16) == 5) &&
      (!v.getLsbD 30 || ty (fldW v 9 0) == 6)
    ok = false →
    exec (.mtnMboxWrite l v) s = .next (s.inc Reg.MTN_CNT_REFUSED)) ∧
  (∀ (r : Fin 1024) (s : State),
    ∀ d, s.cmdHead r 0x40 = some d →
    let l := progEng d
    let g := progSeg d
    s.bound l = true →
    (s.ringTenant r).isSome = false →
    ¬ (g = 0) →
    s.progRuns l = false →
    let e := s.eng l
    let own := if d.data.getLsbD 132 then fldW d.data 131 128 + 1 else 0
    let t1 := s.setEng l { e with owner := e.owner.put 0 g own, prog := e.prog.filter fun x => x.1 / 512 != g }
    exec (.pseg r) s = .next (t1.progDone d 0)) ∧
  (∀ (r : Fin 1024) (data : List Word64) (dmaOk : Bool) (s : State),
    ∀ d, s.cmdHead r 0x41 = some d →
    let l := progEng d
    let g := progSeg d
    let run := s.progRuns l
    let c := s.progCheck r d
    ¬ (c ≠ 0) →
    (run && g == 0) = false →
    ¬ (dmaOk && data.length ≠ descN d) →
    let t1 := s.dmaRead r (descHost d) (8 * descN d)
    dmaOk = true →
    run = false →
    exec (.pload r data dmaOk) s = .next ((t1.setEng l ((t1.eng l).load (512 * g + descAddr d) data)).progDone d 0)) ∧
  (∀ (r : Fin 1024) (data : List Word64) (dmaOk : Bool) (s : State),
    ∀ d, s.cmdHead r 0x41 = some d →
    let l := progEng d
    let g := progSeg d
    let run := s.progRuns l
    let c := s.progCheck r d
    ¬ (c ≠ 0) →
    (run && g == 0) = false →
    ¬ (dmaOk && data.length ≠ descN d) →
    let t1 := s.dmaRead r (descHost d) (8 * descN d)
    dmaOk = true →
    run = true →
    let e := t1.eng l
    exec (.pload r data dmaOk) s =
        .next ((t1.setEng l { e with held := e.held ++ [{ seg := g, off := descAddr d, words := data, desc := d }] }).cmdNext
        r)) ∧
  (∀ (r : Fin 1024) (dmaOk : Bool) (s : State),
    ∀ d, s.cmdHead r 0x42 = some d →
    let c := s.progCheck r d
    ¬ (c ≠ 0) →
    dmaOk = true →
    let e := s.eng (progEng d)
    let ws := (List.range (descN d)).map fun k => e.prog.look 0 (512 * progSeg d + descAddr d + k)
    exec (.pread r dmaOk) s = .next ((s.emit (.host (s.ringOwner r) (descHost d) (ws.flatMap wordBytes))).progDone d 0))

/-- A transient ENGINE_FAULT of a bound engine in execution is counted and raises MTN_F_TRANSIENT, its wasted slots being
free, and its instruction runs again; a lasting one retires the physical engine. MIGRATE_DONE of an engine that has a
spare chosen binds the spare, notes the repair of the retired engine and starts the program where RUN is 1.
EVENT_PENDING makes the event pending (a tick already pending is counted). EVENT_TAKE at an instruction boundary, no
spent call being open, enters the handler of the event of highest precedence. ENGINE_WAKE returns to M0.
(06_marten_engines.md, Engine faults; 06_marten_engines.md, Events at the engine; 06_marten_engines.md, Power states.) -/
def Obligations.EngineFaultsAndEvents : Prop :=
  (∀ (l : Fin 16) (fault : EngFault) (itemHeld : Bool) (s : State),
    let e := s.eng l
    (!s.bound l || e.st == .stopped || e.st == .starting) = false →
    ∀ cycles, s.faultCycles l fault.cause = some cycles →
    let p := s.phys l
    let t1 := s.inc (Reg.MTN_P_CNT_FAULT p)
    let t2 := t1.dispatch l
    let t3 := if itemHeld then t2.holdItem l else t2
    fault.lasting = false →
    let t4 := t3.setEng l { t3.eng l with rerun := some (t3.eng l).pc }
    exec (.engineFault l fault itemHeld) s =
        .next ((((t4.slots l 1 cycles).taken).inc (Reg.MTN_P_CNT_TRANSIENT p)).raise 20 p)) ∧
  (∀ (l : Fin 16) (fault : EngFault) (itemHeld : Bool) (s : State),
    let e := s.eng l
    (!s.bound l || e.st == .stopped || e.st == .starting) = false →
    ∀ cycles, s.faultCycles l fault.cause = some cycles →
    let p := s.phys l
    let t1 := s.inc (Reg.MTN_P_CNT_FAULT p)
    let t2 := t1.dispatch l
    let t3 := if itemHeld then t2.holdItem l else t2
    fault.lasting = true →
    exec (.engineFault l fault itemHeld) s = .next (t3.retire l)) ∧
  (∀ (l : Fin 16) (s : State) v, s.mtn.moving.look 0 l = v + 1 →
    let t : State := { s with mtn := { s.mtn with moving := s.mtn.moving.put 0 l 0 } }
    let u := ((t.bindEngine l (v % 32)).showSpares).applyLoads l
    exec (.migrateDone l false) s = .next (if u.bit (Reg.MTN_L_CTRL l) 0 then u.setEng l { u.eng l with st := .starting }
      else u) ∧
    exec (.migrateDone l true) s = .next ((u.setB Reg.MTN_STATUS 1 true).raise 23 (v % 32))) ∧
  (∀ (l : Fin 16) (ev : EngEvent) (s : State),
    s.up 4 = true →
    ∀ port blk code, ev = .fault port blk code →
    ¬ (s.fld (Reg.GNT_n_CFG port) 27 24 ≠ l.val) →
    let note : Word := BitVec.ofNat 32 (port.val + 2 ^ 8 * blk.val + 2 ^ 16 * code.toNat)
    exec (.eventPending l ev) s = .next ((s.setEng l { s.eng l with fnote := note }).engPend l 0)) ∧
  (∀ (l : Fin 16) (ev : EngEvent) (s : State),
    s.up 4 = true →
    ev = .tick →
    exec (.eventPending l ev) s = .next (s.engTick l s.sfc)) ∧
  (∀ (l : Fin 16) (ev : EngEvent) (s : State),
    s.up 4 = true →
    ev = .intr →
    exec (.eventPending l ev) s = .next (s.engPend l 2)) ∧
  (∀ (l : Fin 16) (safePoint : Option (BitVec 12)) (s : State),
    let e := s.eng l
    let stalled := s.stalls l
    let spent := e.tenantCode && e.call.any fun c => c.left == 0
    (!s.up 4 || !s.bound l || s.flt.fatal || stalled || e.item.isSome || spent || e.st == .stopped || e.st == .starting) =
        false →
    ∀ k, e.takeable = some k →
    safePoint = none →
    let s1 := if e.st == .running then s else (s.waited l).setPstate l 0
    exec (.eventTake l safePoint) s = .next (s1.setEng l (({ s1.eng l with st := .running } : Engine).takeEvent k e.pc))) ∧
  (∀ (l : Fin 16) (safePoint : Option (BitVec 12)) (s : State),
    let e := s.eng l
    let stalled := s.stalls l
    let spent := e.tenantCode && e.call.any fun c => c.left == 0
    (!s.up 4 || !s.bound l || s.flt.fatal || stalled || e.item.isSome || spent || e.st == .stopped || e.st == .starting) =
        false →
    ∀ k, e.takeable = some k →
    ∀ p, safePoint = some p →
    (e.st != .running || !s.bit (Reg.MTN_L_CTRL l) 1) = false →
    ∀ f, longFrame e = some f →
    ¬ (f.op ≠ 0x68 && f.op ≠ 0x79 && f.count.toNat < p.toNat) →
    let s1 := (((s.dispatch l).atSafePoint l p.toNat f).inc (Reg.MTN_L_CNT_SUSPEND l)).setSuspBit l true
    exec (.eventTake l safePoint) s = .next (s1.setEng l ((s1.eng l).takeEvent k e.pc))) ∧
  (∀ (l : Fin 16) s, exec (.engineWake l) s = .next (s.setPstate l 0))

/-- For an engine that runs the instruction at its program counter, with the fields marked zero being zero: ADD, SUB, AND,
OR, XOR, SHL, SHR, ASR, MIN, MAX and MUL give g[d] their result on g[a] and g[b] (shifts by the low six bits, MIN and
MAX signed, MUL the low 64 bits), with Z and N of it and C and V of ADD and SUB, in 2 cycles, MUL in 6, and go on at
the next address. At the last word of a segment each raises XSEG (code 3) in its place. G0 reads zero and takes no
write. (07_scheduler_instruction_set.md, Table 07.5; 07_scheduler_instruction_set.md, Arithmetic and logic;
07_scheduler_instruction_set.md, Table 07.1.) -/
def Obligations.SisRegisterArithmetic : Prop :=
  (∀ (e : Engine) v, e.get 0 = 0 ∧ e.put 0 v = e) ∧
  (∀ (l : Fin 16) s, let w := s.insn l
    zeroReg w = true → iAux w = 0 →
    (s.steps l 0x01 → exec (.sisAdd l) s =
      .next (s.aluDone l 2 (fun e => e.get (iA w) + e.get (iB w))
        (fun e => addC (e.get (iA w)) (e.get (iB w))) (fun e => addV (e.get (iA w)) (e.get (iB w))))) ∧
    (s.steps l 0x02 → exec (.sisSub l) s =
      .next (s.aluDone l 2 (fun e => e.get (iA w) - e.get (iB w))
        (fun e => subC (e.get (iA w)) (e.get (iB w))) (fun e => subV (e.get (iA w)) (e.get (iB w))))) ∧
    (s.steps l 0x03 → exec (.sisAnd l) s =
      .next (s.aluDone l 2 (fun e => e.get (iA w) &&& e.get (iB w))
        (fun _ => false) (fun _ => false))) ∧
    (s.steps l 0x04 → exec (.sisOr l) s =
      .next (s.aluDone l 2 (fun e => e.get (iA w) ||| e.get (iB w))
        (fun _ => false) (fun _ => false))) ∧
    (s.steps l 0x05 → exec (.sisXor l) s =
      .next (s.aluDone l 2 (fun e => e.get (iA w) ^^^ e.get (iB w))
        (fun _ => false) (fun _ => false))) ∧
    (s.steps l 0x06 → exec (.sisShl l) s =
      .next (s.aluDone l 2 (fun e => e.get (iA w) <<< ((e.get (iB w)).toNat % 64))
        (fun _ => false) (fun _ => false))) ∧
    (s.steps l 0x07 → exec (.sisShr l) s =
      .next (s.aluDone l 2 (fun e => e.get (iA w) >>> ((e.get (iB w)).toNat % 64))
        (fun _ => false) (fun _ => false))) ∧
    (s.steps l 0x08 → exec (.sisAsr l) s =
      .next (s.aluDone l 2 (fun e => (e.get (iA w)).sshiftRight ((e.get (iB w)).toNat % 64))
        (fun _ => false) (fun _ => false))) ∧
    (s.steps l 0x09 → exec (.sisMin l) s =
      .next (s.aluDone l 2 (fun e => if (e.get (iB w)).toInt < (e.get (iA w)).toInt then e.get (iB w) else e.get (iA w))
        (fun _ => false) (fun _ => false))) ∧
    (s.steps l 0x0A → exec (.sisMax l) s =
      .next (s.aluDone l 2 (fun e => if (e.get (iA w)).toInt < (e.get (iB w)).toInt then e.get (iB w) else e.get (iA w))
        (fun _ => false) (fun _ => false))) ∧
    (s.steps l 0x0B → exec (.sisMul l) s =
      .next (s.aluDone l 6 (fun e => e.get (iA w) * e.get (iB w))
        (fun _ => false) (fun _ => false)))) ∧
  (∀ (l : Fin 16) s, zeroReg (s.insn l) = true → iAux (s.insn l) = 0 →
    ∀ p ∈ ([(0x01, .sisAdd l), (0x02, .sisSub l), (0x03, .sisAnd l), (0x04, .sisOr l), (0x05, .sisXor l), (0x06, .sisShl l),
      (0x07, .sisShr l), (0x08, .sisAsr l), (0x09, .sisMin l), (0x0A, .sisMax l), (0x0B, .sisMul l)] : List (Nat × Instr)),
      s.runsLast l p.1 → exec p.2 s = .next ((s.dispatch l).sisExc l 3))

/-- For an engine that runs the instruction at its program counter, with the fields marked zero being zero: ADDI, ANDI,
ORI, XORI, MULI and LIH give g[d] their result on g[a] and the sign-extended IMM, SHLI, SHRI and ASRI a shift by IMM
below 64, LI the IMM; EXT takes w bits of g[a] from bit lo (w 0 meaning 64) and INS puts them into g[d]. Z and N
follow the result, C and V are those of ADDI and 0 otherwise, and the engine goes on at the next address; at the last
word of a segment each raises XSEG (code 3) in its place. (07_scheduler_instruction_set.md, Table 07.5;
07_scheduler_instruction_set.md, Arithmetic and logic.) -/
def Obligations.SisImmediateAndFieldArithmetic : Prop :=
  (∀ (l : Fin 16) s, let w := s.insn l
    zeroImm w = true →
    (s.steps l 0x21 → exec (.sisAddi l) s =
      .next (s.aluDone l 2 (fun e => e.get (iA w) + iImm w)
        (fun e => addC (e.get (iA w)) (iImm w)) (fun e => addV (e.get (iA w)) (iImm w)))) ∧
    (s.steps l 0x23 → exec (.sisAndi l) s =
      .next (s.aluDone l 2 (fun e => e.get (iA w) &&& iImm w)
        (fun _ => false) (fun _ => false))) ∧
    (s.steps l 0x24 → exec (.sisOri l) s =
      .next (s.aluDone l 2 (fun e => e.get (iA w) ||| iImm w)
        (fun _ => false) (fun _ => false))) ∧
    (s.steps l 0x25 → exec (.sisXori l) s =
      .next (s.aluDone l 2 (fun e => e.get (iA w) ^^^ iImm w)
        (fun _ => false) (fun _ => false))) ∧
    (s.steps l 0x2B → exec (.sisMuli l) s =
      .next (s.aluDone l 6 (fun e => e.get (iA w) * iImm w)
        (fun _ => false) (fun _ => false))) ∧
    (s.steps l 0x2F → exec (.sisLih l) s =
      .next (s.aluDone l 2 (fun e => (e.get (iA w) &&& 0xFFFFFFFF) ||| (iImm w <<< 32))
        (fun _ => false) (fun _ => false))) ∧
    (s.steps l 0x26 → fldW w 31 6 = 0 → exec (.sisShli l) s =
      .next (s.aluDone l 2 (fun e => e.get (iA w) <<< ((iImm w).toNat % 64))
        (fun _ => false) (fun _ => false))) ∧
    (s.steps l 0x27 → fldW w 31 6 = 0 → exec (.sisShri l) s =
      .next (s.aluDone l 2 (fun e => e.get (iA w) >>> ((iImm w).toNat % 64))
        (fun _ => false) (fun _ => false))) ∧
    (s.steps l 0x28 → fldW w 31 6 = 0 → exec (.sisAsri l) s =
      .next (s.aluDone l 2 (fun e => (e.get (iA w)).sshiftRight ((iImm w).toNat % 64))
        (fun _ => false) (fun _ => false))) ∧
    (s.steps l 0x2E → iA w = 0 → exec (.sisLi l) s =
      .next (s.aluDone l 2 (fun _ => iImm w)
        (fun _ => false) (fun _ => false)))) ∧
  (∀ (l : Fin 16) s, let w := s.insn l
    let n := if fldW w 11 6 = 0 then 64 else fldW w 11 6
    let m : Word64 := BitVec.ofNat 64 (2 ^ n - 1)
    zeroReg w = true → iB w = 0 → fldW w 15 12 = 0 →
    (s.steps l 0x0C → exec (.sisExt l) s =
      .next (s.aluDone l 3 (fun e => (e.get (iA w) >>> fldW w 5 0) &&& m) (fun _ => false) (fun _ => false))) ∧
    (s.steps l 0x0D → exec (.sisIns l) s =
      .next (s.aluDone l 3 (fun e => (e.get (iD w) &&& ~~~(m <<< fldW w 5 0)) ||| ((e.get (iA w) <<< fldW w 5 0) &&& (m <<< fldW w 5 0)))
        (fun _ => false) (fun _ => false)))) ∧
  (∀ (l : Fin 16) s, let w := s.insn l
    ∀ p ∈ ([(0x21, .sisAddi l), (0x23, .sisAndi l), (0x24, .sisOri l), (0x25, .sisXori l), (0x2B, .sisMuli l), (0x2F, .sisLih l),
      (0x26, .sisShli l), (0x27, .sisShri l), (0x28, .sisAsri l), (0x2E, .sisLi l)] : List (Nat × Instr)),
      s.runsLast l p.1 → zeroImm w = true → (p.1 ∈ [0x26, 0x27, 0x28] → fldW w 31 6 = 0) → (p.1 = 0x2E → iA w = 0) →
      exec p.2 s = .next ((s.dispatch l).sisExc l 3)) ∧
  (∀ (l : Fin 16) s, let w := s.insn l
    zeroReg w = true → iB w = 0 → fldW w 15 12 = 0 → ∀ p ∈ ([(0x0C, .sisExt l), (0x0D, .sisIns l)] : List (Nat × Instr)),
      s.runsLast l p.1 → exec p.2 s = .next ((s.dispatch l).sisExc l 3))

/-- For an engine that runs the instruction at its program counter, with the fields marked zero being zero: CB branches or
goes on by its condition, a reserved one raising XILL; CALL saves the return address and jumps; JR jumps to g[a]; a
target outside the segment raises XSEG. CALLX sets aside G16 to G31, notes the call and its budget and enters the
tenant segment, XSEG where that has no tenant; RETX ends the call with code 0 and is XILL outside tenant code; ERET
leaves the handler and is XILL outside one; HALT stops the engine; RDSYS reads and WRSYS writes a system register, XRO
for one that is read only. WAITFT discards a suspended frame, counted; with a tick pending it consumes it, one cycle
more for each instruction of the loads it applies, and else waits. In tenant code CALLX, ERET, HALT, WRSYS and RDSYS
of what tenants may not read raise XPRIV. A call whose budget is spent ends with code 0x0A.
(07_scheduler_instruction_set.md, Table 07.6; 07_scheduler_instruction_set.md, Tenant code;
07_scheduler_instruction_set.md, Table 07.2.) -/
def Obligations.SisControl : Prop :=
  (∀ (l : Fin 16) s, let w := s.insn l
    let t := s.dispatch l
    let e := t.eng l
    zeroReg w = true →
    (s.runs l 0x40 → cbCond (iD w) (e.get (iA w)) (e.get (iB w)) = some true → (e.pc + iOff w) / 512 = (e.pc : Int) / 512 →
      exec (.sisCb l) s = .next (t.sisEnd l e.pc (e.pc + iOff w).toNat 3 false)) ∧
    (s.steps l 0x40 → cbCond (iD w) (e.get (iA w)) (e.get (iB w)) = some false →
      exec (.sisCb l) s = .next (t.sisEnd l e.pc (e.pc + 1) 2 false)) ∧
    (s.runs l 0x40 → cbCond (iD w) (e.get (iA w)) (e.get (iB w)) = none → exec (.sisCb l) s = .next (t.sisExc l 1)) ∧
    (s.runs l 0x41 → iA w = 0 → iB w = 0 → (e.pc + iOff w) / 512 = (e.pc : Int) / 512 → exec (.sisCall l) s =
      .next ((t.setEng l (e.put (iD w) (BitVec.ofNat 64 (e.pc + 1)))).sisEnd l e.pc (e.pc + iOff w).toNat 3 false)) ∧
    (s.runs l 0x42 → iD w = 0 → iB w = 0 → iAux w = 0 → (e.get (iA w)).toNat % 4096 / 512 = e.pc / 512 →
      exec (.sisJr l) s = .next (t.sisEnd l e.pc ((e.get (iA w)).toNat % 4096) 3 false)) ∧
    ((e.pc + iOff w) / 512 ≠ (e.pc : Int) / 512 →
      (s.runs l 0x40 → cbCond (iD w) (e.get (iA w)) (e.get (iB w)) = some true → exec (.sisCb l) s = .next (t.sisExc l 3)) ∧
      (s.runs l 0x41 → iA w = 0 → iB w = 0 → exec (.sisCall l) s = .next (t.sisExc l 3))) ∧
    (s.runs l 0x42 → iD w = 0 → iB w = 0 → iAux w = 0 → (e.get (iA w)).toNat % 4096 / 512 ≠ e.pc / 512 →
      exec (.sisJr l) s = .next (t.sisExc l 3)) ∧
    (s.steps l 0x43 → e.tenantCode = false → e.ten = false → iAux w % 8 ≠ 0 → e.owner.look 0 (iAux w % 8) ≠ 0 →
      exec (.sisCallx l) s = .next ((t.setEng l (({ e with
        shadow := e.g.filter (fun x => decide (16 ≤ x.1)), g := e.g.filter (fun x => decide (x.1 < 16))
        call := some { ret := e.pc + 1, dst := iD w, last := 0, left :=
          if (e.get (iA w)).toNat % 2 ^ 24 = 0 then 2 ^ 24 else (e.get (iA w)).toNat % 2 ^ 24 } } : Engine).setFlag 7 true)).sisEnd l
        e.pc (512 * (iAux w % 8)) 24 false)) ∧
    (s.runs l 0x43 → e.tenantCode = false → e.ten = false → iAux w % 8 = 0 ∨ e.owner.look 0 (iAux w % 8) = 0 →
      exec (.sisCallx l) s = .next (t.sisExc l 3)) ∧
    (s.runs l 0x46 → e.tenantCode = false → exec (.sisHalt l) s = .next ((t.sisEnd l e.pc e.pc 2 false).engStop l)) ∧
    (s.steps l 0x48 → iAux w < 10 → (e.tenantCode = true → tenantSys (iAux w) = true) → exec (.sisRdsys l) s =
      .next ((t.setEng l (e.put (iD w) (BitVec.ofNat 64 (t.sysReg l e (iAux w))))).sisEnd l e.pc (e.pc + 1) 2 false)) ∧
    (s.steps l 0x49 → e.tenantCode = false → iAux w = 1 → exec (.sisWrsys l) s = .next ((t.setEng l
      { e with flags := setFldW e.flags 5 0 (e.get (iA w)).toNat }).sisEnd l e.pc (e.pc + 1) 3 false)) ∧
    (s.steps l 0x49 → e.tenantCode = false → iAux w = 2 → exec (.sisWrsys l) s = .next ((t.setEng l
      { e with emask := (e.get (iA w)).setWidth 3 }).sisEnd l e.pc (e.pc + 1) 3 false)) ∧
    (s.steps l 0x49 → e.tenantCode = false → iAux w = 3 → exec (.sisWrsys l) s = .next ((t.setEng l
      { e with epc := (e.get (iA w)).toNat % 4096 }).sisEnd l e.pc (e.pc + 1) 3 false)) ∧
    (s.runs l 0x49 → e.tenantCode = false → iAux w ∈ [0, 4, 5, 6, 7, 8, 9] → exec (.sisWrsys l) s = .next (t.sisExc l 6)) ∧
    (s.runs l 0x48 → iAux w < 10 → e.tenantCode = true → tenantSys (iAux w) = false →
      exec (.sisRdsys l) s = .next (t.sisExc l 2)) ∧
    (s.runs l 0x43 → e.tenantCode = true ∨ e.ten = true → exec (.sisCallx l) s = .next (t.sisExc l 2)) ∧
    (s.runs l 0x46 → e.tenantCode = true → exec (.sisHalt l) s = .next (t.sisExc l 2)) ∧
    (s.runs l 0x49 → iAux w < 10 → e.tenantCode = true → exec (.sisWrsys l) s = .next (t.sisExc l 2))) ∧
  (∀ (l : Fin 16) s, let w := s.insn l
    let t := s.dispatch l
    let u := if (t.eng l).susp.isSome then (((t.setEng l (t.eng l).dropSusp).someSlots l 1).setSuspBit l false).inc
      (Reg.MTN_L_CNT_SUSP_DISCARD l) else t
    let e := u.eng l
    let v := (u.setEng l (({ e with pend := setBitW e.pend 1 false } : Engine).setFlag 5 true)).applyLoads l
    s.steps l 0x4A → zeroReg w = true → iA w = 0 → iB w = 0 → iAux w = 0 → (t.eng l).tenantCode = false →
    (e.pend.getLsbD 1 = true → exec (.sisWaitft l) s =
      .next ((v.setEng l ((v.eng l).put (iD w) (BitVec.ofNat 64 (t.eng l).frame))).sisEnd l (t.eng l).pc ((t.eng l).pc + 1)
        (4 + ((t.eng l).held.map fun h => h.words.length).sum) false)) ∧
    (e.pend.getLsbD 1 = false → exec (.sisWaitft l) s = .next ((u.setEng l { e with st := .waitTick (iD w) }).setPstate
      l (u.engRest (some (u.knownEvent l)))))) ∧
  (∀ (l : Fin 16) s, let t := s.dispatch l
    let e := t.eng l
    let c := ({ e with call := e.call.map fun c => { c with last := e.pc } } : Engine).endCall 0
    fldW (s.insn l) 55 0 = 0 →
    (s.runs l 0x44 → e.tenantCode = true → exec (.sisRetx l) s = .next ((t.setEng l c).sisEnd l e.pc c.pc 20 false)) ∧
    (s.runs l 0x44 → e.tenantCode = false → exec (.sisRetx l) s = .next (t.sisExc l 1)) ∧
    (s.runs l 0x45 → e.tenantCode = false → e.evact = true → exec (.sisEret l) s =
      .next ((t.setEng l ((e.setFlag 6 false).leaveFor e.epc)).sisEnd l e.pc e.epc 4 false)) ∧
    (s.runs l 0x45 → e.tenantCode = true → exec (.sisEret l) s = .next (t.sisExc l 2)) ∧
    (s.runs l 0x45 → e.tenantCode = false → e.evact = false → exec (.sisEret l) s = .next (t.sisExc l 1))) ∧
  (∀ l s, ((s.eng l).call.any fun c => c.left == 0) = true →
    exec (.sisBudgetSpent l) s = .next (s.setEng l ((s.eng l).endCall 0x0A))) ∧
  (∀ l s, ((s.eng l).call.any fun c => c.left == 0) = false → exec (.sisBudgetSpent l) s = .next s)

/-- For an engine that runs the instruction at its program counter, with the fields marked zero being zero and an index
g[a] + DISP in its window and share: LDS and LDT read word w of a context, STS and STT write a word other than 0; an
index out of the window raises XWIN, one of the window but not of the share XSHARE. LDL reads a list entry and STL
writes one that is not locked. SORT puts its entries in rising or falling order; SCANS and SCANT gather the selected
contexts of a range into the list: from their frame, the first or the one of their suspension, they go on to the end.
(07_scheduler_instruction_set.md, Table 07.7; 07_scheduler_instruction_set.md, Contexts and lists.) -/
def Obligations.SisTables : Prop :=
  (∀ (l : Fin 16) s, let w := s.insn l
    let t := s.dispatch l
    let e := t.eng l
    let x := tblIndex e w
    zeroTbl w = true → iW w ≤ 3 →
    (s.steps l 0x60 → inWindow e false x = true → t.inShare e false x = true → exec (.sisLds l) s =
      .next ((t.setEng l (e.put (iD w) (t.streamWord x (iW w)))).sisEnd l e.pc (e.pc + 1) 8 false)) ∧
    (s.steps l 0x61 → inWindow e false x = true → t.inShare e false x = true → iW w ≠ 0 → exec (.sisSts l) s =
      .next ({ t with gnt := { t.gnt with spol := t.gnt.spol.put 0 (4 * x + iW w) (e.get (iD w)) } }.sisEnd l e.pc (e.pc + 1) 6 false)) ∧
    (s.steps l 0x62 → inWindow e true x = true → t.inShare e true x = true → exec (.sisLdt l) s =
      .next ((t.setEng l (e.put (iD w) (t.termWord x (iW w)))).sisEnd l e.pc (e.pc + 1) 8 false)) ∧
    (s.steps l 0x63 → inWindow e true x = true → t.inShare e true x = true → iW w ≠ 0 → exec (.sisStt l) s =
      .next ({ t with gnt := { t.gnt with tpol := t.gnt.tpol.put 0 (4 * x + iW w) (e.get (iD w)) } }.sisEnd l e.pc (e.pc + 1) 6 false)) ∧
    (s.steps l 0x64 → iW w = 0 → x ≤ 511 → exec (.sisLdl l) s =
      .next ((t.setEng l (e.put (iD w) (e.entry x))).sisEnd l e.pc (e.pc + 1) 3 false)) ∧
    (s.steps l 0x65 → iW w = 0 → x ≤ 511 → e.locked x = false → exec (.sisStl l) s =
      .next ((t.setEng l (e.setEntry x (e.get (iD w)))).sisEnd l e.pc (e.pc + 1) 3 false)) ∧
    (∀ p ∈ ([(0x60, false, .sisLds l), (0x61, false, .sisSts l), (0x62, true, .sisLdt l), (0x63, true, .sisStt l)] :
        List (Nat × Bool × Instr)), s.runs l p.1 →
      (inWindow e p.2.1 x = false → exec p.2.2 s = .next (t.sisExc l 4)) ∧
      (inWindow e p.2.1 x = true → t.inShare e p.2.1 x = false → exec p.2.2 s = .next (t.sisExc l 5)))) ∧
  (∀ (l : Fin 16) s u f susp, let w := s.insn l
    let t := s.dispatch l
    let e := t.eng l
    let n := f.count.toNat
    let again := e.resumes = some f ∧ u = t.resume l ∧ susp = true
    let first := fun (r : Susp ⊕ Nat) => e.resumes = none ∧ r = .inl f ∧ u = t ∧ susp = false
    let scan := fun term => u.scanFrom term f.mode (u.eng l) f.next
      ((List.range (n - f.seen)).map fun k => f.base.toNat + f.seen + k)
    (s.steps l 0x68 → again ∨ first (sortFrame e w) → exec (.sisSort l) s =
      .next ((u.setEng l ((u.eng l).setEntries f.base.toNat
        (if f.mode % 2 = 1 then (sorted f.entries).reverse else sorted f.entries))).sisEnd l e.pc (e.pc + 1)
        (if n ≤ 1 then 20 else 20 + 3 * n * clog2 n) susp)) ∧
    (s.steps l 0x69 → again ∨ first (scanFrame false e w) → exec (.sisScans l) s =
      .next ((u.setEng l (((scan false).1.setFlag 2 (scan false).2.2).put f.dst
        (BitVec.ofNat 64 ((scan false).2.1 - f.disp)))).sisEnd l e.pc (e.pc + 1) (12 + 2 * n) susp)) ∧
    (s.steps l 0x6A → again ∨ first (scanFrame true e w) → exec (.sisScant l) s =
      .next ((u.setEng l (((scan true).1.setFlag 2 (scan true).2.2).put f.dst
        (BitVec.ofNat 64 ((scan true).2.1 - f.disp)))).sisEnd l e.pc (e.pc + 1) (12 + 2 * n) susp)))

/-- For an engine that runs the instruction at its program counter, with the fields marked zero being zero and operator
code where that is needed: RDRPT of the engine's own FIFO takes the highest-ranked item, or the one that the engine
holds for a re-run, into g[d]; of an empty FIFO it stalls, counted once; of another engine's FIFO it raises XCONS, but
not in a stall or with an item held. RPTLV reads a level. MBS to a ring with room writes the four registers into the
next slot, status 0, and else answers status 1 (no room) or 2 (no such ring). MBR of a ring with a descriptor takes it
into four registers; with none it answers status 1 or, without AUX[0], waits. EMIT writes an entry into the open page,
and an entry with a reserved field raises XFMT; CALI writes its entry into the first gap found, from its frame or the
one of its suspension; SEAL closes the page and in tenant code raises XPRIV; each gives its status and P.
(07_scheduler_instruction_set.md, Table 07.8; 05_grant_scheduling.md, Calendar pages; 05_grant_scheduling.md,
Reports.) -/
def Obligations.SisPorts : Prop :=
  (∀ (l : Fin 16) s, let w := s.insn l
    let t := s.dispatch l
    let e := t.eng l
    let m := iAux w
    let f := t.fifo m
    let done := fun (u : State) (e' : Engine) c => (u.setEng l e').sisEnd l e.pc (e.pc + 1) c false
    zeroReg w = true →
    (s.steps l 0x70 → iA w = 0 → iB w = 0 → m < 8 → e.tenantCode = false →
        t.fld (Reg.GNT_RF_CFG m) 19 16 = l.val ∨ f.stalled = some l.val ∨ e.item.isSome = true →
      (∀ x, e.item = some x → exec (.sisRdrpt l) s = .next (done t (e.put (iD w) x) 10)) ∧
      (∀ x, e.item = none → bestItem f.items = some x →
        let v := if f.stalled = some l.val then ((t.waited l).setStalled l false).setPstate l 0 else t
        let u := v.settleFifo m { f with items := f.items.erase x, used := f.used - 1, stalled := none }
        exec (.sisRdrpt l) s = .next (done u ((u.eng l).put (iD w) x) 10)) ∧
      (e.item = none → bestItem f.items = none → f.stalled ≠ some l.val → exec (.sisRdrpt l) s =
        .next ((((t.setFifo m { f with stalled := some l.val }).inc (Reg.GNT_RF_CNT_STALL m)).setStalled l true).setPstate l
          (t.engRest none))) ∧
      (e.item = none → bestItem f.items = none → f.stalled = some l.val → exec (.sisRdrpt l) s = .next t)) ∧
    (s.runs l 0x70 → iA w = 0 → iB w = 0 → m < 8 → e.tenantCode = false → t.fld (Reg.GNT_RF_CFG m) 19 16 ≠ l.val →
        f.stalled ≠ some l.val → e.item = none →
      exec (.sisRdrpt l) s = .next (t.sisExc l 8)) ∧
    (s.steps l 0x71 → iA w = 0 → iB w = 0 → m < 8 → e.tenantCode = false →
      exec (.sisRptlv l) s = .next (done t (e.put (iD w) (BitVec.ofNat 64 f.items.length)) 6)) ∧
    (s.steps l 0x74 → iA w ≠ 0 → iA w ≤ 28 → e.tenantCode = false →
      ((t.txRing l = none ∨ ∃ r, t.txRing l = some r ∧ t.ringType r ≠ 6) →
        exec (.sisMbs l) s = .next (done t (e.status (iD w) 2) 20)) ∧
      ∀ r, t.txRing l = some r → t.ringType r = 6 →
        (t.ringRoom r 6 = false → exec (.sisMbs l) s = .next (done t (e.status (iD w) 1) 20)) ∧
        (t.ringRoom r 6 = true →
          let u := t.mailPut r ((e.get (iA w)).toNat + 2 ^ 64 * (e.get (iA w + 1)).toNat + 2 ^ 128 * (e.get (iA w + 2)).toNat +
            2 ^ 192 * (e.get (iA w + 3)).toNat) false
          exec (.sisMbs l) s = .next (done u ((u.eng l).status (iD w) 0) 20))) ∧
    (s.steps l 0x75 → iA w ≠ 0 → iA w ≤ 28 → iD w < iA w ∨ iA w + 3 < iD w → e.tenantCode = false → e.st = .running →
      ((t.rxRing l = none ∨ ∃ r, t.rxRing l = some r ∧ t.ringType r ≠ 5) →
        exec (.sisMbr l) s = .next (done t (e.status (iD w) 2) 20)) ∧
      ∀ r, t.rxRing l = some r → t.ringType r = 5 →
        (t.hif.fetched.find? (fun d => d.ring == r) = none →
          (m % 2 = 1 → exec (.sisMbr l) s = .next (done t (e.status (iD w) 1) 20)) ∧
          (m % 2 = 0 → exec (.sisMbr l) s = .next ((t.setEng l { e with st := .waitMail }).setPstate l
            (t.engRest none)))) ∧
        ∀ d, t.hif.fetched.find? (fun d => d.ring == r) = some d →
          let v := fun (k : Nat) => BitVec.ofNat 64 (d.data.toNat >>> (64 * k))
          exec (.sisMbr l) s = .next (done (t.complete d false 0 0)
            (((((e.put (iA w) (v 0)).put (iA w + 1) (v 1)).put (iA w + 2) (v 2)).put (iA w + 3) (v 3)).status (iD w) 0) 20))) ∧
  (∀ (l : Fin 16) s, let w := s.insn l
    let t := s.dispatch l
    let e := t.eng l
    let x := entOf (e.get (iD w))
    let p := e.get (iB w)
    let a := t.calWrite (strPort x.stream) (t.pageFrame (strPort x.stream) (fldW p 3 0)) (writerOf l e) x
    let b := t.sealBy (fldW p 12 8) (t.pageFrame (fldW p 12 8) (fldW p 3 0)) (fldW p 23 16) l
    zeroCal w = true →
    (s.steps l 0x78 → entOk (e.get (iD w)) = true →
      exec (.sisEmit l) s = .next ((a.2.setEng l (e.status (iA w) a.1)).sisEnd l e.pc (e.pc + 1) 14 false)) ∧
    (s.runs l 0x78 → entOk (e.get (iD w)) = false → exec (.sisEmit l) s = .next (t.sisExc l 9)) ∧
    (s.steps l 0x7A → iD w = 0 → e.tenantCode = false →
      exec (.sisSeal l) s = .next ((b.2.setEng l (e.status (iA w) b.1)).sisEnd l e.pc (e.pc + 1) 12 false)) ∧
    (s.runs l 0x7A → iD w = 0 → e.tenantCode = true → exec (.sisSeal l) s = .next (t.sisExc l 2))) ∧
  (∀ (l : Fin 16) s u f susp, let w := s.insn l
    let t := s.dispatch l
    let e := t.eng l
    let n := strPort (entOf f.ent).stream
    let frame := u.pageFrame n (fldW f.page 3 0)
    let x := u.caliEntry n frame f.ent
    let c := u.calWrite n frame (writerOf l (u.eng l)) x.1
    s.steps l 0x79 → (e.resumes = some f ∧ u = t.resume l ∧ susp = true) ∨
      (e.resumes = none ∧ caliFrame e w = .inl f ∧ u = t ∧ susp = false) →
    exec (.sisCali l) s = .next ((c.2.setEng l (((u.eng l).put (iD w) (setFldW f.ent 47 32 x.1.start)).status (iA w) c.1)).sisEnd l
      e.pc (e.pc + 1) (16 + 4 * x.2) susp)) ∧
  (∀ (l : Fin 16) s r d, let w := s.insn l
    let t := s.dispatch l
    let e : Engine := { t.eng l with st := .running }
    let v := fun (k : Nat) => BitVec.ofNat 64 (d.data.toNat >>> (64 * k))
    s.engReady l = true → (t.eng l).st = .waitMail → iOp w = 0x75 → zeroReg w = true → iA w ≠ 0 → iA w ≤ 28 →
    iD w < iA w ∨ iA w + 3 < iD w → e.tenantCode = false → (e.pc + 1) % 512 ≠ 0 →
    t.rxRing l = some r → t.ringType r = 5 → t.hif.fetched.find? (fun d => d.ring == r) = some d →
    exec (.sisMbr l) s = .next (((((t.waited l).setPstate l 0).complete d false 0 0).setEng l
      (((((e.put (iA w) (v 0)).put (iA w + 1) (v 1)).put (iA w + 2) (v 2)).put (iA w + 3) (v 3)).status (iD w) 0)).sisEnd l
      e.pc (e.pc + 1) 20 false))

/-- When the write reaches TSU: INC_COMMIT takes the held fraction and stores an increment from 6,865,075,726 to
6,878,819,621 units (during a slew, for the slew's end), and counts any other as refused; SLEW_START starts a slew of
the written number of ticks, unless one is in progress or its rate lies outside that range, which is counted;
SLEW_CANCEL ends a slew and restores the increment. SLEW_END moves the clock by the ticks that remain at the slew
rate, and ends the slew. Nothing else changes. When the write reaches TSU: STEP_GO is accepted while STEP_ARMED is 1
and no step is pending, makes a step pending and locks the SET registers, and is counted otherwise; REARM_WRITE of
0x5A after 0xA5 in time is logged as the clock then stands, sets STEP_ARMED and unlocks, of 0xA5 it starts a sequence
(a second one also counts), and any other value counts. The tick of STEP_APPLY gives a held shadow its increment. It
refuses a step back: nothing else but the pending step, the lock and the count changes. An accepted step loads SET
into the clock and clears STEP_ARMED, and the users of the clock see it. (17_time.md, The precision clock.) -/
def Obligations.TsuRateSlewAndStep : Prop :=
  (∀ v s, s.reaches Reg.TSU_INC_NS →
    let f := s.heldWord .op 16 Reg.TSU_INC_FRAC 0
    let i := fldW v 7 0 * 2 ^ 32 + f.toNat
    let r := s.dropHeld .op 16
    let w := (r.wr Reg.TSU_INC_FRAC f).setF Reg.TSU_INC_NS 7 0 (fldW v 7 0)
    exec (.incCommit v) s = .next (if decide (6865075726 ≤ i) && decide (i ≤ 6878819621) then
        if s.tsu.slew.isSome then { w with tsu := { s.tsu with stored := some i } }
        else { w with tsu := { s.tsu with inc := i } }
      else r.inc Reg.TSU_CNT_REFUSED)) ∧
  (∀ v s, s.reaches Reg.TSU_SLEW_TICKS →
    let i := s.fld Reg.TSU_SLEW_NS 7 0 * 2 ^ 32 + (s.rd Reg.TSU_SLEW_FRAC).toNat
    exec (.slewStart v) s = .next (if v = 0 then s
      else if s.tsu.slew.isSome || !incOk i then s.inc Reg.TSU_CNT_REFUSED
      else { (s.wr Reg.TSU_SLEW_TICKS v).setB Reg.TSU_STATUS 4 true with tsu := { s.tsu with slew := some i } })) ∧
  (∀ s, s.reaches Reg.TSU_SLEW_TICKS → exec .slewCancel s = .next (if s.tsu.slew.isSome then
      { (s.wr Reg.TSU_SLEW_TICKS 0).setB Reg.TSU_STATUS 4 false with
        tsu := { s.tsu with slew := none, inc := s.tsu.stored.getD s.tsu.inc, stored := none } }
    else s)) ∧
  (∀ s v, s.tsu.slew = some v →
    let u := (s.rd Reg.TSU_SLEW_TICKS).toNat * v
    let t := s.holdGain u
    exec .slewEnd s = .next ({ t with clk := clkOf (t.clk.units + u) } : State).endSlew) ∧
  (∀ s, s.reaches Reg.TSU_STEP → exec .stepGo s = .next (
    if s.bit Reg.TSU_STATUS 2 && !s.tsu.step then { s with tsu := { s.tsu with step := true, locked := true } }
    else s.inc Reg.TSU_CNT_REFUSED)) ∧
  (∀ v late s, s.reaches Reg.TSU_REARM →
    let s1 : State := { s with tsu := { s.tsu with key := false } }
    exec (.rearmWrite v late) s = .next (
      if v = 0x5A && (s.tsu.key && !late) then
        let s2 := (s1.ledgerLog 7 16 0 0).setB Reg.TSU_STATUS 2 true
        { s2 with tsu := { s2.tsu with locked := false } }
      else if v = 0xA5 then
        let s2 := if s.tsu.key then s1.inc Reg.TSU_CNT_REFUSED else s1
        { s2 with tsu := { s2.tsu with key := true } }
      else s1.inc Reg.TSU_CNT_REFUSED)) ∧
  (∀ s, s.tsuUp = true → s.tsu.step = true →
    let h := s.holdGain (s.tsu.slew.getD s.tsu.inc)
    h.setUnits < h.clk.units →
    exec .stepApply s = .next (({ h with tsu := { h.tsu with step := false, locked := false } } : State).inc Reg.TSU_CNT_REFUSED)) ∧
  (∀ s, s.tsuUp = true → s.tsu.step = true →
    let h := s.holdGain (s.tsu.slew.getD s.tsu.inc)
    ¬ h.setUnits < h.clk.units →
    let s1 : State := { h with tsu := { h.tsu with step := false }, clk := clkOf h.setUnits }
    exec .stepApply s = .next ((s1.setB Reg.TSU_STATUS 2 false).stepUsers h.aheadUnits h.clk))

/-- TSREF_LOSS sets REF_LOSS and raises TSU_F_REF; TS_PLL_UNLOCK clears PLL_LOCK and raises TSU_F_PLL, once;
CLK_TS_PLL_RELOCK sets PLL_LOCK; FRAME_TICK moves the clock to the next instant of the grid of 125 µs, and every block
takes part in the tick. While TSU is in reset its registers are left alone. (17_time.md, Fault sources;
08_downstream_framing.md, Frame tick and superframe counter.) -/
def Obligations.TsuReferenceAndFrameTick : Prop :=
  (∀ s, exec .tsrefLoss s = .next (if s.tsuUp then (s.setB Reg.TSU_STATUS 1 true).raise 42 0 else s)) ∧
  (∀ s, let t : State := { s with rcp := { s.rcp with tsPllLost := true } }
    exec .tsPllUnlock s = .next (if s.bit Reg.TSU_STATUS 0 then (t.setB Reg.TSU_STATUS 0 false).raise 43 0 else t)) ∧
  (∀ s, let t : State := { s with rcp := { s.rcp with tsPllLost := false } }
    exec .clkTsPllRelock s = .next (if s.tsuUp then t.setB Reg.TSU_STATUS 0 true else t)) ∧
  (∀ s, s.tsuUp = true →
    exec .frameTick s = .next (s.advanceTo (s.ftOffset + 125000 * (((s.now : Int) - s.ftOffset) / 125000 + 1) : Int).toNat).frameTick)

/-- COMPARE_TARGET_COMMIT stores the held low word and the written high byte as the unit's target, and marks the unit late
where it is already past. COMPARE_FIRE does nothing to a disabled unit or while TSU is in reset; else the clock is at
the target, or later, and the unit fires. A fire of a unit that is not periodic, routed to no engine and posts no
record stores the fire time, sets FIRED (LATE and STEPPED as marked) and clears EN. PPS_CONFIG_WRITE stores its value
unless PERIOD would be below 1,000 ns, or WIDTH or OFS not below PERIOD: then it is counted and the register is
unchanged. Of an enabled output, with TSU out of reset and no Fatal state, PPS_OUT_PULSE and CLK_OUT_EDGE give the
next edge, on the clock that the outputs follow, shifted by CMP, a PPS pulse with the WIDTH that its register holds
then; it goes out once the outputs are released. With TX_SYNC the bytes of the time-of-day FIFO go TX_DLY after an
edge of output 0. OUT_HOLD_SET starts a shadow equal to the clock and sets HOLDING, OUT_HOLD_CLEAR clears OUT_HOLD,
and HOLD_CONVERGED ends HOLDING. (17_time.md, Compare units; 17_time.md, Outputs and inputs; 20_faults.md, Table
20.3.) -/
def Obligations.TsuCompareUnitsAndOutputs : Prop :=
  (∀ k v s, s.reaches (Reg.TSU_CMP_TGT_HI k) →
    let lo := s.heldWord .op 16 (Reg.TSU_CMP_TGT_LO k) 0
    let t := ((s.dropHeld .op 16).wr (Reg.TSU_CMP_TGT_LO k) lo).setF (Reg.TSU_CMP_TGT_HI k) 7 0 (fldW v 7 0)
    exec (.compareTargetCommit k v) s = .next { t with tsu := { s.tsu with
      late := setBitW s.tsu.late k (t.past40 (t.cmpTarget k)), stepped := setBitW s.tsu.stepped k false } }) ∧
  (∀ (k : Fin 16) s, exec (.compareFire k) s = .next (
    if !s.tsuUp || !s.bit (Reg.TSU_CMP_CTRL k) 31 then s
    else (if s.past40 (s.cmpTarget k) then s
      else s.advanceTo (s.now + (s.cmpTarget k + 2 ^ 40 - s.now40) % 2 ^ 40)).fireUnit k)) ∧
  (∀ (k : Fin 16) s, s.tsuUp = true → s.bit (Reg.TSU_CMP_CTRL k) 31 = true → s.past40 (s.cmpTarget k) = true →
    s.bit (Reg.TSU_CMP_CTRL k) 30 = false → s.bit (Reg.TSU_CMP_CTRL k) 29 = false → s.bit (Reg.TSU_CMP_CTRL k) 28 = false →
    let c := setBitW (s.rd (Reg.TSU_CMP_CTRL k)) 1 true
    let c := if s.tsu.late.getLsbD k then setBitW c 3 true else c
    let c := if s.tsu.stepped.getLsbD k then setBitW c 2 true else c
    let t := (s.wr (Reg.TSU_CMP_FIRE_LO k) (wordOf s.now40 0)).setF (Reg.TSU_CMP_FIRE_HI k) 7 0 (s.now40 / 2 ^ 32)
    let t := t.wr (Reg.TSU_CMP_CTRL k) c
    exec (.compareFire k) s = .next (({ t with tsu := { s.tsu with
      late := setBitW s.tsu.late k false, stepped := setBitW s.tsu.stepped k false } } : State).setB (Reg.TSU_CMP_CTRL k) 31 false)) ∧
  (∀ o v s, s.reaches (Reg.TSU_PPO_PERIOD o) →
    let t := s.wr (Reg.TSU_PPO_PERIOD o) v
    let p := (t.rd (Reg.TSU_PPO_PERIOD o)).toNat
    exec (.ppsConfigWrite o .period v) s = .next (
      if p < 1000 || p ≤ (t.rd (Reg.TSU_PPO_WIDTH o)).toNat || p ≤ (t.rd (Reg.TSU_PPO_OFS o)).toNat then s.inc Reg.TSU_CNT_REFUSED
      else if s.bit (Reg.TSU_PPO_CTRL o) 31 then t else t.ppsTake o)) ∧
  (∀ o v s, s.reaches (Reg.TSU_PPO_WIDTH o) →
    let t := s.wr (Reg.TSU_PPO_WIDTH o) v
    let p := (t.rd (Reg.TSU_PPO_PERIOD o)).toNat
    exec (.ppsConfigWrite o .width v) s = .next (
      if p < 1000 || p ≤ (t.rd (Reg.TSU_PPO_WIDTH o)).toNat || p ≤ (t.rd (Reg.TSU_PPO_OFS o)).toNat then s.inc Reg.TSU_CNT_REFUSED
      else if s.bit (Reg.TSU_PPO_CTRL o) 31 then t else t.ppsTake o)) ∧
  (∀ o v s, s.reaches (Reg.TSU_PPO_OFS o) →
    let t := s.wr (Reg.TSU_PPO_OFS o) v
    let p := (t.rd (Reg.TSU_PPO_PERIOD o)).toNat
    exec (.ppsConfigWrite o .offset v) s = .next (
      if p < 1000 || p ≤ (t.rd (Reg.TSU_PPO_WIDTH o)).toNat || p ≤ (t.rd (Reg.TSU_PPO_OFS o)).toNat then s.inc Reg.TSU_CNT_REFUSED
      else if s.bit (Reg.TSU_PPO_CTRL o) 31 then t else t.ppsTake o)) ∧
  (∀ (o : Fin 2) s, s.tsuUp = true → s.flt.fatal = false → s.bit (Reg.TSU_PPO_CTRL o) 31 = true →
    let p := (s.tsu.pps.look ppsReset o).1
    let x := (s.tsu.pps.look ppsReset o).2.2
    let w := (s.rd (Reg.TSU_PPO_WIDTH o)).toNat
    let c := s.outClk.ns.toNat
    let t := c + p - (c + p - x) % p
    let r := (s.advanceTo (s.now + (t - c))).drive (.pps o t w (s.rdInt (Reg.TSU_PPO_CMP o)))
    let q := ({ r with tsu := { r.tsu with ppsFall := r.tsu.ppsFall.put 0 o (t + w) } } : State).ppsTake o
    exec (.ppsOutPulse o) s = .next (
      if o = 0 ∧ q.bit Reg.TSU_TOD_CTRL 31 = true ∧ q.bit Reg.TSU_TOD_CTRL 30 = true ∧ q.tsu.tx ≠ [] then
        q.todSend (q.fld Reg.TSU_TOD_CTRL 29 16)
      else q)) ∧
  (∀ (s : State) d, s.outRel = true → s.todSend d =
    { s with tsu := { s.tsu with tx := [] }, outs := s.outs ++ [.tod s.tsu.tx d (s.fld Reg.TSU_TOD_CTRL 15 0)] }) ∧
  (∀ (s : State) o, s.outRel = true → s.drive o = { s with outs := s.outs ++ [o] }) ∧
  (∀ (s : State) o, s.outRel = false → s.drive o = s) ∧
  (∀ o rise s, s.tsuUp = true → s.flt.fatal = false → s.bit (Reg.TSU_CKO_CTRL o) 31 = true →
    let p := s.ckoPeriod o
    let c := s.outClk.units / 65536
    let x := 65536 * (s.rd (Reg.TSU_CKO_OFS o)).toNat + (if rise then 0 else p / 2)
    let t := c + p - (c + p * (x / p + 1) - x) % p
    let r := (s.advanceTo (s.now + (t / 65536 - c / 65536))).drive (.clkOut o rise t (s.rdInt (Reg.TSU_CKO_CMP o)))
    exec (.clkOutEdge o rise) s = .next { r with tsu := { r.tsu with ckoHigh := setBitW r.tsu.ckoHigh o rise } }) ∧
  (∀ s, s.reaches Reg.TSU_CTRL → exec .outHoldSet s = .next (if s.bit Reg.TSU_CTRL 1 then s
    else { (s.setB Reg.TSU_CTRL 1 true).setB Reg.TSU_STATUS 3 true with tsu := { s.tsu with hold := s.clk, holdInc := s.tsu.inc } })) ∧
  (∀ s, s.reaches Reg.TSU_CTRL → exec .outHoldClear s = .next (s.setB Reg.TSU_CTRL 1 false).holdMet) ∧
  (∀ s, s.bit Reg.TSU_CTRL 1 = false → s.bit Reg.TSU_STATUS 3 = true →
    exec .holdConverged s = .next (({ s with tsu := { s.tsu with hold := s.clk } } : State).setB Reg.TSU_STATUS 3 false))

/-- PPS_IN_CAPTURE of a disabled input does nothing; an edge of an enabled one less than 1 µs after the last captured one
is counted as a glitch; another, with VALID 0 and EV 0, is stored with CMP added and sets VALID. TOD_TX_WRITE and
TOD_RX_BYTE add a byte to a FIFO of 256, or count it as refused when the FIFO is full. MATE_TIME_SEND sends a TIME
block with its sequence number and stamps and remembers 16 stamps; a received block whose echo is none of them changes
only the queue and the echo. TOD_PERIOD_START moves the clock to the next instant of the period grid, counts the
messages that wait or are on their way as skipped, and in STANDARD mode sends DFR the one of the new period.
(17_time.md, Outputs and inputs; 17_time.md, Mate time exchange; 17_time.md, Terminal time transfer.) -/
def Obligations.TsuInputsAndMateTime : Prop :=
  (∀ i ns frac s, s.bit (Reg.TSU_PPI_CTRL i) 31 = false → exec (.ppsInCapture i ns frac) s = .next s) ∧
  (∀ (i : Fin 2) ns frac s, s.tsuUp = true → s.bit (Reg.TSU_PPI_CTRL i) 31 = true →
    let t := s.advanceTo ns.toNat
    let edge : Int := (65536 * ns.toNat + frac.toNat : Nat)
    (∀ last, t.tsu.ppsIn.look none i = some last → last + 65536000 ≤ edge) → t.bit (Reg.TSU_PPI_CTRL i) 0 = false →
    let u : Int := edge + t.rdInt (Reg.TSU_PPI_CMP i) * 65536 / 1000
    let c := wrapN 80 u
    let w := (t.setF (Reg.TSU_PPI_CAP_FRAC i) 15 0 c).wr (Reg.TSU_PPI_CAP_LO i) (wordOf (c / 65536) 0)
    let w := (w.wr (Reg.TSU_PPI_CAP_HI i) (wordOf (c / 65536) 1)).setB (Reg.TSU_PPI_CTRL i) 0 true
    w.bit (Reg.TSU_PPI_CTRL i) 29 = false →
    exec (.ppsInCapture i ns frac) s = .next { w with tsu := { w.tsu with ppsIn := w.tsu.ppsIn.put none i (some edge) } }) ∧
  (∀ (i : Fin 2) ns frac s, s.tsuUp = true → s.bit (Reg.TSU_PPI_CTRL i) 31 = true →
    let t := s.advanceTo ns.toNat
    ∀ last, t.tsu.ppsIn.look none i = some last → ((65536 * ns.toNat + frac.toNat : Nat) : Int) < last + 65536000 →
    exec (.ppsInCapture i ns frac) s = .next (t.inc (Reg.TSU_PPI_CNT_GLITCH i))) ∧
  (∀ b s, s.reaches Reg.TSU_TOD_TX → exec (.todTxWrite b) s = .next (
    if 256 ≤ s.tsu.tx.length then s.inc Reg.TSU_CNT_REFUSED
    else ({ s with tsu := { s.tsu with tx := s.tsu.tx ++ [b] } } : State).todFlush)) ∧
  (∀ b s, s.tsuUp = true → s.bit Reg.TSU_TOD_CTRL 31 = true → exec (.todRxByte b false) s = .next (
    if 256 ≤ s.tsu.rx.length then s.inc Reg.TSU_CNT_REFUSED else { s with tsu := { s.tsu with rx := s.tsu.rx ++ [b] } })) ∧
  (∀ b s, s.tsuUp = true → s.bit Reg.TSU_TOD_CTRL 31 = true →
    let t := (s.wr Reg.TSU_TOD_RXSTAMP_LO (wordOf s.now 0)).wr Reg.TSU_TOD_RXSTAMP_HI (wordOf s.now 1)
    exec (.todRxByte b true) s = .next (
      if 256 ≤ s.tsu.rx.length then t.inc Reg.TSU_CNT_REFUSED else { t with tsu := { s.tsu with rx := s.tsu.rx ++ [b] } })) ∧
  (∀ s, s.bit Reg.TSU_MATE_CTRL 31 = true → s.mateState = 2 →
    let t := stamp8 s.clk.units (s.rdInt Reg.MLK_TX_CMP)
    let u := s.sendControl ([1, BitVec.ofNat 8 s.tsu.seq] ++ bytesBE 9 t ++ bytesBE 9 s.tsu.echo.1 ++ bytesBE 9 s.tsu.echo.2)
    exec .mateTimeSend s = .next { u with tsu := { u.tsu with
      seq := (u.tsu.seq + 1) % 256, sent := (u.tsu.sent ++ [t]).drop ((u.tsu.sent ++ [t]).length - 16) } }) ∧
  (∀ s d ns frac, s.mlk.control.find? (fun c => c.1.head? == some 1) = some (d, ns, frac) →
    s.tsu.sent.contains (joinBytesBE ((d.drop 11).take 9)) = false →
    exec .mateTimeReceive s = .next { s with
      mlk := { s.mlk with control := s.mlk.control.erase (d, ns, frac) }
      tsu := { s.tsu with echo := (joinBytesBE ((d.drop 2).take 9), stamp8 (ns * 2 ^ 32 + frac) (s.rdInt Reg.MLK_RX_CMP)) } }) ∧
  (∀ s d ns frac, s.mlk.control.find? (fun c => c.1.head? == some 1) = some (d, ns, frac) →
    let t1 := joinBytesBE ((d.drop 11).take 9)
    let t2 := joinBytesBE ((d.drop 20).take 9)
    let t3 := joinBytesBE ((d.drop 2).take 9)
    let t4 := stamp8 (ns * 2 ^ 32 + frac) (s.rdInt Reg.MLK_RX_CMP)
    s.tsu.sent.contains t1 = true →
    let t : State := { s with mlk := { s.mlk with control := s.mlk.control.erase (d, ns, frac) }, tsu := { s.tsu with echo := (t3, t4) } }
    exec .mateTimeReceive s = .next (((t.wr Reg.TSU_MATE_OFS
      (BitVec.ofInt 32 (satSigned 32 ((((t2 : Int) - t1) - ((t4 : Int) - t3)) * 1000 / 512)))).wr Reg.TSU_MATE_DLY
      (BitVec.ofInt 32 (satSigned 32 ((((t4 : Int) - t1) - ((t3 : Int) - t2)) * 1000 / 512)))).setB Reg.TSU_MATE_CTRL 16 true)) ∧
  (∀ n s, s.tsuUp = true → s.fld (Reg.TSU_n_TOD_CTRL n) 31 30 = 1 →
    let p := 1000000 * s.fld (Reg.TSU_n_TOD_CTRL n) 15 0
    let t := s.advanceTo (s.now + p - s.now % p)
    let c := t.crossing (32 * 7 + n)
    let u := (t.incN (Reg.TSU_n_CNT_SKIP n) ((t.dport n).tods.length + c.items.length + c.wait.length)).emptyQueue 7 n
    exec (.todPeriodStart n) s = .next ((u.setDport n { t.dport n with tods := [] }).cross 7 n (.tod (1, none))))

/-- When the write reaches DFR: SFC_LOAD and FT_OFFSET_WRITE are counted as refused while any port runs, and an offset
above 124,999 ns always; an accepted SFC_LOAD stores the control register with SFC_LOAD = 1 and makes a load pending
for the next tick. HOLD_BEGIN and HOLD_END store the other fields of the port's control register with HOLD 1 and 0.
HOLD_EXPIRE acts once in a hold, on a port whose hold has lasted HOLD_MAX frames: it sets the hold bit of the port's
status and raises fault 31, DFR_F_HOLD. PROFILE_ANNOUNCE announces the profiles of a port that runs; on another it
does nothing. (08_downstream_framing.md, Frame tick and superframe counter; 08_downstream_framing.md, Protection
hold.) -/
def Obligations.DfrSettingsAndHolds : Prop :=
  (∀ (v : Word) (s : State),
    s.reaches Reg.DFR_CTRL →
    s.anyRun = false →
    let t1 := (s.wr Reg.DFR_CTRL (fitWord Reg.DFR_CTRL (s.rd Reg.DFR_CTRL) v)).setB Reg.DFR_CTRL 0 true
    exec (.sfcLoad v) s = .next { t1 with dfr := { t1.dfr with load := true } }) ∧
  (∀ (v : Word) (s : State),
    s.reaches Reg.DFR_CTRL →
    s.anyRun = true →
    exec (.sfcLoad v) s = .next (s.inc Reg.DFR_CNT_REFUSED)) ∧
  (∀ (v : Word) (s : State),
    s.reaches Reg.DFR_FT_OFFSET →
    (s.anyRun || decide (124999 < fldW v 16 0)) = false →
    exec (.ftOffsetWrite v) s = .next (s.setF Reg.DFR_FT_OFFSET 16 0 (fldW v 16 0))) ∧
  (∀ (v : Word) (s : State),
    s.reaches Reg.DFR_FT_OFFSET →
    (s.anyRun || decide (124999 < fldW v 16 0)) = true →
    exec (.ftOffsetWrite v) s = .next (s.inc Reg.DFR_CNT_REFUSED)) ∧
  (∀ (n : Fin 32) (v : Word) s, s.reaches (Reg.DFR_n_CTRL n) →
    exec (.holdBegin n v) s = (
      let a := Reg.DFR_n_CTRL n
      .next (s.wr a (setBitW (fitWord a (s.rd a) v) 31 true)) : Res)) ∧
  (∀ (n : Fin 32) (v : Word) s, s.reaches (Reg.DFR_n_CTRL n) →
    exec (.holdEnd n v) s = (
      let a := Reg.DFR_n_CTRL n
      .next (s.wr a (setBitW (fitWord a (s.rd a) v) 31 false)) : Res)) ∧
  (∀ (n : Fin 32) (s : State),
    let p := s.dport n
    (s.holding n && decide (s.fld (Reg.DFR_n_CTRL n) 19 14 ≤ p.held) && !p.expired) = true →
    exec (.holdExpire n) s = .next (((s.setB (Reg.DFR_n_STATUS n) 2 true).raise 31 n).setDport n { p with expired := true })) ∧
  (∀ (n : Fin 32) (s : State),
    let p := s.dport n
    (s.holding n && decide (s.fld (Reg.DFR_n_CTRL n) 19 14 ≤ p.held) && !p.expired) = false →
    exec (.holdExpire n) s = .next s) ∧
  (∀ (n : Fin 32) (s : State),
    s.dfrRun n = true →
    exec (.profileAnnounce n) s = .next (s.announceAll n)) ∧
  (∀ (n : Fin 32) (s : State),
    s.dfrRun n = false →
    exec (.profileAnnounce n) s = .next s)

/-- MAP_READ on a port whose transmitter is off does nothing; with no page for the frame the map is empty; with a page
that is not final, or one that cannot be read, it is empty and counted, but for a frame in a hold; a final page read
without error gives the frame's map. LINE_FRAME_START on a port that does not run does nothing; on a port being shut
it ends framing; else it stamps the frame and its phase against its tick, samples the PMA setting, announces the
profiles before the first frame, takes the next number modulo 2^51 and sends the frame. (08_downstream_framing.md,
Bandwidth map; 08_downstream_framing.md, Frame tick and superframe counter; 08_downstream_framing.md, Table 08.1;
02_tree_ports.md, Table 02.6.) -/
def Obligations.DfrFramesAndMaps : Prop :=
  (∀ (n : Fin 32) (frame : BitVec 51) (unc : Bool) (s : State),
    let f := frame.toNat
    let final? := (s.page n f).filter fun g => g.st == .final
    let map := if unc then none else final?.map s.mapOf
    s.txen n = true →
    exec (.mapRead n frame unc) s =
        .next (s.setDport n { s.dport n with read := some (f, map), readFinal := final?.map (·.frame) })) ∧
  (∀ (n : Fin 32) (frame : BitVec 51) (unc : Bool) (s : State),
    s.txen n = false →
    exec (.mapRead n frame unc) s = .next s) ∧
  (∀ (n : Fin 32) (phase : Int) (s : State),
    (!s.dfrRun n || !s.txen n) = true →
    exec (.lineFrameStart n phase) s = .next s) ∧
  (∀ (n : Fin 32) (phase : Int) (s : State),
    (!s.dfrRun n || !s.txen n) = false →
    (s.tport n).shutting = true →
    exec (.lineFrameStart n phase) s = .next (s.stopDisabled n)) ∧
  (∀ (n : Fin 32) (phase : Int) (s : State),
    (!s.dfrRun n || !s.txen n) = false →
    (s.tport n).shutting = false →
    let p := s.dport n
    let f := p.next
    let t1 := s.stampFrame n f (s.ftAt f) phase
    let t2 := t1.setTport n { t1.tport n with pma := t1.rd (Reg.TPA_PMA n) &&& 0x3FFF }
    let t3 := if p.first then t2.announceAll n else t2
    let t4 := t3.setDport n { t3.dport n with next := (f + 1) % 2 ^ 51, first := false }
    exec (.lineFrameStart n phase) s = .next (t4.buildFrame n f))

/-- CODEWORD_DECODE of a burst that UDF does not hold, past its last codeword, or with bytes of another length than the
codeword's, changes nothing. Else the codeword is counted: for a correctable one its bytes pass over the burst's plan,
and for an uncorrectable one the burst becomes bad and loses the bytes of the codeword. BURST_TRUNCATION before the
last planned codeword has ended counts one uncorrectable codeword for port and terminal and one truncation, marks the
terminal's second defective and loses every byte that is left. REASM_TIMEOUT drops the partial frame of a stream whose
last fragment lies more frames back than REASM_TO, with no allocation of it in a burst on its way; else it does
nothing. (09_upstream_deframing.md, Decoding; 09_upstream_deframing.md, Reassembly across bursts;
09_upstream_deframing.md, Statistics per terminal.) -/
def Obligations.UdfCodewordsAndReassembly : Prop :=
  (∀ (n : Fin 32) (frame : BitVec 51) (k : Fin 512) (need : Option (Fin 16)) (corrBits : BitVec 16) (data : List Byte) (fails
      : List Nat) (rngMsg : Bool) (s : State),
    s.burst? n frame.toNat k = none →
    exec (.codewordDecode n frame k need corrBits data fails rngMsg) s = .next s) ∧
  (∀ (n : Fin 32) (frame : BitVec 51) (k : Fin 512) (need : Option (Fin 16)) (corrBits : BitVec 16) (data : List Byte) (fails
      : List Nat) (rngMsg : Bool) (s : State),
    ∀ u, s.burst? n frame.toNat k = some u →
    let ok := s.correctable n need
    let size := min (s.cwInfo n) (u.len - u.pos)
    (size = 0 || (ok && data.length != size)) →
    exec (.codewordDecode n frame k need corrBits data fails rngMsg) s = .next s) ∧
  (∀ (n : Fin 32) (frame : BitVec 51) (k : Fin 512) (need : Option (Fin 16)) (corrBits : BitVec 16) (data : List Byte) (fails
      : List Nat) (rngMsg : Bool) (s : State),
    ∀ u, s.burst? n frame.toNat k = some u →
    let ok := s.correctable n need
    let size := min (s.cwInfo n) (u.len - u.pos)
    ¬ (size = 0 || (ok && data.length != size)) →
    let t1 := s.countCw n (512 * n + u.loc) ok corrBits.toNat
    ok = true →
    let (t2, u) := t1.udfBytes n u fails rngMsg data
    exec (.codewordDecode n frame k need corrBits data fails rngMsg) s = .next (t2.setBurst n u)) ∧
  (∀ (n : Fin 32) (frame : BitVec 51) (k : Fin 512) (need : Option (Fin 16)) (corrBits : BitVec 16) (data : List Byte) (fails
      : List Nat) (rngMsg : Bool) (s : State),
    ∀ u, s.burst? n frame.toNat k = some u →
    let ok := s.correctable n need
    let size := min (s.cwInfo n) (u.len - u.pos)
    ¬ (size = 0 || (ok && data.length != size)) →
    let t1 := s.countCw n (512 * n + u.loc) ok corrBits.toNat
    ok = false →
    let (t2, u) := (t1.markBad n u).udfLose n { u with bad := true, uncorr := u.uncorr + 1 } size
    exec (.codewordDecode n frame k need corrBits data fails rngMsg) s = .next (t2.setBurst n u)) ∧
  (∀ (n : Fin 32) (frame : BitVec 51) (k : Fin 512) (s : State),
    s.burst? n frame.toNat k = none →
    exec (.burstTruncation n frame k) s = .next s) ∧
  (∀ (n : Fin 32) (frame : BitVec 51) (k : Fin 512) (s : State),
    ∀ u, s.burst? n frame.toNat k = some u →
    u.len ≤ u.pos →
    exec (.burstTruncation n frame k) s = .next s) ∧
  (∀ (n : Fin 32) (frame : BitVec 51) (k : Fin 512) (s : State),
    ∀ u, s.burst? n frame.toNat k = some u →
    ¬ (u.len ≤ u.pos) →
    let t := 512 * n.val + u.loc
    let t1 := ((s.inc (Reg.UDF_n_CNT_UNCORR n)).inc (Reg.UDF_TSTAT_UNCORR_CW t)).inc (Reg.UDF_TSTAT_TRUNC t)
    let x := t1.udf.second.look (0, 0, false) t
    let t2 := { t1 with udf := { t1.udf with second := t1.udf.second.put (0, 0, false) t (x.1, x.2.1 + 1, true) } }
    let (t3, u) := (t2.markBad n u).udfLose n { u with bad := true, uncorr := u.uncorr + 1, cut := true } (u.len - u.pos)
    exec (.burstTruncation n frame k) s = .next (t3.setBurst n u)) ∧
  (∀ (st : BitVec 16) (s : State),
    s.partial? st.toNat = none →
    exec (.reasmTimeout st) s = .next s) ∧
  (∀ (st : BitVec 16) (s : State),
    ∀ p, s.partial? st.toNat = some p →
    let n := strPort st.toNat
    let busy := (s.uport n).bursts.any fun u => u.segs.any fun g => g.kind == 2 && g.stream == st.toNat
    let passed := (s.upNow n + 2 ^ 51 - p.frame) % 2 ^ 51
    (!busy && decide (s.fld (Reg.UDF_n_CTRL n) 15 8 < passed) && decide (passed < 2 ^ 50)) = true →
    exec (.reasmTimeout st) s = .next (s.dropPartial st.toNat)) ∧
  (∀ (st : BitVec 16) (s : State),
    ∀ p, s.partial? st.toNat = some p →
    let n := strPort st.toNat
    let busy := (s.uport n).bursts.any fun u => u.segs.any fun g => g.kind == 2 && g.stream == st.toNat
    let passed := (s.upNow n + 2 ^ 51 - p.frame) % 2 ^ 51
    (!busy && decide (s.fld (Reg.UDF_n_CTRL n) 15 8 < passed) && decide (passed < 2 ^ 50)) = false →
    exec (.reasmTimeout st) s = .next s)

/-- When the write reaches TCE: CIRCUIT_COMMIT joins the written word to the three held ones, which it takes, reserved
bits zero; an entry that changes while enabled, or fails a check, is counted and the old entry stays; a change of EN
makes the current bins of both ends partial, setting EN starts its ends, which stop first where the circuit was among
those that close, clearing it puts the circuit among those that close. PW_ENTRY_COMMIT stores both words when PLEN is
32 to 1,440 and no enabled end uses the pseudowire, else it counts. TCE_SWAP sets the pending bit and the time of the
write, unless a swap is pending. (10_tributary_carriage.md, Circuits and their ends; 10_tributary_carriage.md,
Pseudowires; 10_tributary_carriage.md, Slot interchange.) -/
def Obligations.TceEntries : Prop :=
  (∀ (c : Fin 2048) v s, s.reaches (Reg.TCE_CIRC_w3 c) →
    let a := Reg.TCE_CIRC_w0 c
    let w0 : Word := s.heldWord .op 8 a 0 &&& 0xFFFFFFFC
    let w1 : Word := s.heldWord .op 8 a 1 &&& 0xFFFCFFFF
    let w2 : Word := s.heldWord .op 8 a 2 &&& 0xFFFCFFFF
    let r := s.dropHeld .op 8
    let s1 := (((r.wr a w0).wr (a + 4) w1).wr (a + 8) w2).wr (a + 12) (v &&& 0xFFFFFFC3)
    exec (.circuitCommit c v) s =
      if (r.circEn c && !(s.circEntry c % 2 ^ 127 == s1.circEntry c % 2 ^ 127)) || s1.circBad c then
        .next (r.inc Reg.TCE_CNT_REFUSED)
      else
        let s2 := if s1.circEn c == r.circEn c then s1
          else (s1.pmPartial (endEntity (2 * c))).pmPartial (endEntity (2 * c + 1))
        if s1.circEn c && !r.circEn c then
          let u := if s2.tce.closing.contains c.val then s2.stopCircuit c else s2
          let s3 : State := { u with tce := { u.tce with closing := u.tce.closing.filter fun x => x != c.val } }
          .next ((s3.namedEnds c).foldl State.startEnd s3).settleStore
        else if r.circEn c && !s1.circEn c then
          .next { s2 with tce := { s2.tce with closing := s2.tce.closing ++ [c.val] } }
        else .next s2) ∧
  (∀ (w : Fin 2048) v s, s.reaches (Reg.TCE_PW_w0 w) →
    let r := s.dropHeld .op 8
    let s1 := (r.wr (Reg.TCE_PW_w0 w) (v &&& 0xFFFE0000)).wr (Reg.TCE_PW_w0 w + 4) (s.heldWord .op 8 (Reg.TCE_PW_w0 w) 1)
    exec (.pwEntryCommit w v) s = .next (
      if decide (32 ≤ s1.pwPlen w) && decide (s1.pwPlen w ≤ 1440) && (r.pwEnd w).isNone then s1
      else r.inc Reg.TCE_CNT_REFUSED)) ∧
  (∀ s, s.reaches Reg.TCE_SWAP → exec .tceSwap s = .next (if s.bit Reg.TCE_STATUS 0 then s
    else ({ s with tce := { s.tce with swapAt := s.now } } : State).setB Reg.TCE_STATUS 0 true))

/-- ALIGN_WORD_MATCH does what the end's state gives: in HUNT the first alignment word among the bits becomes the
candidate and the state becomes PRESYNC; in PRESYNC a word one frame on is awaited, the second one in place leads to
MF_SEEK and a wrong one abandons the candidate; MF_SEEK checks 16 frames; in another state nothing happens.
CARRIER_FRAME_RECEIVE out of SYNC, or before the whole frame is there, does nothing; at the fourth wrong word in a row
the end returns to HUNT with its out-of-frame bit set, and fault 34 unless a defect was present. In SYNC, with the
whole frame there and not the fourth wrong word in a row: a wrong alignment word adds to the run of wrong words; a
wrong CRC-8 of the head or wrong parity of the frame before is counted as the frame's error; JC is the bitwise
majority of its three copies; with a good CRC-8 the alarm bits and the pointer are taken, else the pointer stays; two
frames in a row with a wrong multiframe number return the end to MF_SEEK; the data, one block less after a negative,
one more after a positive justification, goes to the store; a new receive defect raises fault 34; the expected pointer
moves on by K less the blocks carried. (10_tributary_carriage.md, Alignment; 10_tributary_carriage.md, Table 10.5;
10_tributary_carriage.md, The carrier frame; 10_tributary_carriage.md, Table 10.8.) -/
def Obligations.TceAlignmentAndFrames : Prop :=
  (∀ (e : Fin 4096) s, s.align e = 1 → let t := (s.tend e).trim (s.tend e).pos
    exec (.alignWordMatch e) s = .next (if t.base < t.pos then s.setTend e t
      else match findWord t.bits 0 with
        | .inl i => (s.setTend e { t with cand := t.base + i, found := 0, pos := t.base + i + s.frameBits e }).setAlign e 2
        | .inr i => s.setTend e { t.trim (t.base + i) with pos := t.base + i })) ∧
  (∀ (e : Fin 4096) s w, s.align e = 2 → let t := s.tend e
    t.window t.pos 32 = some w → exec (.alignWordMatch e) s = .next (
      if w == alignWord then
        if t.found = 0 then s.setTend e { t.trim t.pos with found := 1, pos := t.pos + s.frameBits e }
        else (s.setTend e { t.trim t.pos with found := 0, cand := t.pos }).setAlign e 3
      else s.abandon e (t.pos + 32))) ∧
  (∀ (e : Fin 4096) s, s.align e = 3 → exec (.alignWordMatch e) s = .next (s.mfSeekStep e)) ∧
  (∀ (e : Fin 4096) s, s.align e ≠ 1 → s.align e ≠ 2 → s.align e ≠ 3 → exec (.alignWordMatch e) s = .next s) ∧
  (∀ (e : Fin 4096) s, s.align e ≠ 4 → exec (.carrierFrameReceive e) s = .next s) ∧
  (∀ (e : Fin 4096) s, (s.tend e).window (s.tend e).pos (s.frameBits e) = none →
    exec (.carrierFrameReceive e) s = .next s) ∧
  (∀ (e : Fin 4096) s bits, s.align e = 4 → let t := s.tend e
    t.window t.pos (s.frameBits e) = some bits → headWord (bytesOf bits) = false → 3 ≤ t.badWord →
    let r := (s.setTend e { t with badWord := 0, pos := t.pos + 32, defect := true }).setB
      (Reg.TCE_CST e 0) 27 true
    let r := r.setAlign e 1
    exec (.carrierFrameReceive e) s = .next (if s.rxDefect e then r else r.raise 34 (e.val / 2))) ∧
  (∀ (e : Fin 4096) s bits, s.align e = 4 → (s.tend e).window (s.tend e).pos (s.frameBits e) = some bits →
    let t := s.tend e
    let k := s.circK (e.val / 2)
    let fr := bytesOf bits
    let badWord := if headWord fr then 0 else t.badWord + 1
    badWord < 4 →
    let good := headOk fr
    let badMfi := if good && headMfi fr != t.mfi then t.badMfi + 1 else if good then 0 else t.badMfi
    let body := fr.drop 12
    let wrong := !good || (t.bip.any fun b => b != fr.getD 8 0)
    let jc := majorityJc ((fr.getD 5 0).toNat / 4 % 4) ((fr.getD 7 0).toNat / 64) ((fr.getD 7 0).toNat / 16 % 4)
    let d := if jc = 2 then k + 1 else if jc = 1 then k - 1 else k
    let t1 := { t.trim (t.pos + s.frameBits e) with
      pos := t.pos + s.frameBits e, badWord := badWord, badMfi := badMfi, mfi := (t.mfi + 1) % 16, bip := some (bip8 body)
      err := t.err + wrong.toNat }
    let r := (s.setTend e t1).incIf wrong (Reg.TCE_CST_BIP e)
    let r := (r.incIf (jc == 1) (Reg.TCE_CST_PJ e)).incIf (jc == 2) (Reg.TCE_CST_NJ e)
    let r := if good then (r.takeAis e ((fr.getD 4 0).getLsbD 2) ((fr.getD 4 0).getLsbD 3)).takePtr e fr
      else r.setF (Reg.TCE_CST e 0) 9 0 t.expect
    let r := if 2 ≤ badMfi then
        ((r.setTend e { r.tend e with found := 0, badMfi := 0, cand := t.pos + s.frameBits e }).setB (Reg.TCE_CST e 0) 26
          true).setAlign e 3
      else r
    let data := if jc = 2 then body else if jc = 1 then body.drop (2 * s.circU (e.val / 2))
      else body.drop (s.circU (e.val / 2))
    let p := (r.tend e).expect
    let r := r.storeData e data p
    let t2 := r.tend e
    let now := r.rxDefect e
    let r := if now && !s.rxDefect e then r.raise 34 (e.val / 2) else r
    exec (.carrierFrameReceive e) s = .next (r.setTend e { t2 with expect := (p + 2 * k - d) % k, defect := t2.defect || s.rxDefect e || now }))

/-- PW_PACKET_SEND of a pseudowire with no end, or whose source has not the bytes of a packet, does nothing; else the
header, control word, the RTP header if asked for (payload type and source open) and the payload ask for a buffer, and
the sequence number of the end goes on by 1 modulo 65,536. PW_PACKET_RECEIVE takes the oldest packet, gives its buffer
back, and, where an end uses the pseudowire, accepts it if its number is due or eight were dropped in a row, inserts
for up to 32 lost before it, or drops it, which ends the run of packets accepted. (10_tributary_carriage.md,
Pseudowires.) -/
def Obligations.TcePseudowires : Prop :=
  (∀ (w : Fin 2048) s, s.pwEnd w = none → exec (.pwPacketSend w) s = .next s) ∧
  (∀ (w : Fin 2048) s e, s.pwEnd w = some e → s.pwPayload e (s.pwPlen w) = none → exec (.pwPacketSend w) s = .next s) ∧
  (∀ (w : Fin 2048) s e data l s1, s.pwEnd w = some e → s.pwPayload e (s.pwPlen w) = some (data, l, s1) →
    let t := s1.tend e
    let ctl := bytesBE 4 (2 ^ 27 * l.toNat + 2 ^ 26 * t.loss.toNat + t.seq)
    let rtp := if s1.pwRtp w then
        [0x80, Config.rtpType] ++ bytesBE 2 t.seq ++ bytesBE 4 (s1.now / 1000) ++ bytesBE 4 (Config.rtpSource w.val).toNat
      else []
    let pkt := (s1.pwTemplate w).take (s1.pwHlen w) ++ ctl ++ rtp ++ data
    let s2 := s1.setTend e { t with seq := (t.seq + 1) % 65536 }
    exec (.pwPacketSend w) s = .next (s2.want 6 pkt.length true
      { pkt := { kind := 0, data := pkt }, dest := .queue (65536 + s2.pwEq w), queue := 65536 + s2.pwEq w })) ∧
  (∀ (w : Fin 2048) s pk, (s.tce.packets.find? fun p => p.1 == w.val) = some pk →
    let s1 := ({ s with tce := { s.tce with packets := s.tce.packets.erase pk } } : State).free pk.2.2.buf 0x3A
    s1.pwEnd w = none → exec (.pwPacketReceive w) s = .next s1) ∧
  (∀ (w : Fin 2048) s pk e, (s.tce.packets.find? fun p => p.1 == w.val) = some pk →
    let s1 := ({ s with tce := { s.tce with packets := s.tce.packets.erase pk } } : State).free pk.2.2.buf 0x3A
    s1.pwEnd w = some e →
    let data := pk.2.2.pkt.data.drop pk.2.1
    let ctl := joinBytesBE (data.take 4)
    let n := s1.pwPlen w
    let l := Nat.testBit ctl 27
    let payload := if l then ones n else (data.drop (if s1.pwRtp w then 16 else 4)).take n
    let t := s1.tend e
    let d := (ctl % 65536 + 65536 - t.due) % 65536
    exec (.pwPacketReceive w) s = .next (
      if d = 0 || 8 ≤ t.drops then s1.pwAccept e (ctl % 65536) payload l
      else if d ≤ 32 then (s1.pwInsert e d n).pwAccept e (ctl % 65536) payload l
      else (s1.pwDrop e).setTend e { t with drops := t.drops + 1, accepted := 0 }))

/-- SECOND_BOUNDARY, with TSU up, brings the clock to the second, gives every live end's, terminal's and uplink port's
inputs of the second before to performance monitoring, and increments FDB's seconds while FDB is out of reset.
PM_SECOND_COMMIT of an entity with monitoring on decides unavailability from the ten seconds after, forgets the
seconds committed and counts the second in its quarter-hour and day bins: UAS, or ES and SES. PM_BIN_CLOSE of the bin
that the entity counts in, or of one with nothing counted that begins on the grid of the bins or at a step of the
clock, writes the bin's record of 32 bytes to its slot of host memory, PARTIAL where the bin is or where it closes
before its last second is decided, or counts a failed write, then clears the bin's counts; of another bin it does
nothing. (10_tributary_carriage.md, Performance monitoring; 10_tributary_carriage.md, Table 10.9; 17_time.md, Where
the clock is read.) -/
def Obligations.TcePerformance : Prop :=
  (∀ sec fec s, s.tsuUp = true →
    let t := s.advanceTo (sec.toNat * 1000000000)
    let was := sec.toNat - 1
    let t := t.liveEnds.foldl (fun s e => s.pmEndInput was e) t
    let t := t.udf.second.foldl (fun s x => s.pmInput (4096 + x.1) was x.2.1 x.2.2.1 x.2.2.2) t
    let t : State := { t with udf := { t.udf with second := [] } }
    let lost := t.upl.lost
    let still := (List.range 24).filter fun u => t.bit (Reg.UPL_u_CTRL u) 31 && t.fld (Reg.UPL_u_STATUS u) 2 0 != 3
    let t := fec.foldl (fun s f => s.pmFec was f (lost.contains f.lane.val)) t
    let t := (lost.filter fun x => !fec.any fun f => f.lane.val == x).foldl
      (fun s x => s.pmInput (20480 + x) was 0 0 true) t
    let t : State := { t with upl := { t.upl with lost := still } }
    exec (.secondBoundary sec fec) s = .next (if t.up 10 then
      t.setF Reg.FDB_STATUS 31 16 (t.fld Reg.FDB_STATUS 31 16 + 1) else t)) ∧
  (∀ e sec s, s.pmEn = false → exec (.pmSecondCommit e sec) s = .next s) ∧
  (∀ (e : Fin 20504) sec s, s.pmEn = true →
    let l := s.tce.seconds.look [] e
    let sev := fun i => (l.find? fun x => x.1 == sec.toNat + i).any (·.2)
    let un := if s.tce.unavail.contains e.val then (List.range 10).any sev else (List.range 10).all sev
    let rest := s.tce.unavail.filter fun x => x != e.val
    let t : State := { s with tce := { s.tce with
      unavail := if un then rest ++ [e.val] else rest
      seconds := s.tce.seconds.put [] e (l.filter fun x => decide (sec.toNat < x.1)) } }
    let cnt := fun (s : State) (w : Nat) => (s.binCount e w sec.toNat false).binCount e w sec.toNat true
    let es := if (l.find? fun x => x.1 == sec.toNat + 0).isSome then cnt t 0 else t
    exec (.pmSecondCommit e sec) s = .next (if un then cnt t 2 else if sev 0 then cnt es 1 else es)) ∧
  (∀ (e : Fin 20504) day start dmaOk s,
    let b := start.toNat
    let held := s.tce.bins.look none (2 * e.val + day.toNat)
    held = some b ∨ held = none ∧ (b = s.binOf day b ∨ b = s.tce.stepTo) →
    let i := if day then 3 else 0
    let fin := s.binEnd day b
    let vals := (List.range 3).map fun j => (s.rd (Reg.TCE_PMCUR e (i + j))).toNat
    let part := s.binPartial e b day || decide (s.nowSec < fin + 10)
    let flags := 1 + 2 * part.toNat + 4 * day.toNat
    let rec_ := bytesLE 8 b ++ vals.flatMap (bytesLE 4) ++ bytesLE 4 flags ++ bytesLE 8 0
    let base := (s.rd Reg.TCE_PM_BASE_LO).toNat + 2 ^ 32 * (s.rd Reg.TCE_PM_BASE_HI).toNat
    let addr := base + ((e.val * 2 + day.toNat) * 32 + b / (if day then 86400 else 900) % 32) * 32
    let t := if dmaOk then s.emit (.host .op (addr % 2 ^ 64) rec_) else s.inc Reg.TCE_CNT_PM_DMA
    let t := (List.range 3).foldl (fun s j => s.wr (Reg.TCE_PMCUR e (i + j)) 0) t
    let kept := (t.tce.bins.look none (2 * e.val)).elim (fin - 900) (min (fin - 900))
    exec (.pmBinClose e day start dmaOk) s = .next { t with tce := { t.tce with
      bins := t.tce.bins.put none (2 * e + day.toNat) none
      marks := t.tce.marks.put [] e ((t.tce.marks.look [] e).filter fun m => !day || decide (kept ≤ m)) } }) ∧
  (∀ (e : Fin 20504) day (start : BitVec 34) dmaOk s, let held := s.tce.bins.look none (2 * e.val + day.toNat)
    (∃ x, held = some x ∧ x ≠ start.toNat) ∨
      held = none ∧ start.toNat ≠ s.binOf day start.toNat ∧ start.toNat ≠ s.tce.stepTo →
    exec (.pmBinClose e day start dmaOk) s = .next s)

/-- When the write reaches PRS: SELECTION_COMMIT stores both words of an entry, PROFILE_COMMIT all 48 words of a profile
with their held words, unless the profile fails a check, which is counted; either way the held words are gone.
PACKET_PASS of a pipeline that runs takes the head of its recirculation queue, else the oldest new packet with the
active epoch and the profile that selection gives, makes one pass of it and counts one slot; with neither nothing
changes. ESWAP of an operator's ring is taken when the standby bank is drained and no swap waits, else it ends with
status 1 or 2. EPOCH_SWAP_POINT makes the standby bank active and ends the command that waits with status 0.
(11_parse_classify.md, Profile selection; 11_parse_classify.md, The walk and its result; 11_parse_classify.md, Epochs;
11_parse_classify.md, PRS and CLS registers.) -/
def Obligations.ClassifierEntriesAndPasses : Prop :=
  (∀ (i : Fin 256) (v : Word) s, s.reaches (Reg.PRS_SEL_w0 i) →
    exec (.selectionCommit i v) s = (
      let a := Reg.PRS_SEL_w0 i
      let w1 := s.heldWord .op 9 a 1
      let s := s.dropHeld .op 9
      .next ((s.wr a v).wr (a + 4) (fitWord (a + 4) (s.rd (a + 4)) w1)) : Res)) ∧
  (∀ (p : Fin 64) (v : Word) s, s.reaches (Reg.PRS_p_CTRL p) →
    exec (.profileCommit p v) s = (
      let a := Reg.PRS_p_CTRL p
      let words := (List.range 47).map fun i => (a + 4 * (i + 1), s.heldWord .op 9 a (i + 1))
      let s := s.dropHeld .op 9
      let s1 := words.foldl (fun s w => s.wr w.1 (fitWord w.1 (s.rd w.1) w.2)) (s.wr a (fitWord a (s.rd a) v))
      .next (if s1.profBad p then s.inc Reg.PRS_CNT_REFUSED else s1) : Res)) ∧
  (∀ (p : Fin 5) (unc : Bool) s, exec (.packetPass p unc) s = (
      if !s.rcp.pipes.getLsbD p || (s.quiet && p.val != 0) then .next s
      else match s.cls.recirc.look [] p, s.cls.ingress with
        | k :: rest, _ =>
          let s : State := { s with cls := { s.cls with recirc := s.cls.recirc.put [] p rest } }
          .next ((s.onePass p (k.prof.getD 0) k unc).pipeSlot p 0)
        | [], k :: rest =>
          let s : State := { s with cls := { s.cls with ingress := rest } }
          let k := { k with epoch := s.epoch }
          let (prof, none_) := s.selectProf k
          .next ((((s.inflStep k.epoch true).incIf none_ Reg.PRS_CNT_NOSEL).onePass p prof k unc).pipeSlot p 0)
        | [], [] => .next s : Res)) ∧
  (∀ (r : Fin 1024) s, exec (.eswap r) s = (
      match s.cmdHead r 0x34 with
      | none => .next s
      | some d =>
        if s.cls.swap == some d then .next s
        else if s.ringOwner r != .op then .next (s.cmdDone d 1)
        else if s.draining || s.cls.swap.isSome then .next (s.cmdDone d 2)
        else .next (({ s with cls := { s.cls with swap := some d } } : State).setB Reg.CLS_EPOCH 2 true) : Res)) ∧
  (∀ s, exec .epochSwapPoint s = (
      match s.cls.swap with
      | none => .next s
      | some d =>
        let s := (s.setB Reg.CLS_EPOCH 0 (!s.epoch)).setB Reg.CLS_EPOCH 2 false
        .next (({ s with cls := { s.cls with swap := none } } : State).settleEpoch.cmdDone d 0) : Res))

/-- Each command does nothing unless the oldest command of its ring has its code. TNODE and TROOT end with status 1 on a
tenant's ring. A place or a number out of range is status 3, a standby bank that drains status 2, a failed or short
read of host memory status 5, a tenant outside its share, or with a rule it may not write, status 4. Else the standby
bank takes the nodes, the rules (a tenant's with TOWN and TID of the tenant) or the eight roots, or the host takes the
entries read, and the status is 0. (11_parse_classify.md, Tree and rule commands; 11_parse_classify.md, Table 11.7;
11_parse_classify.md, Table 11.8.) -/
def Obligations.ClassifierTableCommands : Prop :=
  (∀ (r : Fin 1024) (data : List (BitVec 256)) (dmaOk : Bool) s, exec (.tnode r data dmaOk) s = (
      match s.cmdHead r 0x30 with
      | none => .next s
      | some d =>
        let n := descN d
        if s.ringOwner r != .op then .next (s.cmdDone d 1)
        else if n = 0 || 4096 < n || 131072 < descAddr d + n then .next (s.cmdDone d 3)
        else if s.draining then .next (s.cmdDone d 2)
        else if !dmaOk || data.length != n then .next ((s.dmaRead r (descHost d) (32 * n)).cmdDone d 5)
        else
          let s := s.dmaRead r (descHost d) (32 * n)
          let bank := (!s.epoch).toNat
          .next (({ s with cls := { s.cls with
            nodes := putAll 0 s.cls.nodes (131072 * bank + descAddr d) data } } : State).cmdDone d 0) : Res)) ∧
  (∀ (r : Fin 1024) (data : List (BitVec 512)) (dmaOk : Bool) s, exec (.trule r data dmaOk) s = (
      match s.cmdHead r 0x31 with
      | none => .next s
      | some d =>
        let n := descN d
        let a := descAddr d
        let t := s
        let s := s.dmaRead r (descHost d) (64 * n)
        let put := fun (rules : List (BitVec 512)) =>
          (({ s with cls := { s.cls with rules := putAll 0 s.cls.rules (32768 * (!s.epoch).toNat + a) rules } } : State).cmdDone
            d 0)
        if n = 0 || 1024 < n || 32768 < a + n then .next (t.cmdDone d 3)
        else if s.draining then .next (t.cmdDone d 2)
        else if !dmaOk || data.length != n then .next (s.cmdDone d 5)
        else match s.ringOwner r with
          | .op => .next (put data)
          | .t m =>
            if !s.rulesIn m.val a n || data.any (s.ruleShare m.val) then .next (s.cmdDone d 4)
            else .next (put (data.map (tenantRule m.val))) : Res)) ∧
  (∀ (r : Fin 1024) (data : List Word) (dmaOk : Bool) s, exec (.troot r data dmaOk) s = (
      match s.cmdHead r 0x32 with
      | none => .next s
      | some d =>
        if s.ringOwner r != .op then .next (s.cmdDone d 1)
        else if s.draining then .next (s.cmdDone d 2)
        else if !dmaOk || data.length != 8 then .next ((s.dmaRead r (descHost d) 32).cmdDone d 5)
        else
          let s := s.dmaRead r (descHost d) 32
          let b := (!s.epoch).toNat
          .next (((List.range 8).foldl (fun s t => s.wr (Reg.CLS_ROOT b t) (data.getD t 0 &&& 0x8001FFFF)) s).cmdDone d 0) : Res)) ∧
  (∀ (r : Fin 1024) (dmaOk : Bool) s, exec (.tread r dmaOk) s = (
      match s.cmdHead r 0x33 with
      | none => .next s
      | some d =>
        let n := descN d
        let a := descAddr d
        let bank := (d.data.getLsbD 120).toNat
        let rules := d.data.getLsbD 121
        let share := match s.ringOwner r with
          | .op => true
          | .t m => rules && s.rulesIn m.val a n
        let bytes := (List.range n).flatMap fun i =>
          if rules then bytesLE 64 (s.cls.rules.look 0 (32768 * bank + a + i)).toNat
          else bytesLE 32 (s.cls.nodes.look 0 (131072 * bank + a + i)).toNat
        if n = 0 || (if rules then decide (1024 < n) || decide (32768 < a + n) else decide (4096 < n) || decide (131072 < a + n))
        then .next (s.cmdDone d 3)
        else if !share then .next (s.cmdDone d 4)
        else if !dmaOk then .next (s.cmdDone d 5)
        else .next ((s.emit (.host (s.ringOwner r) (descHost d) bytes)).cmdDone d 0) : Res))

/-- LEARN_PLACE takes the oldest request: an entry with the same destination is refreshed and one with another is left; a
new one past a limit is counted and reported as event 5, one without room is counted, else it is placed, counted and
reported as event 1. AGE_OUT clears a valid entry that is not static and whose age has come to a limit other than 0,
counts it and reports event 3. FDB_SEED_WRITE stores the seed and empties the table with every count of it. FID_WRITE
stores the domain's word, unless a valid entry uses the domain and its owner's share would change, which is counted.
Each command of a set whose write reaches FDB ends with its operation and status in the set's command register, and a
status other than 0 is counted. READ: 4 beyond the last location, 5 with zero data for an entry in a domain the
function may not touch, else the entry in the data registers. WRITE: the entry is stored at the location when the
checks give 0. INSERT: 4, 5, 2, 6 or 3, or the entry is placed and its location given. DELETE and SEARCH: 5 for a
domain of another, 1 when the key is absent, else the entry goes, or is given with its location.
(12_forwarding_learning.md, Learning and its limits; 12_forwarding_learning.md, Placement and eviction;
12_forwarding_learning.md, Aging; 12_forwarding_learning.md, FDB registers; 12_forwarding_learning.md, Commands;
12_forwarding_learning.md, Table 12.4; 12_forwarding_learning.md, Table 12.5.) -/
def Obligations.FdbLearningAndCommands : Prop :=
  (∀ (draw : Word) s, exec (.learnPlace draw) s = (
      match s.fdb.learns with
      | [] => .next s
      | q :: rest =>
        let s : State := { s with fdb := { s.fdb with learns := rest } }
        match s.fdbFind q.fid q.mac with
        | some loc =>
          let e := s.fdbAt loc
          .next (if (eKind e, eDest e) == (q.dkind, q.dest) then s.refresh loc else s)
        | none =>
          let owner := s.fidOwner q.fid
          if !s.limitsAllow owner (q.dkind, q.dest) then
            .next ((s.inc Reg.FDB_CNT_LIM_LATE).fdbEvent 5 q.fid q.mac q.dkind q.dest)
          else
            match s.fdbInsert (mkEntry false owner q.fid q.mac q.dkind q.dest s.fdbSec) false draw.toNat with
            | none => .next (s.inc Reg.FDB_CNT_NOROOM)
            | some (_, s) => .next ((s.inc Reg.FDB_CNT_LEARN).fdbEvent 1 q.fid q.mac q.dkind q.dest) : Res)) ∧
  (∀ (loc : Fin 264192) s, exec (.ageOut loc) s = (
      let lim := s.fld Reg.FDB_CTRL 31 16
      let e := s.fdbAt loc
      .next (if lim != 0 && eValid e && !eStatic e && decide (lim ≤ s.fdbAge loc) then
          ((s.fdbPut loc 0).inc Reg.FDB_CNT_AGED).fdbEventOf 3 e
        else s) : Res)) ∧
  (∀ (v : Word) s, s.reaches Reg.FDB_HASH_SEED →
    exec (.fdbSeedWrite v) s = .next (s.wr Reg.FDB_HASH_SEED v).fdbZero) ∧
  (∀ (f : BitVec 12) (v : Word) s, s.reaches (Reg.FDB_FID f.toNat) →
    exec (.fidWrite f v) s = (
      let v : Word := v &&& 0xFF000FFF
      let a := Reg.FDB_FID f.toNat
      let changed := fldW v 29 25 != s.fld a 29 25
      let used := s.fdb.ents.any fun x => eValid x.2 && eFid x.2 == f.toNat
      .next (if changed && used then s.inc Reg.FDB_CNT_REFUSED else s.wr a v) : Res)) ∧
  (∀ (fn : Fn) s, s.reaches Reg.FDB_CMD →
    exec (.fdbRead fn) s = (
      let loc := s.fdbLoc fn
      let e := s.fdbAt loc
      .next (if 264191 < loc then s.fdbDone fn 0 4
        else if eValid e && !s.fidFor fn (eFid e) then (s.setFdbData fn 0).fdbDone fn 0 5
        else (s.setFdbData fn e).fdbDone fn 0 0) : Res)) ∧
  (∀ (fn : Fn) s, s.reaches Reg.FDB_CMD →
    exec (.fdbWrite fn) s = (
      let loc := s.fdbLoc fn
      let e := cmdEntry fn (s.fdbData fn)
      let st := s.fdbWriteStatus fn loc e
      .next (if st = 0 then (s.fdbPut loc e).fdbDone fn 1 0 else s.fdbDone fn 1 st) : Res)) ∧
  (∀ (fn : Fn) (draw : Word) s, s.reaches Reg.FDB_CMD →
    exec (.fdbInsert fn draw) s = (
      let e := cmdEntry fn (setBitW (s.fdbData fn) 127 true)
      .next (if !destOk e then s.fdbDone fn 2 4
        else if !s.fidFor fn (eFid e) || !s.destFor fn e then s.fdbDone fn 2 5
        else if (s.fdbFind (eFid e) (eMac e)).isSome then s.fdbDone fn 2 2
        else match s.fdbInsert e (fn == .op) draw.toNat with
          | none => s.fdbDone fn 2 3
          | some (loc, s1) =>
            let a := tshare (eOwner e) 2
            if !s.entRoom e && decide (s.fld a 18 0 < s1.fld a 18 0) then s.fdbDone fn 2 6
            else (s1.setCs fn Reg.FDB_CMD_LOC (BitVec.ofNat 32 loc)).fdbDone fn 2 0) : Res)) ∧
  (∀ (fn : Fn) s, s.reaches Reg.FDB_CMD →
    exec (.fdbDelete fn) s = (
      .next (if !s.fidFor fn (s.fdbKeyFid fn) then s.fdbDone fn 3 5
        else match s.fdbFind (s.fdbKeyFid fn) (s.fdbKeyMac fn) with
          | none => s.fdbDone fn 3 1
          | some loc => (s.fdbPut loc 0).fdbDone fn 3 0) : Res)) ∧
  (∀ (fn : Fn) s, s.reaches Reg.FDB_CMD →
    exec (.fdbSearch fn) s = (
      .next (if !s.fidFor fn (s.fdbKeyFid fn) then s.fdbDone fn 4 5
        else match s.fdbFind (s.fdbKeyFid fn) (s.fdbKeyMac fn) with
          | none => s.fdbDone fn 4 1
          | some loc =>
            ((s.setFdbData fn (s.fdbAt loc)).setCs fn Reg.FDB_CMD_LOC (BitVec.ofNat 32 loc)).fdbDone fn 4 0) : Res))

/-- BUFFER_ALLOC serves the oldest request of its requester: with a buffer the frame goes on, without one a reassembly
slot is given up and a frame of the host completes with status 4 (a pseudowire packet is counted). BUFFER_FREE frees
by the checks of the free, or notes a metadata error. BUFFER_SHARE shares, or counts. When the write reaches BPM:
enabling a layout in order rebuilds the pools and clears INIT_DONE, a wrong one counts; disabling counts while a
buffer is out; a configuration write counts while enabled. BPM_INIT_DONE sets INIT_DONE while enabled. (13_buffers.md,
Allocation and fallback; 13_buffers.md, Frees and their checks; 13_buffers.md, Shared buffers; 13_buffers.md, BPM
registers.) -/
def Obligations.BufferPools : Prop :=
  (∀ (j : Fin 8) (pick : BitVec 19) (metaBad : Bool) s, exec (.bufferAlloc j pick metaBad) s = (
      match s.bpm.wants.find? fun w => w.req == j.val with
      | none => .next s
      | some w =>
        let s := { s with bpm := { s.bpm with wants := s.bpm.wants.erase w } }
        match s.alloc j w.len w.up pick.toNat metaBad with
        | (.inl p, s) => .next (s.withBuf w.frm j p)
        | (.inr r, s) =>
          match w.frm.dest with
          | .reasm st =>
            .next { s with udf := { s.udf with parts := s.udf.parts.filter fun e => !(e.1 == st && e.2.buf.isNone) } }
          | _ => .next ((s.incIf (j.val == 6) Reg.TCE_CNT_PW_NOBUF).ptxDone w.frm.desc 4 r) : Res)) ∧
  (∀ (ptr : BitVec 19) (code : BitVec 8) (metaBad : Bool) s, exec (.bufferFree ptr code metaBad) s = (
      let p := ptr.toNat
      .next (match (if metaBad && s.freeCheck p code.toNat != 1 && s.freeCheck p code.toNat != 2 then s.poolOf p else none) with
        | some k => s.stickBuf k p
        | none => s.free p code.toNat) : Res)) ∧
  (∀ (ptr : BitVec 19) (code : BitVec 8) (copies : BitVec 13) (last : BitVec 7) s, exec (.bufferShare ptr code copies last) s = (
      match s.share ptr.toNat code.toNat copies.toNat last.toNat with
      | some s' => .next s'
      | none => .next (s.inc Reg.BPM_CNT_SHARE_REFUSED) : Res)) ∧
  (∀ (en : Bool) s, s.reaches Reg.BPM_CTRL →
    exec (.bpmEnable en) s = (
      if en then
        if s.bit Reg.BPM_CTRL 0 then .next s
        else if s.layoutOk then .next ((s.setB Reg.BPM_CTRL 0 true).setB Reg.BPM_STATUS 0 false).rebuildPools
        else .next (s.inc Reg.BPM_CNT_REFUSED)
      else if (List.range 8).all fun k => s.fld (Reg.BPM_k_ALLOC k) 18 0 == 0 then
        .next ((s.setB Reg.BPM_CTRL 0 false).setB Reg.BPM_STATUS 0 false)
      else .next (s.inc Reg.BPM_CNT_REFUSED) : Res)) ∧
  (∀ s, exec .bpmInitDone s = .next (if s.bit Reg.BPM_CTRL 0 then s.setB Reg.BPM_STATUS 0 true else s)) ∧
  (∀ (k : Fin 8) (count : Bool) (v : Word) s, s.reaches (if count then Reg.BPM_COUNT k else Reg.BPM_CFG k) →
    exec (.bpmCfgWrite k count v) s = (
      .next (if s.bit Reg.BPM_CTRL 0 then s.inc Reg.BPM_CNT_REFUSED
        else if count then s.wr (Reg.BPM_COUNT k) (v &&& 0x0007FFFF) else s.wr (Reg.BPM_CFG k) (v &&& 0x8007FFFF)) : Res))

/-- FRAME_ADMIT takes the oldest arrival: a flood goes to every queue of its list, another frame is admitted, or dropped
with a reason. EGRESS_SELECT: an egress that is down gives up one frame; one that cannot take a frame does nothing;
else a late launch frame goes first, and then the queue that the descent of the hierarchy chooses. LAUNCH_SELECT goes
to the selection time of the egress's first launch frame, which is dropped when it is late and its queue says so, else
sent, marked late if so, and charged to its path's shapers. QUEUE_SAMPLE, below 2,047 samples, adds depth and delay to
the queue's sums and takes their maxima. (14_traffic_management.md, Admission; 14_traffic_management.md, Scheduling;
14_traffic_management.md, Launch times; 14_traffic_management.md, Sampling.) -/
def Obligations.TmgAdmissionAndSelection : Prop :=
  (∀ s, exec .frameAdmit s = (
      match s.tmg.arrivals with
      | [] => .next s
      | f :: rest =>
        let s : State := { s with tmg := { s.tmg with arrivals := rest } }
        match f.dest with
        | .flood g => .next (s.admitFlood g f)
        | _ => match s.admitOne f with
          | (s, 0) => .next s
          | (s, r) => .next (s.admitDrop f r) : Res)) ∧
  (∀ (e : Fin 57) s, exec (.egressSelect e) s = (
      let s := s.recheckHeads e
      let full := fun (f : Machine.Frm) => s.lastFull e f.buf
      if s.egressDown e then
        match (s.busyQueues e).filter fun q => !((s.queueOf q).head?.any full) with
        | [] => .next s
        | q :: _ => match s.queueOf q with
          | [] => .next s
          | f :: _ => .next ((s.popHead q).sendFrame e q f)
      else if !s.egressTakes e then .next s
      else match s.launchHeads e fun f => f.late && !full f with
        | q :: _ =>
          let len := ((s.queueOf q).head?.map Frm.len).getD 0
          .next ((s.selectHead e q).launchSends e (max s.now (s.tmg.launchEnd.look 0 e)) len)
        | [] => match s.descend e ((s.busyQueues e).filter (s.eligible e)) with
          | some (q, s) => .next (s.selectHead e q)
          | none => .next s : Res)) ∧
  (∀ (e : Fin 57) s, exec (.launchSelect e) s = (
      if !s.egressTakes e then .next s
      else match s.firstLaunch e (s.launchHeads e fun f => !f.late && !s.lastFull e f.buf) with
        | none => .next s
        | some (q, d) =>
          let past := decide (d < s.lead e)
          let s := s.advanceTo ((s.now + d - s.lead e : Int).toNat)
          let busy := decide (s.now < s.tmg.launchEnd.look 0 e)
          match s.queueOf q with
          | [] => .next s
          | f :: _ =>
            if (busy || past) && s.bit (Reg.TMG_Q q) 29 then
              .next (((s.popHead q).inc (Reg.TMG_E_CNT_LATE_DROP e)).dropQueued e f)
            else
              let f := { f with late := busy || past }
              let s := s.incIf (busy || past) (Reg.TMG_E_CNT_LATE e)
              let begins := if busy then s.tmg.launchEnd.look 0 e else s.now + s.lead e
              let s := (s.pathShapers q).foldl (fun s x => s.charge f.len x) s
              let s := (s.popHead q).sendFrame e q f
              .next (s.launchSends e begins f.len) : Res)) ∧
  (∀ (q : Fin 69632) s, exec (.queueSample q) s = (
      let w := fun i => Reg.TMG_SMP q i
      let n := s.fld (w 0) 31 21
      if 2047 ≤ n then .next s
      else
        let depth := (s.fld (Reg.TMG_QD q) 26 0 + 63) / 64
        let delay := match (s.queueOf q).head? with
          | some f => (s.now40 + 2 ^ 40 - f.stamp) % 2 ^ 40
          | none => 0
        let s := (s.setF (w 0) 31 21 (n + 1)).setF (w 0) 20 0 (max (s.fld (w 0) 20 0) (min depth 0x1FFFFF))
        let s := s.wr (w 1) (BitVec.ofNat 32 (max (s.rd (w 1)).toNat (min delay 0xFFFFFFFF)))
        .next ((s.satField (w 2) 31 0 depth).satField (w 3) 31 0 (delay / 1000)) : Res))

/-- SHAPER_TICK of an enabled shaper adds its rate to its tokens up to its capacity, keeps account of what was added and
cut, and checks the account. SHAPER_WRITE ends with status 1 for an index or configuration out of range, 2 or 3 for
one that is not the tenant's, and is then counted; else both words are stored and the tokens become 0, or the capacity
with FILL, or for a low-latency shaper stay within it. SHAPER_READ gives words and tokens in the data registers, or
ends with the same statuses. GATE_COMMIT on an egress of an unused lane does nothing; else its fields are stored;
while a list waits, or with an interval under 8 ns, it is counted; else PEND is 1 and the list is due at the first
instant of its cycle more than a microsecond on. GATE_TAKEOVER at that instant exchanges the standby and active lists,
clears PEND, sets the running bit and opens entry 0. GATE_ENTRY_ADVANCE opens the next entry at its instant, and entry
0 of the next cycle after the last. (14_traffic_management.md, Shapers; 14_traffic_management.md, Table 14.4;
14_traffic_management.md, Table 14.5; 14_traffic_management.md, Time gates; 14_traffic_management.md, TMG registers.) -/
def Obligations.TmgShapersAndGates : Prop :=
  (∀ (x : Fin 88832) s, exec (.shaperTick x) s = (
      if !shaperOk x || !s.shEn x then .next s
      else
        let t := s.tokOf x
        let r := s.shRate x
        let t' := min (t.t + r) (s.shCap x : Int)
        let excess := (t.t + r - t').toNat
        .next ((s.setTok x { t with t := t', ticks := t.ticks + 1, added := t.added + r, capped := t.capped + excess }).checkTok x) : Res)) ∧
  (∀ (fn : Fn) (fill : Bool) s, s.reaches Reg.TMG_SCMD →
    exec (.shaperWrite fn fill) s = (
      let x := fldW (s.cs fn Reg.TMG_SCMD_IDX) 16 0
      let d0 := s.cs fn (Reg.TMG_SCMD_D 0)
      let d1 := s.cs fn (Reg.TMG_SCMD_D 1)
      let c := s.shaperCheck fn x
      let c := if c = 0 && shaperBad d0 d1 then 1 else c
      if c ≠ 0 then .next (s.shaperDone fn false fill c)
      else
        let t := s.tokOf x
        let s := (s.wr (Reg.TMG_SH x 0) (d0 &&& 0x00FFFFFF)).wr (Reg.TMG_SH x 1) (d1 &&& 0xFFFFFFF8)
        let t0 : Int := if 88576 ≤ x then min t.t (s.shCap x) else if fill then (s.shCap x : Int) else 0
        .next ((s.setTok x { t := t0, t0 := t0 }).shaperDone fn false fill 0) : Res)) ∧
  (∀ (go : ReadGo) s, 
    let fn := go.fn
    let fill := go.fill
    s.reaches Reg.TMG_SCMD →
    exec (.shaperRead go) s = (
      let x := fldW (s.cs fn Reg.TMG_SCMD_IDX) 16 0
      let c := s.shaperCheck fn x
      if c ≠ 0 then .next (s.shaperDone fn true fill c)
      else
        let t := wrapN 40 (s.tokOf x).t
        let s := (s.setCs fn (Reg.TMG_SCMD_D 0) (s.rd (Reg.TMG_SH x 0))).setCs fn (Reg.TMG_SCMD_D 1) (s.rd (Reg.TMG_SH x 1))
        let s := (s.setCs fn Reg.TMG_SCMD_D2 (wordOf t 0)).setCs fn Reg.TMG_SCMD_D3 (wordOf t 1)
        .next (s.shaperDone fn true fill 0) : Res)) ∧
  (∀ (g : Fin 56) (v : Word) s, s.reaches (Reg.TMG_G_CTRL g) →
    exec (.gateCommit g v) s = (
      let a := Reg.TMG_G_CTRL g
      if s.unusedLane a then .next s
      else
        let s1 := s.wr a (fitWord a (s.rd a) v)
        let n := s1.fld a 8 0
        let iv := (List.range n).map fun i => s1.fld (Reg.TMG_G_SBY g i) 23 0
        if s.bit a 30 || iv.any fun x => decide (x < 8) then .next (s1.inc Reg.TMG_CNT_REFUSED)
        else
          let base := (s1.rd (Reg.TMG_G_BASE_LO g)).toNat + 2 ^ 32 * s1.fld (Reg.TMG_G_BASE_HI g) 7 0
          let at_ := takeoverAt base iv.sum (s1.now + 1000)
          let s2 := (s1.setB a 30 true).setGate g { s1.gate g with next := some at_, nextLen := n }
          .next (s2.recheckHeads g) : Res)) ∧
  (∀ (g : Fin 56) s, exec (.gateTakeover g) s = (
      match (s.gate g).next with
      | none => .next s
      | some t =>
        let s := s.advanceTo t
        let pairs := (List.range 256).map fun i => (i, s.rd (Reg.TMG_G_ACT g i), s.rd (Reg.TMG_G_SBY g i))
        let s1 := pairs.foldl (fun s p => (s.wr (Reg.TMG_G_ACT g p.1) p.2.2).wr (Reg.TMG_G_SBY g p.1) p.2.1) s
        let s1 := (s1.setB (Reg.TMG_G_CTRL g) 30 false).setB (Reg.TMG_G_CTRL g) 29 true
        .next ((s1.setGate g { start := t, len := (s.gate g).nextLen }).recheckHeads g) : Res)) ∧
  (∀ (g : Fin 56) s, exec (.gateEntryAdvance g) s = (
      let x := s.gate g
      if !s.bit (Reg.TMG_G_CTRL g) 29 || x.len = 0 then .next s
      else
        let t := (x.start + (s.gOffset g (x.pos + 1) : Nat)).toNat
        let s := s.advanceTo t
        if x.pos + 1 < x.len then .next (s.setGate g { x with pos := x.pos + 1 })
        else .next (s.setGate g { x with pos := 0, start := t }) : Res))

/-- For a node that the table does not define nothing happens. When the write reaches TMG: QUEUE_DISABLE stores the word
with EN 0 and flushes every queue at or below; QUEUE_ENABLE of a disabled queue or node that is not drained is
counted, else the word is stored with EN 1, and a level-2 node that was disabled takes its terminal's owner;
TMG_GRP_WRITE stores the group of a disabled and drained group node when it names an egress up to 24, and else
nothing. QUEUE_DRAINED sets the drained bit when no frame of the queue or node is in flight.
(14_traffic_management.md, Disabling with work in flight; 14_traffic_management.md, Egresses, queues and nodes;
14_traffic_management.md, TMG registers.) -/
def Obligations.TmgQueuesAndNodes : Prop :=
  (∀ (x : QNode) (v : Word) s, s.reaches ((qnodeReg x).getD Reg.TMG_CTRL) →
    exec (.queueDisable x v) s = (
      match qnodeReg x with
      | none => .next s
      | some a =>
        let s := s.wr a (s.qnodeWord x a v false)
        let qs := (s.tmg.queues.map (·.1)).filter (s.below x)
        .next (qs.foldl State.flushQueue s) : Res)) ∧
  (∀ (x : QNode) (v : Word) s, s.reaches ((qnodeReg x).getD Reg.TMG_CTRL) →
    exec (.queueEnable x v) s = (
      match qnodeReg x with
      | none => .next s
      | some a =>
        if !s.bit a 31 && !s.bit a 30 then .next (s.inc Reg.TMG_CNT_REFUSED)
        else
          let s1 := match x with
            | .node i =>
              if !s.bit a 31 && decide (2048 ≤ i.val) && decide (i.val < 18432) then
                let o := match (List.range 16).find? fun n => s.termIn (i.val - 2048) n with
                  | some n => n + 1
                  | none => 0
                { s with tmg := { s.tmg with owners := s.tmg.owners.put 0 i.val o } }
              else s
            | .queue _ => s
          .next (s1.wr a (s.qnodeWord x a v true)) : Res)) ∧
  (∀ (x : QNode) s, exec (.queueDrained x) s = (
      match qnodeReg x with
      | none => .next s
      | some a => .next (if s.inFlight x then s else s.setB a 30 true) : Res)) ∧
  (∀ (k : Fin 512) (v : Word) s, s.reaches (Reg.TMG_GRP k) →
    exec (.tmgGrpWrite k v) s = (
      let nd := Reg.TMG_ND (18432 + k)
      .next (if s.bit nd 31 || !s.bit nd 30 || decide (24 < fldW v 26 22) then s
        else s.wr (Reg.TMG_GRP k) (v &&& 0xFFC00000)) : Res))

/-- Each command of a set whose write reaches CRY ends with its status in the command register, the function's key words
zero, and a status other than 0 counted. TKEY stores the key, with its check value and the slot READY, unless the slot
is neither 1 nor 2 (1), the terminal another's (2), the slot active (3) or a switch pending (4). TCLEAR makes the slot
EMPTY by the same checks. TSWITCH sets the pending bit and keeps the superframe count of the switch, unless that is
nearer than 2 or farther than 65,536 frames (1) or the slot is not READY (5). SAKEY stores key, salt and first packet
number of an SA that is not enabled, with its check value. SAENA enables an SA that holds a key, and says so when its
packet number has reached the threshold. SADIS disables a receive SA at once; a transmit SA closes, unless it is its
channel's active one (3). SA_DONE ends a closing SA when none of its frames is under way, stores its packet number and
posts event 3. GSC_WRITE stores a group's channel when egress and owner agree, TXSC_AN_WRITE the number of an SA that
is enabled and does not close; else each counts. Statuses 1, 2, 3 and 5 are those of the table. (15_cipher.md, Key
pages and commands; 15_cipher.md, Tree keys; 15_cipher.md, Table 15.3; 15_cipher.md, MACsec; 15_cipher.md, Table
15.2.) -/
def Obligations.CipherKeysAndAssociations : Prop :=
  (∀ (fn : Fn) s, s.reaches Reg.CRY_CMD →
    exec (.tkey fn) s = (
      let c := s.slotCheck fn true
      if c ≠ 0 then .next (s.keyDone fn 0 c)
      else
        let t := s.keyIdx fn % 16384
        let slot := s.keyIdx fn / 16384
        let key := (List.range 4).map (s.keyWord fn)
        let s1 := (s.setSlot t slot 1).wr (Reg.CRY_TK t slot) (kcv key)
        let s1 : State := { s1 with cry := { s1.cry with tkeys := s1.cry.tkeys.put [] (2 * t + slot - 1) key } }
        .next (s1.keyDone fn 0 0) : Res)) ∧
  (∀ (fn : Fn) s, s.reaches Reg.CRY_CMD →
    exec (.tswitch fn) s = (
      let t := s.keyIdx fn % 16384
      let slot := s.keyIdx fn / 16384
      let at_ := s.keyArg fn
      let c := s.slotCheck fn false
      let ahead := (at_ + 2 ^ 51 - s.sfc) % 2 ^ 51
      let far := 2 ^ 51 ≤ at_ || ahead < 2 || 65536 < ahead
      let c := if c ≠ 1 && far then 1 else if c = 0 && s.slotSt t slot != 1 then 5 else c
      if c ≠ 0 then .next (s.keyDone fn 1 c)
      else
        let s1 := (s.setB (Reg.CRY_TK t 0) 23 true).wr (Reg.CRY_TK t 3) (wordOf at_ 0)
        let s1 : State := { s1 with cry := { s1.cry with switches := s1.cry.switches.put (0, 0) t (slot, at_) } }
        .next (s1.keyDone fn 1 0) : Res)) ∧
  (∀ (fn : Fn) s, s.reaches Reg.CRY_CMD →
    exec (.tclear fn) s = (
      let c := s.slotCheck fn true
      if c ≠ 0 then .next (s.keyDone fn 2 c)
      else
        let t := s.keyIdx fn % 16384
        let slot := s.keyIdx fn / 16384
        let s1 := (s.setSlot t slot 0).wr (Reg.CRY_TK t slot) 0
        let s1 : State := { s1 with cry := { s1.cry with tkeys := s1.cry.tkeys.drop (2 * t + slot - 1) } }
        .next (s1.keyDone fn 2 0) : Res)) ∧
  (∀ (fn : Fn) s, s.reaches Reg.CRY_CMD →
    exec (.sakey fn) s = (
      let a := s.keyIdx fn
      let pn := (s.cs fn (Reg.CRY_CMD_ARG 0)).toNat
      let c := s.saCheck fn
      let c := if c = 0 then (if pn = 0 then 1 else if s.saBit a 31 then 3 else 0) else c
      if c ≠ 0 then .next (s.keyDone fn 3 c)
      else
        let key := (List.range 8).map (s.keyWord fn)
        let rest := if s.saXpn a then ([8, 9, 10].map (s.keyWord fn)) ++ [s.cs fn (Reg.CRY_CMD_ARG 1)] else []
        let s1 := (s.wr (Reg.CRY_SA a 0) (setBitW (kcv key) 30 true)).setPn a pn
        let s1 : State := { s1 with cry := { s1.cry with
          sakeys := s1.cry.sakeys.put [] a (key ++ rest), saFirst := s1.cry.saFirst.put 0 a pn, highest := s1.cry.highest.drop a } }
        .next (s1.keyDone fn 3 0) : Res)) ∧
  (∀ (fn : Fn) s, s.reaches Reg.CRY_CMD →
    exec (.saena fn) s = (
      let a := s.keyIdx fn
      let c := s.saCheck fn
      let c := if c = 0 && !s.saBit a 30 then 5 else c
      if c ≠ 0 then .next (s.keyDone fn 4 c)
      else
        let first := decide (a < 1024) && !s.saBit a 31 && s.pnReached a (s.saPn a)
        let s1 := s.setB (Reg.CRY_SA a 0) 31 true
        let s1 := if first then s1.cryEvent 2 a 0 (s1.saPn a) else s1
        .next (s1.keyDone fn 4 0) : Res)) ∧
  (∀ (fn : Fn) s, s.reaches Reg.CRY_CMD →
    exec (.sadis fn) s = (
      let a := s.keyIdx fn
      let c := s.saCheck fn
      let active := decide (a < 1024) && s.bit (Reg.CRY_TXSC_w1 (a / 4)) 31 && s.fld (Reg.CRY_TXSC_w0 (a / 4)) 1 0 == a % 4
      let c := if c = 0 && active then 3 else c
      if c ≠ 0 then .next (s.keyDone fn 5 c)
      else if 1024 ≤ a then .next ((s.setB (Reg.CRY_SA a 0) 31 false).keyDone fn 5 0)
      else
        let closing := if s.saBit a 31 && !s.cry.closing.contains a then s.cry.closing ++ [a] else s.cry.closing
        .next (({ s with cry := { s.cry with closing := closing } } : State).keyDone fn 5 0) : Res)) ∧
  (∀ (a : Fin 1024) s, exec (.saDone a) s = (
      if s.cry.closing.contains a.val && s.cry.flying.look 0 a == 0 then
        let s1 : State := { s with cry := { s.cry with closing := s.cry.closing.filter fun x => x != a.val } }
        let s1 := (s1.setB (Reg.CRY_SA a 0) 31 false).wr (Reg.CRY_SA a 3) (wordOf (s.saPn a) 0)
        .next (s1.cryEvent 3 a 0 (s.saPn a))
      else .next s : Res)) ∧
  (∀ (k : Fin 512) (v : Word) s, s.reaches (Reg.CRY_GSC k) →
    exec (.gscWrite k v) s = (
      let w := Reg.CRY_TXSC_w1 (fldW v 7 0)
      let g := Reg.TMG_GRP k
      .next (if s.fld w 4 0 != s.fld g 26 22 || s.bit w 30 != s.bit g 31 || s.fld w 29 26 != s.fld g 30 27 then
          s.inc Reg.CRY_CNT_REFUSED
        else s.wr (Reg.CRY_GSC k) (v &&& 0x800000FF)) : Res)) ∧
  (∀ (c : Fin 256) (v : Word) s, s.reaches (Reg.CRY_TXSC_w0 c) →
    exec (.txscAnWrite c v) s = (
      let a := 4 * c.val + fldW v 1 0
      .next (if s.saBit a 31 && !s.cry.closing.contains a then s.wr (Reg.CRY_TXSC_w0 c) (v &&& 3)
        else s.inc Reg.CRY_CNT_REFUSED) : Res))

/-- When the write reaches UPL: QUAD_MODE_WRITE counts while a port of the quad is enabled; UPL_PORT_ENABLE of a port that
was disabled starts TRAIN with no lane lost; UPL_PORT_DISABLE makes the port OFF, its lanes without lock. LANE_LOCK
sets the lane's lock, shows whether the block last received adapts and stores the equaliser found from one that does,
and the last lane of a port in TRAIN or RETRAIN leads to ALIGN. LANE_LOCK_LOSS clears the lock: ALIGN goes back to
TRAIN, UP goes down with the lane, RETRAIN notes the lane; a mate lane is dropped. PCS_ALIGN makes ALIGN UP,
ALIGN_TIMEOUT makes it TRAIN, PCS_ALIGNMENT_LOSS takes an UP port down. RETRAIN_TIMEOUT fails a port with fault 39,
unless all lanes have lock, or a first time spare slices stand in. (16_uplinks_mate_link.md, Uplink ports;
16_uplinks_mate_link.md, Link state and loss of lock; 16_uplinks_mate_link.md, Table 16.2; 16_uplinks_mate_link.md,
Equalisation.) -/
def Obligations.UplinkPortsAndLanes : Prop :=
  (∀ (q : Fin 6) (v : Word) s, s.reaches (Reg.UPL_Q q) →
    exec (.quadModeWrite q v) s = (
      if s.quadBusy q then .next (s.inc Reg.UPL_CNT_REFUSED)
      else .next (s.wr (Reg.UPL_Q q) (v &&& 0x17)).settleQuads : Res)) ∧
  (∀ (u : Fin 24) (v : Word) s, s.reaches (Reg.UPL_u_CTRL u) →
    exec (.uplPortEnable u v) s = (
      if s.portLanes u = 0 then .next s
      else
        let a := Reg.UPL_u_CTRL u
        let was := s.bit a 31
        let s1 := s.wr a (setBitW (fitWord a (s.rd a) v) 31 true)
        .next (if was then s1 else ((s1.pmPartial (20480 + u)).setUpState u 1).setF (Reg.UPL_u_STATUS u) 23 16 0) : Res)) ∧
  (∀ (u : Fin 24) (v : Word) s, s.reaches (Reg.UPL_u_CTRL u) →
    exec (.uplPortDisable u v) s = (
      if s.portLanes u = 0 then .next s
      else
        let a := Reg.UPL_u_CTRL u
        let up := s.upState u == 3
        let s0 := if s.bit a 31 then s.pmPartial (20480 + u) else s
        let s1 := (s0.wr a (setBitW (fitWord a (s0.rd a) v) 31 false)).setUpState u 0
        let s2 := (List.range (s.portLanes u)).foldl (fun s i =>
          (s.setB (Reg.UPL_L_RX (u + i)) 0 false).setB (Reg.UPL_L_RX (u + i)) 2 true) s1
        let s3 : State := { s2 with upl := { s2.upl with second := s2.upl.second.filter fun x => x != u.val } }
        .next (if up then s3.memberLeft u else s3) : Res)) ∧
  (∀ (l : Fin 32) (fit : LaneFit) s, exec (.laneLock l fit) s = (
      if 24 ≤ l.val then
        let m := l.val - 24
        if s.bit Reg.MLK_CTRL 31 then
          .next ((s.setB (Reg.MLK_l_STATUS m) 7 true).adapted (Reg.MLK_l_RX m) fit.moves)
        else .next s
      else match s.portOfLane l with
        | none => .next s
        | some u =>
          let st := s.upState u
          if st = 0 || st = 5 then .next s
          else
            let a := Reg.UPL_L_RX l
            let s := s.adapted a fit.moves
            let s := if s.bit a 2 then s else s.wr (Reg.UPL_L_EQ l) (fit.eq &&& 0x0FFF00FF)
            if (st = 1 || st = 4) && s.allLocked u then
              let s : State := { s with upl := { s.upl with second := s.upl.second.filter fun x => x != u } }
              .next (s.setUpState u 2)
            else .next s : Res)) ∧
  (∀ (l : Fin 32) s, exec (.laneLockLoss l) s = (
      if 24 ≤ l.val then .next (s.dropLane (l.val - 24))
      else
        let s := (s.setB (Reg.UPL_L_RX l) 0 false).setB (Reg.UPL_L_RX l) 2 true
        match s.portOfLane l with
        | none => .next s
        | some u =>
          let bit := 2 ^ (l.val - u)
          match s.upState u with
          | 2 => .next (s.setUpState u 1)
          | 3 => .next (s.portDown u bit)
          | 4 => .next (s.setF (Reg.UPL_u_STATUS u) 23 16 (s.fld (Reg.UPL_u_STATUS u) 23 16 ||| bit))
          | _ => .next s : Res)) ∧
  (∀ (u : Fin 24) s, exec (.pcsAlign u) s = .next (if s.upState u = 2 then s.setUpState u 3 else s)) ∧
  (∀ (u : Fin 24) s, exec (.pcsAlignmentLoss u) s = .next (if s.upState u = 3 then s.portDown u 0 else s)) ∧
  (∀ (u : Fin 24) s, exec (.alignTimeout u) s = .next (if s.upState u = 2 then s.setUpState u 1 else s)) ∧
  (∀ (u : Fin 24) s, exec (.retrainTimeout u) s = (
      if s.upState u ≠ 4 then .next s
      else
        let lost := ((List.range (s.portLanes u)).map fun i => u.val + i).filter fun l => !s.bit (Reg.UPL_L_RX l) 0
        let fail := fun (s : State) =>
          ({ s with upl := { s.upl with second := s.upl.second.filter fun x => x != u.val } } : State)
        if lost.isEmpty then .next ((fail s).setUpState u 2)
        else if s.upl.second.contains u.val then
          .next ((lost.foldl (fun s l => s.raise 12 l) ((fail s).setUpState u 5)).raise 39 u)
        else
          let (ok, s) := s.spareLanes lost
          if ok then
            .next (({ s with upl := { s.upl with second := u.val :: s.upl.second } } : State).inc (Reg.UPL_u_CNT_RETRAIN u))
          else .next ((s.setUpState u 5).raise 39 u) : Res))

/-- UPL_RX_FRAME on a port that is not UP does nothing but bring the clock to the frame's instant, and count the frame cut
off when the port left UP as a bad FCS; on one that is UP Quiet ends; a bad FCS (also one that an uncorrectable
codeword has marked), a short, a long or a MAC control frame is counted and dropped; another is counted with its
bytes, and MACsec drops and counts it, or passes it with the highest packet number of its SA kept, to the packet
pipelines with the port, and the instant of reception corrected by the port's compensation. When the write reaches
UPL: UPL_GROUP_WRITE counts a group with a member that is no port or is in another enabled group, PROT_GROUP_ENABLE
one whose number of members is wrong for its mode; else the words are stored, and the selection is made anew.
(16_uplinks_mate_link.md, Uplink ports; 16_uplinks_mate_link.md, Uplink groups; 15_cipher.md, MACsec;
18_protection.md, Protected uplink groups.) -/
def Obligations.UplinkFramesAndGroups : Prop :=
  (∀ (u : Fin 24) (data : List Byte) (fcsBad uncorr cutOff : Bool) (ns : Word64) (frac : BitVec 16) (s : State),
    let t1 := s.advanceTo ns.toNat
    t1.upState u ≠ 3 →
    (cutOff && t1.upl.cutting.getLsbD u) = false →
    exec (.uplRxFrame u data fcsBad uncorr cutOff ns frac) s = .next t1) ∧
  (∀ (u : Fin 24) (data : List Byte) (fcsBad uncorr cutOff : Bool) (ns : Word64) (frac : BitVec 16) (s : State),
    let t1 := s.advanceTo ns.toNat
    t1.upState u ≠ 3 →
    (cutOff && t1.upl.cutting.getLsbD u) = true →
    exec (.uplRxFrame u data fcsBad uncorr cutOff ns frac) s =
        .next (({ t1 with upl := { t1.upl with cutting := setBitW t1.upl.cutting u false } } : State).inc
        (Reg.UPL_u_CNT_RX_FCS u))) ∧
  (∀ (u : Fin 24) (data : List Byte) (fcsBad uncorr cutOff : Bool) (ns : Word64) (frac : BitVec 16) (s : State),
    let t1 := s.advanceTo ns.toNat
    ¬ (t1.upState u ≠ 3) →
    let t2 := t1.leaveQuiet
    (fcsBad || uncorr) = true →
    exec (.uplRxFrame u data fcsBad uncorr cutOff ns frac) s = .next (t2.inc (Reg.UPL_u_CNT_RX_FCS u))) ∧
  (∀ (u : Fin 24) (data : List Byte) (fcsBad uncorr cutOff : Bool) (ns : Word64) (frac : BitVec 16) (s : State),
    let t1 := s.advanceTo ns.toNat
    let len := data.length + 4
    ¬ (t1.upState u ≠ 3) →
    let t2 := t1.leaveQuiet
    (fcsBad || uncorr) = false →
    len < 64 →
    exec (.uplRxFrame u data fcsBad uncorr cutOff ns frac) s = .next (t2.inc (Reg.UPL_u_CNT_RX_SHORT u))) ∧
  (∀ (u : Fin 24) (data : List Byte) (fcsBad uncorr cutOff : Bool) (ns : Word64) (frac : BitVec 16) (s : State),
    let t1 := s.advanceTo ns.toNat
    let len := data.length + 4
    ¬ (t1.upState u ≠ 3) →
    let t2 := t1.leaveQuiet
    (fcsBad || uncorr) = false →
    ¬ (len < 64) →
    t2.fld (Reg.UPL_u_CTRL u) 14 0 < len →
    exec (.uplRxFrame u data fcsBad uncorr cutOff ns frac) s = .next (t2.inc (Reg.UPL_u_CNT_RX_LONG u))) ∧
  (∀ (u : Fin 24) (data : List Byte) (fcsBad uncorr cutOff : Bool) (ns : Word64) (frac : BitVec 16) (s : State),
    let t1 := s.advanceTo ns.toNat
    let type := joinBytesBE ((data.drop 12).take 2)
    let len := data.length + 4
    ¬ (t1.upState u ≠ 3) →
    let t2 := t1.leaveQuiet
    (fcsBad || uncorr) = false →
    ¬ (len < 64) →
    ¬ (t2.fld (Reg.UPL_u_CTRL u) 14 0 < len) →
    type = 0x8808 →
    exec (.uplRxFrame u data fcsBad uncorr cutOff ns frac) s = .next (t2.inc (Reg.UPL_u_CNT_RX_MACCTL u))) ∧
  (∀ (u : Fin 24) (data : List Byte) (fcsBad uncorr cutOff : Bool) (ns : Word64) (frac : BitVec 16) (s : State),
    let t1 := s.advanceTo ns.toNat
    let type := joinBytesBE ((data.drop 12).take 2)
    let len := data.length + 4
    ¬ (t1.upState u ≠ 3) →
    let t2 := t1.leaveQuiet
    (fcsBad || uncorr) = false →
    ¬ (len < 64) →
    ¬ (t2.fld (Reg.UPL_u_CTRL u) 14 0 < len) →
    ¬ (type = 0x8808) →
    let t3 := (t2.add64 (Reg.UPL_u_CNT_RX_FRAMES_LO u) 1).add64 (Reg.UPL_u_CNT_RX_BYTES_LO u) len
    ∀ c, t3.openFrame u data = .drop c →
    exec (.uplRxFrame u data fcsBad uncorr cutOff ns frac) s = .next (t3.inc c)) ∧
  (∀ (u : Fin 24) (data : List Byte) (fcsBad uncorr cutOff : Bool) (ns : Word64) (frac : BitVec 16) (s : State),
    let t1 := s.advanceTo ns.toNat
    let type := joinBytesBE ((data.drop 12).take 2)
    let len := data.length + 4
    ¬ (t1.upState u ≠ 3) →
    let t2 := t1.leaveQuiet
    (fcsBad || uncorr) = false →
    ¬ (len < 64) →
    ¬ (t2.fld (Reg.UPL_u_CTRL u) 14 0 < len) →
    ¬ (type = 0x8808) →
    let t3 := (t2.add64 (Reg.UPL_u_CNT_RX_FRAMES_LO u) 1).add64 (Reg.UPL_u_CNT_RX_BYTES_LO u) len
    ∀ d sa, t3.openFrame u data = .pass d sa →
    let s1 : State := match sa with
      | some (a, pn) =>
        let t3 := t3.add64 (Reg.CRY_u_CNT_RX_OK_LO u) 1
        { t3 with cry := { t3.cry with highest := t3.cry.highest.put 0 a (max (t3.cry.highest.look 0 a) pn) } }
      | none => t3
    let p : Pkt := { kind := 1, port := u, down := true, data := d
                     stamp := some (stampWith ns.toNat frac.toNat (s1.rdInt (Reg.TSU_U_RX_CMP u))) }
    exec (.uplRxFrame u data fcsBad uncorr cutOff ns frac) s =
        .next { s1 with cls := { s1.cls with ingress := s1.cls.ingress ++ [p] } }) ∧
  (∀ (g : Fin 24) (v : Word) (s : State),
    s.reaches (Reg.UPL_GRP g) →
    let bad := (List.range 24).any fun u => v.getLsbD u && (s.portLanes u == 0 ||
      (List.range 24).any fun h => h != g.val && s.bit (Reg.UPL_GRP h) 31 && s.bit (Reg.UPL_GRP h) u)
    bad = false →
    exec (.uplGroupWrite g v) s = .next (s.wr (Reg.UPL_GRP g) (v &&& 0x80FFFFFF))) ∧
  (∀ (g : Fin 24) (v : Word) (s : State),
    s.reaches (Reg.UPL_GRP g) →
    let bad := (List.range 24).any fun u => v.getLsbD u && (s.portLanes u == 0 ||
      (List.range 24).any fun h => h != g.val && s.bit (Reg.UPL_GRP h) 31 && s.bit (Reg.UPL_GRP h) u)
    bad = true →
    exec (.uplGroupWrite g v) s = .next (s.inc Reg.UPL_CNT_REFUSED)) ∧
  (∀ (g : Fin 24) (v : Word) (s : State),
    s.reaches (Reg.UPL_PG g) →
    let a := Reg.UPL_PG g
    let n := ((List.range 24).filter (s.bit (Reg.UPL_GRP g))).length
    let want := if v.getLsbD 30 then 1 else 2
    (v.getLsbD 31 && n != want) = false →
    let sel := s.bit a 31 && s.bit a 0
    exec (.protGroupEnable g v) s = .next ((s.wr a (setBitW (v &&& 0xC0000000) 0 sel)).reselect g)) ∧
  (∀ (g : Fin 24) (v : Word) (s : State),
    s.reaches (Reg.UPL_PG g) →
    let n := ((List.range 24).filter (s.bit (Reg.UPL_GRP g))).length
    let want := if v.getLsbD 30 then 1 else 2
    (v.getLsbD 31 && n != want) = true →
    exec (.protGroupEnable g v) s = .next (s.inc Reg.UPL_CNT_REFUSED))

/-- When the write reaches MLK: MLK_ENABLE, MLK_TRAIN_START and MLK_TRAIN_END act as a write of the control register with
TRAIN as written, 1 and 0: EN 1 without a mate role is counted and stores nothing; else EN, TRAIN and LANES are
stored; EN 0 takes the link down, TRAIN 1 takes it to the alignment loop, unless it is in it, and sends training
blocks, TRAIN 0 in the loop announces the lanes while the others keep training, and out of it does no more. BITSLIP
moves the lane's slip on by 1 modulo 128 and clears its training bit. MLK_LINK_UP after both announcements brings the
link up at the widest common set of lanes and mirrors the protected ports, or leaves it down. MLK_BLOCK_RECEIVE counts
a bad block, counts training blocks in a row up to 32, and in a link that is up takes the block on a lane in service.
MLK_LANE_DROP acts on a lane in service after 8 bad blocks, MLK_NARROW_DONE puts the narrower width in force,
MLK_LANE_RETRAIN ends a retrain, with a spare slice or fault 12 where lock is not found, and loss of the clock takes
the link down. (16_uplinks_mate_link.md, Mate link; 16_uplinks_mate_link.md, Alignment; 16_uplinks_mate_link.md, Lane
drop; 18_protection.md, Mirroring.) -/
def Obligations.MateLink : Prop :=
  (∀ v c x s, (c, x) ∈ ([(.mlkEnable v, v), (.mlkTrainStart v, setBitW v 30 true), (.mlkTrainEnd v, setBitW v 30 false)] :
      List (Instr × Word)) → s.reaches Reg.MLK_CTRL →
    let w := x &&& 0xC00000FF
    let t := s.wr Reg.MLK_CTRL w
    let own := fldW w 7 0
    let p := (List.range 8).partition fun l => Nat.testBit own l
    (w.getLsbD 31 = true → s.mateRole = false → exec c s = .next (s.inc Reg.MLK_CNT_REFUSED)) ∧
    (w.getLsbD 31 = false → exec c s = .next (t.mateLeft 0)) ∧
    (w.getLsbD 31 = true → s.mateRole = true → w.getLsbD 30 = true →
      (s.bit Reg.MLK_CTRL 31 = true ∧ s.bit Reg.MLK_CTRL 30 = true ∧ s.mateState = 1 →
        exec c s = .next (t.sendTrain (List.range 8))) ∧
      (s.bit Reg.MLK_CTRL 31 = false ∨ s.bit Reg.MLK_CTRL 30 = false ∨ s.mateState ≠ 1 →
        exec c s = .next (((t.mateLeft 1).setF Reg.MLK_STATUS 15 8 0).sendTrain (List.range 8)))) ∧
    (w.getLsbD 31 = true → s.mateRole = true → w.getLsbD 30 = false →
      (s.bit Reg.MLK_CTRL 31 = true ∧ s.mateState = 1 → exec c s = .next
        ((({ t with mlk := { t.mlk with announcing := true, partner := none } } : State).sendWidth p.1 31 (255 - own)
          own).sendTrain p.2)) ∧
      (s.bit Reg.MLK_CTRL 31 = false ∨ s.mateState ≠ 1 → exec c s = .next t))) ∧
  (∀ (v : Word) s, s.reaches Reg.MLK_CTRL →
    exec (.mlkEnable v) s = .next (s.mateCtrl v)) ∧
  (∀ (v : Word) s, s.reaches Reg.MLK_CTRL →
    exec (.mlkTrainStart v) s = .next (s.mateCtrl (setBitW v 30 true))) ∧
  (∀ (v : Word) s, s.reaches Reg.MLK_CTRL →
    exec (.mlkTrainEnd v) s = .next (s.mateCtrl (setBitW v 30 false))) ∧
  (∀ (l : Fin 8) s, s.reaches (Reg.MLK_l_CMD l) →
    exec (.bitslip l) s = (
      let a := Reg.MLK_l_STATUS l
      let s := (s.setF a 6 0 ((s.fld a 6 0 + 1) % 128)).setB a 8 false
      .next (s.setMlane l { s.mlane l with tp := 0 }) : Res)) ∧
  (∀ s, exec .mlkLinkUp s = (
      match s.mlk.announcing, s.mlk.partner with
      | true, some m =>
        match setsWithin (s.fld Reg.MLK_CTRL 7 0 &&& m) with
        | [] => .next s.mateDown
        | c :: _ =>
          let s := (s.setF Reg.MLK_STATUS 2 0 2).setF Reg.MLK_STATUS 5 3 c
          let s := ({ s with mlk := { s.mlk with announcing := false, partner := none } } : State)
          .next ((List.range 32).foldl (fun s n => if s.isMate n && s.pst n == 1 then s.mirrorAll n else s) s)
      | _, _ => .next s : Res)) ∧
  (∀ (l : Fin 8) (b : BitVec 256) s, exec (.mlkBlockReceive l b) s = (
      if !s.bit Reg.MLK_CTRL 31 || !s.bit Reg.MLK_STATUS 16 then .next s
      else
        let x := s.mlane l
        let a := Reg.MLK_l_STATUS l
        if !blockGood b then
          let s := (s.inc (Reg.MLK_l_CNT_BAD_BLK l)).setB a 8 false
          .next (s.setMlane l { x with bad := x.bad + 1, tp := 0, broken := true })
        else
          let train := blockType b == 15 || blockType b == 5
          let n := if train then min (x.tp + 1) 32 else 0
          let s := (s.setMlane l { x with bad := 0, tp := n }).setB a 8 (n == 32)
          let s := if blockType b == 15 && blockLen b != l.val then s.setB a 9 true else s
          if s.mateState = 2 then .next (if s.mateLanes.contains l.val then s.upBlock l b else s)
          else if blockType b == 5 && blockLen b == 31 && s.mlk.announcing && s.bit Reg.MLK_CTRL l then
            .next { s with mlk := { s.mlk with partner := some ((blockData b).getD 1 0).toNat } }
          else .next s : Res)) ∧
  (∀ (l : Fin 8) s, exec (.mlkLaneDrop l) s = .next (if s.mateState = 2 ∧ s.mateLanes.contains l.val ∧ 8 ≤ (s.mlane l).bad then s.dropLane l else s)) ∧
  (∀ s, exec .mlkNarrowDone s = (
      match s.mlk.target with
      | none => .next s
      | some c =>
        let s := s.setF Reg.MLK_STATUS 5 3 c
        .next { s with mlk := { s.mlk with target := none } } : Res)) ∧
  (∀ (l : Fin 8) (locks : Bool) s, exec (.mlkLaneRetrain l locks) s = (
      if !s.mlk.retrain.contains l.val then .next s
      else
        let gone : State := { s with mlk := { s.mlk with
          retrain := s.mlk.retrain.filter fun x => x != l.val, tried := s.mlk.tried.filter fun x => x != l.val } }
        if locks then .next ((gone.setB (Reg.MLK_l_STATUS l) 7 true).setB (Reg.MLK_l_RX l) 0 true)
        else if s.mlk.tried.contains l.val then .next (gone.raise 12 l)
        else
          let (ok, s1) := s.useSlice 7 17 l
          if ok then
            .next { s1 with mlk := { s1.mlk with tried := l.val :: s1.mlk.tried } }
          else .next (gone.raise 12 l) : Res)) ∧
  (∀ s, exec .mlkClockLoss s = (
      let s := s.setB Reg.MLK_STATUS 16 false
      .next (if s.mateState = 0 then s else s.mateDown) : Res)) ∧
  (∀ s, exec .mlkClockReturn s = .next (s.setB Reg.MLK_STATUS 16 true))

/-- When the write reaches TPA: PROT_ENABLE with EN 0 is not this command; a port that is not idle, a mate pair without a
mate role, or a pair with itself is counted; else the setting is stored, a new member becomes ACTIVE or STANDBY, and
the ACTIVE one of the pair mirrors every context. FORCE acts with cause 4 on the ACTIVE member, named directly or by
its partner on this device, unless protection is off or the member locked out; LOCKOUT sets and CLEAR clears the
lockout bit; each stores its OP. SILENT_DETECT on an ACTIVE member after SILENT_FR silent frames is cause 1.
MATE_TIMEOUT on the STANDBY member of a mate pair whose partner was ACTIVE, neither locked out nor in error, starts to
take over with cause 3 in 2,000 ns. (18_protection.md, Arrangements; 18_protection.md, Member states and detection;
18_protection.md, Table 18.3; 18_protection.md, Protection registers.) -/
def Obligations.ProtectionCommandsAndDetection : Prop :=
  (∀ (n : Fin 32) (v : Word) s, s.reaches (Reg.TPA_PROT n) →
    exec (.protEnable n v) s = (
      (
        if !v.getLsbD 31 then .next s
        else
          let p := fldW v 29 25
          let mate := v.getLsbD 30
          if !s.idlePort n || (mate && !s.mateRole) || (!mate && p == n.val) then .next (s.tpaRefused n)
          else
            let was := s.bit (Reg.TPA_PROT n) 31
            let s := (s.wr (Reg.TPA_PROT n) (v &&& 0xFF3FFFFF)).tell 3 n (Reg.TPA_PROT n)
            let first := if mate then s.roleCode == 1 else decide (n.val < p)
            let s := if was then s else ((s.setAway n (mate && !first)).setPst n (if first then 1 else 2)).seeLight
            let s := s.setB (Reg.TPA_PSTAT n) 5 (mate && s.prot.mateRole == s.roleCode)
            .next (if s.pst n = 1 then s.mirrorAll n
              else if !mate && s.pst p == 1 && s.partner p == n.val then s.mirrorAll p else s)) : Res)) ∧
  (∀ (n : Fin 32) s, s.reaches (Reg.TPA_PCMD n) →
    exec (.protForce n) s = (
      (
        let s := s.setF (Reg.TPA_PCMD n) 1 0 0
        if !s.bit (Reg.TPA_PROT n) 31 || s.lockedOut n then .next s
        else if s.pst n = 2 then .next (if s.isMate n then s else s.causeDetected (s.partner n) 4)
        else .next (s.causeDetected n 4)) : Res)) ∧
  (∀ (n : Fin 32) s, s.reaches (Reg.TPA_PCMD n) →
    exec (.protLockout n) s = (
      (
        let s := s.setF (Reg.TPA_PCMD n) 1 0 1
        .next (if s.bit (Reg.TPA_PROT n) 31 then s.setB (Reg.TPA_PSTAT n) 6 true else s)) : Res)) ∧
  (∀ (n : Fin 32) s, s.reaches (Reg.TPA_PCMD n) →
    exec (.protClear n) s = .next ((s.setF (Reg.TPA_PCMD n) 1 0 2).setB (Reg.TPA_PSTAT n) 6 false)) ∧
  (∀ (n : Fin 32) s, exec (.silentDetect n) s = (
      if s.pst n = 1 && decide (s.fld (Reg.TPA_PTIM n) 31 24 ≤ s.prot.silent.look 0 n) then
        .next (({ s with prot := { s.prot with silent := s.prot.silent.drop n } } : State).causeDetected n 1)
      else .next s : Res)) ∧
  (∀ (n : Fin 32) s, exec (.mateTimeout n) s = (
      if !s.mateRole || !s.isMate n || s.pst n ≠ 2 || s.lockedOut n || s.bit (Reg.TPA_PSTAT n) 5 ||
          !s.prot.away.getLsbD n then .next s
      else
        let s : State := { s with prot := { s.prot with taking := s.prot.taking.put 0 n (s.now + 2000) } }
        .next (s.startTaking n 2 3) : Res))

/-- A receiving command takes the oldest control block of its type, and does nothing without one. SWITCH starts the taking
member of a mate pair, which lights at the block's instant where the clocks agree; DARK lights a taking member;
TAKING_LIGHT lights it when its instant comes, and RELEASING_DARK makes the released one STANDBY. STATE_BLOCK_SEND
sends roles, ACTIVE members and gaps in a mate role; STATE_BLOCK_RECEIVE keeps the partner's, marks equal roles as an
error, resolves a double ACTIVE and makes the selections that waited for a gap. MIRROR sends a context of an ACTIVE
member; MIRROR_RECEIVE keeps it in a STANDBY member's shadow; MAP_BLOCK_RECEIVE gathers a map's entries in order,
three a block, and ends with the first shorter block. (18_protection.md, The switch-over; 18_protection.md, Mirroring;
18_protection.md, Table 18.5.) -/
def Obligations.ProtectionSwitchOver : Prop :=
  (∀ s, exec .switchReceive s = (
      match s.takeControl 3 with
      | none => .next s
      | some (d, s) =>
        let n := blockPort d
        if !s.isMate n || s.pst n ≠ 2 || s.lockedOut n || s.bit (Reg.TPA_PSTAT n) 5 then .next s
        else
          let x := (s.now : Int) + signedN 40 (blockNum d 3 5 + 2 ^ 40 - s.now40)
          let s : State := if s.clocksAgree then
              { s with prot := { s.prot with taking := s.prot.taking.put 0 n (max x.toNat 1) } }
            else s
          .next (s.startTaking n 2 (blockByte d 2 % 16)) : Res)) ∧
  (∀ s, exec .darkReceive s = (
      match s.takeControl 4 with
      | none => .next s
      | some (d, s) =>
        let n := blockPort d
        .next (if s.isMate n && s.pst n == 3 then s.lightUp n else s) : Res)) ∧
  (∀ (n : Fin 32) s, exec (.takingLight n) s = (
      match s.prot.taking.look 0 n with
      | 0 => .next s
      | x =>
        let s := s.advanceTo x
        .next (if s.pst n = 3 then s.lightUp n else s) : Res)) ∧
  (∀ (n : Fin 32) s, exec (.releasingDark n) s = (
      match s.prot.releasing.look 0 n with
      | 0 => .next s
      | x => .next ((s.advanceTo x).toStandby n) : Res)) ∧
  (∀ s, exec .stateBlockSend s = (
      .next (if !s.mateRole then s
        else s.sendControl (protData ([2, BitVec.ofNat 8 s.roleCode] ++
          bytesBE 4 (portMask fun n => s.pst n == 1) ++ bytesBE 4 (portMask s.inGap)))) : Res)) ∧
  (∀ s, exec .stateBlockReceive s = (
      let heard := s.controlTime 2
      match s.takeControl 2 with
      | none => .next s
      | some (d, s) =>
        let role := blockByte d 1
        let s : State := { s with prot := { s.prot with
          mateRole := role, mateActive := BitVec.ofNat 32 (blockNum d 2 4), mateGap := BitVec.ofNat 32 (blockNum d 6 4)
          mateHeard := heard.map Int.ofNat } }
        let s := (List.range 32).foldl (fun s n =>
          if s.isMate n then
            let s := s.setB (Reg.TPA_PSTAT n) 5 (role == s.roleCode)
            if s.prot.mateActive.getLsbD (s.partner n) then s.setAway n true else s
          else s) s
        let s := (List.range 32).foldl (fun s n => s.stateMember n) s
        .next s.reselectAll : Res)) ∧
  (∀ (n : Fin 32) (l : Fin 512) s, exec (.mirror n l) s = .next (if s.bit (Reg.TPA_PROT n) 31 && s.pst n == 1 then s.mirror1 n l else s)) ∧
  (∀ s, exec .mirrorReceive s = (
      match s.takeControl 5 with
      | none => .next s
      | some (d, s) =>
        let n := blockPort d
        let w := blockNum d 2 2
        let x : Shadow :=
          { st := w / 4096, eqd := blockNum d 4 4 % 2 ^ 28, offF := BitVec.ofNat 32 (blockNum d 8 4), sn := blockNum d 12 8
            tcal := blockNum d 20 3, cal := blockByte d 23 == 1 }
        .next (if s.isMate n && s.pst n == 2 then
          { s with prot := { s.prot with shadow := s.prot.shadow.put {} (512 * n + w % 512) x } }
        else s) : Res)) ∧
  (∀ s, exec .mapBlockReceive s = (
      match s.takeControl 6 with
      | none => .next s
      | some (d, s) =>
        let n := blockPort d
        if !s.isMate n then .next s
        else
          let p := s.partner n
          let i := blockNum d 2 2
          let e := mapEnts d
          let got := ((s.dfr.arriving.find? fun x => x.1 == p).map (·.2)).getD []
          let m := (if i = 0 then [] else got) ++ e
          if i ≠ 0 && got.length ≠ i then .next s
          else if e.length < 3 then
            .next { s with dfr := { s.dfr with
              mate := Tab.place p m (s.dfr.mate.drop p), arriving := s.dfr.arriving.drop p } }
          else .next { s with dfr := { s.dfr with arriving := Tab.place p m (s.dfr.arriving.drop p) } } : Res))

/-- With HIF up and the window reachable, BAR4 apart: an operator's REGISTER_WRITE of a register whose write its chapter
neither holds nor refuses stores the fields that the access types let it reach, with what the write then does; a
tenant's write of its own command set likewise; HELD_WORD_WRITE joins the word to the held words of its entry, a
tenant's for a ring of its group; LATCHING_READ and COUNTER_LOW_READ latch the words that follow, clear what clears on
read and answer the word; CLEAR_ON_READ answers the word and clears it; TW_DATA0_READ answers word 0 of the object
that TW_SEL names in the tenant's share and latches words 1 to 7. A write of the operator with some byte enables clear
counts in GLB_CNT_RSV and has no other effect, a tenant's of an unlisted offset counts in its page, of a listed one it
has none; in BAR4 a word write at +0 of a ring is a doorbell, a read at +4 answers DEV_IDX, another write is ignored
and another read zero; a reserved address counts in GLB_CNT_RSV and reads zero, a tenant's is counted in its page; an
address in the window of a block in reset counts in GLB_CNT_INRST and reads zero, and for a tenant is ignored and
reads zero. In every other state each is the function's write or read of the address; with HIF in reset the refused
accesses do nothing. (23_register_map.md, Access size and ordering; 23_register_map.md, Reserved space;
23_register_map.md, Access types at their edges; 23_register_map.md, Blocks in reset; 23_register_map.md, Tenant and
doorbell windows.) -/
def Obligations.RegisterAccess : Prop :=
  (∀ a v s d, let A := 4 * a.toNat
    s.up 17 = true → a.getLsbD 24 = false → s.windowShut A = false → regAt A = some d → s.unusedLane A = false →
    heldAt A = none → s.guardWrite A v = none → exec (.registerWrite .op a v) s =
      .next (((s.countLock d A (s.rd A) v).wr A (s.newWord d A (s.rd A) v)).writeHook A (s.rd A) v)) ∧
  (∀ a v s d blk e i, let A := 4 * a.toNat
    s.up 17 = true → a.getLsbD 24 = false → s.windowShut A = false → regAt A = some d → s.unusedLane A = false → heldAt A = some (blk, e, i) →
    exec (.heldWordWrite .op a v) s = .next (s.hold .op blk e i v)) ∧
  (∀ (n : Fin 16) a v s x d, s.up 17 = true → setAddr (4 * a.toNat % 0x10000) = some x → regAt x = some d →
    s.windowShut x = false → s.guardSet (.t n) x v = none → ¬ 0x8000 ≤ 4 * a.toNat % 0x10000 →
    ¬ (0x1000 ≤ 4 * a.toNat % 0x10000 ∧ 4 * a.toNat % 0x10000 < 0x2000) →
    exec (.registerWrite (.t n) a v) s = .next (s.setCs (.t n) x (s.newWord d x (s.cs (.t n) x) v))) ∧
  (∀ (n : Fin 16) a v s j blk e i, let o := 4 * a.toNat % 0x10000
    s.up 17 = true → 0x1000 ≤ o → o < 0x2000 → s.slotGroup n ((o - 0x1000) / 512) = some j →
    heldAt (Reg.HIF_RING (16 * j + o / 32 % 16) (o / 4 % 8)) = some (blk, e, i) →
    exec (.heldWordWrite (.t n) a v) s = .next (s.hold (.t n) blk e i v)) ∧
  (∀ a be s, s.up 17 = true → a.getLsbD 24 = false →
    exec (.partialByteWrite .op a be) s = .next (s.refuseAt Reg.GLB_CNT_RSV (4 * a.toNat) true)) ∧
  (∀ n a be s, let o := 4 * a.toNat % 0x10000
    (s.up 17 = true → s.tenListed n.val o = false → exec (.partialByteWrite (.t n) a be) s = .next (s.tenantRefused n true o)) ∧
    (s.tenListed n.val o = true → exec (.partialByteWrite (.t n) a be) s = .next s)) ∧
  (∀ a be v s, let o := 4 * a.toNat % 0x1000
    let j := 4 * a.toNat / 0x1000 % 64
    s.up 17 = true → a.getLsbD 24 = true →
    (o % 256 = 0 → exec (.registerWrite .op a v) s = .next (s.doorbell .op (16 * j + o / 256) v)) ∧
    (o % 256 ≠ 0 → exec (.registerWrite .op a v) s = .next s) ∧
    (o % 256 = 4 → exec (.latchingRead .op a) s =
      .next (s.answer (BitVec.ofNat 32 (s.fld (Reg.HIF_RING (16 * j + o / 256) 2) 16 0)))) ∧
    (o % 256 ≠ 4 → exec (.latchingRead .op a) s = .next (s.answer 0)) ∧
    exec (.partialByteWrite .op a be) s = .next s) ∧
  (∀ a s, s.up 17 = true → a.getLsbD 24 = false → s.windowShut (4 * a.toNat) = false → regAt (4 * a.toNat) = none →
    exec (.reservedAccess .op a true) s = .next (s.refuseAt Reg.GLB_CNT_RSV (4 * a.toNat) true) ∧
    exec (.reservedAccess .op a false) s = .next ((s.refuseAt Reg.GLB_CNT_RSV (4 * a.toNat) false).answer 0)) ∧
  (∀ n a s, let o := 4 * a.toNat % 0x10000
    s.up 17 = true → s.tenListed n.val o = false →
    exec (.reservedAccess (.t n) a true) s = .next (s.tenantRefused n true o) ∧
    exec (.reservedAccess (.t n) a false) s = .next ((s.tenantRefused n false o).answer 0)) ∧
  (∀ a s, s.up 17 = true → a.getLsbD 24 = false → s.windowShut (4 * a.toNat) = true →
    exec (.inResetAccess .op a true) s = .next (s.refuseAt Reg.GLB_CNT_INRST (4 * a.toNat) true) ∧
    exec (.inResetAccess .op a false) s = .next ((s.refuseAt Reg.GLB_CNT_INRST (4 * a.toNat) false).answer 0)) ∧
  (∀ n a s x, s.up 17 = true → setAddr (4 * a.toNat % 0x10000) = some x → s.windowShut x = true →
    exec (.inResetAccess (.t n) a true) s = .next s ∧ exec (.inResetAccess (.t n) a false) s = .next (s.answer 0)) ∧
  (∀ a s d y ys, let A := 4 * a.toNat
    let t := s.setLatch .op (blockNo A) ((y :: ys).map (s.seen .op))
    let u := (((A :: y :: ys).foldl (fun s x => s.clearRead .op x) t).answer (s.seen .op A))
    s.up 17 = true → a.getLsbD 24 = false → s.windowShut A = false → regAt A = some d → groupAt A = (0, y :: ys) →
    exec (.latchingRead .op a) s = .next u ∧ (ys = [] → exec (.counterLowRead .op a) s = .next u)) ∧
  (∀ a s d, let A := 4 * a.toNat
    s.up 17 = true → a.getLsbD 24 = false → s.windowShut A = false → regAt A = some d → groupAt A = (0, []) →
    exec (.clearOnRead .op a) s = .next (((s.clearRead .op A).readHook A).answer (s.seen .op A))) ∧
  (∀ (t : Fin 16) s l, let sel := s.ten (0x10000 * t.val + 0x5000)
    s.up 17 = true → s.twObject t (fldW sel 31 28) (fldW sel 15 0) = some l →
    exec (.twData0Read t) s = .next (((List.range 7).foldl (fun u i =>
      u.setTen (0x10000 * t.val + 0x5010 + 4 * (i + 1)) ((l.map (s.peek t)).getD (i + 1) 0)) s).answer ((l.map (s.peek t)).getD 0 0))) ∧
  (∀ fn a s, exec (.latchingRead fn a) s = .next (s.readAt fn a) ∧ exec (.counterLowRead fn a) s = .next (s.readAt fn a) ∧
    exec (.clearOnRead fn a) s = .next (s.readAt fn a)) ∧
  (∀ fn a v s, exec (.registerWrite fn a v) s = .next (s.writeAt fn a v) ∧
    exec (.heldWordWrite fn a v) s = .next (s.writeAt fn a v)) ∧
  (∀ (fn : Fn) (a : BitVec 25) (be : Fin 15) s, exec (.partialByteWrite fn a be) s = (
      .next (match fn with
        | .op => if s.up 17 && !a.getLsbD 24 then s.refuseAt Reg.GLB_CNT_RSV (4 * a.toNat) true else s
        | .t n =>
          let o := 4 * a.toNat % 0x10000
          if s.up 17 && !s.tenListed n.val o then s.tenantRefused n true o else s) : Res)) ∧
  (∀ (fn : Fn) (a : BitVec 25) (wr : Bool) s, exec (.reservedAccess fn a wr) s = (
      let o := 4 * a.toNat % 0x10000
      let back := fun (s : State) => if wr then s else s.answer 0
      .next (if !s.up 17 then s
        else match fn with
          | .op => if a.getLsbD 24 || s.windowShut (4 * a.toNat) || (regAt (4 * a.toNat)).isSome then s
            else back (s.refuseAt Reg.GLB_CNT_RSV (4 * a.toNat) wr)
          | .t n => if s.tenListed n.val o then s else back (s.tenantRefused n wr o)) : Res)) ∧
  (∀ (fn : Fn) (a : BitVec 25) (wr : Bool) s, exec (.inResetAccess fn a wr) s = (
      let back := fun (s : State) => if wr then s else s.answer 0
      .next (if !s.up 17 then s
        else match fn with
          | .op => if !a.getLsbD 24 && s.windowShut (4 * a.toNat) then back (s.refuseAt Reg.GLB_CNT_INRST (4 * a.toNat) wr) else s
          | .t _ => match setAddr (4 * a.toNat % 0x10000) with
            | some x => if s.windowShut x then back s else s
            | none => s) : Res)) ∧
  (∀ (t : Fin 16) s, exec (.twData0Read t) s = .next (if s.up 17 then s.readTw t else s))

/-- When the write reaches HIF: HIF_GRP_WRITE stores a group all of whose rings are disabled and drained and whose slot no
other group of the tenant has, else it counts; RING_CONTEXT_COMMIT and RING_DISABLE (with EN 0) commit the ring's
context with the words held for it: refused, and counted, when the ring is not the function's own (of a tenant's the
operator may clear EN alone), when EN is 1 and another field than EN, IEN and the moderation changes, when EN is set
undrained, and for a reserved type, a size outside 6 to 16, a base off its page or a vector that the function lacks;
else the eight words are stored, EN set zeroes both indices and the error, and EN cleared stops the ring. With HIF up:
DOORBELL by another than the owner is refused, with reserved bits set or on an unused ring it does nothing, within the
ring's size it stores the index, beyond it stops the ring with error 1; DESCRIPTOR_FETCH takes the next descriptor
that a doorbell covers, which of a PTX or CMD ring ends Quiet, and moves the index on modulo 2^17, a failed read
raises fault 46 and stops the ring with error 2, the ring's next command then has its turn. MSIX_MOD_TIMER signals a
ring's records that wait. With HIF up, PCIE_LINK_TRAINED stores width, rate and the strap's limit of four lanes;
VF_FLR clears EN of every enabled ring of the tenant and stops it, and its MSI-X table and pending bits return to
reset; PCIE_RESET is the soft reset of HIF, with fault 47 for a loss of the link. With HIF in reset none has an
effect. (19_host_interface.md, Ring contexts; 19_host_interface.md, Indices, phases and doorbells;
19_host_interface.md, Rings and their owners; 19_host_interface.md, Interrupts; 19_host_interface.md, Resets and link
loss.) -/
def Obligations.HostRingsAndLink : Prop :=
  (∀ (j : Fin 64) (v : Word) s, s.reaches (Reg.HIF_GRP j) →
    exec (.hifGrpWrite j v) s = (
        let busy := (List.range 16).any fun i => s.ringEn (16 * j + i) || !s.ringDrained (16 * j + i)
        .next (if busy || s.slotTwice j v then s.inc Reg.HIF_CNT_REFUSED else s.wr (Reg.HIF_GRP j) (v &&& 0xFF000000)) : Res)) ∧
  (∀ fn (r : Fin 1024) v c x s, (c, x) ∈ ([(.ringContextCommit fn r v, v), (.ringDisable fn r v, setBitW v 31 false)] :
      List (Instr × Word)) → s.reaches (Reg.HIF_RING r 0) →
    let ws := s.ctxWords fn r x
    let w0 := ws.getD 0 0
    let t := s.dropHeld fn 18
    let old := t.rd (Reg.HIF_RING r 0)
    let same := (List.range 8).all fun i => if i = 0 then setBitW old 31 false == w0 || old == w0
      else t.rd (Reg.HIF_RING r i) == ws.getD i 0
    let u := (List.range 8).foldl (fun u i => u.wr (Reg.HIF_RING r i) (ws.getD i 0)) t
    let bad := old.getLsbD 31 = true ∧ ((old &&& 0x7FEFFFFF) ≠ (w0 &&& 0x7FEFFFFF) ∨
        t.rd (Reg.HIF_RING r 6) ≠ ws.getD 6 0 ∨ t.rd (Reg.HIF_RING r 7) ≠ ws.getD 7 0) ∨
      (old.getLsbD 31 = false ∧ w0.getLsbD 31 = true ∧ t.ringDrained r = false) ∨ fldW w0 30 28 = 7 ∨
      fldW w0 27 23 < 6 ∨ 16 < fldW w0 27 23 ∨ fldW (ws.getD 6 0) 11 0 ≠ 0 ∨ vectors fn ≤ fldW w0 8 0
    (t.ringOwner r ≠ fn → fn ≠ .op ∨ same = false → exec c s = .next (t.ringRefused fn r (ctxOff r))) ∧
    (t.ringOwner r = fn → bad → exec c s = .next (t.ringRefused fn r (ctxOff r))) ∧
    (t.ringOwner r = fn ∧ ¬ bad ∨ t.ringOwner r ≠ fn ∧ fn = .op ∧ same = true →
      (old.getLsbD 31 = w0.getLsbD 31 → exec c s = .next u) ∧
      (old.getLsbD 31 = false → w0.getLsbD 31 = true → exec c s =
        .next (((u.setF (Reg.HIF_RING r 2) 16 0 0).setF (Reg.HIF_RING r 2) 31 28 0).setF (Reg.HIF_RING r 3) 16 0 0)) ∧
      (old.getLsbD 31 = true → w0.getLsbD 31 = false → exec c s = .next (u.ringStop r)))) ∧
  (∀ (fn : Fn) (r : Fin 1024) (v : Word) s, s.reaches (Reg.HIF_RING r 0) →
    exec (.ringContextCommit fn r v) s = .next (s.ringCommit fn r v)) ∧
  (∀ (fn : Fn) (r : Fin 1024) (v : Word) s, s.reaches (Reg.HIF_RING r 0) →
    exec (.ringDisable fn r v) s = .next (s.ringCommit fn r (setBitW v 31 false))) ∧
  (∀ fn (r : Fin 1024) v s, s.up 17 = true →
    let x := fldW v 16 0
    let dev := s.fld (Reg.HIF_RING r 2) 16 0
    let gap := if hostFed (s.ringType r) then (x + 131072 - dev) % 131072 else (dev + 131072 - x) % 131072
    (s.ringOwner r ≠ fn → exec (.doorbell fn r v) s = .next (s.ringRefused fn r (bellOff r))) ∧
    (s.ringOwner r = fn → (fldW v 31 17 ≠ 0 ∨ s.ringType r = 0 → exec (.doorbell fn r v) s = .next s) ∧
      (fldW v 31 17 = 0 → s.ringType r ≠ 0 →
        (gap ≤ s.ringSize r → s.fld Reg.OBS_TRC_CTRL 27 18 ≠ r.val →
          exec (.doorbell fn r v) s = .next (s.setF (Reg.HIF_RING r 3) 16 0 x)) ∧
        (gap ≤ s.ringSize r → s.fld Reg.OBS_TRC_CTRL 27 18 = r.val →
          exec (.doorbell fn r v) s = .next (s.setF (Reg.HIF_RING r 3) 16 0 x).hostDrain) ∧
        (s.ringSize r < gap → exec (.doorbell fn r v) s = .next (s.ringError r 1))))) ∧
  (∀ (fn : Fn) (r : Fin 1024) (v : Word) s, exec (.doorbell fn r v) s = .next (if s.up 17 then s.doorbell fn r v else s)) ∧
  (∀ (r : Fin 1024) (data : BitVec 256) (dmaOk : Bool) s, exec (.descriptorFetch r data dmaOk) s = (
      let ty := s.ringType r
      let x := s.fld (Reg.HIF_RING r 2) 16 0
      if !s.up 17 || !hostFed ty || x == s.fld (Reg.HIF_RING r 3) 16 0 then .next s
      else
      let s := s.dmaRead r (s.ringBase r + 32 * (x % s.ringSize r)) 32
      if !dmaOk then .next ((s.raise 46 0).ringError r 2)
      else
        let s := if ty = 1 || ty = 3 then s.leaveQuiet else s
        let d : Desc := { ring := r, idx := x, data := data }
        let s : State := { s with hif := { s.hif with fetched := s.hif.fetched ++ [d] } }
        .next (((s.setF (Reg.HIF_RING r 2) 16 0 ((x + 1) % 131072)).ringSettle r).cmdNext r) : Res)) ∧
  (∀ (r : Fin 1024) s, exec (.msixModTimer r) s = (
      if s.up 17 && s.bit (Reg.HIF_RING r 0) 20 && s.fld (Reg.HIF_RING r 1) 31 16 ≠ 0 && s.hif.modCnt.look 0 r ≠ 0 then
        .next (({ s with hif := { s.hif with modCnt := s.hif.modCnt.drop r } } : State).signal (s.ringOwner r)
          (s.fld (Reg.HIF_RING r 0) 8 0))
      else .next s : Res)) ∧
  (∀ (width8 : Bool) (up : LinkUp) s, exec (.pcieLinkTrained width8 up) s = (
      if !s.up 17 then .next s
      else
        let x4 := s.bit Reg.RCP_STRAP 12
        let w := if width8 && !x4 then 8 else 4
        .next ((s.wr Reg.HIF_LINK (BitVec.ofNat 32 (256 * x4.toNat + 16 * w + up.rate.val + 1))).wr Reg.HIF_NUMVF
          (BitVec.ofNat 32 up.numVF.val)) : Res)) ∧
  (∀ (t : Fin 16) s, exec (.vfFlr t) s = (
      if !s.up 17 then .next s
      else
        let rs := (List.range 1024).filter fun r => s.ringOwner r == .t t && s.ringEn r
        .next ((rs.foldl (fun s r => (s.setB (Reg.HIF_RING r 0) 31 false).ringStop r) s).clearMsix t) : Res)) ∧
  (∀ (loss : Bool) s, exec (.pcieReset loss) s = (
      if !s.up 17 then .next s
      else .next ((if loss then s.raise 47 0 else s).softBlock 17) : Res))

/-- PTX_QUEUE and PTX_PLOAM take the oldest descriptor of a transmit ring of their kind: it ends with status 1 when
malformed, 2 outside the tenant's share; a message ends with status 3 where its bytes cannot be read and 7 when the
port's queue holds 64, else it joins that queue; a frame asks for a buffer as requester 7, and one whose bytes could
not be read ends with status 3 when BUFFER_ALLOC gives it the buffer, which is freed. PTX_COMPLETE takes the oldest
frame of the egress that leaves with a descriptor: an uplink's is sent with its timestamp stored where asked for, and
the completion holds stamp, flags and status. PRX_DELIVER takes the oldest frame or message: it goes to the ring's
next buffer with its completion, or is dropped and counted, and a frame's buffer is freed. (19_host_interface.md,
Descriptors; 19_host_interface.md, Table 19.6; 19_host_interface.md, Table 19.7; 17_time.md, Where the clock is read.) -/
def Obligations.HostPackets : Prop :=
  (∀ pick metaBad s w d q p t, s.bpm.wants.find? (fun w => w.req == 7) = some w → w.frm.desc = some d → w.frm.dest = .queue q →
    w.frm.pkt.data = [] → ({ s with bpm := { s.bpm with wants := s.bpm.wants.erase w } } : State).alloc 7 w.len w.up pick.toNat
      metaBad = (.inl p, t) →
    exec (.bufferAlloc 7 pick metaBad) s = .next (((t.free p (reqCode 7)).dmaFail true).ptxEnd d 3)) ∧
  (∀ (r : Fin 1024) (data : List Byte) (dmaOk : Bool) s, exec (.ptxQueue r data dmaOk) s = (
      match s.ptxHead r with
      | none => .next s
      | some d =>
        let x := d.data
        let kind := fldW x 87 86
        let len := fldW x 79 64
        let q := fldW x 127 96
        if kind = 1 then .next s
        else if kind ≠ 0 || ptxDirty x || len < 60 || 16384 < len || 69631 < q then .next (s.ptxEnd d 1)
        else if (s.ringTenant r).any fun n => !s.queueIn q n then .next (s.ptxEnd d 2)
        else
          let bytes := if dmaOk && decide (len ≤ data.length) then data.take len else []
          let p : Pkt := { kind := 3, down := decide (q < 65536), data := bytes, tenant := s.ringTenant r
                           cls := if q < 65536 then q % 4 else q % 8 }
          let f : Machine.Frm := { pkt := p, dest := .queue q, desc := some d
                                   launch := if x.getLsbD 85 then some (fldW x 167 128) else none }
          let s := s.incIf (fldW x 84 83 == 3) Reg.TSU_CNT_TS_BAD
          let s : State := { s.dmaRead r (fldW x 63 0) len with hif := { s.hif with taken := s.hif.taken ++ [d] } }
          .next (s.want 7 len (decide (65536 ≤ q)) f) : Res)) ∧
  (∀ (r : Fin 1024) (data : List Byte) (dmaOk : Bool) s, exec (.ptxPloam r data dmaOk) s = (
      match s.ptxHead r with
      | none => .next s
      | some d =>
        let x := d.data
        let port := fldW x 127 96
        let onu := joinBytesBE (data.take 2) % 1024
        let q := s.hif.ploams.look [] port
        if fldW x 87 86 ≠ 1 then .next s
        else if ptxDirty x || fldW x 85 83 ≠ 0 || fldW x 79 64 ≠ 48 || 31 < port then .next (s.ptxEnd d 1)
        else
        let s := s.dmaRead r (fldW x 63 0) 48
        if !dmaOk || decide (data.length < 48) then .next ((s.dmaFail true).ptxEnd d 3)
        else if (s.ringTenant r).any fun n => decide (511 < onu) || !s.termIn (512 * port + onu) n then .next (s.ptxEnd d 2)
        else if 64 ≤ q.length then .next (s.ptxEnd d 7)
        else .next { s with hif := { s.hif with
          ploams := s.hif.ploams.put [] port (q ++ [(d, data.take 48)]), taken := s.hif.taken ++ [d] } } : Res)) ∧
  (∀ (e : Fin 57) (ns : Word64) (frac : BitVec 16) s, exec (.ptxComplete e ns frac) s = (
      match s.tmg.leaving.find? fun l => l.egress == e.val with
      | none => .next s
      | some l =>
        let s : State := { s with tmg := { s.tmg with leaving := s.tmg.leaving.erase l } }
        let x := (l.frm.desc.map (·.data)).getD 0
        let up := decide (32 ≤ l.egress) && decide (l.egress < 56) && decide (l.status ≠ 6)
        let u := l.egress - 32
        let mode := fldW x 84 83
        let tsv := up && (mode == 1 || mode == 2)
        let stamp := stampWith ns.toNat frac.toNat (s.rdInt (Reg.TSU_U_TX_CMP u))
        let off := fldW x 191 176
        let low := up && mode == 2 && (decide (l.frm.len < off + 10) || l.sa.isSome)
        let s := s.incIf low (Reg.TSU_U_CNT_1S_DOWN u)
        let s := if !up then s
          else
            let ck := fldW x 207 192
            let b := if mode == 2 && !low then overlay l.bytes off (ptpBytes stamp.1) else l.bytes
            let b := if mode == 2 && !low && ck != 0 then overlay b ck [0, 0] else b
            let s := s.leaveUplink u l.frm b
            match l.sa with
            | none => s
            | some a => { s with cry := { s.cry with flying := s.cry.flying.put 0 a (s.cry.flying.look 0 a - 1) } }
        match l.frm.desc with
        | none => .next s
        | some d =>
          let flags := tsv.toNat + 2 * low.toNat + 4 * l.frm.late.toNat
          if tsv then .next (s.complete d true (stamp.1 + 2 ^ 64 * stamp.2 + 2 ^ 80 * flags) l.status)
          else .next (s.complete d true (s.freshStamp + 2 ^ 80 * flags) l.status).taken.taken.taken : Res)) ∧
  (∀ (dmaOk : Bool) (wrOk : Bool) s, exec (.prxDeliver dmaOk wrOk) s = (
      match s.rx with
      | [] => .next s
      | x :: rest =>
        let s : State := { s with rx := rest }
        let drop := fun (s : State) (cnt : Nat) =>
          if s.up 17 then s.inc cnt else { s with hif := { s.hif with lostInReset := s.hif.lostInReset + 1 } }
        match x with
        | .frame r reason f =>
          let p := f.pkt
          .next <| (match s.prxBars r p.tenant with
            | some cnt => drop s cnt
            | none => s.prxWrite r { stamp := p.stamp, len := p.data.length, src := 32 * p.kind + p.port, reason := reason
                                     term := if p.down then 0xFFFF else p.term, lenErr := p.lenErr, tenant := p.tenant
                                     down := p.down } p.data dmaOk wrOk).free f.buf 0x39
        | .ploam r port data =>
          .next <| match s.prxBars r none with
            | some cnt => drop s cnt
            | none => s.prxWrite r { len := 48, src := port, ploam := true } data dmaOk wrOk : Res))

/-- When the write reaches FLT: FLT_STATUS_CLEAR clears the written bits of its half but those of active level sources;
SOURCE_CLASS_WRITE of a fixed source, of a Weld source below Serious, or of the present class does nothing, under the
lock it counts, else the class is stored and the heartbeat looked at; FFR_CLEAR clears the five words of the
first-fault record; FLT_INJ of a source above 51 counts, else its injection bit is set, its vector signalled where
enabled, and a coincidence with the last acknowledgement marked; FLT_RCV_CLR clears PCO and the history, whose number
and 16 entries then read zero, by 0xC3 and then 0x3C in time, and counts anything else; FLT_LOCK sets the lock.
(20_faults.md, Latching and counting; 20_faults.md, The first-fault record; 20_faults.md, Injection and coincidence;
20_faults.md, Recovery in mate roles; 20_faults.md, Locking.) -/
def Obligations.FaultRegisters : Prop :=
  (∀ (s : State), s.reaches Reg.FLT_RCV_CLR → s.flt.clrKey = true →
    ∃ t, exec (.fltRcvClr 0x3C false) s = .next t ∧ t.flt.clrKey = false ∧ t.pco = false ∧
      t.fld (Reg.RCP_RET 0x1000) 4 0 = 0 ∧ (∀ i, i < 32 → t.retWord (0x1008 + 4 * i) = 0) ∧
      ∀ a, (∀ i, i < 34 → a ≠ Reg.RCP_RET (0x1000 + 4 * i)) → t.rd a = s.rd a) ∧
  (∀ (hi : Bool) (v : Word) (s : State),
    s.reaches (fltHalf hi) →
    let a := fltHalf hi
    let s1 := s.wr a (s.rd a &&& ~~~(v &&& ~~~s.activeHalf hi))
    s1.latched 22 = true →
    exec (.fltStatusClear hi v) s = .next s1) ∧
  (∀ (hi : Bool) (v : Word) (s : State),
    s.reaches (fltHalf hi) →
    let a := fltHalf hi
    let s1 := s.wr a (s.rd a &&& ~~~(v &&& ~~~s.activeHalf hi))
    s1.latched 22 = false →
    exec (.fltStatusClear hi v) s = .next { s1 with flt := { s1.flt with ucodeBase := false } }) ∧
  (∀ (src : Fin 52) (cls : Fin 4) (s : State),
    s.reaches (Reg.FLT_SRC src) →
    let a := Reg.FLT_SRC src
    (s.bit a 5 || (s.bit a 4 && decide (cls.val < 2)) || s.fld a 1 0 = cls.val) →
    exec (.sourceClassWrite src cls) s = .next s) ∧
  (∀ (src : Fin 52) (cls : Fin 4) (s : State),
    s.reaches (Reg.FLT_SRC src) →
    let a := Reg.FLT_SRC src
    ¬ (s.bit a 5 || (s.bit a 4 && decide (cls.val < 2)) || s.fld a 1 0 = cls.val) →
    s.flt.lock = true →
    exec (.sourceClassWrite src cls) s = .next (s.inc Reg.FLT_CNT_REFUSED)) ∧
  (∀ (src : Fin 52) (cls : Fin 4) (s : State),
    s.reaches (Reg.FLT_SRC src) →
    let a := Reg.FLT_SRC src
    ¬ (s.bit a 5 || (s.bit a 4 && decide (cls.val < 2)) || s.fld a 1 0 = cls.val) →
    s.flt.lock = false →
    exec (.sourceClassWrite src cls) s = .next ((s.setF a 1 0 cls).mateDarken s.aliveRun)) ∧
  (∀ s, s.reaches Reg.FLT_FFR_INFO →
    exec .ffrClear s = (
        .next ((((((s.wr Reg.FLT_FFR_INFO 0).wr Reg.FLT_FFR_TIME_LO 0).wr Reg.FLT_FFR_TIME_HI 0).wr Reg.FLT_FFR_AON_LO 0).wr
          Reg.FLT_FFR_AON_HI 0)) : Res)) ∧
  (∀ (src : Fin 64) (sameCycle : Bool) (s : State),
    s.reaches Reg.FLT_INJ →
    let t1 := s.setF Reg.FLT_INJ 5 0 src
    51 < src.val →
    exec (.fltInj src sameCycle) s = .next (t1.inc Reg.FLT_CNT_REFUSED)) ∧
  (∀ (src : Fin 64) (sameCycle : Bool) (s : State),
    s.reaches Reg.FLT_INJ →
    let t1 := s.setF Reg.FLT_INJ 5 0 src
    ¬ (51 < src.val) →
    let t2 := if src.val < 32 then t1.setB Reg.FLT_INJ_STATUS_LO src true else t1.setB Reg.FLT_INJ_STATUS_HI (src - 32) true
    let t3 := if t2.bit (Reg.FLT_SRC src) 3 then t2.signal .op (t2.fld Reg.FLT_INT 24 16) else t2
    let hit := sameCycle && t3.flt.lastAck.getLsbD src
    let t4 := if hit then t3.setB Reg.FLT_STATE 6 true else t3
    let t5 := if hit && t4.flt.lastRec == some src.val then t4.setB Reg.FLT_FFR_INFO 30 true else t4
    exec (.fltInj src sameCycle) s = .next { t5 with flt := { t5.flt with lastInj := some src.val } }) ∧
  (∀ (v : Word) (late : Bool) (s : State),
    s.reaches Reg.FLT_RCV_CLR →
    let key := fun (s : State) (b : Bool) => ({ s with flt := { s.flt with clrKey := b } } : State)
    s.flt.clrKey = true →
    (v = 0x3C && !late) →
    exec (.fltRcvClr v late) s =
        .next ((key s false).clearHistory.wr (Reg.RCP_RET 0x1000) (setFldW (setBitW (s.rd (Reg.RCP_RET 0x1000)) 31 false) 4 0
        0))) ∧
  (∀ (v : Word) (late : Bool) (s : State),
    s.reaches Reg.FLT_RCV_CLR →
    let key := fun (s : State) (b : Bool) => ({ s with flt := { s.flt with clrKey := b } } : State)
    s.flt.clrKey = true →
    ¬ (v = 0x3C && !late) →
    exec (.fltRcvClr v late) s = .next ((key s (v == 0xC3)).inc Reg.FLT_CNT_REFUSED)) ∧
  (∀ (v : Word) (late : Bool) (s : State),
    s.reaches Reg.FLT_RCV_CLR →
    let key := fun (s : State) (b : Bool) => ({ s with flt := { s.flt with clrKey := b } } : State)
    s.flt.clrKey = false →
    v = 0xC3 →
    exec (.fltRcvClr v late) s = .next (key s true)) ∧
  (∀ (v : Word) (late : Bool) (s : State),
    s.reaches Reg.FLT_RCV_CLR →
    s.flt.clrKey = false →
    ¬ (v = 0xC3) →
    exec (.fltRcvClr v late) s = .next (s.inc Reg.FLT_CNT_REFUSED)) ∧
  (∀ s, s.reaches Reg.FLT_CTRL →
    exec .fltLock s = .next { s with flt := { s.flt with lock := true } })

/-- FAULT_SOURCE_EVENT latches the event: sources 0, 1, 2 and 6 as levels, 50 as a level in a mate role only, 14 with its
credit record, 22 with whether the base image was refused; 44 of an enabled ring that no error has stopped stops it
with error 3. FAULT_ACK, while FLT is not held in reset, acknowledges the latches named, gives cause PORT to members
that the events name, on entry to the Fatal state darkens every port, and looks at the heartbeat. ALIVE_TOGGLE inverts
the heartbeat while it runs; MATE_ALIVE_LOSS raises source 50 in a mate role; LEVEL_CONDITION_ABSENT ends a level.
QUIET_TIMER_EXPIRE in a mate role in the Fatal state, with no Fatal level and PCO clear, starts a recovery reset, or
sets PCO with source 51 when the recoveries of 24 hours have come to their limit. (20_faults.md, Sources and classes;
20_faults.md, Latching and counting; 20_faults.md, Heartbeat, FAULT_N and interrupts; 20_faults.md, The Fatal state;
20_faults.md, Recovery in mate roles.) -/
def Obligations.FaultEvents : Prop :=
  (∀ (src : Fin 52) (info : BitVec 16) (baseImage : Bool) (blk : Fin 22) (queue : BitVec 16) (diff : Word) s, exec (.faultSourceEvent src info baseImage blk queue diff) s = (
      let k := src.val
      .next (if k = 50 then (if s.mateRole then s.raiseLevel src info.toNat else s)
        else if k = 0 || k = 1 || k = 2 || k = 6 then s.raiseLevel src info.toNat
        else if k = 44 && s.up 17 && info.toNat < 1024 && s.bit (Reg.HIF_RING info.toNat 0) 31 && !s.bit (Reg.HIF_RING info.toNat 2) 31 then
          s.ringError info.toNat 3
        else if k = 14 then
          s.raiseWith k info.toNat false (some { blk := blk, queue := queue.toNat, diff := diff, time := s.now40 })
        else s.raiseWith k info.toNat (k == 22 && baseImage) none) : Res)) ∧
  (∀ (srcs : BitVec 52) (sameCycle : Bool) s, exec (.faultAck srcs sameCycle) s = (
      let acked := s.flt.latch.filter fun x => srcs.getLsbD x.1
      let fatal := s.flt.fatal
      let run := s.aliveRun
      if s.fltHeld then .next s
      else
        let s := (s.ackAll srcs sameCycle).portCauses acked
        let s := if s.flt.fatal && !fatal then s.fatalPorts else s
        .next (s.mateDarken run) : Res)) ∧
  (∀ s, exec .aliveToggle s = .next (if s.aliveRun then { s with flt := { s.flt with alive := !s.flt.alive } } else s)) ∧
  (∀ s, exec .mateAliveLoss s = .next (if s.mateRole then s.raiseLevel 50 0 else s)) ∧
  (∀ (src : Fin 52) s, exec (.levelConditionAbsent src) s = .next { s with flt := { s.flt with active := setBitW s.flt.active src.val false } }) ∧
  (∀ s, exec .quietTimerExpire s = (
      if !s.mateRole || !s.flt.fatal || s.fatalLevel || s.pco then .next s
      else if s.fld Reg.FLT_RCV_CTRL 3 0 < s.recoveriesIn24h + 1 then
        .next (((s.setB (Reg.RCP_RET 0x1000) 31 true).raise 51 0).ledgerLog 9 20 0 0)
      else .next ((s.appendRecovery.ledgerLog 6 20 0 0).assertReset .faultRecovery) : Res))

/-- DCQ_ITEM_VISIBLE makes the oldest item on its way in the crossing that it names visible to the consumer, which of a
report FIFO keeps it and else takes it. MEMORY_ERROR_RETRY raises fault 9 or 8; a lasting error takes a spare row,
whose copy begins, unless the row is being copied, or raises fault 12 when four are used. ROW_REMAP_DONE ends the
copy, logs the repair and raises fault 11 with the last spare. PIPELINE_ERROR of a pipeline that runs drops its packet
and raises fault 13; a second within the watch retires the pipeline, which PIPELINE_WATCH_EXPIRE ends.
(01_three_planes.md, Self-repair; 01_three_planes.md, Clock domains and crossings.) -/
def Obligations.SelfRepair : Prop :=
  (∀ (x : Crossing) s, exec (.dcqItemVisible x) s = (
      match x with
      | .report m =>
        let f := s.gnt.fifo.look {} m
        let g : RptFifo := { f with items := f.items ++ f.hidden.take 1, hidden := f.hidden.drop 1 }
        .next { s with gnt := { s.gnt with fifo := s.gnt.fifo.put {} m g } }
      | .ploam n =>
        let p := s.rport n
        .next (s.setRport n { p with queue := p.queue ++ p.hidden.take 1, hidden := p.hidden.drop 1 })
      | .results n => .next (s.crossVisible 0 n)
      | .expect n => .next (s.consume 1 n)
      | .memory n => .next (s.consume 2 n)
      | .port n => .next (s.crossVisible 3 n)
      | .streams n => .next (s.crossVisible 4 n)
      | .messages n => .next (s.consume 5 n)
      | .counts n => .next (s.crossVisible 6 n)
      | .tods n => .next (s.crossVisible 7 n)
      | .stamps n => .next (s.crossVisible 8 n)
      | .wipes n => .next (s.crossVisible 9 n) : Res)) ∧
  (∀ (blk : Fin 22) (macro_ : BitVec 16) (row : BitVec 16) (unc : Bool) (again : Bool) s, exec (.memoryErrorRetry blk macro_ row unc again) s = (
      let s := if unc then s.raise 9 blk else s.raise 8 blk
      let key := 65536 * blk.val + macro_.toNat
      let used := s.rcp.rowsUsed.look 0 key
      let item := (blk.val, macro_.toNat, row.toNat)
      .next (if !again || s.rcp.copying.contains item then s
        else if 4 ≤ used then s.raise 12 blk
        else { s with rcp := { s.rcp with rowsUsed := s.rcp.rowsUsed.put 0 key (used + 1), copying := s.rcp.copying ++ [item] } }) : Res)) ∧
  (∀ (blk : Fin 22) (macro_ : BitVec 16) (row : BitVec 16) s, exec (.rowRemapDone blk macro_ row) s = (
      let item := (blk.val, macro_.toNat, row.toNat)
      .next (if !s.rcp.copying.contains item then s
        else
          let s : State := { s with rcp := { s.rcp with copying := s.rcp.copying.erase item } }
          let s := s.repairDone 2 blk (65536 * macro_.toNat + row.toNat)
          let key := 65536 * blk.val + macro_.toNat
          let last := s.rcp.rowsUsed.look 0 key == 4 && !s.rcp.copying.any fun x => 65536 * x.1 + x.2.1 == key
          if last then s.raise 11 blk else s) : Res)) ∧
  (∀ (p : Fin 5) s, exec (.pipelineError p) s = (
      if !s.rcp.pipes.getLsbD p then .next s
      else
        let s := (s.dropInPipe p).raise 13 p
        .next (if s.rcp.pipeWatch.getLsbD p then s.retirePipe p
          else { s with rcp := { s.rcp with pipeWatch := setBitW s.rcp.pipeWatch p true } }) : Res)) ∧
  (∀ (p : Fin 5) s, exec (.pipelineWatchExpire p) s = .next { s with rcp := { s.rcp with pipeWatch := setBitW s.rcp.pipeWatch p false } })

/-- POWER_ON_AON, POWER_ON_CORE, PORST and SYSRST assert the reset of their source. A write of RCP_SWRST that reaches RCP
asserts the software reset with 0x2D in time after 0xD2; 0xD2 begins a sequence (a second one also counts) and any
other value counts. WATCHDOG_EXPIRE while armed raises fault 3 and asserts the watchdog's reset. SUPPLY_OUT_OF_WINDOW
raises level source 1 with the rail. BLOCK_SOFT_RESET resets each block of the mask in order of its bit;
BLOCK_RESET_RELEASE releases a block under a soft reset. QUIET_ENTER with Quiet enabled, in phase 10, no index in use
on any port that is not Off, and a discovery window run on every enabled port since the last stay sets the Quiet bit
and puts every BRX to sleep; QUIET_EXIT clears it, and the enable too when that is the reason, and every enabled
port's BRX starts to wake. UPLINK_EGRESS_SLEEP of an egress that sends leaves it in U0, and else puts it into U2 with
540 ns or more to its next known event, into U1 with 50 ns or more or with none known, else leaves it in U0;
UPLINK_EGRESS_WAKE puts it into U0. (21_reset_power_boot.md, Reset sources; 21_reset_power_boot.md, Software reset and
watchdog; 21_reset_power_boot.md, Table 21.2; 21_reset_power_boot.md, Power states; 21_reset_power_boot.md, Table
21.9.) -/
def Obligations.ResetsAndPowerStates : Prop :=
  (∀ s, exec .powerOnAon s = .next (s.assertReset .powerAon)) ∧
  (∀ s, exec .powerOnCore s = .next (s.assertReset .powerCore)) ∧
  (∀ s, exec .porst s = .next (s.assertReset .porst)) ∧
  (∀ s, exec .sysrst s = .next (s.assertReset .sysrst)) ∧
  (∀ (v : Word) (late : Bool) s, s.reaches Reg.RCP_SWRST →
    exec (.softwareGlobalReset v late) s = (
        let key := fun (s : State) (b : Bool) => ({ s with rcp := { s.rcp with swKey := b } } : State)
        if v = 0x2D && s.rcp.swKey && !late then .next (s.assertReset .software)
        else if v = 0xD2 then .next ((key s true).incIf s.rcp.swKey Reg.RCP_CNT_REFUSED)
        else .next ((key s false).inc Reg.RCP_CNT_REFUSED) : Res)) ∧
  (∀ s, exec .watchdogExpire s = .next (if s.rcp.wdArmed then (s.raise 3 0).assertReset .watchdog else s)) ∧
  (∀ (rail : Fin 16) s, exec (.supplyOutOfWindow rail) s = .next (s.raiseLevel 1 rail)) ∧
  (∀ (mask : BitVec 19) s, s.reaches Reg.RCP_BLK_RST →
    exec (.blockSoftReset mask) s = .next (((List.range 19).filter fun b => mask.getLsbD b).foldl (fun s b => s.softReset b) s)) ∧
  (∀ (b : Fin 19) s, exec (.blockResetRelease b) s = .next (if s.rcp.soft.getLsbD b then s.releaseBlock b else s)) ∧
  (∀ s, exec .quietEnter s = (
      let free := fun n => s.portMode n == 0 || s.portMode n == 3 || (List.range 512).all fun l => s.termSt n l == 0
      let found := fun n => !s.en n || !s.rcp.needDisc.getLsbD n
      if !s.bit Reg.RCP_PWR 31 || !s.phase 10 || !(List.range 32).all fun n => free n && found n then .next s
      else .next ((List.range 32).foldl (fun s n => (s.setB (Reg.BRX_STATUS n) 2 false).setF (Reg.BRX_STATUS n) 1 0 3)
        (s.setB Reg.RCP_STATUS 6 true)) : Res)) ∧
  (∀ (why : QuietExit) s, exec (.quietExit why) s = (
      .next (if s.bit Reg.RCP_STATUS 6 then
          (if why = .disabled then s.setB Reg.RCP_PWR 31 false else s).leaveQuiet
        else s) : Res)) ∧
  (∀ (u : Fin 24) (sending : Bool) s, exec (.uplinkEgressSleep u sending) s = (
      .next (s.setUpow u (if sending then 0 else match s.egressEvent (32 + u) with
        | none => 1
        | some g => if 540 ≤ g then 2 else if 50 ≤ g then 1 else 0)) : Res)) ∧
  (∀ (u : Fin 24) s, exec (.uplinkEgressWake u) s = .next (s.setUpow u 0))

/-- Each command acts only in its phase. SETT_CHECK (2) reads back the cause by majority, marking a latch that differs,
and keeps the Sett when its seal holds, else clears it and raises fault 7; the next phase is the origin's.
STRAP_MEASURE (3) stores the strap; TRIM_LOAD (4) sets TRIM_OK, and the third failure TRIM_ERR; PLL_LOCK (5),
MEMORY_BIST (6, with spare rows for lasting defects) and DOMAIN_RELEASE (7, a clock domain each, HIF last and not
while PERST_N is low) lead on. BOOT_ROM (8) runs copy A, else copy B, else fails with B's code; HOST_LOAD runs a good
image when the ROM waits for the host, else stores the error, or counts. OUT_REL (9) restores the ledger, from flash
only where the recovery strap does not forbid it, and releases the outputs, unless the base image was refused, the
state is Fatal or the engines hold no image. (21_reset_power_boot.md, Release sequence; 21_reset_power_boot.md, The
strap; 21_reset_power_boot.md, The Sett; 21_reset_power_boot.md, Boot; 22_observation_lifetime.md, The lifetime
ledger.) -/
def Obligations.ReleaseAndBoot : Prop :=
  (∀ (find : SettFind) s, exec (.settCheck find) s = (
      if !s.phase 2 then .next s
      else
        let ok := find.sealHolds && !s.rcp.aonLost
        let latches := find.upset.elim s.rcp.cause fun x => s.rcp.cause.set x.1 x.2
        let vote := match latches with
          | [a, b, c] => if a = b || a = c then a else b
          | _ => s.fld Reg.RCP_CAUSE 3 0
        let s := if latches.all (· == vote) then s else s.setB Reg.RCP_CAUSE 7 true
        let s := s.setF Reg.RCP_CAUSE 3 0 vote
        let s : State := { s with rcp := { s.rcp with cause := [vote, vote, vote], aonLost := false } }
        let s := s.setB Reg.RCP_STATUS 5 ok
        let s := if ok then s else s.clearSett.raise 7 0
        .next (s.setPhase (if s.origin.strap then 3 else if s.origin.full then 4 else 6)) : Res)) ∧
  (∀ (code : Fin 16) s, exec (.strapMeasure code) s = .next (if s.phase 3 then (s.wr Reg.RCP_STRAP (strapWord code)).setPhase 4 else s)) ∧
  (∀ (crcMatch : Bool) s, exec (.trimLoad crcMatch) s = (
      if !s.phase 4 || decide (3 ≤ s.rcp.trimFails) || s.bit Reg.RCP_STATUS 4 then .next s
      else if crcMatch then
        let s := s.logFuses
        .next ((({ s with rcp := s.rcp.withSpares } : State).setB Reg.RCP_STATUS 3 true).setPhase 5)
      else
        let n := s.rcp.trimFails + 1
        let s : State := { s with rcp := { s.rcp with trimFails := n } }
        .next (if n = 3 then s.setB Reg.RCP_STATUS 4 true else s) : Res)) ∧
  (∀ s, exec .pllLock s = .next (if s.phase 5 then ({ s with rcp := { s.rcp with tsPllLost := false } } : State).setPhase 6 else s)) ∧
  (∀ (defects : List MemDefect) s, exec (.memoryBist defects) s = (
      if !s.phase 6 || s.bit Reg.RCP_STATUS 2 then .next s
      else
        let s := if s.origin.full then defects.foldl (fun s d => s.bistDefect d) s else s
        let s := s.setB Reg.RCP_STATUS 2 true
        .next (if s.bit Reg.RCP_STRAP 14 || !s.bit Reg.RCP_STATUS 3 then s else s.setPhase 7) : Res)) ∧
  (∀ (perst : Bool) s, exec (.domainRelease perst) s = (
      if !s.phase 7 || (perst && s.rcp.domains == 5) then .next s
      else
        let d := s.rcp.domains
        let s := (domainBlocks d).foldl (fun s b => s.releaseBlock b) s
        let s : State := { s with rcp := { s.rcp with domains := d + 1 } }
        .next (if d < 5 then s else s.startRom) : Res)) ∧
  (∀ (copyA : BootCheck) (copyB : BootCheck) (version : Word) s, exec (.bootRom copyA copyB version) s = (
      if !s.phase 8 || s.fld Reg.RCP_BOOT 19 16 ≠ 1 then .next s
      else if bootCode copyA = 0 then .next ((s.setB Reg.RCP_BOOT 0 false).runFirmware version)
      else if bootCode copyB = 0 then .next ((s.setB Reg.RCP_BOOT 0 true).runFirmware version)
      else .next ((s.setF Reg.RCP_BOOT 27 24 (bootCode copyB)).setF Reg.RCP_BOOT 19 16 5) : Res)) ∧
  (∀ (len : BitVec 20) (check : BootCheck) (recovery : Bool) (version : Word) s, s.reaches Reg.RCP_HLOAD →
    exec (.hostLoad len check recovery version) s = (
        if s.fld Reg.RCP_BOOT 19 16 ≠ 2 then .next (s.inc Reg.RCP_CNT_REFUSED)
        else
          let s := s.setF Reg.RCP_HLOAD 19 0 len.toNat
          let err := if bootCode check ≠ 0 then bootCode check else if s.bit Reg.RCP_STRAP 13 && !recovery then 5 else 0
          let s := s.setF Reg.RCP_BOOT 27 24 err
          .next (if err = 0 then s.runFirmware version else s) : Res)) ∧
  (∀ (slotA : Option LedgerSlot) (slotB : Option LedgerSlot) s, exec (.outRel slotA slotB) s = (
      if !s.phase 9 then .next s
      else
        let flash := !s.bit Reg.RCP_STRAP 13
        let s : State := if flash then
            { s with rcp := { s.rcp with slotSeq := (slotA.map (·.seq), slotB.map (·.seq)) } }
          else s
        let s := s.restoreLedger (if flash then slotA else none) (if flash then slotB else none)
        .next (if s.baseRefused || s.flt.fatal || !s.bit Reg.MTN_STATUS 0 then s
          else
            let s := (s.setB Reg.RCP_STATUS 7 true).setF Reg.RCP_BOOT 19 16 4
            ({ s with rcp := { s.rcp with phase := 10, wdArmed := true } } : State).seeLight) : Res))

/-- When the write reaches OBS: SNAP_GO arms a snapshot; THRESHOLD_COMMIT stores the unit when its index is in range, else
it counts; TRACE_MARK adds a MARK record; TRACE_CTRL_WRITE counts a change of WRAP or of the ring while the trace
runs, else stores the word, empties the buffer and both readers at EN 0 to 1, and starts a reader that becomes enabled
at the next record. SNAP_COPY at the snapshot's instant copies every counter, the tenants' with them, to the frozen
view, with the time. TRACE_PORT_SEND with the outputs released sends a SYNC record, a LOSS record, the next record, or
a FILL record. (22_observation_lifetime.md, Snapshot and frozen view; 22_observation_lifetime.md, Threshold events;
22_observation_lifetime.md, Trace.) -/
def Obligations.SnapshotsAndTrace : Prop :=
  (∀ (at_ : Bool) s, s.reaches Reg.OBS_SNAP →
    exec (.snapGo at_) s = (
      (
        .next (if s.bit Reg.OBS_STATUS 0 then s.inc Reg.OBS_CNT_REFUSED
          else
            let s1 := ((s.setB Reg.OBS_SNAP 0 at_).setB Reg.OBS_STATUS 0 true).setB Reg.OBS_STATUS 1 false
            let x := (s.rd Reg.OBS_SNAP_AT_LO).toNat + 2 ^ 32 * s.fld Reg.OBS_SNAP_AT_HI 7 0
            let ahead := signedN 40 (x + 2 ^ 40 - s.now40)
            if at_ && decide (2000 ≤ ahead) then { s1 with obs := { s1.obs with snapAt := s.now + ahead.toNat } }
            else
              let s2 := if at_ then s1.setB Reg.OBS_STATUS 2 true else s1
              { s2 with obs := { s2.obs with snapAt := s.now + 2000 } })) : Res)) ∧
  (∀ s, exec .snapCopy s = (
      if !s.bit Reg.OBS_STATUS 0 then .next s
      else
        let t := s.obs.snapAt
        let s := s.advanceTo t
        let s : State := { s with obs := { s.obs with shadow := s.regs.keep isCounter ++ s.tenCounters } }
        let s := (s.wr Reg.OBS_SNAP_TIME_LO (wordOf t 0)).wr Reg.OBS_SNAP_TIME_HI (BitVec.ofNat 32 (t / 2 ^ 32 % 256))
        .next ((s.setB Reg.OBS_STATUS 0 false).setB Reg.OBS_STATUS 1 true) : Res)) ∧
  (∀ (k : Fin 64) (v : Word) s, 
    let a := Reg.OBS_THR_CFG k
    s.reaches a →
    exec (.thresholdCommit k v) s = (
      .next (if thrIndexOk (fldW v 30 27) (fldW v 16 0) then s.wr a (fitWord a (s.rd a) v)
        else s.inc Reg.OBS_CNT_REFUSED) : Res)) ∧
  (∀ (v : Word) s, s.reaches Reg.OBS_TRC_MARK →
    exec (.traceMark v) s = .next (s.trace 7 0 v.toNat)) ∧
  (∀ (v : Word) s, 
    let a := Reg.OBS_TRC_CTRL
    s.reaches a →
    exec (.traceCtrlWrite v) s = (
      (
        let old := s.rd a
        let w := fitWord a old v
        .next (if old.getLsbD 31 && (w.getLsbD 30 != old.getLsbD 30 || fldW w 27 18 != fldW old 27 18) then
            s.inc Reg.OBS_CNT_REFUSED
          else
            let s1 := s.wr a w
            if w.getLsbD 31 && !old.getLsbD 31 then
              ({ s1 with obs := { s1.obs with trace := [], written := 0, portPtr := 0, hostPtr := 0, portLost := 0, hostLost := 0 } }
                : State).wr Reg.OBS_TRC_WPTR 0
            else
              let port := if w.getLsbD 29 && !old.getLsbD 29 then s.obs.written else s.obs.portPtr
              let host := if w.getLsbD 28 && !old.getLsbD 28 then s.obs.written else s.obs.hostPtr
              ({ s1 with obs := { s1.obs with portPtr := port, hostPtr := host } } : State).hostDrain)) : Res)) ∧
  (∀ s, exec .tracePortSend s = (
      if !s.outRel || !s.up 18 then .next s
      else
        let c := s.rd Reg.OBS_TRC_CTRL
        let sync := s.fresh.getLsbD 0 || decide (63 ≤ s.obs.sinceSync)
        let s1 := s.taken
        let o := s1.obs
        .next (if sync then ({ s1 with obs := { o with sinceSync := 0 } } : State).emit (.traced (syncWords s.now))
          else
            let n := o.sinceSync + 1
            if c.getLsbD 29 && decide (0 < o.portLost) && c.getLsbD 6 then
              ({ s1.taken with obs := { o with sinceSync := n, portLost := 0 } } : State).emit
                (.traced (traceWords 6 0 s.now o.portLost s1.fresh.toNat))
            else if c.getLsbD 29 && decide (o.portPtr < o.written) then
              ({ s1 with obs := { o with sinceSync := n, portPtr := o.portPtr + 1 } } : State).emit
                (.traced (o.trace.look [] (o.portPtr % traceSize)))
            else ({ s1 with obs := { o with sinceSync := n } } : State).emit (.traced (fillWords s.now))) : Res))

/-- LIFETIME_SECOND moves the CLK_AON count on by 25,000,000 and, but while a power-on reset has released no domain,
counts a powered second, its temperature's bin, each port's light and the thermal cycle, and the junction sensor's two
level sources follow the temperature. LEDGER_MIRROR copies the ledger when OBS is up, no image waits, and the mirror
was asked for or the powered seconds are a multiple of 3,600 while mirroring is enabled. MIRROR_NOW, when its write
reaches OBS, stores the enable and asks for a mirror. MIRROR_WRITE_DONE of an image that waits increments the sequence
and writes it with the image, the device's identifier and the CRC to the older slot of the flash, or sets the error
bit and raises fault 49 at the first failure in a row. (22_observation_lifetime.md, The lifetime ledger;
22_observation_lifetime.md, Table 22.8.) -/
def Obligations.LifetimeLedger : Prop :=
  (∀ (second : AonSecond) s, exec (.lifetimeSecond second) s = (
      let s : State := { s with flt := { s.flt with aon := s.flt.aon + 25000000 } }
      let held := (s.rcp.releasing == some .powerAon || s.rcp.releasing == some .powerCore) && s.rcp.domains == 0
      .next (if held then s
        else
          let s := (s.endPass.ldgAdd 0x1240 1).ldgAdd (0x1250 + 4 * histBin second.temp) 1
          let s := (s.thermLevel second.temp 6 100 97).thermLevel second.temp 0 115 110
          let s := (List.range 32).foldl (fun s p => s.laserSecond p (second.lit.getD p 0).toNat) s.seeLight
          let s : State := { s with obs := { s.obs with lit := { s.obs.lit with high := 0, low := 0 } } }
          s.seeLight.thermSecond second.temp) : Res)) ∧
  (∀ s, exec .ledgerMirror s = (
      let pon := (s.rd (ldg 0x1240)).toNat
      let due := s.bit Reg.OBS_LDG_CTRL 0 || (s.bit Reg.OBS_LDG_CTRL 31 && pon % 3600 == 0)
      .next (if !s.up 18 || !due || s.obs.image.isSome then s
        else
          let s := s.setB Reg.OBS_LDG_CTRL 0 false
          { s with obs := { s.obs with mirroring := true, image := some (pon, s.ledgerImage) } }) : Res)) ∧
  (∀ (en : Bool) s, s.reaches Reg.OBS_LDG_CTRL →
    exec (.mirrorNow en) s = .next ((s.setB Reg.OBS_LDG_CTRL 31 en).setB Reg.OBS_LDG_CTRL 0 true)) ∧
  (∀ (ok : Bool) s, exec (.mirrorWriteDone ok) s = (
      match s.obs.image with
      | none => .next s
      | some (pon, img) =>
        let s := s.endPass
        let s : State := { s with obs := { s.obs with image := none } }
        .next (if ok then
            let seq := s.rd (ldg 0x1208) + 1
            let s := (s.wr (ldg 0x1208) seq).wr Reg.OBS_LDG_LAST (BitVec.ofNat 32 pon)
            let img := Tab.put 0 img 0x1208 seq
            let b := s.olderSlot
            let s : State := { s with
              obs := { s.obs with mirrorFailed := false }
              rcp := { s.rcp with slotSeq := if b then (s.rcp.slotSeq.1, some seq) else (some seq, s.rcp.slotSeq.2) } }
            s.emit (.flash ((s.rd Reg.OBS_LDG_FLASH).toNat + 0x10000 * b.toNat) s.dieId (imageCrc img) seq.toNat img)
          else
            let s := s.setB Reg.OBS_LDG_STATUS 1 true
            let s := if s.obs.mirrorFailed then s else s.raise 49 0
            { s with obs := { s.obs with mirrorFailed := true } }) : Res))

/-- When the write reaches TPA: a write of TPA_n_MODE while EN is 1 or DRAINED is 0 changes nothing but the count of
refused writes. A write of TPA_n_PMA that sets PATTERN to a non-zero value is stored while EN is 0 and DRAINED is 1
(and the account of light notes which outputs are high, as after every write that can change one), and any other such
write changes nothing but the count. (R51, R58.) -/
def Obligations.ModeAndPatternOnlyWhileIdle : Prop :=
  (∀ (n : Fin 32) v s, s.reaches (Reg.TPA_MODE n) →
    (s.bit (Reg.TPA_CTRL n) 0 = true ∨ s.bit (Reg.TPA_STATUS n) 0 = false) →
    exec (.tpaModeWrite n v) s = .next (s.inc (Reg.TPA_CNT_REFUSED n))) ∧
  (∀ (n : Fin 32) (v : Word) s, s.reaches (Reg.TPA_PMA n) → fldW v 15 14 ≠ 0 →
    (s.bit (Reg.TPA_CTRL n) 0 = false → s.bit (Reg.TPA_STATUS n) 0 = true →
      exec (.pmaPatternWrite n v) s = .next (s.wr (Reg.TPA_PMA n) (v &&& 0xFFFF)).seeLight) ∧
    ((s.bit (Reg.TPA_CTRL n) 0 = true ∨ s.bit (Reg.TPA_STATUS n) 0 = false) →
      exec (.pmaPatternWrite n v) s = .next (s.inc (Reg.TPA_CNT_REFUSED n))))

/-- A shaper command that passes its checks completes, and afterwards the shaper's T0 is, for an ordinary shaper, BURST ×
64 × 256 of the written configuration with FILL = 1 and 0 with FILL = 0; an aggregate shaper keeps T, capped at that
product, and T0 is the same value. The command of a tenant on an aggregate shaper ends with a status other than 0 and
changes nothing else. (R445, R446.) -/
def Obligations.ShaperConfigurationRestarts : Prop :=
  (∀ fn fill s, s.reaches Reg.TMG_SCMD →
    let x := fldW (s.cs fn Reg.TMG_SCMD_IDX) 16 0
    let cap := fldW (s.cs fn (Reg.TMG_SCMD_D 1)) 22 7 * 64 * 256
    s.shaperCheck fn x = 0 → shaperBad (s.cs fn (Reg.TMG_SCMD_D 0)) (s.cs fn (Reg.TMG_SCMD_D 1)) = false →
    ∃ t, exec (.shaperWrite fn fill) s = .next t ∧
      (x < 88576 → (t.tokOf x).t0 = if fill then (cap : Int) else 0) ∧
      (88576 ≤ x → (t.tokOf x).t = min (s.tokOf x).t (cap : Int) ∧ (t.tokOf x).t0 = min (s.tokOf x).t (cap : Int))) ∧
  (∀ (n : Fin 16) fill s, s.reaches Reg.TMG_SCMD → 88576 ≤ fldW (s.cs (.t n) Reg.TMG_SCMD_IDX) 16 0 →
    ∃ c, c ≠ 0 ∧ exec (.shaperWrite (.t n) fill) s = .next (s.shaperDone (.t n) false fill c))
end

