-- ==== Sys2Proof/Laws/Tab.lean ====
section
/-! SUPPORT. Laws of the sparse tables: reading after writing, and the canonical form, which every update keeps. -/

namespace Sys2Proof

/-- A dropped key reads as unlisted. -/
@[simp] theorem Tab.look_drop_same {α : Type} (d : α) (t : Tab α) (n : Nat) : Tab.look d (Tab.drop n t) n = d := by
  induction t with
  | nil => rfl
  | cons e t ih =>
    obtain ⟨k, v⟩ := e
    by_cases h : n = k <;> simp [Tab.drop, Tab.look, h, ih]
    simpa [h] using ih

/-- Dropping a key leaves every other key. -/
theorem Tab.look_drop_other {α : Type} (d : α) (t : Tab α) (n m : Nat) (h : m ≠ n) :
    Tab.look d (Tab.drop n t) m = Tab.look d t m := by
  induction t with
  | nil => rfl
  | cons e t ih =>
    obtain ⟨k, v⟩ := e
    by_cases h1 : n = k
    · have h2 : m ≠ k := by omega
      simp [Tab.drop, Tab.look, h1, h2] at *
      exact ih
    · by_cases h3 : m = k <;> simp [Tab.drop, Tab.look, h1, h3, ih]

/-- A placed key reads what was placed, where it was not listed. -/
theorem Tab.look_place {α : Type} (d : α) (t : Tab α) (n m : Nat) (v : α) (hn : ∀ e ∈ t, e.1 ≠ n) :
    Tab.look d (Tab.place n v t) m = if m = n then v else Tab.look d t m := by
  induction t with
  | nil => simp [Tab.place, Tab.look]
  | cons e t ih =>
    obtain ⟨k, w⟩ := e
    have hk : k ≠ n := hn (k, w) (by simp)
    have ht : ∀ e ∈ t, e.1 ≠ n := fun e he => hn e (by simp [he])
    by_cases h1 : n < k
    · simp [Tab.place, Tab.look, h1]
    · simp only [Tab.place, h1, if_false, Tab.look, ih ht]
      by_cases h2 : m = k
      · have : m ≠ n := by omega
        simp [h2, hk]
      · simp [h2]

/-- A dropped key is not listed. -/
theorem Tab.not_mem_drop {α : Type} (t : Tab α) (n : Nat) : ∀ e ∈ Tab.drop n t, e.1 ≠ n := by
  induction t with
  | nil => simp [Tab.drop]
  | cons x t ih =>
    obtain ⟨k, v⟩ := x
    by_cases h : n = k
    · subst h
      simpa [Tab.drop] using ih
    · intro e he
      simp only [Tab.drop, h, if_false, List.mem_cons] at he
      rcases he with rfl | he
      · exact fun h' => h h'.symm
      · exact ih e he

/-- Reading after writing (R662: a word access reads or writes one word). -/
theorem Tab.look_put {α : Type} [DecidableEq α] (d : α) (t : Tab α) (n m : Nat) (v d' : α) (hd : d' = d ∨ m ≠ n) :
    Tab.look d (Tab.put d' t n v) m = if m = n then v else Tab.look d t m := by
  unfold Tab.put
  by_cases hv : v = d'
  · by_cases hm : m = n
    · rcases hd with rfl | h
      · simp [hm, hv]
      · exact absurd hm h
    · simp [hv, hm, Tab.look_drop_other d t n m hm]
  · simp only [hv, if_false]
    rw [Tab.look_place d _ n m v (Tab.not_mem_drop t n)]
    by_cases hm : m = n
    · simp [hm]
    · simp [hm, Tab.look_drop_other d t n m hm]

/-- A key that was just written reads what was written. -/
@[simp] theorem Tab.look_put_same {α : Type} [DecidableEq α] (d : α) (t : Tab α) (n : Nat) (v : α) :
    Tab.look d (Tab.put d t n v) n = v := by
  rw [Tab.look_put d t n n v d (.inl rfl)]
  simp

/-- Writing a key leaves every other key. -/
theorem Tab.look_put_other {α : Type} [DecidableEq α] (d d' : α) (t : Tab α) (n m : Nat) (v : α) (h : m ≠ n) :
    Tab.look d (Tab.put d' t n v) m = Tab.look d t m := by
  rw [Tab.look_put d t n m v d' (.inr h)]
  simp [h]

/-! The canonical form. -/

/-- A list of pairs whose keys all lie above k. -/
def Tab.above {α : Type} (k : Nat) (t : Tab α) : Prop := ∀ e ∈ t, k < e.1

/-- Rising keys, unfolded once. -/
theorem Tab.rising_cons {α : Type} (k : Nat) (v : α) (t : Tab α) :
    Tab.rising ((k, v) :: t) = true ↔ Tab.above k t ∧ Tab.rising t = true := by
  induction t generalizing k v with
  | nil => simp [Tab.rising, Tab.above]
  | cons e t ih =>
    obtain ⟨m, w⟩ := e
    simp only [Tab.rising, Bool.and_eq_true, decide_eq_true_eq, Tab.above, List.mem_cons, forall_eq_or_imp]
    constructor
    · rintro ⟨h1, h2⟩
      have := (ih m w).1 h2
      exact ⟨⟨h1, fun e he => Nat.lt_trans h1 (this.1 e he)⟩, h2⟩
    · rintro ⟨⟨h1, _⟩, h2⟩
      exact ⟨h1, h2⟩

/-- A part of a rising table rises. -/
theorem Tab.rising_sublist {α : Type} {t u : Tab α} (h : u.Sublist t) (ht : Tab.rising t = true) : Tab.rising u = true := by
  induction h with
  | slnil => exact ht
  | cons e _ ih =>
    obtain ⟨k, v⟩ := e
    exact ih ((Tab.rising_cons k v _).1 ht).2
  | cons_cons e hs ih =>
    obtain ⟨k, v⟩ := e
    have := (Tab.rising_cons k v _).1 ht
    exact (Tab.rising_cons k v _).2 ⟨fun e he => this.1 e (hs.subset he), ih this.2⟩

/-- Dropping takes a part of the table. -/
theorem Tab.drop_sublist {α : Type} (n : Nat) (t : Tab α) : (Tab.drop n t).Sublist t := by
  induction t with
  | nil => exact .slnil
  | cons e t ih =>
    obtain ⟨k, v⟩ := e
    by_cases h : n = k
    · subst h
      simpa [Tab.drop] using ih.cons (n, v)
    · simpa [Tab.drop, h] using ih.cons_cons (k, v)

/-- What is listed after a placing. -/
theorem Tab.mem_place {α : Type} (n : Nat) (v : α) (t : Tab α) (e : Nat × α) :
    e ∈ Tab.place n v t ↔ e = (n, v) ∨ e ∈ t := by
  induction t with
  | nil => simp [Tab.place]
  | cons x t ih =>
    obtain ⟨k, w⟩ := x
    by_cases h : n < k <;> simp [Tab.place, h, ih] <;> tauto

/-- Placing an unlisted key keeps the keys rising. -/
theorem Tab.rising_place {α : Type} (n : Nat) (v : α) (t : Tab α) (hn : ∀ e ∈ t, e.1 ≠ n) (ht : Tab.rising t = true) :
    Tab.rising (Tab.place n v t) = true := by
  induction t with
  | nil => rfl
  | cons x t ih =>
    obtain ⟨k, w⟩ := x
    have hr := (Tab.rising_cons k w t).1 ht
    have hk : k ≠ n := hn (k, w) (by simp)
    by_cases h : n < k
    · simp only [Tab.place, h, if_true]
      refine (Tab.rising_cons _ _ _).2 ⟨?_, ht⟩
      intro e he
      rcases List.mem_cons.1 he with rfl | he
      · exact h
      · exact Nat.lt_trans h (hr.1 e he)
    · simp only [Tab.place, h, if_false]
      refine (Tab.rising_cons _ _ _).2 ⟨?_, ih (fun e he => hn e (by simp [he])) hr.2⟩
      intro e he
      rcases (Tab.mem_place n v t e).1 he with rfl | he
      · show k < n
        omega
      · exact hr.1 e he

/-- A part of a table in canonical form is in canonical form. -/
theorem Tab.wf_sublist {α : Type} [DecidableEq α] {d : Nat → α} {t u : Tab α} (h : u.Sublist t) (ht : Tab.wf d t = true) :
    Tab.wf d u = true := by
  simp only [Tab.wf, Bool.and_eq_true, List.all_eq_true] at *
  exact ⟨Tab.rising_sublist h ht.1, fun e he => ht.2 e (h.subset he)⟩

/-- A write keeps the canonical form. -/
theorem Tab.wf_put {α : Type} [DecidableEq α] (d : Nat → α) (t : Tab α) (n : Nat) (v : α) (ht : Tab.wf d t = true) :
    Tab.wf d (Tab.put (d n) t n v) = true := by
  have hd := Tab.wf_sublist (Tab.drop_sublist n t) ht
  unfold Tab.put
  split
  · exact hd
  · rename_i hv
    simp only [Tab.wf, Bool.and_eq_true, List.all_eq_true] at hd ⊢
    refine ⟨Tab.rising_place n v _ (Tab.not_mem_drop t n) hd.1, fun e he => ?_⟩
    rcases (Tab.mem_place n v _ e).1 he with rfl | he
    · simpa using hv
    · exact hd.2 e he

/-- Keeping some keys keeps the canonical form. -/
theorem Tab.wf_keep {α : Type} [DecidableEq α] (d : Nat → α) (p : Nat → Bool) (t : Tab α) (ht : Tab.wf d t = true) :
    Tab.wf d (Tab.keep p t) = true := Tab.wf_sublist List.filter_sublist ht

/-- Filtering keeps the canonical form. -/
theorem Tab.wf_filter {α : Type} [DecidableEq α] (d : Nat → α) (p : Nat × α → Bool) (t : Tab α) (ht : Tab.wf d t = true) :
    Tab.wf d (t.filter p) = true := Tab.wf_sublist List.filter_sublist ht

end Sys2Proof
end

