-- ==== Sys2Proof/Laws/Keeps.lean ====
section
/-! SUPPORT. What nothing in the device undoes: the register table's canonical form, the queue of commands, what has been sent,
and the count of free values. One relation holds between a state and every state that the operations make of it. -/

namespace Sys2Proof.Machine

/-- t comes from s by operations of the device: the register table stays in canonical form, the queue is untouched, what has
been sent stays sent, and no free value is used again. -/
structure Keeps (s t : State) : Prop where
  regs : Tab.wf resetWord s.regs = true → Tab.wf resetWord t.regs = true
  pending : t.pending = s.pending
  outs : s.outs <+: t.outs
  freeN : s.freeN ≤ t.freeN

theorem Keeps.rfl {s : State} : Keeps s s := ⟨id, Eq.refl _, List.prefix_refl _, Nat.le_refl _⟩

theorem Keeps.trans {s t u : State} (h : Keeps s t) (g : Keeps t u) : Keeps s u :=
  ⟨g.regs ∘ h.regs, g.pending.trans h.pending, h.outs.trans g.outs, Nat.le_trans h.freeN g.freeN⟩

/-- An update of the other fields. -/
theorem keeps_mk {s t : State} {clk : Clk} {flt : Flt} {rcp : Rcp} {obs : Obs} {hif : Hif} {tpa : Tpa} {brx : Brx} {rng : Rng}
    {gnt : Gnt} {udf : Udf} {tce : Tce} {cls : Cls} {fdb : Fdb} {bpm : Bpm} {tmg : Tmg} {cry : Cry} {dfr : Dfr} {prot : Prot}
    {upl : Upl} {mlk : Mlk} {mtn : Mtn} {tsu : Tsu} {dcq : Tab Dcq} {rdata : Word} {rx : List Rx} (h : Keeps s t) :
    Keeps s (State.mk t.pending t.regs clk flt rcp obs hif tpa brx rng gnt udf tce cls fdb bpm tmg cry dfr prot upl mlk mtn
      tsu dcq rdata t.outs rx t.freeN) := ⟨h.regs, h.pending, h.outs, h.freeN⟩

/-- An update of the registers beside others, where the table stays in canonical form. -/
theorem keeps_regs {s t : State} {regs : Tab Word} {clk : Clk} {flt : Flt} {rcp : Rcp} {obs : Obs} {hif : Hif} {tpa : Tpa}
    {brx : Brx} {rng : Rng} {gnt : Gnt} {udf : Udf} {tce : Tce} {cls : Cls} {fdb : Fdb} {bpm : Bpm} {tmg : Tmg} {cry : Cry}
    {dfr : Dfr} {prot : Prot} {upl : Upl} {mlk : Mlk} {mtn : Mtn} {tsu : Tsu} {dcq : Tab Dcq} {rdata : Word} {rx : List Rx} (h : Keeps s t)
    (g : Tab.wf resetWord t.regs = true → Tab.wf resetWord regs = true) :
    Keeps s (State.mk t.pending regs clk flt rcp obs hif tpa brx rng gnt udf tce cls fdb bpm tmg cry dfr prot upl mlk mtn
      tsu dcq rdata t.outs rx t.freeN) := ⟨fun w => g (h.regs w), h.pending, h.outs, h.freeN⟩

theorem keeps_ite {s t u : State} {c : Prop} [Decidable c] (h : Keeps s t) (g : Keeps s u) : Keeps s (if c then t else u) := by
  split
  · exact h
  · exact g

theorem keeps_foldl {α : Type} {s t : State} {f : State → α → State} {l : List α}
    (hf : ∀ u x, Keeps s u → Keeps s (f u x)) (h : Keeps s t) : Keeps s (l.foldl f t) := by
  induction l generalizing t with
  | nil => exact h
  | cons x l ih => exact ih (hf t x h)

/-! The same of a result that holds a state. -/

def KeepsR (s : State) (r : Res) : Prop := ∀ t, r = .next t → Keeps s t
def KeepsO (s : State) (r : Option State) : Prop := ∀ t, r = some t → Keeps s t
def KeepsP {α : Type} (s : State) (r : α × State) : Prop := Keeps s r.2
def KeepsQ {α : Type} (s : State) (r : State × α) : Prop := Keeps s r.1
def KeepsPP {α β : Type} (s : State) (r : α × β × State) : Prop := Keeps s r.2.2
def KeepsOP {α : Type} (s : State) (r : Option (α × State)) : Prop := ∀ p, r = some p → Keeps s p.2
def KeepsOPP {α β : Type} (s : State) (r : Option (α × β × State)) : Prop := ∀ p, r = some p → Keeps s p.2.2
def KeepsS (s : State) (r : SisRes) : Prop :=
  match r with
  | .done t _ _ => Keeps s t
  | .jump t _ _ => Keeps s t
  | .goto t _ _ => Keeps s t
  | .wait t => Keeps s t
  | .exc _ => True
  | .stop t _ => Keeps s t

theorem KeepsR.next {s t : State} (h : Keeps s t) : KeepsR s (.next t) :=
  fun _ e => Host.Outcome.next.inj e ▸ h
theorem KeepsO.none {s : State} : KeepsO s none := fun t e => absurd e.symm (Option.some_ne_none t)
theorem KeepsO.some {s t : State} (h : Keeps s t) : KeepsO s (some t) :=
  fun _ e => Option.some.inj e ▸ h
theorem KeepsO.out {s t : State} {r : Option State} (h : KeepsO s r) (e : r = .some t) : Keeps s t := h t e
theorem KeepsP.mk {α : Type} {s t : State} {x : α} (h : Keeps s t) : KeepsP s (x, t) := h
theorem KeepsP.proj {α : Type} {s : State} {r : α × State} (h : KeepsP s r) : Keeps s r.2 := h
theorem KeepsP.out {α : Type} {s t : State} {x : α} {r : α × State} (h : KeepsP s r) (e : r = (x, t)) : Keeps s t := by
  subst e
  exact h
theorem KeepsQ.mk {α : Type} {s t : State} {x : α} (h : Keeps s t) : KeepsQ s (t, x) := h
theorem KeepsQ.proj {α : Type} {s : State} {r : State × α} (h : KeepsQ s r) : Keeps s r.1 := h
theorem KeepsQ.out {α : Type} {s t : State} {x : α} {r : State × α} (h : KeepsQ s r) (e : r = (t, x)) : Keeps s t := by
  subst e
  exact h
theorem KeepsPP.mk {α β : Type} {s t : State} {x : α} {y : β} (h : Keeps s t) : KeepsPP s (x, y, t) := h
theorem KeepsPP.proj {α β : Type} {s : State} {r : α × β × State} (h : KeepsPP s r) : Keeps s r.2.2 := h
theorem KeepsPP.out {α β : Type} {s t : State} {x : α} {y : β} {r : α × β × State} (h : KeepsPP s r) (e : r = (x, y, t)) :
    Keeps s t := by
  subst e
  exact h
theorem KeepsOP.none {α : Type} {s : State} : KeepsOP s (none : Option (α × State)) :=
  fun p e => absurd e.symm (Option.some_ne_none p)
theorem KeepsOP.some {α : Type} {s t : State} {x : α} (h : Keeps s t) : KeepsOP s (some (x, t)) :=
  fun _ e => Option.some.inj e ▸ h
theorem KeepsOP.out {α : Type} {s t : State} {x : α} {r : Option (α × State)} (h : KeepsOP s r) (e : r = .some (x, t)) :
    Keeps s t := h _ e
theorem KeepsOPP.none {α β : Type} {s : State} : KeepsOPP s (none : Option (α × β × State)) :=
  fun p e => absurd e.symm (Option.some_ne_none p)
theorem KeepsOPP.some {α β : Type} {s t : State} {x : α} {y : β} (h : Keeps s t) : KeepsOPP s (some (x, y, t)) :=
  fun _ e => Option.some.inj e ▸ h
theorem KeepsOPP.out {α β : Type} {s t : State} {x : α} {y : β} {r : Option (α × β × State)} (h : KeepsOPP s r)
    (e : r = .some (x, y, t)) : Keeps s t := h _ e
theorem KeepsS.done {s t : State} {c : Nat} {b : Bool} (h : Keeps s t) : KeepsS s (.done t c b) := h
theorem KeepsS.jump {s t : State} {x : Int} {c : Nat} (h : Keeps s t) : KeepsS s (.jump t x c) := h
theorem KeepsS.goto {s t : State} {x c : Nat} (h : Keeps s t) : KeepsS s (.goto t x c) := h
theorem KeepsS.wait {s t : State} (h : Keeps s t) : KeepsS s (.wait t) := h
theorem KeepsS.exc {s : State} {x : Nat} : KeepsS s (.exc x) := trivial
theorem KeepsS.stop {s t : State} {c : Nat} (h : Keeps s t) : KeepsS s (.stop t c) := h

theorem keepsP_ite {α : Type} {s : State} {r q : α × State} {c : Prop} [Decidable c] (h : KeepsP s r) (g : KeepsP s q) :
    KeepsP s (if c then r else q) := by
  split
  · exact h
  · exact g
theorem keepsPP_ite {α β : Type} {s : State} {r q : α × β × State} {c : Prop} [Decidable c] (h : KeepsPP s r)
    (g : KeepsPP s q) : KeepsPP s (if c then r else q) := by
  split
  · exact h
  · exact g
theorem keepsOPP_map {α β γ : Type} {s : State} {f : γ → α × β × State} {r : Option γ} (h : ∀ x, KeepsPP s (f x)) :
    KeepsOPP s (r.map f) := by
  intro p e
  obtain ⟨x, -, g⟩ := Option.map_eq_some_iff.1 e
  exact g ▸ h x
theorem keepsR_ite {s : State} {r q : Res} {c : Prop} [Decidable c] (h : KeepsR s r) (g : KeepsR s q) :
    KeepsR s (if c then r else q) := by
  split
  · exact h
  · exact g
theorem keepsS_ite {s : State} {r q : SisRes} {c : Prop} [Decidable c] (h : KeepsS s r) (g : KeepsS s q) :
    KeepsS s (if c then r else q) := by
  split
  · exact h
  · exact g

/-- A register write. -/
theorem keeps_wr {σ s : State} {a : Nat} {w : Word} (h : Keeps σ s) : Keeps σ (s.wr a w) :=
  ⟨fun g => Tab.wf_put _ _ _ _ (h.regs g), h.pending, h.outs, h.freeN⟩

/-- What is sent is added. -/
theorem keeps_emit {σ s : State} {x : Out} (h : Keeps σ s) : Keeps σ (s.emit x) :=
  ⟨h.regs, h.pending, h.outs.trans (List.prefix_append _ _), h.freeN⟩

theorem keeps_taken {σ s : State} (h : Keeps σ s) : Keeps σ s.taken :=
  ⟨h.regs, h.pending, h.outs, Nat.le_succ_of_le h.freeN⟩

end Sys2Proof.Machine
end

