-- ==== Sys2Proof/Laws/KeepsOps.lean ====
section
/-! SUPPORT. Each operation keeps what nothing in the device undoes (Keeps): the shared operations. -/

namespace Sys2Proof.Machine

variable {σ s : State}

theorem keeps_setF {a hi lo v : Nat} (hs : Keeps σ s) : Keeps σ (s.setF a hi lo v) := keeps_wr hs
theorem keeps_setB {a i : Nat} {b : Bool} (hs : Keeps σ s) : Keeps σ (s.setB a i b) := keeps_wr hs
theorem keeps_incN {a n : Nat} (hs : Keeps σ s) : Keeps σ (s.incN a n) := by
  unfold State.incN
  extract_lets +onlyGivenNames x1
  clear_value x1
  split
  · extract_lets +onlyGivenNames x2
    have h1 : Keeps σ x2 := keeps_wr hs
    clear_value x2
    exact keeps_ite h1 (keeps_setB h1)
  · exact keeps_wr hs
theorem keeps_inc {a : Nat} (hs : Keeps σ s) : Keeps σ (s.inc a) := keeps_incN hs
theorem keeps_incIf {c : Bool} {a : Nat} (hs : Keeps σ s) : Keeps σ (s.incIf c a) := keeps_ite (keeps_inc hs) hs
theorem keeps_satField {a hi lo n : Nat} (hs : Keeps σ s) : Keeps σ (s.satField a hi lo n) := keeps_setF hs
theorem keeps_add64 {a n : Nat} (hs : Keeps σ s) : Keeps σ (s.add64 a n) := keeps_wr (keeps_wr hs)
theorem keeps_setTen {k : Nat} {w : Word} (hs : Keeps σ s) : Keeps σ (s.setTen k w) := keeps_mk hs
theorem keeps_signal {fn : Fn} {vec : Nat} (hs : Keeps σ s) : Keeps σ (s.signal fn vec) := by
  unfold State.signal
  split
  · exact hs
  · split
    · exact keeps_ite (keeps_setB hs) (keeps_emit hs)
    · exact keeps_ite (keeps_setTen hs) (keeps_emit hs)
theorem keeps_add48 {a n grp : Nat} (hs : Keeps σ s) : Keeps σ (s.add48 a n grp) := by
  unfold State.add48
  extract_lets +onlyGivenNames x1
  clear_value x1
  extract_lets +onlyGivenNames x2
  have h1 : Keeps σ x2 := keeps_setF (keeps_wr hs)
  clear_value x2
  split
  · exact h1
  · extract_lets +onlyGivenNames x3
    have h2 : Keeps σ x3 := keeps_setB h1
    clear_value x3
    exact keeps_ite (keeps_signal (keeps_setB h2)) h2
theorem keeps_holdGain {u : Nat} (hs : Keeps σ s) : Keeps σ (s.holdGain u) := keeps_ite hs (keeps_mk hs)
theorem keeps_slewGain {u : Nat} (hs : Keeps σ s) : Keeps σ (s.slewGain u) := by
  unfold State.slewGain
  split
  · exact hs
  · exact keeps_wr hs
theorem keeps_raiseWith {src info : Nat} {base : Bool} {cred : Option CredRec} (hs : Keeps σ s) :
    Keeps σ (s.raiseWith src info base cred) := keeps_mk hs
theorem keeps_raise {src info : Nat} (hs : Keeps σ s) : Keeps σ (s.raise src info) := keeps_raiseWith hs
theorem keeps_raiseLevel {src : Fin 52} {info : Nat} (hs : Keeps σ s) : Keeps σ (s.raiseLevel src info) :=
    keeps_ite hs (keeps_raise (keeps_mk hs))
theorem keeps_ringCount {r : Nat} (hs : Keeps σ s) : Keeps σ (s.ringCount r) := by
  unfold State.ringCount
  extract_lets +onlyGivenNames x1
  have h1 : Keeps σ x1 := keeps_add64 hs
  clear_value x1
  exact keeps_ite (keeps_ite (keeps_signal (keeps_mk h1)) (keeps_mk h1)) h1
theorem keeps_postSlot {r x : Nat} {whole : Bool} {d : BitVec 256} (hs : Keeps σ s) : Keeps σ (s.postSlot r x whole d) := by
  unfold State.postSlot
  extract_lets +onlyGivenNames x1
  clear_value x1
  extract_lets +onlyGivenNames x2
  have h1 : ∀ v0 v1 v2, Keeps σ v2 → Keeps σ (x2 v0 v1 v2) := by
    intro v0 v1 v2 hv2
    unfold x2
    exact keeps_emit hv2
  clear_value x2
  exact h1 _ _ _ (keeps_ite (h1 _ _ _ hs) hs)
theorem keeps_dmaRead {r addr len : Nat} (hs : Keeps σ s) : Keeps σ (s.dmaRead r addr len) := keeps_emit hs
theorem keeps_ringPut {r body tag : Nat} {exc : Bool} (hs : Keeps σ s) : Keeps σ (s.ringPut r body tag exc) :=
    keeps_ringCount (keeps_setF (keeps_postSlot hs))
theorem keeps_postEvent {r body lossCnt : Nat} (hs : Keeps σ s) : Keeps σ (s.postEvent r body lossCnt) :=
    keeps_ite (keeps_ringPut hs) (keeps_ite (keeps_inc hs) hs)
theorem keeps_ringSettle {r : Nat} (hs : Keeps σ s) : Keeps σ (s.ringSettle r) := keeps_setB hs
theorem keeps_dropDesc {d : Desc} (hs : Keeps σ s) : Keeps σ (s.dropDesc d) := keeps_mk hs
theorem keeps_complete {d : Desc} {whole : Bool} {body status : Nat} (hs : Keeps σ s) :
    Keeps σ (s.complete d whole body status) := by
  unfold State.complete
  extract_lets +onlyGivenNames x1 x2
  clear_value x1 x2
  split
  · exact hs
  · extract_lets +onlyGivenNames x3
    have h1 : Keeps σ x3 := keeps_ite hs (keeps_ringCount (keeps_postSlot hs))
    clear_value x3
    exact keeps_ringSettle (keeps_dropDesc h1)
theorem keeps_dmaFail {answered : Bool} (hs : Keeps σ s) : Keeps σ (s.dmaFail answered) := by
  unfold State.dmaFail
  extract_lets +onlyGivenNames x1
  have h1 : Keeps σ x1 := keeps_inc hs
  clear_value x1
  exact keeps_ite (keeps_raise h1) h1
theorem keeps_ringError {r code : Nat} (hs : Keeps σ s) : Keeps σ (s.ringError r code) := by
  unfold State.ringError
  extract_lets +onlyGivenNames x1
  have h1 : Keeps σ x1 := keeps_setF (keeps_setB hs)
  clear_value x1
  extract_lets +onlyGivenNames x2
  have h2 : Keeps σ x2 := keeps_raise h1
  clear_value x2
  exact keeps_ite (keeps_postEvent h2) h2
theorem keeps_tenantRefused {n : Fin 16} {wr : Bool} {o : Nat} (hs : Keeps σ s) : Keeps σ (s.tenantRefused n wr o) := by
  unfold State.tenantRefused
  extract_lets +onlyGivenNames x1 x2 x3
  clear_value x1 x2 x3
  extract_lets +onlyGivenNames x4
  have h1 : Keeps σ x4 := keeps_setTen (keeps_setTen hs)
  clear_value x4
  extract_lets +onlyGivenNames x5
  have h2 : Keeps σ x5 := keeps_ite (keeps_setB h1) h1
  clear_value x5
  extract_lets +onlyGivenNames x6
  have h3 : Keeps σ x6 := keeps_wr (keeps_inc h2)
  clear_value x6
  extract_lets +onlyGivenNames x7
  have h4 : Keeps σ x7 := keeps_raise h3
  clear_value x7
  exact keeps_ite (keeps_postEvent h4) h4
theorem keeps_traceSlot {r : List Word} (hs : Keeps σ s) : Keeps σ (s.traceSlot r) := keeps_ringPut hs
theorem keeps_hostTrace {y0 : Nat} {y1 : State} (hy1 : Keeps σ y1) : Keeps σ (State.hostTrace y0 y1) := by
  induction y0 generalizing y1 with
  | zero =>
    rw [State.hostTrace]
    exact hy1
  | succ y ih =>
    rw [State.hostTrace]
    split
    · exact hy1
    · split
      · extract_lets +onlyGivenNames x1
        have h1 : Keeps σ x1 := keeps_traceSlot hy1
        clear_value x1
        exact ih (keeps_taken (keeps_mk h1))
      · split
        · extract_lets +onlyGivenNames x1
          have h1 : Keeps σ x1 := keeps_traceSlot hy1
          clear_value x1
          exact ih (keeps_mk h1)
        · exact hy1
theorem keeps_hostDrain (hs : Keeps σ s) : Keeps σ s.hostDrain := keeps_hostTrace hs
theorem keeps_traceAt {at_ k src payload : Nat} (hs : Keeps σ s) : Keeps σ (s.traceAt at_ k src payload) := by
  unfold State.traceAt
  extract_lets +onlyGivenNames x1 x2
  clear_value x1 x2
  split
  · exact hs
  · extract_lets +onlyGivenNames x3 x4 x5 x6
    clear_value x3 x4 x5 x6
    split
    · exact keeps_raise (keeps_inc (keeps_mk hs))
    · extract_lets +onlyGivenNames x7 x8
      clear_value x7 x8
      extract_lets +onlyGivenNames x9
      have h1 : Keeps σ x9 := keeps_mk hs
      clear_value x9
      extract_lets +onlyGivenNames x10
      have h2 : Keeps σ x10 := keeps_wr h1
      clear_value x10
      exact keeps_hostDrain (keeps_ite (keeps_raise (keeps_inc h2)) h2)
theorem keeps_trace {k src payload : Nat} (hs : Keeps σ s) : Keeps σ (s.trace k src payload) := keeps_traceAt hs
theorem keeps_ldgBump {o n : Nat} (hs : Keeps σ s) : Keeps σ (s.ldgBump o n) :=
    keeps_ite (keeps_setB (keeps_wr hs)) (keeps_wr hs)
theorem keeps_ldgApply {y0 : LedgerUpd} (hs : Keeps σ s) : Keeps σ (s.ldgApply y0) := by
  unfold State.ldgApply
  split
  · exact keeps_ldgBump hs
  · extract_lets +onlyGivenNames x1
    have h1 : Keeps σ x1 := keeps_ldgBump hs
    clear_value x1
    extract_lets +onlyGivenNames x2
    clear_value x2
    split
    · exact keeps_ldgBump h1
    · extract_lets +onlyGivenNames x3
      clear_value x3
      extract_lets +onlyGivenNames x4
      have h2 : Keeps σ x4 := keeps_wr h1
      clear_value x4
      extract_lets +onlyGivenNames x5
      have h3 : Keeps σ x5 := keeps_wr h2
      clear_value x5
      extract_lets +onlyGivenNames x6
      have h4 : Keeps σ x6 := keeps_wr (keeps_wr h3)
      clear_value x6
      extract_lets +onlyGivenNames x7
      have h5 : Keeps σ x7 := keeps_wr (keeps_wr h4)
      clear_value x7
      extract_lets +onlyGivenNames x8
      have h6 : Keeps σ x8 := keeps_wr h5
      clear_value x8
      exact keeps_ite (keeps_setB h6) h6
theorem keeps_endPass (hs : Keeps σ s) : Keeps σ s.endPass := keeps_foldl (fun _ _ h1 => keeps_ldgApply h1) (keeps_mk hs)
theorem keeps_ldgUpd {u : LedgerUpd} (hs : Keeps σ s) : Keeps σ (s.ldgUpd u) :=
    keeps_ite (keeps_ite (keeps_mk hs) (keeps_ldgApply (keeps_endPass hs))) (keeps_ldgApply hs)
theorem keeps_ldgAdd {o n : Nat} (hs : Keeps σ s) : Keeps σ (s.ldgAdd o n) := keeps_ldgUpd hs
theorem keeps_ledgerLog {kind blk loc value : Nat} (hs : Keeps σ s) : Keeps σ (s.ledgerLog kind blk loc value) :=
    keeps_ldgUpd hs
theorem keeps_repairDone {kind blk loc : Nat} (hs : Keeps σ s) : Keeps σ (s.repairDone kind blk loc) := by
  unfold State.repairDone
  extract_lets +onlyGivenNames x1
  have h1 : Keeps σ x1 := keeps_ledgerLog (keeps_raise hs)
  clear_value x1
  exact keeps_mk h1
theorem keeps_drive {o : Out} (hs : Keeps σ s) : Keeps σ (s.drive o) := keeps_ite (keeps_emit hs) hs
theorem keeps_refuseAt {cnt a : Nat} {wr : Bool} (hs : Keeps σ s) : Keeps σ (s.refuseAt cnt a wr) := keeps_wr (keeps_inc hs)
theorem keeps_fnWrite {fn : Fn} {a : Nat} {r : Res} (hs : Keeps σ s) (hr : KeepsR σ r) : KeepsR σ (s.fnWrite fn a r) := by
  unfold State.fnWrite
  split
  · exact KeepsR.next hs
  · split
    · split
      · exact KeepsR.next (keeps_refuseAt hs)
      · exact KeepsR.next hs
    · exact hr
theorem keeps_opWrite {a : Nat} {r : Res} (hs : Keeps σ s) (hr : KeepsR σ r) : KeepsR σ (s.opWrite a r) := keeps_fnWrite hs hr
theorem keeps_thresholdTick {k : Nat} (hs : Keeps σ s) : Keeps σ (s.thresholdTick k) := keeps_ite (keeps_add48 hs) hs
theorem keeps_starve {p : Nat} (hs : Keeps σ s) : Keeps σ (s.starve p) := keeps_ite (keeps_add48 hs) hs
theorem keeps_countCycles (hs : Keeps σ s) : Keeps σ s.countCycles := by
  unfold State.countCycles
  split
  · exact hs
  · extract_lets +onlyGivenNames x1
    have h1 : Keeps σ x1 := keeps_foldl (fun _ _ h1 => keeps_thresholdTick h1) hs
    clear_value x1
    extract_lets +onlyGivenNames x2
    have h2 : Keeps σ x2 := keeps_ite (keeps_foldl (fun _ _ h2 => keeps_starve h2) h1) h1
    clear_value x2
    exact keeps_taken h2
theorem keeps_advanceTo {t : Nat} (hs : Keeps σ s) : Keeps σ (s.advanceTo t) := by
  unfold State.advanceTo
  split
  · extract_lets +onlyGivenNames x1
    clear_value x1
    extract_lets +onlyGivenNames x2
    have h1 : Keeps σ x2 := keeps_slewGain (keeps_holdGain hs)
    clear_value x2
    exact keeps_countCycles (keeps_mk h1)
  · exact hs
theorem keeps_setLatched {src : Nat} (hs : Keeps σ s) : Keeps σ (s.setLatched src) := keeps_ite (keeps_setB hs) (keeps_setB hs)
theorem keeps_recordFault {src cls info : Nat} {coinc : Bool} (hs : Keeps σ s) :
    Keeps σ (s.recordFault src cls info coinc) := by
  unfold State.recordFault
  extract_lets +onlyGivenNames x1 x2 x3
  clear_value x1 x2 x3
  extract_lets +onlyGivenNames x4
  have h1 : Keeps σ x4 := keeps_wr (keeps_wr hs)
  clear_value x4
  exact keeps_wr (keeps_wr (keeps_wr h1))
theorem keeps_recordCredits {l : Latch} (hs : Keeps σ s) : Keeps σ (s.recordCredits l) := by
  unfold State.recordCredits
  split
  · exact hs
  · split
    · exact keeps_incN hs
    · extract_lets +onlyGivenNames x1
      clear_value x1
      extract_lets +onlyGivenNames x2
      have h1 : Keeps σ x2 := keeps_wr (keeps_setB hs)
      clear_value x2
      extract_lets +onlyGivenNames x3
      have h2 : Keeps σ x3 := keeps_wr (keeps_wr h1)
      clear_value x3
      exact keeps_incN (keeps_wr h2)
theorem keeps_ackOne {coinc : Bool} {src : Nat} (hs : Keeps σ s) : Keeps σ (s.ackOne coinc src) := by
  unfold State.ackOne
  extract_lets +onlyGivenNames x1 x2 x3
  clear_value x1 x2 x3
  extract_lets +onlyGivenNames x4
  have h1 : Keeps σ x4 := keeps_mk hs
  clear_value x4
  extract_lets +onlyGivenNames x5
  have h2 : Keeps σ x5 := keeps_satField (keeps_setLatched h1)
  clear_value x5
  extract_lets +onlyGivenNames x6
  have h3 : Keeps σ x6 := keeps_recordCredits h2
  clear_value x6
  extract_lets +onlyGivenNames x7
  have h4 : Keeps σ x7 := keeps_ite (keeps_signal h3) h3
  clear_value x7
  exact keeps_trace h4
theorem keeps_laserKill (hs : Keeps σ s) : Keeps σ s.laserKill := keeps_foldl (fun _ _ h1 => keeps_setB h1) hs
theorem keeps_ackAll {srcs : BitVec 52} {sameCycle : Bool} (hs : Keeps σ s) : Keeps σ (s.ackAll srcs sameCycle) := by
  unfold State.ackAll
  extract_lets +onlyGivenNames x1
  clear_value x1
  extract_lets +onlyGivenNames x2
  extract_lets +onlyGivenNames x3 x4
  clear_value x3 x4
  extract_lets +onlyGivenNames x5
  extract_lets +onlyGivenNames x6
  have h1 : Keeps σ x6 := keeps_foldl (fun _ _ h1 => keeps_ackOne h1) hs
  clear_value x6
  extract_lets +onlyGivenNames x7
  clear_value x7
  extract_lets +onlyGivenNames x8
  have h2 : Keeps σ x8 := keeps_mk h1
  clear_value x8
  extract_lets +onlyGivenNames x9
  have h3 : Keeps σ x9 := keeps_ite (keeps_setB h2) h2
  clear_value x9
  split
  · exact h3
  · extract_lets +onlyGivenNames x10
    clear_value x10
    extract_lets +onlyGivenNames x11
    have h4 : Keeps σ x11 := keeps_recordFault h3
    clear_value x11
    extract_lets +onlyGivenNames x12
    clear_value x12
    extract_lets +onlyGivenNames x13
    have h5 : Keeps σ x13 := keeps_ite (keeps_mk h4) h3
    clear_value x13
    split
    · extract_lets +onlyGivenNames x14
      have h6 : Keeps σ x14 := keeps_laserKill h5
      clear_value x14
      exact keeps_mk h6
    · exact h5
theorem keeps_setTport {n : Nat} {p : TpaPort} (hs : Keeps σ s) : Keeps σ (s.setTport n p) := keeps_mk hs
theorem keeps_setBport {n : Nat} {p : BrxPort} (hs : Keeps σ s) : Keeps σ (s.setBport n p) := keeps_mk hs
theorem keeps_setGport {n : Nat} {p : GntPort} (hs : Keeps σ s) : Keeps σ (s.setGport n p) := keeps_mk hs
theorem keeps_setRport {n : Nat} {p : RngPort} (hs : Keeps σ s) : Keeps σ (s.setRport n p) := keeps_mk hs
theorem keeps_setTerm {n l : Nat} {t : Term} (hs : Keeps σ s) : Keeps σ (s.setTerm n l t) := keeps_mk hs
theorem keeps_setEnt {n l : Nat} {e : MemEnt} (hs : Keeps σ s) : Keeps σ (s.setEnt n l e) := keeps_mk hs
theorem keeps_seeLight (hs : Keeps σ s) : Keeps σ s.seeLight := keeps_mk hs
theorem keeps_leaveQuiet (hs : Keeps σ s) : Keeps σ s.leaveQuiet := by
  unfold State.leaveQuiet
  split
  · exact hs
  · extract_lets +onlyGivenNames x1
    clear_value x1
    extract_lets +onlyGivenNames x2
    have h1 : Keeps σ x2 := keeps_mk hs
    clear_value x2
    exact keeps_foldl (fun _ _ h2 => keeps_ite (keeps_setF h2) h2) (keeps_setB h1)
theorem keeps_tpaRefused {n : Nat} (hs : Keeps σ s) : Keeps σ (s.tpaRefused n) := keeps_inc hs
theorem keeps_pmPartial {en : Nat} (hs : Keeps σ s) : Keeps σ (s.pmPartial en) := keeps_ite (keeps_mk hs) hs
theorem keeps_setCrossing {q : Nat} {d : Dcq} (hs : Keeps σ s) : Keeps σ (s.setCrossing q d) := keeps_mk hs
theorem keeps_creditCheck {blk queue used flying : Nat} (hs : Keeps σ s) :
    Keeps σ (s.creditCheck blk queue used flying) := keeps_ite hs (keeps_raiseWith hs)
theorem keeps_settleQueue {q : Nat} {d : Dcq} (hs : Keeps σ s) : Keeps σ (s.settleQueue q d) :=
    keeps_creditCheck (keeps_setCrossing hs)
theorem keeps_wipeKeys {t : Nat} (hs : Keeps σ s) : Keeps σ (s.wipeKeys t) := by
  unfold State.wipeKeys
  extract_lets +onlyGivenNames x1
  clear_value x1
  extract_lets +onlyGivenNames x2
  have h1 : Keeps σ x2 := keeps_mk hs
  clear_value x2
  exact keeps_wr (keeps_wr (keeps_wr (keeps_wr h1)))
theorem keeps_arrive {c n : Nat} {i : DcqItem} (hs : Keeps σ s) : Keeps σ (s.arrive c n i) := by
  unfold State.arrive
  split
  · exact hs
  · exact hs
  · exact hs
  · exact keeps_setGport hs
  · exact keeps_mk hs
  · exact keeps_wipeKeys hs
  · exact keeps_setRport hs
  · exact keeps_mk hs
  · exact keeps_mk hs
  · exact keeps_setRport hs
  · exact keeps_mk hs
  · split
    · exact keeps_mk hs
    · split
      · exact keeps_mk hs
      · split
        · exact keeps_mk hs
        · extract_lets +onlyGivenNames x1
          clear_value x1
          extract_lets +onlyGivenNames x2
          have h1 : Keeps σ x2 := keeps_mk hs
          clear_value x2
          exact keeps_ite (keeps_mk h1) h1
theorem keeps_cross {c n : Nat} {i : DcqItem} (hs : Keeps σ s) : Keeps σ (s.cross c n i) :=
    keeps_ite (keeps_ite (keeps_settleQueue hs) (keeps_setCrossing hs)) (keeps_ite (keeps_arrive hs) hs)
theorem keeps_crossVisible {c n : Nat} (hs : Keeps σ s) : Keeps σ (s.crossVisible c n) := by
  unfold State.crossVisible
  extract_lets +onlyGivenNames x1
  clear_value x1
  split
  · exact hs
  · exact keeps_arrive (keeps_settleQueue hs)
theorem keeps_emptyQueue {c n : Nat} (hs : Keeps σ s) : Keeps σ (s.emptyQueue c n) := keeps_mk hs
theorem keeps_tell {c n a : Nat} (hs : Keeps σ s) : Keeps σ (s.tell c n a) := keeps_cross hs
theorem keeps_putEnt {n l : Nat} {e : MemEnt} (hs : Keeps σ s) : Keeps σ (s.putEnt n l e) := keeps_cross (keeps_setEnt hs)
theorem keeps_overlay {copy : Tab Word} {as : List Nat} (hs : Keeps σ s) : Keeps σ (s.overlay copy as) :=
    keeps_foldl (fun _ _ h1 => keeps_wr h1) hs
theorem keeps_gntSees {n : Nat} (hs : Keeps σ s) : Keeps σ (s.gntSees n) := by
  unfold State.gntSees
  extract_lets +onlyGivenNames x1
  have h1 : Keeps σ x1 := keeps_overlay hs
  clear_value x1
  exact keeps_mk h1
theorem keeps_rngSees {n : Nat} (hs : Keeps σ s) : Keeps σ (s.rngSees n) := keeps_overlay hs
theorem keeps_emptyQueues {c : Nat} (hs : Keeps σ s) : Keeps σ (s.emptyQueues c) := keeps_mk hs
theorem keeps_recopy {c : Nat} (hs : Keeps σ s) : Keeps σ (s.recopy c) := by
  unfold State.recopy
  split
  · exact keeps_mk hs
  · exact keeps_mk hs
  · exact keeps_mk hs
  · exact keeps_mk hs
  · exact keeps_mk hs
  · exact hs
theorem keeps_resync {b : Nat} (hs : Keeps σ s) : Keeps σ (s.resync b) :=
    keeps_foldl (fun _ _ h1 => keeps_recopy (keeps_emptyQueues h1)) hs
theorem keeps_setPage {n : Nat} {g : Page} (hs : Keeps σ s) : Keeps σ (s.setPage n g) := keeps_setGport hs
theorem keeps_calWrite {n frame : Nat} {wr : Writer} {e : CalEnt} (hs : Keeps σ s) :
    KeepsP σ (s.calWrite n frame wr e) := by
  unfold State.calWrite
  extract_lets +onlyGivenNames x1
  clear_value x1
  split
  · split
    · exact KeepsP.mk hs
    · exact KeepsP.mk (keeps_setPage hs)
  · exact KeepsP.mk (keeps_inc hs)
theorem keeps_placeWindows {n : Nat} {g : Page} {y0 : List Nat} (hs : Keeps σ s) : KeepsP σ (s.placeWindows n g y0) := by
  induction y0 generalizing s n g with
  | nil =>
    rw [State.placeWindows]
    exact KeepsP.mk hs
  | cons y ys ih =>
    rw [State.placeWindows]
    exact keepsP_ite (ih hs) (keepsP_ite (ih (keeps_inc hs)) (keepsP_ite (ih (keeps_inc hs)) (ih hs)))
theorem keeps_placeSpan {n : Nat} {g : Page} {e : CalEnt} {c : Nat} {lo hi : Int} (hs : Keeps σ s) :
    KeepsP σ (s.placeSpan n g e c lo hi) := KeepsP.mk (keeps_setGport hs)
theorem keeps_placePending {n : Nat} {g : Page} (hs : Keeps σ s) : KeepsP σ (s.placePending n g) := by
  unfold State.placePending
  extract_lets +onlyGivenNames x1
  clear_value x1
  extract_lets +onlyGivenNames x2
  have h1 : Keeps σ x2 := keeps_gntSees hs
  clear_value x2
  split
  · exact KeepsP.mk hs
  · split
    · exact KeepsP.mk (keeps_inc hs)
    · extract_lets +onlyGivenNames x3
      clear_value x3
      extract_lets +onlyGivenNames x4
      have h2 : ∀ v0 v1, Keeps σ v1 → KeepsP σ (x4 v0 v1) := by
        intro v0 v1 hv1
        unfold x4
        split
        · exact KeepsP.mk hv1
        · split
          · exact KeepsP.mk (keeps_inc hv1)
          · split
            exact KeepsP.mk (keeps_setGport (KeepsP.out (keeps_placeSpan hv1) ‹_›))
      clear_value x4
      split
      · exact h2 _ _ hs
      · split
        split
        · exact h2 _ _ (keeps_inc hs)
        · split
          exact KeepsP.mk (keeps_setGport (KeepsP.out (keeps_placeSpan hs) ‹_›))
theorem keeps_openPage {n frame : Nat} (hs : Keeps σ s) : Keeps σ (s.openPage n frame) := by
  unfold State.openPage
  split
  · exact hs
  · extract_lets +onlyGivenNames x1 x2
    clear_value x1 x2
    extract_lets +onlyGivenNames x3
    have h1 : Keeps σ x3 := keeps_setGport hs
    clear_value x3
    split
    split
    exact keeps_setGport (KeepsP.out (keeps_placePending (KeepsP.out (keeps_placeWindows h1) ‹_›)) ‹_›)
theorem keeps_sealPage {n : Nat} {g : Page} {qh : Nat} (hs : Keeps σ s) : Keeps σ (s.sealPage n g qh) := by
  unfold State.sealPage
  extract_lets +onlyGivenNames x1
  clear_value x1
  extract_lets +onlyGivenNames x2
  have h1 : Keeps σ x2 := keeps_incIf hs
  clear_value x2
  extract_lets +onlyGivenNames x3
  have h2 : Keeps σ x3 := keeps_setPage h1
  clear_value x3
  extract_lets +onlyGivenNames x4 x5
  clear_value x4 x5
  extract_lets +onlyGivenNames x6
  have h3 : Keeps σ x6 := keeps_ite (keeps_setGport h2) h2
  clear_value x6
  exact keeps_incIf h3
theorem keeps_sealBy {n frame qh eng : Nat} (hs : Keeps σ s) : KeepsP σ (s.sealBy n frame qh eng) := by
  unfold State.sealBy
  split
  · exact KeepsP.mk hs
  · exact keepsP_ite (KeepsP.mk hs) (keepsP_ite (KeepsP.mk hs) (KeepsP.mk (keeps_sealPage hs)))
theorem keeps_repeatEnts {n frame owner : Nat} {y0 : List CalEnt} (hs : Keeps σ s) :
    Keeps σ (s.repeatEnts n frame owner y0) := by
  induction y0 generalizing s n frame owner with
  | nil =>
    rw [State.repeatEnts]
    exact hs
  | cons y ys ih =>
    rw [State.repeatEnts]
    exact ih ((keeps_calWrite hs).proj)
theorem keeps_missPage {n : Nat} {g : Page} (hs : Keeps σ s) : Keeps σ (s.missPage n g) := by
  unfold State.missPage
  extract_lets +onlyGivenNames x1
  have h1 : Keeps σ x1 := keeps_inc hs
  clear_value x1
  extract_lets +onlyGivenNames x2
  clear_value x2
  extract_lets +onlyGivenNames x3
  have h2 : Keeps σ x3 := keeps_setPage h1
  clear_value x3
  extract_lets +onlyGivenNames x4
  have h3 : Keeps σ x4 := by
    unfold x4
    split
    · exact h1
    · split
      · exact h2
      · exact keeps_repeatEnts h2
    · exact keeps_setPage h1
  clear_value x4
  split
  · exact h3
  · exact keeps_sealPage h3
theorem keeps_fixBursts {n : Nat} {y0 : List (List CalEnt × (Bool × Option Nat))} (hs : Keeps σ s) :
    KeepsP σ (s.fixBursts n y0) := by
  induction y0 generalizing s n with
  | nil =>
    rw [State.fixBursts]
    exact KeepsP.mk hs
  | cons y ys ih =>
    rw [State.fixBursts]
    split
    extract_lets +onlyGivenNames x1
    have h1 : Keeps σ x1 := keeps_incIf (keeps_incIf hs)
    clear_value x1
    split
    exact KeepsP.mk (KeepsP.out (ih h1) ‹_›)
theorem keeps_kindsSeen {n frame : Nat} {ks : List (Bool × Option Nat)} (hs : Keeps σ s) :
    Keeps σ (s.kindsSeen n frame ks) := by
  unfold State.kindsSeen
  split
  · exact hs
  · split
    · exact hs
    · split
      exact keeps_setPage (KeepsP.out (keeps_fixBursts hs) ‹_›)
theorem keeps_ledgerMismatch {status vbit idxReg src idx : Nat} {diff : Int} (hs : Keeps σ s) :
    Keeps σ (s.ledgerMismatch status vbit idxReg src idx diff) := by
  unfold State.ledgerMismatch
  extract_lets +onlyGivenNames x1
  have h1 : Keeps σ x1 := keeps_wr (keeps_setB hs)
  clear_value x1
  extract_lets +onlyGivenNames x2
  have h2 : Keeps σ x2 := keeps_wr (keeps_wr h1)
  clear_value x2
  extract_lets +onlyGivenNames x3
  have h3 : Keeps σ x3 := keeps_ite (keeps_inc hs) (keeps_wr h2)
  clear_value x3
  exact keeps_raise h3
theorem keeps_checkGrants {g : Page} {counts : List (Nat × Nat × Nat × Nat)} {y0 : List (Nat × Nat)} (hs : Keeps σ s) :
    Keeps σ (s.checkGrants g counts y0) := by
  induction y0 generalizing s g counts with
  | nil =>
    rw [State.checkGrants]
    exact hs
  | cons y ys ih =>
    rw [State.checkGrants]
    refine ih ?_
    split
    · exact hs
    · split
      · exact keeps_ledgerMismatch hs
      · exact keeps_ite hs (keeps_ledgerMismatch hs)
theorem keeps_setOffF {n l : Nat} {v : Int} (hs : Keeps σ s) : Keeps σ (s.setOffF n l v) := keeps_wr hs
theorem keeps_setEqd {n l : Nat} {v : Int} (hs : Keeps σ s) : Keeps σ (s.setEqd n l v) := keeps_setF hs
theorem keeps_settleRec {n l : Nat} (hs : Keeps σ s) : Keeps σ (s.settleRec n l) := by
  unfold State.settleRec
  extract_lets +onlyGivenNames x1
  clear_value x1
  extract_lets +onlyGivenNames x2
  have h1 : Keeps σ x2 := keeps_setB hs
  clear_value x2
  exact keeps_mk h1
theorem keeps_tellExpect {n l : Nat} (hs : Keeps σ s) : Keeps σ (s.tellExpect n l) := keeps_cross hs
theorem keeps_setTermSt {n l st : Nat} (hs : Keeps σ s) : Keeps σ (s.setTermSt n l st) := by
  unfold State.setTermSt
  extract_lets +onlyGivenNames x1
  clear_value x1
  extract_lets +onlyGivenNames x2
  have h1 : Keeps σ x2 := keeps_setF hs
  clear_value x2
  extract_lets +onlyGivenNames x3
  clear_value x3
  extract_lets +onlyGivenNames x4
  have h2 : Keeps σ x4 := keeps_ite (keeps_setF h1) (keeps_ite (keeps_setF h1) h1)
  clear_value x4
  extract_lets +onlyGivenNames x5
  have h3 : Keeps σ x5 := keeps_ite (keeps_pmPartial h2) h2
  clear_value x5
  exact keeps_settleRec h3
theorem keeps_invalidate {n l : Nat} (hs : Keeps σ s) : Keeps σ (s.invalidate n l) := keeps_putEnt hs
theorem keeps_ageAll (hs : Keeps σ s) : Keeps σ s.ageAll := by
  unfold State.ageAll
  extract_lets +onlyGivenNames x1
  clear_value x1
  extract_lets +onlyGivenNames x2
  have h1 : Keeps σ x2 := keeps_mk hs
  clear_value x2
  exact keeps_foldl (fun _ _ h2 => keeps_cross h2) h1
theorem keeps_tellInvalid {n l : Nat} (hs : Keeps σ s) : Keeps σ (s.tellInvalid n l) := keeps_cross hs
theorem keeps_rngEvent {n code l sn eqd : Nat} (hs : Keeps σ s) : Keeps σ (s.rngEvent n code l sn eqd) := by
  unfold State.rngEvent
  extract_lets +onlyGivenNames x1
  clear_value x1
  extract_lets +onlyGivenNames x2
  have h1 : Keeps σ x2 := keeps_postEvent hs
  clear_value x2
  exact keeps_trace h1
theorem keeps_rngPlain {n code l : Nat} (hs : Keeps σ s) : Keeps σ (s.rngPlain n code l) := keeps_rngEvent hs
theorem keeps_settlePloams {n : Nat} {p : RngPort} (hs : Keeps σ s) : Keeps σ (s.settlePloams n p) :=
    keeps_creditCheck (keeps_setRport hs)
theorem keeps_rngSend {n : Nat} {m : PMsg} (hs : Keeps σ s) : Keeps σ (s.rngSend n m) :=
    keeps_ite (keeps_settlePloams hs) (keeps_setRport hs)
theorem keeps_takePloams {n k : Nat} (hs : Keeps σ s) : Keeps σ (s.takePloams n k) := keeps_settlePloams hs
theorem keeps_emptyPloams {n : Nat} (hs : Keeps σ s) : Keeps σ (s.emptyPloams n) := keeps_setRport hs
theorem keeps_dueBroadcasts {n k : Nat} (hs : Keeps σ s) : Keeps σ (s.dueBroadcasts n k) := keeps_setRport hs
theorem keeps_dropRanging {n l : Nat} (hs : Keeps σ s) : Keeps σ (s.dropRanging n l) := keeps_setGport hs
theorem keeps_toFree {n l : Nat} (hs : Keeps σ s) : Keeps σ (s.toFree n l) := by
  unfold State.toFree
  extract_lets +onlyGivenNames x1
  have h1 : Keeps σ x1 := keeps_setB (keeps_setF hs)
  clear_value x1
  extract_lets +onlyGivenNames x2
  clear_value x2
  extract_lets +onlyGivenNames x3
  have h2 : Keeps σ x3 := keeps_dropRanging (keeps_setTerm (keeps_setTermSt h1))
  clear_value x3
  exact keeps_cross (keeps_tellExpect (keeps_tellInvalid h2))
theorem keeps_rerange {n l : Nat} (hs : Keeps σ s) : Keeps σ (s.rerange n l) := by
  unfold State.rerange
  extract_lets +onlyGivenNames x1 x2
  clear_value x1 x2
  extract_lets +onlyGivenNames x3
  have h1 : Keeps σ x3 := keeps_setB (keeps_setF hs)
  clear_value x3
  extract_lets +onlyGivenNames x4
  have h2 : Keeps σ x4 := keeps_setTerm (keeps_setTermSt h1)
  clear_value x4
  exact keeps_rngPlain (keeps_inc (keeps_tellExpect (keeps_tellInvalid h2)))
theorem keeps_assignIdx {n l sn : Nat} {delta64 : Int} {r : Nat} (hs : Keeps σ s) :
    Keeps σ (s.assignIdx n l sn delta64 r) := by
  unfold State.assignIdx
  extract_lets +onlyGivenNames x1
  have h1 : Keeps σ x1 := keeps_rngSees hs
  clear_value x1
  extract_lets +onlyGivenNames x2 x3
  clear_value x2 x3
  extract_lets +onlyGivenNames x4
  have h2 : Keeps σ x4 := keeps_wr (keeps_wr (keeps_tellInvalid hs))
  clear_value x4
  extract_lets +onlyGivenNames x5
  have h3 : Keeps σ x5 := keeps_setB (keeps_setF h2)
  clear_value x5
  exact keeps_rngSend (keeps_tellExpect (keeps_setTerm (keeps_setTermSt h3)))
theorem keeps_publish {n l : Nat} (hs : Keeps σ s) : Keeps σ (s.publish n l) := by
  unfold State.publish
  extract_lets +onlyGivenNames x1
  have h1 : Keeps σ x1 := keeps_wr (keeps_settleRec hs)
  clear_value x1
  extract_lets +onlyGivenNames x2 x3
  clear_value x2 x3
  extract_lets +onlyGivenNames x4
  have h2 : Keeps σ x4 := keeps_mk h1
  clear_value x4
  exact keeps_setTerm h2
theorem keeps_deactivate {n l : Nat} {event : Bool} (hs : Keeps σ s) : Keeps σ (s.deactivate n l event) :=
    keeps_rngSend (keeps_setTerm hs)
theorem keeps_sendEqd {n l : Nat} {eqd : Int} (hs : Keeps σ s) : Keeps σ (s.sendEqd n l eqd) := by
  unfold State.sendEqd
  extract_lets +onlyGivenNames x1
  have h1 : Keeps σ x1 := keeps_rngSend hs
  clear_value x1
  extract_lets +onlyGivenNames x2
  have h2 : Keeps σ x2 := keeps_rngSees h1
  clear_value x2
  exact keeps_ite (keeps_rngSend h1) h1
theorem keeps_filterOff {n l : Nat} {d : Int} (hs : Keeps σ s) : Keeps σ (s.filterOff n l d) := by
  unfold State.filterOff
  extract_lets +onlyGivenNames x1 x2
  clear_value x1 x2
  extract_lets +onlyGivenNames x3
  have h1 : Keeps σ x3 := keeps_setOffF hs
  clear_value x3
  extract_lets +onlyGivenNames x4
  clear_value x4
  split
  · extract_lets +onlyGivenNames x5
    clear_value x5
    extract_lets +onlyGivenNames x6
    have h2 : Keeps σ x6 := keeps_setTerm h1
    clear_value x6
    exact keeps_sendEqd h2
  · exact h1
theorem keeps_ploamSent {n : Nat} {m : PMsg} (hs : Keeps σ s) : Keeps σ (s.ploamSent n m) := by
  unfold State.ploamSent
  split
  · exact keeps_setTerm hs
  · extract_lets +onlyGivenNames x1
    clear_value x1
    split
    · exact hs
    · split
      · split
        · exact hs
        · extract_lets +onlyGivenNames x2
          have h1 : Keeps σ x2 := keeps_setOffF (keeps_setEqd hs)
          clear_value x2
          extract_lets +onlyGivenNames x3
          have h2 : Keeps σ x3 := keeps_setTerm (keeps_setTermSt h1)
          clear_value x3
          extract_lets +onlyGivenNames x4
          have h3 : Keeps σ x4 := keeps_rngEvent (keeps_tellExpect h2)
          clear_value x4
          exact keeps_publish h3
      · split
        · exact hs
        · extract_lets +onlyGivenNames x2
          have h1 : Keeps σ x2 := keeps_incIf (keeps_setB hs)
          clear_value x2
          exact keeps_tellExpect (keeps_settleRec (keeps_setTerm h1))
  · split
    · exact hs
    · extract_lets +onlyGivenNames x1
      have h1 : Keeps σ x1 := keeps_toFree hs
      clear_value x1
      exact keeps_ite (keeps_rngPlain h1) h1
  · exact keeps_dueBroadcasts hs
  · exact hs
theorem keeps_setEng {l : Nat} {e : Engine} (hs : Keeps σ s) : Keeps σ (s.setEng l e) := keeps_mk hs
theorem keeps_setRunning {l : Nat} {b : Bool} (hs : Keeps σ s) : Keeps σ (s.setRunning l b) := keeps_ite (keeps_setB hs) hs
theorem keeps_setSuspBit {l : Nat} {b : Bool} (hs : Keeps σ s) : Keeps σ (s.setSuspBit l b) := keeps_ite (keeps_setB hs) hs
theorem keeps_setStalled {l : Nat} {b : Bool} (hs : Keeps σ s) : Keeps σ (s.setStalled l b) := keeps_ite (keeps_setB hs) hs
theorem keeps_setPstate {l p : Nat} (hs : Keeps σ s) : Keeps σ (s.setPstate l p) := keeps_ite (keeps_setF hs) hs
theorem keeps_slots {l cls n : Nat} (hs : Keeps σ s) : Keeps σ (s.slots l cls n) := by
  unfold State.slots
  extract_lets +onlyGivenNames x1
  clear_value x1
  extract_lets +onlyGivenNames x2
  have h1 : Keeps σ x2 := keeps_ite (keeps_setEng hs) hs
  clear_value x2
  exact keeps_ite (keeps_add48 h1) h1
theorem keeps_someSlots {l cls : Nat} (hs : Keeps σ s) : Keeps σ (s.someSlots l cls) := keeps_taken (keeps_slots hs)
theorem keeps_waited {l : Nat} (hs : Keeps σ s) : Keeps σ (s.waited l) := keeps_someSlots hs
theorem keeps_dispatch {l : Nat} (hs : Keeps σ s) : Keeps σ (s.dispatch l) :=
    keeps_ite hs (keeps_ite (keeps_setEng hs) (keeps_ite (keeps_setEng (keeps_ite (keeps_taken hs) hs)) (keeps_setEng hs)))
theorem keeps_sampleEnd {l pc : Nat} {susp exc : Bool} (hs : Keeps σ s) : Keeps σ (s.sampleEnd l pc susp exc) := by
  unfold State.sampleEnd
  extract_lets +onlyGivenNames x1 x2
  clear_value x1 x2
  extract_lets +onlyGivenNames x3
  have h1 : Keeps σ x3 := keeps_setEng hs
  clear_value x3
  split
  · exact h1
  · extract_lets +onlyGivenNames x4 x5 x6 x7
    clear_value x4 x5 x6 x7
    extract_lets +onlyGivenNames x8
    have h2 : Keeps σ x8 := keeps_setEng h1
    clear_value x8
    extract_lets +onlyGivenNames x9
    have h3 : Keeps σ x9 := keeps_ite (keeps_trace h2) h2
    clear_value x9
    exact keeps_ite (keeps_mk h3) (keeps_ite (keeps_mk h3) (keeps_inc h3))
theorem keeps_engPend {l k : Nat} (hs : Keeps σ s) : Keeps σ (s.engPend l k) := keeps_incIf (keeps_setEng hs)
theorem keeps_startProg {l : Nat} (hs : Keeps σ s) : Keeps σ (s.startProg l) := by
  unfold State.startProg
  extract_lets +onlyGivenNames x1
  have h1 : Keeps σ x1 := keeps_ite (keeps_someSlots hs) hs
  clear_value x1
  exact keeps_setRunning (keeps_setSuspBit (keeps_setEng h1))
theorem keeps_applyLoads {l : Nat} (hs : Keeps σ s) : Keeps σ (s.applyLoads l) := by
  unfold State.applyLoads
  extract_lets +onlyGivenNames x1 x2
  clear_value x1 x2
  extract_lets +onlyGivenNames x3
  have h1 : Keeps σ x3 := keeps_setEng hs
  clear_value x3
  exact keeps_foldl (fun _ _ h2 => keeps_complete h2) h1
theorem keeps_engStop {l : Nat} (hs : Keeps σ s) : Keeps σ (s.engStop l) := by
  unfold State.engStop
  extract_lets +onlyGivenNames x1
  have h1 : Keeps σ x1 := keeps_setPstate (keeps_setRunning (keeps_setB hs))
  clear_value x1
  exact keeps_setEng h1
theorem keeps_boundary {l : Nat} (hs : Keeps σ s) : Keeps σ (s.boundary l) := keeps_ite (keeps_engStop hs) hs
theorem keeps_mailPut {r data : Nat} {exc : Bool} (hs : Keeps σ s) : Keeps σ (s.mailPut r data exc) :=
    keeps_ringCount (keeps_setF (keeps_postSlot hs))
theorem keeps_excRecord {l code pc : Nat} (hs : Keeps σ s) : Keeps σ (s.excRecord l code pc) := by
  unfold State.excRecord
  split
  · exact hs
  · exact keeps_ite (keeps_mailPut hs) hs
theorem keeps_sisExc {l code : Nat} (hs : Keeps σ s) : Keeps σ (s.sisExc l code) := by
  unfold State.sisExc
  extract_lets +onlyGivenNames x1 x2
  clear_value x1 x2
  extract_lets +onlyGivenNames x3
  have h1 : Keeps σ x3 := keeps_sampleEnd (keeps_someSlots hs)
  clear_value x3
  exact keeps_ite (keeps_setEng h1) (keeps_ite (keeps_setEng h1) (keeps_excRecord (keeps_engStop h1)))
theorem keeps_sisEnd {l pc next cycles : Nat} {susp : Bool} (hs : Keeps σ s) :
    Keeps σ (s.sisEnd l pc next cycles susp) := by
  unfold State.sisEnd
  extract_lets +onlyGivenNames x1
  have h1 : Keeps σ x1 := keeps_slots hs
  clear_value x1
  extract_lets +onlyGivenNames x2
  have h2 : Keeps σ x2 := keeps_ite (keeps_someSlots h1) h1
  clear_value x2
  extract_lets +onlyGivenNames x3
  have h3 : Keeps σ x3 := keeps_ite (keeps_someSlots h2) h2
  clear_value x3
  extract_lets +onlyGivenNames x4
  have h4 : Keeps σ x4 := keeps_sampleEnd h3
  clear_value x4
  exact keeps_boundary (keeps_setEng h4)
theorem keeps_engTick {l frame : Nat} (hs : Keeps σ s) : Keeps σ (s.engTick l frame) := by
  unfold State.engTick
  split
  · exact hs
  · extract_lets +onlyGivenNames x1 x2
    clear_value x1 x2
    extract_lets +onlyGivenNames x3
    have h1 : Keeps σ x3 := keeps_setEng hs
    clear_value x3
    split
    · exact h1
    · exact keeps_startProg h1
    · extract_lets +onlyGivenNames x4
      clear_value x4
      extract_lets +onlyGivenNames x5
      have h2 : Keeps σ x5 := keeps_setPstate (keeps_waited h1)
      clear_value x5
      extract_lets +onlyGivenNames x6
      have h3 : Keeps σ x6 := keeps_applyLoads h2
      clear_value x6
      extract_lets +onlyGivenNames x7
      clear_value x7
      extract_lets +onlyGivenNames x8
      have h4 : Keeps σ x8 := keeps_setEng h3
      clear_value x8
      exact keeps_sisEnd h4
    · exact keeps_engPend h1
theorem keeps_tsuRefused (hs : Keeps σ s) : Keeps σ s.tsuRefused := keeps_inc hs
theorem keeps_endSlew (hs : Keeps σ s) : Keeps σ s.endSlew := by
  unfold State.endSlew
  extract_lets +onlyGivenNames x1
  have h1 : Keeps σ x1 := keeps_setB (keeps_wr hs)
  clear_value x1
  exact keeps_mk h1
theorem keeps_tsuEvent {code unit flags ns frac16 : Nat} (hs : Keeps σ s) :
    Keeps σ (s.tsuEvent code unit flags ns frac16) := keeps_ite (keeps_postEvent hs) hs
theorem keeps_setTarget {k x : Nat} (hs : Keeps σ s) : Keeps σ (s.setTarget k x) := keeps_setF (keeps_wr hs)
theorem keeps_commitUnit {k : Nat} (hs : Keeps σ s) : Keeps σ (s.commitUnit k) := keeps_mk hs
theorem keeps_fireUnit {k : Nat} (hs : Keeps σ s) : Keeps σ (s.fireUnit k) := by
  unfold State.fireUnit
  extract_lets +onlyGivenNames x1 x2 x3 x4 x5
  clear_value x1 x2 x3 x4 x5
  extract_lets +onlyGivenNames x6
  have h1 : Keeps σ x6 := keeps_setF (keeps_wr hs)
  clear_value x6
  extract_lets +onlyGivenNames x7 x8 x9
  clear_value x7 x8 x9
  extract_lets +onlyGivenNames x10
  have h2 : Keeps σ x10 := keeps_wr h1
  clear_value x10
  extract_lets +onlyGivenNames x11
  clear_value x11
  extract_lets +onlyGivenNames x12
  have h3 : Keeps σ x12 := keeps_mk h2
  clear_value x12
  extract_lets +onlyGivenNames x13
  have h4 : Keeps σ x13 := keeps_ite (keeps_engPend h3) h3
  clear_value x13
  extract_lets +onlyGivenNames x14
  have h5 : Keeps σ x14 := keeps_ite (keeps_tsuEvent h4) h4
  clear_value x14
  exact keeps_ite (keeps_incN (keeps_setTarget h5)) (keeps_setB h5)
theorem keeps_fireDue (hs : Keeps σ s) : Keeps σ s.fireDue := keeps_foldl (fun _ _ h1 => keeps_ite (keeps_fireUnit h1) h1) hs
theorem keeps_outHoldSet (hs : Keeps σ s) : Keeps σ s.outHoldSet := by
  unfold State.outHoldSet
  split
  · exact hs
  · extract_lets +onlyGivenNames x1
    have h1 : Keeps σ x1 := keeps_setB (keeps_setB hs)
    clear_value x1
    exact keeps_mk h1
theorem keeps_holdMet (hs : Keeps σ s) : Keeps σ s.holdMet := keeps_ite (keeps_setB hs) hs
theorem keeps_outHoldClear (hs : Keeps σ s) : Keeps σ s.outHoldClear := keeps_holdMet (keeps_setB hs)
theorem keeps_outLow {clkOut : Bool} {o : Nat} (hs : Keeps σ s) : Keeps σ (s.outLow clkOut o) :=
    keeps_ite (keeps_ite (keeps_drive (keeps_mk hs)) hs) (keeps_ite (keeps_drive (keeps_mk hs)) hs)
theorem keeps_outsLow (hs : Keeps σ s) : Keeps σ s.outsLow := keeps_outLow (keeps_outLow (keeps_outLow (keeps_outLow hs)))
theorem keeps_todSend {delayUs : Nat} (hs : Keeps σ s) : Keeps σ (s.todSend delayUs) := keeps_drive (keeps_mk hs)
theorem keeps_todFlush (hs : Keeps σ s) : Keeps σ s.todFlush := keeps_ite (keeps_todSend hs) hs
theorem keeps_setBuf {ptr : Nat} {m : Option Meta} (hs : Keeps σ s) : Keeps σ (s.setBuf ptr m) := keeps_mk hs
theorem keeps_checkPool {k : Nat} (hs : Keeps σ s) : Keeps σ (s.checkPool k) := keeps_ite hs (keeps_ledgerMismatch hs)
theorem keeps_lowFree {k : Nat} (hs : Keeps σ s) : Keeps σ (s.lowFree k) := keeps_setF hs
theorem keeps_holdBuf {k ptr : Nat} {m : Meta} (hs : Keeps σ s) : Keeps σ (s.holdBuf k ptr m) := by
  unfold State.holdBuf
  extract_lets +onlyGivenNames x1
  clear_value x1
  extract_lets +onlyGivenNames x2
  have h1 : Keeps σ x2 := keeps_setBuf hs
  clear_value x2
  extract_lets +onlyGivenNames x3
  clear_value x3
  extract_lets +onlyGivenNames x4
  have h2 : Keeps σ x4 := keeps_setF (keeps_setF h1)
  clear_value x4
  extract_lets +onlyGivenNames x5
  have h3 : Keeps σ x5 := keeps_setF h2
  clear_value x5
  exact keeps_lowFree h3
theorem keeps_grantBuf {k j ptr : Nat} (hs : Keeps σ s) : Keeps σ (s.grantBuf k j ptr) := keeps_holdBuf hs
theorem keeps_metaError (hs : Keeps σ s) : Keeps σ s.metaError := keeps_raise (keeps_inc hs)
theorem keeps_stickBuf {k ptr : Nat} (hs : Keeps σ s) : Keeps σ (s.stickBuf k ptr) := by
  unfold State.stickBuf
  refine keeps_metaError ?_
  split
  · exact keeps_setBuf hs
  · exact keeps_checkPool (keeps_holdBuf hs)
theorem keeps_alloc {j len : Nat} {up : Bool} {pick : Nat} {metaBad : Bool} (hs : Keeps σ s) :
    KeepsP σ (s.alloc j len up pick metaBad) := by
  unfold State.alloc
  extract_lets +onlyGivenNames x1
  clear_value x1
  split
  · exact KeepsP.mk (keeps_inc hs)
  · split
    · exact KeepsP.mk (keeps_inc hs)
    · extract_lets +onlyGivenNames x2
      extract_lets +onlyGivenNames x3
      extract_lets +onlyGivenNames x4
      have h1 : Keeps σ x4 := by
        unfold x4
        split
        · split
          · exact keeps_stickBuf hs
          · exact hs
        · exact hs
      clear_value x4
      split
      · extract_lets +onlyGivenNames x5
        have h2 : Keeps σ x5 := keeps_grantBuf h1
        clear_value x5
        extract_lets +onlyGivenNames x6
        clear_value x6
        extract_lets +onlyGivenNames x7
        have h3 : Keeps σ x7 := keeps_add64 h2
        clear_value x7
        extract_lets +onlyGivenNames x8
        have h4 : Keeps σ x8 := keeps_ite h3 (keeps_inc (keeps_inc h3))
        clear_value x8
        exact KeepsP.mk (keeps_checkPool h4)
      · exact keepsP_ite (KeepsP.mk (keeps_inc h1)) (KeepsP.mk (keeps_inc h1))
theorem keeps_returnBuf {k ptr : Nat} {m : Meta} (hs : Keeps σ s) : Keeps σ (s.returnBuf k ptr m) := by
  unfold State.returnBuf
  extract_lets +onlyGivenNames x1
  have h1 : Keeps σ x1 := keeps_setBuf hs
  clear_value x1
  extract_lets +onlyGivenNames x2
  clear_value x2
  extract_lets +onlyGivenNames x3
  have h2 : Keeps σ x3 := keeps_mk h1
  clear_value x3
  extract_lets +onlyGivenNames x4
  have h3 : Keeps σ x4 := keeps_setF (keeps_setF h2)
  clear_value x4
  exact keeps_checkPool (keeps_setF h3)
theorem keeps_setLasts {code : Nat} {l : List Nat} (hs : Keeps σ s) : Keeps σ (s.setLasts code l) := keeps_mk hs
theorem keeps_free {ptr code : Nat} (hs : Keeps σ s) : Keeps σ (s.free ptr code) := by
  unfold State.free
  extract_lets +onlyGivenNames x1
  clear_value x1
  split
  · exact keeps_metaError hs
  · split
    · extract_lets +onlyGivenNames x2
      have h1 : Keeps σ x2 := keeps_wr (keeps_inc hs)
      clear_value x2
      exact keeps_raise (keeps_wr h1)
    · split
      · split
        · extract_lets +onlyGivenNames x2
          clear_value x2
          extract_lets +onlyGivenNames x3
          have h1 : Keeps σ x3 := keeps_setBuf hs
          clear_value x3
          exact keeps_ite (keeps_returnBuf (keeps_setLasts h1)) h1
        · exact keeps_returnBuf hs
      · exact hs
theorem keeps_finish {ptr code : Nat} (hs : Keeps σ s) : Keeps σ (s.finish ptr code) := by
  unfold State.finish
  split
  · exact keeps_ite (keeps_setLasts hs) (keeps_free hs)
  · exact keeps_free hs
theorem keeps_dropPartial {st : Nat} (hs : Keeps σ s) : Keeps σ (s.dropPartial st) := by
  unfold State.dropPartial
  split
  · exact hs
  · extract_lets +onlyGivenNames x1
    clear_value x1
    extract_lets +onlyGivenNames x2
    have h1 : Keeps σ x2 := keeps_mk hs
    clear_value x2
    extract_lets +onlyGivenNames x3
    have h2 : Keeps σ x3 := keeps_inc h1
    clear_value x3
    split
    · exact keeps_free h2
    · exact h2
theorem keeps_lostAllocs {ents : List CalEnt} (hs : Keeps σ s) : Keeps σ (s.lostAllocs ents) :=
    keeps_foldl (fun _ _ h1 => keeps_ite (keeps_dropPartial h1) h1) hs
theorem keeps_setOwner {ptr code : Nat} (hs : Keeps σ s) : Keeps σ (s.setOwner ptr code) := by
  unfold State.setOwner
  split
  · exact keeps_ite hs (keeps_setBuf hs)
  · exact hs
theorem keeps_share {ptr code n last : Nat} (hs : Keeps σ s) : KeepsO σ (s.share ptr code n last) := by
  unfold State.share
  split
  · split
    · exact KeepsO.some (keeps_setBuf hs)
    · exact KeepsO.none
  · exact KeepsO.none
theorem keeps_want {j len : Nat} {up : Bool} {f : Frm} (hs : Keeps σ s) : Keeps σ (s.want j len up f) := keeps_mk hs
theorem keeps_rebuildPools (hs : Keeps σ s) : Keeps σ s.rebuildPools := by
  unfold State.rebuildPools
  extract_lets +onlyGivenNames x1 x2
  clear_value x1 x2
  extract_lets +onlyGivenNames x3
  have h1 : Keeps σ x3 := keeps_mk hs
  clear_value x3
  refine keeps_foldl (fun _ _ h2 => ?_) ?_
  · extract_lets +onlyGivenNames x4
    have h3 : Keeps σ x4 := keeps_setF (keeps_setF h2)
    clear_value x4
    exact keeps_lowFree (keeps_foldl (fun _ _ h4 => keeps_setF h4) h3)
  · exact h1
theorem keeps_ptxDone {d : Option Desc} {status reason : Nat} (hs : Keeps σ s) : Keeps σ (s.ptxDone d status reason) := by
  unfold State.ptxDone
  split
  · exact hs
  · exact keeps_taken (keeps_taken (keeps_taken (keeps_complete hs)))
theorem keeps_dropHeld {fn : Fn} {blk : Nat} (hs : Keeps σ s) : Keeps σ (s.dropHeld fn blk) := keeps_mk hs
theorem keeps_setCs {fn : Fn} {a : Nat} {w : Word} (hs : Keeps σ s) : Keeps σ (s.setCs fn a w) := by
  unfold State.setCs
  split
  · exact keeps_wr hs
  · exact keeps_setTen hs
theorem keeps_bump {a hi : Nat} {up : Bool} (hs : Keeps σ s) : Keeps σ (s.bump a hi up) := keeps_setF hs
theorem keeps_fdbCount {e : BitVec 128} {up : Bool} (hs : Keeps σ s) : Keeps σ (s.fdbCount e up) := by
  unfold State.fdbCount
  extract_lets +onlyGivenNames x1
  have h1 : Keeps σ x1 := keeps_bump (keeps_bump hs)
  clear_value x1
  split
  · exact h1
  · extract_lets +onlyGivenNames x2
    have h2 : Keeps σ x2 := keeps_bump h1
    clear_value x2
    exact keeps_ite (keeps_bump (keeps_bump h2)) h2
theorem keeps_fdbPut {loc : Nat} {e : BitVec 128} (hs : Keeps σ s) : Keeps σ (s.fdbPut loc e) := by
  unfold State.fdbPut
  extract_lets +onlyGivenNames x1
  clear_value x1
  extract_lets +onlyGivenNames x2
  have h1 : Keeps σ x2 := keeps_ite (keeps_fdbCount hs) hs
  clear_value x2
  extract_lets +onlyGivenNames x3
  clear_value x3
  extract_lets +onlyGivenNames x4
  have h2 : Keeps σ x4 := keeps_mk h1
  clear_value x4
  exact keeps_ite (keeps_fdbCount h2) h2
theorem keeps_fdbEvent {code fid mac kind dest : Nat} (hs : Keeps σ s) : Keeps σ (s.fdbEvent code fid mac kind dest) :=
    keeps_ite (keeps_postEvent hs) hs
theorem keeps_fdbEventOf {code : Nat} {e : BitVec 128} (hs : Keeps σ s) : Keeps σ (s.fdbEventOf code e) := keeps_fdbEvent hs
theorem keeps_fdbInsert {e : BitVec 128} {opCmd : Bool} {draw : Nat} (hs : Keeps σ s) :
    KeepsOP σ (s.fdbInsert e opCmd draw) := by
  unfold State.fdbInsert
  extract_lets +onlyGivenNames x1
  clear_value x1
  split
  · exact KeepsOP.some (keeps_fdbPut hs)
  · split
    · exact KeepsOP.some (keeps_fdbPut hs)
    · split
      · exact KeepsOP.none
      · extract_lets +onlyGivenNames x2
        clear_value x2
        extract_lets +onlyGivenNames x3
        have h1 : Keeps σ x3 := keeps_fdbEventOf (keeps_inc (keeps_fdbPut hs))
        clear_value x3
        exact KeepsOP.some (keeps_fdbPut h1)
theorem keeps_refresh {loc : Nat} (hs : Keeps σ s) : Keeps σ (s.refresh loc) := keeps_mk hs
theorem keeps_sourceLookup {fid mac : Nat} {p : Pkt} (hs : Keeps σ s) : KeepsP σ (s.sourceLookup fid mac p) := by
  unfold State.sourceLookup
  extract_lets +onlyGivenNames x1
  clear_value x1
  split
  · exact KeepsP.mk (keeps_inc hs)
  · extract_lets +onlyGivenNames x2 x3 x4
    clear_value x2 x3 x4
    split
    · refine KeepsP.mk ?_
      split
      · exact keeps_refresh hs
      · exact hs
    · split
      · exact KeepsP.mk (keeps_inc hs)
      · extract_lets +onlyGivenNames x5
        have h1 : Keeps σ x5 := by
          unfold x5
          split
          · exact keeps_fdbEvent (keeps_inc (keeps_fdbPut hs))
          · exact hs
        clear_value x5
        split
        · exact KeepsP.mk h1
        · split
          · exact keepsP_ite (KeepsP.mk (keeps_raise (keeps_inc h1))) (KeepsP.mk (keeps_mk h1))
          · extract_lets +onlyGivenNames x1
            have h2 : Keeps σ x1 := keeps_fdbEvent h1
            clear_value x1
            exact keepsP_ite (KeepsP.mk (keeps_inc h2)) (KeepsP.mk (keeps_inc h2))
theorem keeps_destLookup {fid mac : Nat} {p : Pkt} (hs : Keeps σ s) : KeepsP σ (s.destLookup fid mac p) := by
  unfold State.destLookup
  split
  · exact keepsP_ite (KeepsP.mk (keeps_inc hs)) (KeepsP.mk (keeps_inc hs))
  · extract_lets +onlyGivenNames x1
    clear_value x1
    split
    · exact KeepsP.mk (keeps_inc hs)
    · split
      · exact KeepsP.mk (keeps_inc hs)
      · split
        · exact KeepsP.mk hs
        · exact KeepsP.mk hs
        · exact KeepsP.mk hs
        · exact KeepsP.mk hs
theorem keeps_fdbPass {fid da : Nat} {sa : Option Nat} {p : Pkt} (hs : Keeps σ s) : KeepsP σ (s.fdbPass fid da sa p) := by
  unfold State.fdbPass
  split
  · exact KeepsP.mk (keeps_inc hs)
  · split
    · exact KeepsP.mk (keeps_inc hs)
    · split
      split
      · exact KeepsP.mk (KeepsP.out (keeps_destLookup hs) ‹_›)
      · split
        · split
          exact KeepsP.mk (KeepsP.out (keeps_sourceLookup (KeepsP.out (keeps_destLookup hs) ‹_›)) ‹_›)
        · exact KeepsP.mk (KeepsP.out (keeps_destLookup hs) ‹_›)
theorem keeps_idleKids {q : Nat} (hs : Keeps σ s) : Keeps σ (s.idleKids q) := by
  unfold State.idleKids
  extract_lets +onlyGivenNames x1
  exact keeps_mk hs
theorem keeps_setQueue {q : Nat} {l : List Frm} (hs : Keeps σ s) : Keeps σ (s.setQueue q l) := by
  unfold State.setQueue
  extract_lets +onlyGivenNames x1
  clear_value x1
  extract_lets +onlyGivenNames x2
  have h1 : Keeps σ x2 := keeps_mk hs
  clear_value x2
  exact keeps_ite (keeps_idleKids h1) h1
theorem keeps_setTok {x : Nat} {t : Tok} (hs : Keeps σ s) : Keeps σ (s.setTok x t) := keeps_mk hs
theorem keeps_checkTok {x : Nat} (hs : Keeps σ s) : Keeps σ (s.checkTok x) := keeps_ite hs (keeps_ledgerMismatch hs)
theorem keeps_charge {len x : Nat} (hs : Keeps σ s) : Keeps σ (s.charge len x) := keeps_checkTok (keeps_setTok hs)
theorem keeps_setGate {g : Nat} {x : Gate} (hs : Keeps σ s) : Keeps σ (s.setGate g x) := keeps_mk hs
theorem keeps_depth {q len : Nat} {up : Bool} (hs : Keeps σ s) : Keeps σ (s.depth q len up) :=
    keeps_ite (keeps_setF (keeps_setF hs)) (keeps_setF (keeps_setF hs))
theorem keeps_dropDone {e : Nat} {f : Frm} (hs : Keeps σ s) : Keeps σ (s.dropDone e f) := by
  unfold State.dropDone
  split
  · exact hs
  · exact keeps_mk hs
theorem keeps_tenCount {q len : Nat} {drop : Bool} (hs : Keeps σ s) : Keeps σ (s.tenCount q len drop) :=
    keeps_ite hs (keeps_ite (keeps_add64 hs) (keeps_add64 (keeps_add64 hs)))
theorem keeps_dropQueued {e : Nat} {f : Frm} (hs : Keeps σ s) : Keeps σ (s.dropQueued e f) :=
    keeps_dropDone (keeps_finish (keeps_tenCount hs))
theorem keeps_settleHead {e q y0 : Nat} (hs : Keeps σ s) : Keeps σ (s.settleHead e q y0) := by
  induction y0 generalizing s e q with
  | zero =>
    rw [State.settleHead]
    exact hs
  | succ y ih =>
    rw [State.settleHead]
    split
    · exact hs
    · split
      · exact keeps_incIf (keeps_setQueue hs)
      · exact ih (keeps_dropQueued (keeps_inc (keeps_depth (keeps_setQueue hs))))
theorem keeps_popHead {q : Nat} (hs : Keeps σ s) : Keeps σ (s.popHead q) := by
  unfold State.popHead
  split
  · exact hs
  · extract_lets +onlyGivenNames x1
    have h1 : Keeps σ x1 := keeps_depth (keeps_setQueue hs)
    clear_value x1
    exact keeps_settleHead h1
theorem keeps_recheckHeads {e : Nat} (hs : Keeps σ s) : Keeps σ (s.recheckHeads e) := by
  unfold State.recheckHeads
  refine keeps_foldl (fun _ _ h1 => ?_) ?_
  · split
    · exact keeps_ite (keeps_settleHead h1) h1
    · exact h1
  · exact hs
theorem keeps_flushQueue {q : Nat} (hs : Keeps σ s) : Keeps σ (s.flushQueue q) := by
  unfold State.flushQueue
  extract_lets +onlyGivenNames x1 x2
  clear_value x1 x2
  extract_lets +onlyGivenNames x3
  have h1 : Keeps σ x3 := keeps_setQueue hs
  clear_value x3
  exact keeps_foldl (fun _ _ h2 => keeps_dropQueued (keeps_inc (keeps_depth h2))) h1
theorem keeps_clearDrained {q : Nat} (hs : Keeps σ s) : Keeps σ (s.clearDrained q) :=
    keeps_foldl (fun _ _ h1 => keeps_setB h1) (keeps_setB hs)
theorem keeps_enqueue {q : Nat} {f : Frm} (hs : Keeps σ s) : Keeps σ (s.enqueue q f) := by
  unfold State.enqueue
  extract_lets +onlyGivenNames x1 x2
  clear_value x1 x2
  extract_lets +onlyGivenNames x3
  have h1 : Keeps σ x3 := keeps_clearDrained (keeps_setOwner hs)
  clear_value x3
  extract_lets +onlyGivenNames x4
  clear_value x4
  extract_lets +onlyGivenNames x5
  have h2 : Keeps σ x5 := keeps_depth (keeps_setQueue h1)
  clear_value x5
  exact keeps_ite (keeps_settleHead h2) h2
theorem keeps_admitOne {f : Frm} (hs : Keeps σ s) : KeepsQ σ (s.admitOne f) := by
  unfold State.admitOne
  split
  · exact KeepsQ.mk (keeps_inc hs)
  · split
    · exact KeepsQ.mk (keeps_inc (keeps_tenCount hs))
    · extract_lets +onlyGivenNames x1
      clear_value x1
      extract_lets +onlyGivenNames x2
      have h1 : Keeps σ x2 := keeps_ite hs (keeps_ptxDone hs)
      clear_value x2
      exact KeepsQ.mk (keeps_enqueue h1)
theorem keeps_admitDrop {f : Frm} {reason : Nat} (hs : Keeps σ s) : Keeps σ (s.admitDrop f reason) :=
    keeps_ptxDone (keeps_free hs)
theorem keeps_admitCopies {f : Frm} {y0 : List (Nat × Nat)} (hs : Keeps σ s) : Keeps σ (s.admitCopies f y0) := by
  induction y0 generalizing s f with
  | nil =>
    rw [State.admitCopies]
    exact hs
  | cons y ys ih =>
    rw [State.admitCopies]
    split
    · exact ih (KeepsQ.out (keeps_admitOne hs) ‹_›)
    · exact ih (keeps_finish (KeepsQ.out (keeps_admitOne hs) ‹_›))
theorem keeps_admitFlood {g : Nat} {f : Frm} (hs : Keeps σ s) : Keeps σ (s.admitFlood g f) := by
  unfold State.admitFlood
  split
  · exact keeps_admitDrop (keeps_inc hs)
  · extract_lets +onlyGivenNames x1
    clear_value x1
    split
    · exact KeepsQ.out (keeps_admitOne hs) ‹_›
    · exact keeps_admitDrop (KeepsQ.out (keeps_admitOne hs) ‹_›)
  · extract_lets +onlyGivenNames x1
    clear_value x1
    split
    · exact keeps_admitDrop (keeps_inc (keeps_inc hs))
    · exact keeps_admitCopies (KeepsO.out (keeps_share hs) ‹_›)
theorem keeps_setPn {a n : Nat} (hs : Keeps σ s) : Keeps σ (s.setPn a n) := keeps_wr (keeps_wr hs)
theorem keeps_cryEvent {code idx slot v : Nat} (hs : Keeps σ s) : Keeps σ (s.cryEvent code idx slot v) :=
    keeps_ite (keeps_postEvent hs) hs
theorem keeps_takePn {a : Nat} (hs : Keeps σ s) : Keeps σ (s.takePn a) := by
  unfold State.takePn
  extract_lets +onlyGivenNames x1
  clear_value x1
  extract_lets +onlyGivenNames x2
  have h1 : Keeps σ x2 := keeps_setPn hs
  clear_value x2
  extract_lets +onlyGivenNames x3
  have h2 : Keeps σ x3 := keeps_ite (keeps_cryEvent h1) h1
  clear_value x3
  exact keeps_ite (keeps_raise h2) h2
theorem keeps_transmit {o : Out} (hs : Keeps σ s) : Keeps σ (s.transmit o) := keeps_ite hs (keeps_drive hs)
theorem keeps_leaveUplink {u : Nat} {f : Frm} {bytes : List Byte} (hs : Keeps σ s) : Keeps σ (s.leaveUplink u f bytes) := by
  unfold State.leaveUplink
  extract_lets +onlyGivenNames x1
  have h1 : Keeps σ x1 := keeps_add64 (keeps_transmit hs)
  clear_value x1
  exact keeps_finish (keeps_add64 h1)
theorem keeps_sendUplink {u q : Nat} {f : Frm} (hs : Keeps σ s) : Keeps σ (s.sendUplink u q f) := by
  unfold State.sendUplink
  extract_lets +onlyGivenNames x1
  have h1 : ∀ v0 v1 v2, Keeps σ v0 → Keeps σ (x1 v0 v1 v2) := by
    intro v0 v1 v2 hv0
    unfold x1
    split
    · exact keeps_leaveUplink hv0
    · exact keeps_mk hv0
  clear_value x1
  split
  · exact keeps_dropQueued (keeps_inc hs)
  · split
    · exact h1 _ _ _ (keeps_tenCount hs)
    · exact keeps_dropQueued (keeps_inc hs)
    · exact h1 _ _ _ (keeps_takePn (keeps_tenCount hs))
theorem keeps_sendBlocks {lane : Nat} {bs : List (BitVec 256)} (hs : Keeps σ s) : Keeps σ (s.sendBlocks lane bs) :=
    keeps_foldl (fun _ _ h1 => keeps_transmit h1) hs
theorem keeps_sendControl {data : List Byte} (hs : Keeps σ s) : Keeps σ (s.sendControl data) := by
  unfold State.sendControl
  split
  · exact keeps_transmit hs
  · exact hs
theorem keeps_sendMate {f : Frm} (hs : Keeps σ s) : Keeps σ (s.sendMate f) := by
  unfold State.sendMate
  extract_lets +onlyGivenNames x1
  clear_value x1
  split
  · exact keeps_dropQueued (keeps_inc hs)
  · extract_lets +onlyGivenNames x2
    have h1 : Keeps σ x2 := keeps_finish (keeps_sendBlocks (keeps_tenCount hs))
    clear_value x2
    split
    · exact h1
    · exact keeps_mk h1
theorem keeps_sendFrame {e q : Nat} {f : Frm} (hs : Keeps σ s) : Keeps σ (s.sendFrame e q f) := by
  unfold State.sendFrame
  split
  · extract_lets +onlyGivenNames x1
    have h1 : Keeps σ x1 := keeps_tenCount hs
    clear_value x1
    exact keeps_mk h1
  · exact keeps_ite (keeps_sendUplink hs) (keeps_sendMate hs)
theorem keeps_setTend {e : Nat} {t : TceEnd} (hs : Keeps σ s) : Keeps σ (s.setTend e t) := keeps_mk hs
theorem keeps_settleStore (hs : Keeps σ s) : Keeps σ s.settleStore := keeps_setF hs
theorem keeps_buildPacket {e : Nat} (hs : Keeps σ s) : Keeps σ (s.buildPacket e) :=
    keeps_ite hs (keeps_ite (keeps_setTend hs) (keeps_setTend (keeps_setTend hs)))
theorem keeps_setAlign {e st : Nat} (hs : Keeps σ s) : Keeps σ (s.setAlign e st) := keeps_setF hs
theorem keeps_jbUnder {e : Nat} (hs : Keeps σ s) : Keeps σ (s.jbUnder e) := keeps_satField hs
theorem keeps_pwDrop {e : Nat} (hs : Keeps σ s) : Keeps σ (s.pwDrop e) := keeps_satField hs
theorem keeps_feed {e : Nat} {data : List Byte} (hs : Keeps σ s) : Keeps σ (s.feed e data) := keeps_setTend hs
theorem keeps_takeData {e n : Nat} (hs : Keeps σ s) : KeepsP σ (s.takeData e n) := by
  unfold State.takeData
  extract_lets +onlyGivenNames x1 x2 x3
  clear_value x1 x2 x3
  split
  · extract_lets +onlyGivenNames x4
    clear_value x4
    split
    · exact KeepsP.mk hs
    · extract_lets +onlyGivenNames x5
      have h1 : Keeps σ x5 := keeps_setB (keeps_setTend hs)
      clear_value x5
      exact keepsP_ite (KeepsP.mk (keeps_setTend (keeps_jbUnder (keeps_setB h1)))) (KeepsP.mk h1)
  · exact KeepsP.mk (keeps_setTend hs)
theorem keeps_carrierFrame {e f : Nat} (hs : Keeps σ s) : KeepsP σ (s.carrierFrame e f) := by
  unfold State.carrierFrame
  extract_lets +onlyGivenNames x1 x2 x3 x4 x5 x6 x7 x8
  clear_value x1 x2 x3 x4 x5 x6 x7 x8
  split
  exact KeepsP.mk (keeps_setTend (KeepsP.out (keepsP_ite (KeepsP.mk (keeps_setTend hs)) (keeps_takeData hs)) ‹_›))
theorem keeps_takeBlock {c : Nat} (hs : Keeps σ s) : KeepsP σ (s.takeBlock c) :=
    keepsP_ite (KeepsP.mk hs) (keepsP_ite (KeepsP.mk (keeps_inc (keeps_setTend hs))) (KeepsP.mk (keeps_incN (keeps_setTend hs))))
theorem keeps_takeBlocks {y0 : List Nat} (hs : Keeps σ s) : KeepsP σ (s.takeBlocks y0) := by
  induction y0 generalizing s with
  | nil =>
    rw [State.takeBlocks]
    exact KeepsP.mk hs
  | cons y ys ih =>
    rw [State.takeBlocks]
    split
    split
    exact KeepsP.mk (KeepsP.out (ih (KeepsP.out (keeps_takeBlock hs) ‹_›)) ‹_›)
theorem keeps_interchange (hs : Keeps σ s) : Keeps σ s.interchange := by
  unfold State.interchange
  extract_lets +onlyGivenNames x1
  clear_value x1
  split
  refine keeps_foldl (fun _ _ h1 => ?_) ?_
  · extract_lets +onlyGivenNames x2 x3 x4 x5
    clear_value x2 x3 x4 x5
    extract_lets +onlyGivenNames x6
    have h2 : Keeps σ x6 := keeps_buildPacket (keeps_setTend h1)
    clear_value x6
    exact keeps_setTend h2
  · exact KeepsP.out (keeps_takeBlocks hs) ‹_›
theorem keeps_stopCircuit {c : Nat} (hs : Keeps σ s) : Keeps σ (s.stopCircuit c) :=
    keeps_foldl (fun _ _ h1 => keeps_setTend (keeps_setB (keeps_setAlign h1))) hs
theorem keeps_stopEnds (hs : Keeps σ s) : Keeps σ s.stopEnds := by
  unfold State.stopEnds
  extract_lets +onlyGivenNames x1
  have h1 : Keeps σ x1 := keeps_foldl (fun _ _ h1 => keeps_stopCircuit h1) hs
  clear_value x1
  exact keeps_settleStore (keeps_mk h1)
theorem keeps_swapPages (hs : Keeps σ s) : Keeps σ s.swapPages := by
  unfold State.swapPages
  extract_lets +onlyGivenNames x1
  extract_lets +onlyGivenNames x2
  extract_lets +onlyGivenNames x3 x4
  clear_value x3 x4
  extract_lets +onlyGivenNames x5
  have h1 : Keeps σ x5 := keeps_regs hs (Tab.wf_filter _ _ _)
  clear_value x5
  extract_lets +onlyGivenNames x6
  have h2 : Keeps σ x6 := keeps_foldl (fun _ _ h2 => keeps_wr h2) h1
  clear_value x6
  extract_lets +onlyGivenNames x7
  have h3 : Keeps σ x7 := keeps_foldl (fun _ _ h3 => keeps_wr h3) h2
  clear_value x7
  exact keeps_setB (keeps_setB h3)
theorem keeps_tceTick (hs : Keeps σ s) : Keeps σ s.tceTick := by
  unfold State.tceTick
  extract_lets +onlyGivenNames x1
  have h1 : Keeps σ x1 := keeps_ite hs (keeps_stopEnds hs)
  clear_value x1
  extract_lets +onlyGivenNames x2
  have h2 : Keeps σ x2 := keeps_ite (keeps_swapPages h1) h1
  clear_value x2
  exact keeps_interchange h2
theorem keeps_setDport {n : Nat} {p : DfrPort} (hs : Keeps σ s) : Keeps σ (s.setDport n p) := keeps_mk hs
theorem keeps_traceMap {n ft y0 : Nat} {y1 : List Word64} (hs : Keeps σ s) : Keeps σ (s.traceMap n ft y0 y1) := by
  revert hs
  fun_induction State.traceMap s n ft y0 y1 with
  | case1 _ _ _ _ _ ih => exact fun h => ih (keeps_traceAt h)
  | case2 => exact fun h => keeps_traceAt h
  | case3 => exact id
theorem keeps_dropReady {n cnt : Nat} (hs : Keeps σ s) : Keeps σ (s.dropReady n cnt) := by
  unfold State.dropReady
  extract_lets +onlyGivenNames x1
  clear_value x1
  split
  · exact hs
  · exact keeps_dropDone (keeps_finish (keeps_inc (keeps_setDport hs)))
theorem keeps_dropRemainder {n : Nat} (hs : Keeps σ s) : Keeps σ (s.dropRemainder n) := keeps_ite (keeps_dropReady hs) hs
theorem keeps_sendOwn {n f : Nat} {m : List Word64} (hs : Keeps σ s) : Keeps σ (s.sendOwn n f m) := by
  unfold State.sendOwn
  split
  · exact hs
  · extract_lets +onlyGivenNames x1 x2
    clear_value x1 x2
    extract_lets +onlyGivenNames x3
    have h1 : Keeps σ x3 := keeps_incN hs
    clear_value x3
    extract_lets +onlyGivenNames x4
    have h2 : Keeps σ x4 := keeps_incN h1
    clear_value x4
    extract_lets +onlyGivenNames x5
    have h3 : Keeps σ x5 := keeps_setPage h2
    clear_value x5
    extract_lets +onlyGivenNames x6
    have h4 : Keeps σ x6 := keeps_foldl (fun _ _ h4 => keeps_lostAllocs h4) h3
    clear_value x6
    exact keeps_traceMap h4
theorem keeps_frameMap {n f : Nat} (hs : Keeps σ s) : KeepsP σ (s.frameMap n f) := by
  unfold State.frameMap
  extract_lets +onlyGivenNames x1 x2
  clear_value x1 x2
  split
  · extract_lets +onlyGivenNames x3
    clear_value x3
    extract_lets +onlyGivenNames x4
    have h1 : Keeps σ x4 := keeps_ite (keeps_dropRemainder hs) hs
    clear_value x4
    extract_lets +onlyGivenNames x5 x6
    clear_value x5 x6
    extract_lets +onlyGivenNames x7
    have h2 : Keeps σ x7 := keeps_setDport h1
    clear_value x7
    extract_lets +onlyGivenNames x8 x9 x10
    clear_value x8 x9 x10
    extract_lets +onlyGivenNames x11
    have h3 : Keeps σ x11 := keeps_inc (keeps_setB (keeps_setB h2))
    clear_value x11
    extract_lets +onlyGivenNames x12
    clear_value x12
    extract_lets +onlyGivenNames x13
    have h4 : Keeps σ x13 := keeps_ite h3 (keeps_setDport h3)
    clear_value x13
    extract_lets +onlyGivenNames x14
    clear_value x14
    extract_lets +onlyGivenNames x15
    have h5 : Keeps σ x15 := keeps_setTport h4
    clear_value x15
    exact KeepsP.mk (keeps_traceMap h5)
  · extract_lets +onlyGivenNames x3
    have h1 : Keeps σ x3 := keeps_setB (keeps_setB hs)
    clear_value x3
    extract_lets +onlyGivenNames x4
    have h2 : Keeps σ x4 := keeps_ite (keeps_setB h1) h1
    clear_value x4
    extract_lets +onlyGivenNames x5
    clear_value x5
    extract_lets +onlyGivenNames x6
    have h3 : Keeps σ x6 := keeps_ite (keeps_setDport h2) hs
    clear_value x6
    split
    · exact KeepsP.mk (keeps_setDport (keeps_sendOwn h3))
    · exact KeepsP.mk (keeps_setDport (keeps_incIf h3))
theorem keeps_announceAll {n : Nat} (hs : Keeps σ s) : Keeps σ (s.announceAll n) := keeps_setDport hs
theorem keeps_takeTods {n m y0 : Nat} {y1 : List (Nat × Option Nat)} (hs : Keeps σ s) :
    KeepsPP σ (s.takeTods n m y0 y1) := by
  revert hs
  fun_induction State.takeTods s n m y0 y1 with
  | case1 => exact fun h => KeepsPP.mk h
  | case2 => exact fun h => KeepsPP.mk h
  | case3 _ _ _ _ _ ih => exact fun h => ih (keeps_inc h)
  | case4 s _ _ _ _ _ _ _ _ e ih => exact fun h => KeepsPP.mk (KeepsPP.out (ih (keeps_inc h)) e)
theorem keeps_framePloams {n m : Nat} (hs : Keeps σ s) : KeepsP σ (s.framePloams n m) := by
  unfold State.framePloams
  extract_lets +onlyGivenNames x1 x2 x3 x4 x5
  clear_value x1 x2 x3 x4 x5
  extract_lets +onlyGivenNames x6
  have h1 : Keeps σ x6 := keeps_ite hs (keeps_mk hs)
  clear_value x6
  extract_lets +onlyGivenNames x7 x8 x9 x10
  clear_value x7 x8 x9 x10
  extract_lets +onlyGivenNames x11
  have h2 : Keeps σ x11 := keeps_takePloams h1
  clear_value x11
  extract_lets +onlyGivenNames x12
  have h3 : Keeps σ x12 := keeps_foldl (fun _ _ h3 => keeps_ploamSent h3) h2
  clear_value x12
  extract_lets +onlyGivenNames x13
  clear_value x13
  split
  extract_lets +onlyGivenNames x14
  clear_value x14
  extract_lets +onlyGivenNames x15
  have h4 : Keeps σ x15 := keeps_setDport (KeepsPP.out (keeps_takeTods h3) ‹_›)
  clear_value x15
  extract_lets +onlyGivenNames x16 x17 x18
  clear_value x16 x17 x18
  extract_lets +onlyGivenNames x19
  have h5 : Keeps σ x19 := keeps_setDport h4
  clear_value x19
  extract_lets +onlyGivenNames x20 x21 x22 x23
  clear_value x20 x21 x22 x23
  extract_lets +onlyGivenNames x24
  have h6 : Keeps σ x24 := keeps_mk h5
  clear_value x24
  extract_lets +onlyGivenNames x25
  have h7 : Keeps σ x25 := keeps_foldl (fun _ _ h7 => keeps_ptxDone h7) h6
  clear_value x25
  exact KeepsP.mk (keeps_incIf h7)
theorem keeps_giveCarriers {n f : Nat} (hs : Keeps σ s) : Keeps σ (s.giveCarriers n f) := by
  unfold State.giveCarriers
  refine keeps_foldl (fun _ _ h1 => ?_) ?_
  · split
    exact keeps_setDport (KeepsP.out (keeps_carrierFrame h1) ‹_›)
  · exact hs
theorem keeps_placeCarriers {n f : Nat} {y0 : List (Nat × List Byte)} {y1 : Nat} (hs : Keeps σ s) :
    KeepsPP σ (s.placeCarriers n f y0 y1) := by
  induction y0 generalizing s n f y1 with
  | nil =>
    rw [State.placeCarriers]
    exact KeepsPP.mk (keeps_setDport hs)
  | cons y ys ih =>
    rw [State.placeCarriers]
    split
    · exact ih hs
    · split
      · split
        · exact ih (keeps_inc hs)
        · split
          · extract_lets +onlyGivenNames x1
            clear_value x1
            split
            exact KeepsPP.mk (KeepsPP.out (ih hs) ‹_›)
          · exact KeepsPP.mk (keeps_setDport hs)
      · split
        · exact ih (keeps_inc hs)
        · split
          · extract_lets +onlyGivenNames x1
            clear_value x1
            split
            exact KeepsPP.mk (KeepsPP.out (ih hs) ‹_›)
          · exact KeepsPP.mk (keeps_setDport hs)
theorem keeps_xgemSent {n len : Nat} (hs : Keeps σ s) : Keeps σ (s.xgemSent n len) := keeps_add64 (keeps_add64 hs)
theorem keeps_framed {n : Nat} {f : Frm} (hs : Keeps σ s) : Keeps σ (s.framed n f) := by
  unfold State.framed
  extract_lets +onlyGivenNames x1
  clear_value x1
  extract_lets +onlyGivenNames x2
  have h1 : Keeps σ x2 := keeps_finish (keeps_setDport hs)
  clear_value x2
  split
  · exact h1
  · exact keeps_mk h1
theorem keeps_placeFrames {n frame : Nat} {rest : Bool} {y0 y1 : Nat} (hs : Keeps σ s) :
    KeepsPP σ (s.placeFrames n frame rest y0 y1) := by
  induction y0 generalizing s n frame rest y1 with
  | zero =>
    rw [State.placeFrames]
    exact KeepsPP.mk hs
  | succ y ih =>
    rw [State.placeFrames]
    split
    · exact KeepsPP.mk hs
    · split
      · exact KeepsPP.mk hs
      · extract_lets +onlyGivenNames x1 x2 x3
        clear_value x1 x2 x3
        split
        · exact ih (keeps_dropReady hs)
        · split
          · exact ih (keeps_dropReady hs)
          · extract_lets +onlyGivenNames x4 x5 x6
            clear_value x4 x5 x6
            split
            · extract_lets +onlyGivenNames x7
              clear_value x7
              extract_lets +onlyGivenNames x8
              have h1 : Keeps σ x8 := keeps_framed (keeps_xgemSent hs)
              clear_value x8
              split
              exact KeepsPP.mk (KeepsPP.out (keepsPP_ite (KeepsPP.mk h1) (ih h1)) ‹_›)
            · split
              · extract_lets +onlyGivenNames x7 x8
                clear_value x7 x8
                extract_lets +onlyGivenNames x9
                have h1 : Keeps σ x9 := keeps_inc (keeps_xgemSent (keeps_setDport hs))
                clear_value x9
                exact KeepsPP.mk h1
              · exact KeepsPP.mk hs
theorem keeps_fillXgem {n f space : Nat} (hs : Keeps σ s) : KeepsP σ (s.fillXgem n f space) := by
  unfold State.fillXgem
  extract_lets +onlyGivenNames x1
  clear_value x1
  split
  extract_lets +onlyGivenNames x2
  have h1 : Keeps σ x2 := keeps_giveCarriers (KeepsPP.out (keeps_placeFrames hs) ‹_›)
  clear_value x2
  split
  extract_lets +onlyGivenNames x3
  have h2 : Keeps σ x3 := keeps_foldl (fun _ _ h2 => keeps_xgemSent h2) (KeepsPP.out (keeps_placeCarriers h1) ‹_›)
  clear_value x3
  split
  exact KeepsP.mk (keeps_add64 (KeepsPP.out (keeps_placeFrames h2) ‹_›))
theorem keeps_stopFraming {n : Nat} (hs : Keeps σ s) : Keeps σ (s.stopFraming n) := by
  unfold State.stopFraming
  extract_lets +onlyGivenNames x1
  clear_value x1
  extract_lets +onlyGivenNames x2
  have h1 : Keeps σ x2 := keeps_setB (keeps_setB (keeps_tell (keeps_setB hs)))
  clear_value x2
  exact keeps_setDport h1
theorem keeps_txenSettle {n : Nat} (hs : Keeps σ s) : Keeps σ (s.txenSettle n) := by
  unfold State.txenSettle
  extract_lets +onlyGivenNames x1
  have h1 : Keeps σ x1 := keeps_seeLight hs
  clear_value x1
  split
  · extract_lets +onlyGivenNames x2
    have h2 : Keeps σ x2 := keeps_dropRemainder (keeps_stopFraming h1)
    clear_value x2
    exact keeps_setTport h2
  · exact h1
theorem keeps_txenSettleAll (hs : Keeps σ s) : Keeps σ s.txenSettleAll := keeps_foldl (fun _ _ h1 => keeps_txenSettle h1) hs

end Sys2Proof.Machine
end

