-- ==== Sys2Proof/Laws/KeepsTraffic.lean ====
section
/-! SUPPORT. Each operation keeps what nothing in the device undoes (Keeps): clock, receive side, traffic manager, keys, protection and buffers. -/

namespace Sys2Proof.Machine

variable {σ s : State}

theorem keeps_execIncCommit {v : Word} (hs : Keeps σ s) : KeepsR σ (execIncCommit v s) := by
  unfold execIncCommit
  refine keeps_opWrite hs ?_
  extract_lets +onlyGivenNames x1
  clear_value x1
  extract_lets +onlyGivenNames x2
  have h1 : Keeps σ x2 := keeps_dropHeld hs
  clear_value x2
  extract_lets +onlyGivenNames x3
  clear_value x3
  refine KeepsR.next ?_
  split
  · extract_lets +onlyGivenNames x4
    have h2 : Keeps σ x4 := keeps_setF (keeps_wr h1)
    clear_value x4
    exact keeps_ite (keeps_mk h2) (keeps_mk h2)
  · exact keeps_tsuRefused h1
theorem keeps_execSlewStart {v : Word} (hs : Keeps σ s) : KeepsR σ (execSlewStart v s) := by
  unfold execSlewStart
  refine keeps_opWrite hs ?_
  extract_lets +onlyGivenNames x1
  clear_value x1
  refine KeepsR.next ?_
  split
  · exact hs
  · split
    · exact keeps_tsuRefused hs
    · extract_lets +onlyGivenNames x2
      have h1 : Keeps σ x2 := keeps_setB (keeps_wr hs)
      clear_value x2
      exact keeps_mk h1
theorem keeps_execSlewCancel (hs : Keeps σ s) : KeepsR σ (execSlewCancel s) :=
    keeps_opWrite hs (KeepsR.next (keeps_ite (keeps_endSlew hs) hs))
theorem keeps_execSlewEnd (hs : Keeps σ s) : KeepsR σ (execSlewEnd s) := by
  unfold execSlewEnd
  split
  · exact KeepsR.next hs
  · extract_lets +onlyGivenNames x1
    clear_value x1
    extract_lets +onlyGivenNames x2
    have h1 : Keeps σ x2 := keeps_holdGain hs
    clear_value x2
    exact KeepsR.next (keeps_endSlew (keeps_mk h1))
theorem keeps_execStepGo (hs : Keeps σ s) : KeepsR σ (execStepGo s) :=
    keeps_opWrite hs (KeepsR.next (keeps_ite (keeps_mk hs) (keeps_tsuRefused hs)))
theorem keeps_execRearmWrite {v : Word} {late : Bool} (hs : Keeps σ s) : KeepsR σ (execRearmWrite v late s) := by
  unfold execRearmWrite
  refine keeps_opWrite hs ?_
  extract_lets +onlyGivenNames x1 x2
  clear_value x1 x2
  extract_lets +onlyGivenNames x3
  have h1 : Keeps σ x3 := keeps_mk hs
  clear_value x3
  refine KeepsR.next ?_
  split
  · extract_lets +onlyGivenNames x4
    have h2 : Keeps σ x4 := keeps_setB (keeps_ledgerLog h1)
    clear_value x4
    exact keeps_mk h2
  · split
    · extract_lets +onlyGivenNames x4
      have h2 : Keeps σ x4 := keeps_ite (keeps_tsuRefused h1) h1
      clear_value x4
      exact keeps_mk h2
    · exact keeps_tsuRefused h1
theorem keeps_execTsrefLoss (hs : Keeps σ s) : KeepsR σ (execTsrefLoss s) :=
    KeepsR.next (keeps_ite (keeps_raise (keeps_setB hs)) hs)
theorem keeps_execTsPllUnlock (hs : Keeps σ s) : KeepsR σ (execTsPllUnlock s) := by
  unfold execTsPllUnlock
  extract_lets +onlyGivenNames x1
  clear_value x1
  extract_lets +onlyGivenNames x2
  have h1 : Keeps σ x2 := keeps_mk hs
  clear_value x2
  exact KeepsR.next (keeps_ite (keeps_raise (keeps_setB h1)) h1)
theorem keeps_execClkTsPllRelock (hs : Keeps σ s) : KeepsR σ (execClkTsPllRelock s) := by
  unfold execClkTsPllRelock
  extract_lets +onlyGivenNames x1
  clear_value x1
  extract_lets +onlyGivenNames x2
  have h1 : Keeps σ x2 := keeps_mk hs
  clear_value x2
  exact KeepsR.next (keeps_ite (keeps_setB h1) h1)
theorem keeps_execCompareTargetCommit {k : Fin 16} {v : Word} (hs : Keeps σ s) :
    KeepsR σ (execCompareTargetCommit k v s) := by
  unfold execCompareTargetCommit
  refine keeps_opWrite hs ?_
  extract_lets +onlyGivenNames x1
  clear_value x1
  extract_lets +onlyGivenNames x2
  have h1 : Keeps σ x2 := keeps_setF (keeps_wr (keeps_dropHeld hs))
  clear_value x2
  exact KeepsR.next (keeps_commitUnit h1)
theorem keeps_execCompareFire {k : Fin 16} (hs : Keeps σ s) : KeepsR σ (execCompareFire k s) := by
  unfold execCompareFire
  refine KeepsR.next ?_
  split
  · exact hs
  · extract_lets +onlyGivenNames x1
    have h1 : Keeps σ x1 := keeps_ite hs (keeps_advanceTo hs)
    clear_value x1
    exact keeps_fireUnit h1
theorem keeps_ppsTake {o : Nat} (hs : Keeps σ s) : Keeps σ (s.ppsTake o) := keeps_mk hs
theorem keeps_execPpsConfigWrite {o : Fin 2} {f : PpsCfg} {v : Word} (hs : Keeps σ s) :
    KeepsR σ (execPpsConfigWrite o f v s) := by
  unfold execPpsConfigWrite
  extract_lets +onlyGivenNames x1
  clear_value x1
  refine keeps_opWrite hs ?_
  extract_lets +onlyGivenNames x2
  have h1 : Keeps σ x2 := keeps_wr hs
  clear_value x2
  split
  exact KeepsR.next (keeps_ite (keeps_tsuRefused hs) (keeps_ite h1 (keeps_ppsTake h1)))
theorem keeps_execPpsOutPulse {o : Fin 2} (hs : Keeps σ s) : KeepsR σ (execPpsOutPulse o s) := by
  unfold execPpsOutPulse
  refine KeepsR.next ?_
  split
  · exact hs
  · split
    extract_lets +onlyGivenNames x1 x2 x3
    clear_value x1 x2 x3
    extract_lets +onlyGivenNames x4
    have h1 : Keeps σ x4 := keeps_drive (keeps_advanceTo hs)
    clear_value x4
    extract_lets +onlyGivenNames x5
    clear_value x5
    extract_lets +onlyGivenNames x6
    have h2 : Keeps σ x6 := keeps_ppsTake (keeps_mk h1)
    clear_value x6
    exact keeps_ite (keeps_todSend h2) h2
theorem keeps_execClkOutEdge {o : Fin 2} {rise : Bool} (hs : Keeps σ s) : KeepsR σ (execClkOutEdge o rise s) := by
  unfold execClkOutEdge
  refine KeepsR.next ?_
  split
  · exact hs
  · extract_lets +onlyGivenNames x1 x2 x3 x4
    clear_value x1 x2 x3 x4
    extract_lets +onlyGivenNames x5
    have h1 : Keeps σ x5 := keeps_drive (keeps_advanceTo hs)
    clear_value x5
    exact keeps_mk h1
theorem keeps_execOutHoldSet (hs : Keeps σ s) : KeepsR σ (execOutHoldSet s) :=
    keeps_opWrite hs (KeepsR.next (keeps_outHoldSet hs))
theorem keeps_execOutHoldClear (hs : Keeps σ s) : KeepsR σ (execOutHoldClear s) :=
    keeps_opWrite hs (KeepsR.next (keeps_outHoldClear hs))
theorem keeps_execHoldConverged (hs : Keeps σ s) : KeepsR σ (execHoldConverged s) :=
    KeepsR.next (keeps_ite hs (keeps_holdMet (keeps_mk hs)))
theorem keeps_execPpsInCapture {i : Fin 2} {ns : Word64} {frac : BitVec 16} (hs : Keeps σ s) :
    KeepsR σ (execPpsInCapture i ns frac s) := by
  unfold execPpsInCapture
  extract_lets +onlyGivenNames x1
  clear_value x1
  refine KeepsR.next ?_
  split
  · exact hs
  · extract_lets +onlyGivenNames x2
    have h1 : Keeps σ x2 := keeps_advanceTo hs
    clear_value x2
    extract_lets +onlyGivenNames x3
    clear_value x3
    split
    · exact keeps_inc h1
    · extract_lets +onlyGivenNames x4 x5 x6
      clear_value x4 x5 x6
      extract_lets +onlyGivenNames x7
      have h2 : Keeps σ x7 := keeps_wr (keeps_setF h1)
      clear_value x7
      extract_lets +onlyGivenNames x8
      have h3 : Keeps σ x8 := keeps_setB (keeps_wr h2)
      clear_value x8
      extract_lets +onlyGivenNames x9
      have h4 : Keeps σ x9 := keeps_ite (keeps_setB h3) h3
      clear_value x9
      extract_lets +onlyGivenNames x10
      clear_value x10
      extract_lets +onlyGivenNames x11
      have h5 : Keeps σ x11 := keeps_mk h4
      clear_value x11
      exact keeps_ite (keeps_tsuEvent h5) h5
theorem keeps_execTodTxWrite {b : Byte} (hs : Keeps σ s) : KeepsR σ (execTodTxWrite b s) :=
    keeps_opWrite hs (KeepsR.next (keeps_ite (keeps_tsuRefused hs) (keeps_todFlush (keeps_mk hs))))
theorem keeps_execTodRxByte {b : Byte} {idle : Bool} (hs : Keeps σ s) : KeepsR σ (execTodRxByte b idle s) := by
  unfold execTodRxByte
  refine KeepsR.next ?_
  split
  · exact hs
  · extract_lets +onlyGivenNames x1
    have h1 : Keeps σ x1 := keeps_ite (keeps_wr (keeps_wr hs)) hs
    clear_value x1
    exact keeps_ite (keeps_tsuRefused h1) (keeps_mk h1)
theorem keeps_execMateTimeSend (hs : Keeps σ s) : KeepsR σ (execMateTimeSend s) := by
  unfold execMateTimeSend
  refine KeepsR.next ?_
  split
  · exact hs
  · extract_lets +onlyGivenNames x1 x2
    clear_value x1 x2
    extract_lets +onlyGivenNames x3
    have h1 : Keeps σ x3 := keeps_sendControl hs
    clear_value x3
    exact keeps_mk h1
theorem keeps_execMateTimeReceive (hs : Keeps σ s) : KeepsR σ (execMateTimeReceive s) := by
  unfold execMateTimeReceive
  split
  · exact KeepsR.next hs
  · extract_lets +onlyGivenNames x1
    clear_value x1
    extract_lets +onlyGivenNames x2
    have h1 : Keeps σ x2 := keeps_mk hs
    clear_value x2
    extract_lets +onlyGivenNames x3 x4 x5 x6 x7
    clear_value x3 x4 x5 x6 x7
    extract_lets +onlyGivenNames x8
    have h2 : Keeps σ x8 := keeps_mk h1
    clear_value x8
    refine KeepsR.next ?_
    split
    · extract_lets +onlyGivenNames x9 x10
      clear_value x9 x10
      extract_lets +onlyGivenNames x11
      have h3 : Keeps σ x11 := keeps_wr (keeps_wr h2)
      clear_value x11
      exact keeps_setB h3
    · exact h2
theorem keeps_execTodPeriodStart {n : Fin 32} (hs : Keeps σ s) : KeepsR σ (execTodPeriodStart n s) := by
  unfold execTodPeriodStart
  split
  · exact KeepsR.next hs
  · extract_lets +onlyGivenNames x1 x2
    clear_value x1 x2
    extract_lets +onlyGivenNames x3
    have h1 : Keeps σ x3 := keeps_advanceTo hs
    clear_value x3
    extract_lets +onlyGivenNames x4 x5
    clear_value x4 x5
    extract_lets +onlyGivenNames x6
    have h2 : Keeps σ x6 := keeps_emptyQueue (keeps_incN h1)
    clear_value x6
    exact KeepsR.next (keeps_foldl (fun _ _ h3 => keeps_cross h3) (keeps_setDport h2))
theorem keeps_execBrxProfWrite {n : Fin 32} {k : Fin 4} {v : Word} (hs : Keeps σ s) :
    KeepsR σ (execBrxProfWrite n k v s) := keeps_opWrite hs (KeepsR.next (keeps_ite (keeps_tell (keeps_wr hs)) (keeps_inc hs)))
theorem keeps_holdB0 {n : Nat} (hs : Keeps σ s) : Keeps σ (s.holdB0 n) := keeps_ite hs (keeps_setF hs)
theorem keeps_execBrxCtrlWrite {n : Fin 32} {v : Word} (hs : Keeps σ s) : KeepsR σ (execBrxCtrlWrite n v s) :=
    keeps_opWrite hs (KeepsR.next (keeps_ite (keeps_holdB0 (keeps_tell (keeps_wr hs))) (keeps_inc hs)))
theorem keeps_execMemInvalidateOne {n : Fin 32} {l : Fin 512} (hs : Keeps σ s) : KeepsR σ (execMemInvalidateOne n l s) :=
    keeps_opWrite hs (KeepsR.next (keeps_ite (keeps_inc hs) (keeps_invalidate (keeps_wr hs))))
theorem keeps_invalidateAll {n : Nat} (hs : Keeps σ s) : Keeps σ (s.invalidateAll n) :=
    keeps_foldl (fun _ _ h1 => keeps_invalidate h1) hs
theorem keeps_execMemInvalidateAll {all : MemAll} (hs : Keeps σ s) : KeepsR σ (execMemInvalidateAll all s) :=
    keeps_opWrite hs (KeepsR.next (keeps_ite (keeps_inc hs) (keeps_invalidateAll (keeps_wr hs))))
theorem keeps_execMemCmdDone {n : Fin 32} (hs : Keeps σ s) : KeepsR σ (execMemCmdDone n s) := KeepsR.next (keeps_setB hs)
theorem keeps_execAgeTick (hs : Keeps σ s) : KeepsR σ (execAgeTick s) := KeepsR.next (keeps_ite (keeps_ageAll hs) hs)
theorem keeps_plan {n frame : Nat} {v : Bool} (hs : Keeps σ s) : Keeps σ (s.plan n frame v) := keeps_setBport hs
theorem keeps_rngResult {n : Nat} {r : RngResult} (hs : Keeps σ s) : Keeps σ (s.rngResult n r) := keeps_cross hs
theorem keeps_missRanging {n : Nat} {g : Page} {ok : Bool} (hs : Keeps σ s) : Keeps σ (s.missRanging n g ok) :=
    keeps_foldl (fun _ _ h1 => keeps_ite (keeps_rngResult h1) h1) hs
theorem keeps_execBrxSleep {n : Fin 32} {cycle : BitVec 64} (hs : Keeps σ s) : KeepsR σ (execBrxSleep n cycle s) := by
  unfold execBrxSleep
  extract_lets +onlyGivenNames x1 x2 x3 x4
  clear_value x1 x2 x3 x4
  extract_lets +onlyGivenNames x5
  have h1 : Keeps σ x5 := keeps_ite (keeps_mk hs) hs
  clear_value x5
  exact KeepsR.next (keeps_setBport (keeps_setF (keeps_setB h1)))
theorem keeps_execBurstKindsFixed {n : Fin 32} {frame : BitVec 51} {cycle : BitVec 64} (hs : Keeps σ s) :
    KeepsR σ (execBurstKindsFixed n frame cycle s) := by
  unfold execBurstKindsFixed
  split
  · exact KeepsR.next hs
  · split
    · exact KeepsR.next hs
    · extract_lets +onlyGivenNames x1
      have h1 : Keeps σ x1 := keeps_cross hs
      clear_value x1
      exact KeepsR.next (keeps_ite (keeps_setF h1) h1)
theorem keeps_applyVerdict {n : Nat} {sn : Snap} {v : Verdict} (hs : Keeps σ s) : Keeps σ (s.applyVerdict n sn v) := by
  unfold State.applyVerdict
  extract_lets +onlyGivenNames x1
  clear_value x1
  split
  · exact hs
  · split
    · exact keeps_putEnt hs
    · exact keeps_incIf (keeps_putEnt hs)
theorem keeps_settleVerdicts {n l y0 : Nat} (hs : Keeps σ s) : Keeps σ (s.settleVerdicts n l y0) := by
  induction y0 generalizing s n l with
  | zero =>
    rw [State.settleVerdicts]
    exact hs
  | succ y ih =>
    rw [State.settleVerdicts]
    split
    · exact hs
    · split
      · exact hs
      · exact ih (keeps_applyVerdict (keeps_setBport hs))
theorem keeps_judge {n : Nat} {sn : Snap} {v : Verdict} (hs : Keeps σ s) : Keeps σ (s.judge n sn v) := by
  unfold State.judge
  extract_lets +onlyGivenNames x1
  have h1 : Keeps σ x1 := keeps_setBport hs
  clear_value x1
  exact keeps_settleVerdicts h1
theorem keeps_traceBurst {n : Nat} {sn : Snap} {prof outcome peak uncorr granted : Nat} (hs : Keeps σ s) :
    Keeps σ (s.traceBurst n sn prof outcome peak uncorr granted) := keeps_traceAt hs
theorem keeps_miss {n frame : Nat} {lost : List (List CalEnt × Nat)} (hs : Keeps σ s) : Keeps σ (s.miss n frame lost) :=
    keeps_setBport hs
theorem keeps_missPageBursts {n : Nat} {g : Page} (hs : Keeps σ s) : Keeps σ (s.missPageBursts n g) := keeps_miss hs
theorem keeps_missedDue {n : Nat} {due : Nat → Bool} (hs : Keeps σ s) : Keeps σ (s.missedDue n due) := by
  unfold State.missedDue
  extract_lets +onlyGivenNames x1 x2
  clear_value x1 x2
  extract_lets +onlyGivenNames x3
  have h1 : Keeps σ x3 := keeps_setBport hs
  clear_value x3
  extract_lets +onlyGivenNames x4
  have h2 : Keeps σ x4 := keeps_foldl (fun _ _ h2 => keeps_traceBurst h2) h1
  clear_value x4
  exact keeps_foldl (fun _ _ h3 => keeps_settleVerdicts h3) h2
theorem keeps_unsnap {n frame : Nat} (hs : Keeps σ s) : Keeps σ (s.unsnap n frame) := by
  unfold State.unsnap
  extract_lets +onlyGivenNames x1
  clear_value x1
  extract_lets +onlyGivenNames x2
  exact keeps_setBport hs
theorem keeps_execPlanningPoint {n : Fin 32} {frame : BitVec 51} {copyBad : Bool} (hs : Keeps σ s) :
    KeepsR σ (execPlanningPoint n frame copyBad s) := by
  unfold execPlanningPoint
  extract_lets +onlyGivenNames x1
  clear_value x1
  extract_lets +onlyGivenNames x2
  have h1 : Keeps σ x2 := keeps_missedDue hs
  clear_value x2
  split
  · exact KeepsR.next (keeps_unsnap (keeps_plan h1))
  · extract_lets +onlyGivenNames x3 x4
    clear_value x3 x4
    extract_lets +onlyGivenNames x5
    have h2 : Keeps σ x5 := keeps_ite (keeps_incN h1) h1
    clear_value x5
    extract_lets +onlyGivenNames x6
    have h3 : Keeps σ x6 := keeps_ite h2 (keeps_lostAllocs (keeps_setPage h2))
    clear_value x6
    extract_lets +onlyGivenNames x7
    have h4 : Keeps σ x7 := keeps_missRanging (keeps_unsnap (keeps_plan h3))
    clear_value x7
    exact KeepsR.next (keeps_ite (keeps_missPageBursts h4) h4)
theorem keeps_execBrxWake {n : Fin 32} {frame : BitVec 51} {k : Option (Fin 512)} (hs : Keeps σ s) :
    KeepsR σ (execBrxWake n frame k s) := by
  unfold execBrxWake
  extract_lets +onlyGivenNames x1
  clear_value x1
  split
  · exact KeepsR.next hs
  · split
    · split
      · exact KeepsR.next (keeps_ite hs (keeps_missedDue (keeps_miss (keeps_lostAllocs hs))))
      · exact KeepsR.next hs
    · split
      · exact KeepsR.next (keeps_ite hs (keeps_setF hs))
      · split
        · exact KeepsR.next hs
        · extract_lets +onlyGivenNames x2
          clear_value x2
          extract_lets +onlyGivenNames x3
          have h1 : Keeps σ x3 := keeps_missedDue hs
          clear_value x3
          exact KeepsR.next (keeps_setF (keeps_setBport h1))
theorem keeps_udfDefect {t : Nat} (hs : Keeps σ s) : Keeps σ (s.udfDefect t) := keeps_mk hs
theorem keeps_udfStart {n : Nat} {sn : Snap} {b : List CalEnt} (hs : Keeps σ s) : Keeps σ (s.udfStart n sn b) := keeps_mk hs
theorem keeps_udfDrop {n frame k : Nat} (hs : Keeps σ s) : Keeps σ (s.udfDrop n frame k) := keeps_mk hs
theorem keeps_lockFail {n : Nat} {sn : Snap} {b : List CalEnt} (hs : Keeps σ s) : Keeps σ (s.lockFail n sn b) := by
  unfold State.lockFail
  extract_lets +onlyGivenNames x1
  clear_value x1
  extract_lets +onlyGivenNames x2
  have h1 : Keeps σ x2 := keeps_inc hs
  clear_value x2
  extract_lets +onlyGivenNames x3
  have h2 : Keeps σ x3 := keeps_judge h1
  clear_value x3
  extract_lets +onlyGivenNames x4
  have h3 : Keeps σ x4 := keeps_udfDefect (keeps_rngResult h2)
  clear_value x4
  extract_lets +onlyGivenNames x5
  have h4 : Keeps σ x5 := keeps_lostAllocs h3
  clear_value x5
  extract_lets +onlyGivenNames x6
  clear_value x6
  extract_lets +onlyGivenNames x7
  have h5 : Keeps σ x7 := keeps_setBport h4
  clear_value x7
  extract_lets +onlyGivenNames x8
  have h6 : Keeps σ x8 := keeps_ite (keeps_raise h5) h5
  clear_value x8
  exact keeps_traceBurst h6
theorem keeps_abandonBurst {n frame k : Nat} (hs : Keeps σ s) : Keeps σ (s.abandonBurst n frame k) := by
  unfold State.abandonBurst
  extract_lets +onlyGivenNames x1
  have h1 : Keeps σ x1 := by
    unfold x1
    split
    · exact keeps_lostAllocs (keeps_udfDrop hs)
    · exact hs
  clear_value x1
  split
  · exact h1
  · split
    · exact h1
    · extract_lets +onlyGivenNames x2
      clear_value x2
      split
      · exact keeps_lockFail (keeps_udfDrop hs)
      · exact keeps_setBport hs
theorem keeps_execBurstAcquire {n : Fin 32} {frame : BitVec 51} {k : Fin 512} {eye : Bool} {found : SearchEnd} {delim : Option
    Int} (hs : Keeps σ s) :
    KeepsR σ (execBurstAcquire n frame k eye found delim s) := by
  unfold execBurstAcquire
  split
  · extract_lets +onlyGivenNames x1
    clear_value x1
    split
    · exact KeepsR.next hs
    · extract_lets +onlyGivenNames x2
      have h1 : Keeps σ x2 := keeps_ite (keeps_inc hs) hs
      clear_value x2
      extract_lets +onlyGivenNames x3
      have h2 : Keeps σ x3 := keeps_setB h1
      clear_value x3
      extract_lets +onlyGivenNames x4
      clear_value x4
      split
      · exact KeepsR.next (keeps_lockFail h2)
      · exact keepsR_ite (KeepsR.next (keeps_lockFail h2)) (KeepsR.next (keeps_udfStart (keeps_setBport h2)))
  · exact KeepsR.next hs
theorem keeps_execBurstVerdict {n : Fin 32} {frame : BitVec 51} {k : Fin 512} {payload : PayloadEnd} (hs : Keeps σ s) :
    KeepsR σ (execBurstVerdict n frame k payload s) := by
  unfold execBurstVerdict
  split
  · extract_lets +onlyGivenNames x1
    clear_value x1
    split
    · split
      · exact KeepsR.next hs
      · extract_lets +onlyGivenNames x2 x3 x4 x5 x6 x7 x8
        clear_value x2 x3 x4 x5 x6 x7 x8
        extract_lets +onlyGivenNames x9
        have h1 : Keeps σ x9 := keeps_mk hs
        clear_value x9
        split
        · extract_lets +onlyGivenNames x10
          have h2 : Keeps σ x10 := keeps_incIf (keeps_judge h1)
          clear_value x10
          extract_lets +onlyGivenNames x11
          have h3 : Keeps σ x11 := keeps_ite (keeps_rngResult h2) h2
          clear_value x11
          exact KeepsR.next (keeps_traceBurst h3)
        · extract_lets +onlyGivenNames x10
          have h2 : Keeps σ x10 := keeps_inc (keeps_judge h1)
          clear_value x10
          extract_lets +onlyGivenNames x11
          have h3 : Keeps σ x11 := keeps_rngResult h2
          clear_value x11
          exact KeepsR.next (keeps_traceBurst h3)
    · exact KeepsR.next hs
  · exact KeepsR.next hs
theorem keeps_execFrameAdmit (hs : Keeps σ s) : KeepsR σ (execFrameAdmit s) := by
  unfold execFrameAdmit
  split
  · exact KeepsR.next hs
  · extract_lets +onlyGivenNames x1
    clear_value x1
    extract_lets +onlyGivenNames x2
    have h1 : Keeps σ x2 := keeps_mk hs
    clear_value x2
    split
    · exact KeepsR.next (keeps_admitFlood h1)
    · split
      · exact KeepsR.next (KeepsQ.out (keeps_admitOne h1) ‹_›)
      · exact KeepsR.next (keeps_admitDrop (KeepsQ.out (keeps_admitOne h1) ‹_›))
theorem keeps_serveKid {node : Nat} {k : Kid} {deficit : Int} (hs : Keeps σ s) : KeepsP σ (s.serveKid node k deficit) :=
    KeepsP.mk (keeps_mk hs)
theorem keeps_roundRobin {node y0 : Nat} {y1 : List Kid} (hs : Keeps σ s) : KeepsOP σ (s.roundRobin node y0 y1) := by
  revert hs
  fun_induction State.roundRobin s node y0 y1 with
  | case1 => exact fun _ => KeepsOP.none
  | case2 => exact fun _ => KeepsOP.none
  | case3 => exact fun h => fun _ e => Option.some.inj e ▸ keeps_serveKid h
  | case4 _ _ _ _ _ _ _ ih => exact fun h => ih (keeps_mk h)
theorem keeps_pickKid {node : Nat} {kids : List Kid} (hs : Keeps σ s) : KeepsOP σ (s.pickKid node kids) := by
  unfold State.pickKid
  extract_lets +onlyGivenNames x1 x2 x3
  clear_value x1 x2 x3
  split
  · exact KeepsOP.some ((keeps_serveKid hs).proj)
  · exact keeps_roundRobin hs
theorem keeps_pickLow {qs : List Nat} {i : Nat} (hs : Keeps σ s) : KeepsOP σ (s.pickLow qs i) := keeps_pickKid hs
theorem keeps_pickNode {node : Nat} {kids : List Nat} {pick : State → Nat → Option (Kid × State)} (hs : Keeps σ s) (hpick : ∀
    (v0 : State) (v1 : Nat), Keeps σ v0 → KeepsOP σ (pick v0 v1)) :
    KeepsOP σ (s.pickNode node kids pick) := by
  unfold State.pickNode
  split
  · exact KeepsOP.none
  · exact hpick _ _ (KeepsOP.out (keeps_pickKid hs) ‹_›)
theorem keeps_descend {e : Nat} {qs : List Nat} (hs : Keeps σ s) : KeepsOP σ (s.descend e qs) := by
  unfold State.descend
  extract_lets +onlyGivenNames x1
  have h1 : ∀ v0 v1, Keeps σ v0 → KeepsOP σ (x1 v0 v1) := by
    intro v0 v1 hv0
    unfold x1
    exact keeps_pickLow hv0
  clear_value x1
  extract_lets +onlyGivenNames x2
  clear_value x2
  extract_lets +onlyGivenNames x3
  extract_lets +onlyGivenNames x4
  have h2 : ∀ v0 v1, Keeps σ v0 → KeepsOP σ (x4 v0 v1) := by
    intro v0 v1 hv0
    unfold x4
    exact keeps_pickNode hv0 (fun _ _ h2 => h1 _ _ h2)
  clear_value x4
  split
  · exact KeepsOP.some (KeepsOP.out (keeps_pickNode hs (fun _ _ h3 => h2 _ _ h3)) ‹_›)
  · exact KeepsOP.none
theorem keeps_selectHead {e q : Nat} (hs : Keeps σ s) : Keeps σ (s.selectHead e q) := by
  unfold State.selectHead
  split
  · exact hs
  · extract_lets +onlyGivenNames x1
    have h1 : Keeps σ x1 := keeps_foldl (fun _ _ h1 => keeps_charge h1) hs
    clear_value x1
    exact keeps_sendFrame (keeps_popHead h1)
theorem keeps_launchSends {e t len : Nat} (hs : Keeps σ s) : Keeps σ (s.launchSends e t len) := keeps_mk hs
theorem keeps_execEgressSelect {e : Fin 57} (hs : Keeps σ s) : KeepsR σ (execEgressSelect e s) := by
  unfold execEgressSelect
  extract_lets +onlyGivenNames x1
  have h1 : Keeps σ x1 := keeps_recheckHeads hs
  clear_value x1
  extract_lets +onlyGivenNames x2
  split
  · split
    · exact KeepsR.next h1
    · split
      · exact KeepsR.next h1
      · exact KeepsR.next (keeps_sendFrame (keeps_popHead h1))
  · split
    · exact KeepsR.next h1
    · split
      · exact KeepsR.next (keeps_launchSends (keeps_selectHead h1))
      · split
        · exact KeepsR.next (keeps_selectHead (KeepsOP.out (keeps_descend h1) ‹_›))
        · exact KeepsR.next h1
theorem keeps_execLaunchSelect {e : Fin 57} (hs : Keeps σ s) : KeepsR σ (execLaunchSelect e s) := by
  unfold execLaunchSelect
  split
  · exact KeepsR.next hs
  · split
    · exact KeepsR.next hs
    · extract_lets +onlyGivenNames x1
      clear_value x1
      extract_lets +onlyGivenNames x2
      have h1 : Keeps σ x2 := keeps_advanceTo hs
      clear_value x2
      extract_lets +onlyGivenNames x3
      clear_value x3
      split
      · exact KeepsR.next h1
      · split
        · exact KeepsR.next (keeps_dropQueued (keeps_inc (keeps_popHead h1)))
        · extract_lets +onlyGivenNames x4
          clear_value x4
          extract_lets +onlyGivenNames x5
          have h2 : Keeps σ x5 := keeps_incIf h1
          clear_value x5
          extract_lets +onlyGivenNames x6
          clear_value x6
          extract_lets +onlyGivenNames x7
          have h3 : Keeps σ x7 := keeps_foldl (fun _ _ h3 => keeps_charge h3) h2
          clear_value x7
          extract_lets +onlyGivenNames x8
          have h4 : Keeps σ x8 := keeps_sendFrame (keeps_popHead h3)
          clear_value x8
          exact KeepsR.next (keeps_launchSends h4)
theorem keeps_execShaperTick {x : Fin 88832} (hs : Keeps σ s) : KeepsR σ (execShaperTick x s) :=
    keepsR_ite (KeepsR.next hs) (KeepsR.next (keeps_checkTok (keeps_setTok hs)))
theorem keeps_shaperDone {fn : Fn} {op fill : Bool} {status : Nat} (hs : Keeps σ s) :
    Keeps σ (s.shaperDone fn op fill status) := keeps_incIf (keeps_setCs hs)
theorem keeps_execShaperWrite {fn : Fn} {fill : Bool} (hs : Keeps σ s) : KeepsR σ (execShaperWrite fn fill s) := by
  unfold execShaperWrite
  refine keeps_fnWrite hs ?_
  extract_lets +onlyGivenNames x1 x2 x3 x4 x5
  clear_value x1 x2 x3 x4 x5
  split
  · exact KeepsR.next (keeps_shaperDone hs)
  · extract_lets +onlyGivenNames x6
    clear_value x6
    extract_lets +onlyGivenNames x7
    have h1 : Keeps σ x7 := keeps_wr (keeps_wr hs)
    clear_value x7
    exact KeepsR.next (keeps_shaperDone (keeps_setTok h1))
theorem keeps_execShaperRead {go : ReadGo} (hs : Keeps σ s) : KeepsR σ (execShaperRead go s) := by
  unfold execShaperRead
  extract_lets +onlyGivenNames x1 x2
  clear_value x1 x2
  refine keeps_fnWrite hs ?_
  extract_lets +onlyGivenNames x3 x4
  clear_value x3 x4
  split
  · exact KeepsR.next (keeps_shaperDone hs)
  · extract_lets +onlyGivenNames x5
    clear_value x5
    extract_lets +onlyGivenNames x6
    have h1 : Keeps σ x6 := keeps_setCs (keeps_setCs hs)
    clear_value x6
    extract_lets +onlyGivenNames x7
    have h2 : Keeps σ x7 := keeps_setCs (keeps_setCs h1)
    clear_value x7
    exact KeepsR.next (keeps_shaperDone h2)
theorem keeps_execGateCommit {g : Fin 56} {v : Word} (hs : Keeps σ s) : KeepsR σ (execGateCommit g v s) := by
  unfold execGateCommit
  refine keeps_opWrite hs ?_
  extract_lets +onlyGivenNames x1
  clear_value x1
  split
  · exact KeepsR.next hs
  · extract_lets +onlyGivenNames x2
    have h1 : Keeps σ x2 := keeps_wr hs
    clear_value x2
    extract_lets +onlyGivenNames x3 x4
    clear_value x3 x4
    split
    · exact KeepsR.next (keeps_inc h1)
    · extract_lets +onlyGivenNames x5 x6 x7
      clear_value x5 x6 x7
      extract_lets +onlyGivenNames x8
      have h2 : Keeps σ x8 := keeps_setGate (keeps_setB h1)
      clear_value x8
      exact KeepsR.next (keeps_recheckHeads h2)
theorem keeps_execGateTakeover {g : Fin 56} (hs : Keeps σ s) : KeepsR σ (execGateTakeover g s) := by
  unfold execGateTakeover
  split
  · exact KeepsR.next hs
  · extract_lets +onlyGivenNames x1
    have h1 : Keeps σ x1 := keeps_advanceTo hs
    clear_value x1
    extract_lets +onlyGivenNames x2
    clear_value x2
    extract_lets +onlyGivenNames x3
    have h2 : Keeps σ x3 := keeps_foldl (fun _ _ h2 => keeps_wr (keeps_wr h2)) h1
    clear_value x3
    extract_lets +onlyGivenNames x4
    have h3 : Keeps σ x4 := keeps_setB (keeps_setB h2)
    clear_value x4
    exact KeepsR.next (keeps_recheckHeads (keeps_setGate h3))
theorem keeps_execGateEntryAdvance {g : Fin 56} (hs : Keeps σ s) : KeepsR σ (execGateEntryAdvance g s) := by
  unfold execGateEntryAdvance
  extract_lets +onlyGivenNames x1
  clear_value x1
  split
  · exact KeepsR.next hs
  · extract_lets +onlyGivenNames x2
    clear_value x2
    extract_lets +onlyGivenNames x3
    have h1 : Keeps σ x3 := keeps_advanceTo hs
    clear_value x3
    exact keepsR_ite (KeepsR.next (keeps_setGate h1)) (KeepsR.next (keeps_setGate h1))
theorem keeps_execQueueDisable {x : QNode} {v : Word} (hs : Keeps σ s) : KeepsR σ (execQueueDisable x v s) := by
  unfold execQueueDisable
  refine keeps_opWrite hs ?_
  split
  · exact KeepsR.next hs
  · extract_lets +onlyGivenNames x1
    have h1 : Keeps σ x1 := keeps_wr hs
    clear_value x1
    exact KeepsR.next (keeps_foldl (fun _ _ h2 => keeps_flushQueue h2) h1)
theorem keeps_execQueueDrained {x : QNode} (hs : Keeps σ s) : KeepsR σ (execQueueDrained x s) := by
  unfold execQueueDrained
  split
  · exact KeepsR.next hs
  · exact KeepsR.next (keeps_ite hs (keeps_setB hs))
theorem keeps_execQueueEnable {x : QNode} {v : Word} (hs : Keeps σ s) : KeepsR σ (execQueueEnable x v s) := by
  unfold execQueueEnable
  refine keeps_opWrite hs ?_
  split
  · exact KeepsR.next hs
  · split
    · exact KeepsR.next (keeps_inc hs)
    · extract_lets +onlyGivenNames x1
      clear_value x1
      extract_lets +onlyGivenNames x2
      have h1 : Keeps σ x2 := by
        unfold x2
        split
        · exact keeps_ite (keeps_mk hs) hs
        · exact hs
      clear_value x2
      exact KeepsR.next (keeps_wr h1)
theorem keeps_execTmgGrpWrite {k : Fin 512} {v : Word} (hs : Keeps σ s) : KeepsR σ (execTmgGrpWrite k v s) :=
    keeps_opWrite hs (KeepsR.next (keeps_ite hs (keeps_wr hs)))
theorem keeps_execQueueSample {q : Fin 69632} (hs : Keeps σ s) : KeepsR σ (execQueueSample q s) := by
  unfold execQueueSample
  extract_lets +onlyGivenNames x1
  extract_lets +onlyGivenNames x2
  clear_value x2
  split
  · exact KeepsR.next hs
  · extract_lets +onlyGivenNames x3 x4
    clear_value x3 x4
    extract_lets +onlyGivenNames x5
    have h1 : Keeps σ x5 := keeps_setF (keeps_setF hs)
    clear_value x5
    extract_lets +onlyGivenNames x6
    have h2 : Keeps σ x6 := keeps_wr h1
    clear_value x6
    exact KeepsR.next (keeps_satField (keeps_satField h2))
theorem keeps_regate {g : Nat} (hs : Keeps σ s) : Keeps σ (s.regate g) := keeps_ite hs (keeps_setGate hs)
theorem keeps_retestHeads (hs : Keeps σ s) : Keeps σ s.retestHeads := keeps_foldl (fun _ _ h1 => keeps_settleHead h1) hs
theorem keeps_stepBins {old : Nat} (hs : Keeps σ s) : Keeps σ (s.stepBins old) := keeps_mk hs
theorem keeps_keepTimes {was : Clk} (hs : Keeps σ s) : Keeps σ (s.keepTimes was) := keeps_mk hs
theorem keeps_clockStepped {was : Clk} (hs : Keeps σ s) : Keeps σ (s.clockStepped was) := by
  unfold State.clockStepped
  extract_lets +onlyGivenNames x1
  have h1 : Keeps σ x1 := keeps_retestHeads (keeps_keepTimes (keeps_foldl (fun _ _ h1 => keeps_regate h1) hs))
  clear_value x1
  exact keeps_ite (keeps_stepBins h1) h1
theorem keeps_zeroKeys {fn : Fn} (hs : Keeps σ s) : Keeps σ (s.zeroKeys fn) := keeps_mk hs
theorem keeps_keyDone {fn : Fn} {op status : Nat} (hs : Keeps σ s) : Keeps σ (s.keyDone fn op status) :=
    keeps_incIf (keeps_zeroKeys (keeps_setCs hs))
theorem keeps_setSlot {t slot st : Nat} (hs : Keeps σ s) : Keeps σ (s.setSlot t slot st) :=
    keeps_ite (keeps_setF hs) (keeps_setF hs)
theorem keeps_execTkey {fn : Fn} (hs : Keeps σ s) : KeepsR σ (execTkey fn s) := by
  unfold execTkey
  refine keeps_fnWrite hs ?_
  extract_lets +onlyGivenNames x1
  clear_value x1
  split
  · exact KeepsR.next (keeps_keyDone hs)
  · extract_lets +onlyGivenNames x2 x3 x4
    clear_value x2 x3 x4
    extract_lets +onlyGivenNames x5
    have h1 : Keeps σ x5 := keeps_wr (keeps_setSlot hs)
    clear_value x5
    extract_lets +onlyGivenNames x6
    clear_value x6
    extract_lets +onlyGivenNames x7
    have h2 : Keeps σ x7 := keeps_mk h1
    clear_value x7
    exact KeepsR.next (keeps_keyDone h2)
theorem keeps_execTswitch {fn : Fn} (hs : Keeps σ s) : KeepsR σ (execTswitch fn s) := by
  unfold execTswitch
  refine keeps_fnWrite hs ?_
  extract_lets +onlyGivenNames x1 x2 x3 x4 x5 x6 x7
  clear_value x1 x2 x3 x4 x5 x6 x7
  split
  · exact KeepsR.next (keeps_keyDone hs)
  · extract_lets +onlyGivenNames x8
    have h1 : Keeps σ x8 := keeps_wr (keeps_setB hs)
    clear_value x8
    extract_lets +onlyGivenNames x9
    clear_value x9
    extract_lets +onlyGivenNames x10
    have h2 : Keeps σ x10 := keeps_mk h1
    clear_value x10
    exact KeepsR.next (keeps_keyDone h2)
theorem keeps_execTclear {fn : Fn} (hs : Keeps σ s) : KeepsR σ (execTclear fn s) := by
  unfold execTclear
  refine keeps_fnWrite hs ?_
  extract_lets +onlyGivenNames x1
  clear_value x1
  split
  · exact KeepsR.next (keeps_keyDone hs)
  · extract_lets +onlyGivenNames x2 x3
    clear_value x2 x3
    extract_lets +onlyGivenNames x4
    have h1 : Keeps σ x4 := keeps_wr (keeps_setSlot hs)
    clear_value x4
    extract_lets +onlyGivenNames x5
    clear_value x5
    extract_lets +onlyGivenNames x6
    have h2 : Keeps σ x6 := keeps_mk h1
    clear_value x6
    exact KeepsR.next (keeps_keyDone h2)
theorem keeps_execSakey {fn : Fn} (hs : Keeps σ s) : KeepsR σ (execSakey fn s) := by
  unfold execSakey
  refine keeps_fnWrite hs ?_
  extract_lets +onlyGivenNames x1 x2 x3 x4
  clear_value x1 x2 x3 x4
  split
  · exact KeepsR.next (keeps_keyDone hs)
  · extract_lets +onlyGivenNames x5 x6
    clear_value x5 x6
    extract_lets +onlyGivenNames x7
    have h1 : Keeps σ x7 := keeps_setPn (keeps_wr hs)
    clear_value x7
    extract_lets +onlyGivenNames x8
    clear_value x8
    extract_lets +onlyGivenNames x9
    have h2 : Keeps σ x9 := keeps_mk h1
    clear_value x9
    exact KeepsR.next (keeps_keyDone h2)
theorem keeps_execSaena {fn : Fn} (hs : Keeps σ s) : KeepsR σ (execSaena fn s) := by
  unfold execSaena
  refine keeps_fnWrite hs ?_
  extract_lets +onlyGivenNames x1 x2 x3
  clear_value x1 x2 x3
  split
  · exact KeepsR.next (keeps_keyDone hs)
  · extract_lets +onlyGivenNames x4
    clear_value x4
    extract_lets +onlyGivenNames x5
    have h1 : Keeps σ x5 := keeps_setB hs
    clear_value x5
    extract_lets +onlyGivenNames x6
    have h2 : Keeps σ x6 := keeps_ite (keeps_cryEvent h1) h1
    clear_value x6
    exact KeepsR.next (keeps_keyDone h2)
theorem keeps_execSadis {fn : Fn} (hs : Keeps σ s) : KeepsR σ (execSadis fn s) :=
    keeps_fnWrite hs (keepsR_ite (KeepsR.next (keeps_keyDone hs)) (keepsR_ite (KeepsR.next (keeps_keyDone (keeps_setB hs))) (KeepsR.next (keeps_keyDone (keeps_mk hs)))))
theorem keeps_execSaDone {a : Fin 1024} (hs : Keeps σ s) : KeepsR σ (execSaDone a s) := by
  unfold execSaDone
  split
  · extract_lets +onlyGivenNames x1
    clear_value x1
    extract_lets +onlyGivenNames x2
    have h1 : Keeps σ x2 := keeps_mk hs
    clear_value x2
    extract_lets +onlyGivenNames x3
    have h2 : Keeps σ x3 := keeps_wr (keeps_setB h1)
    clear_value x3
    exact KeepsR.next (keeps_cryEvent h2)
  · exact KeepsR.next hs
theorem keeps_execGscWrite {k : Fin 512} {v : Word} (hs : Keeps σ s) : KeepsR σ (execGscWrite k v s) :=
    keeps_opWrite hs (KeepsR.next (keeps_ite (keeps_inc hs) (keeps_wr hs)))
theorem keeps_execTxscAnWrite {c : Fin 256} {v : Word} (hs : Keeps σ s) : KeepsR σ (execTxscAnWrite c v s) :=
    keeps_opWrite hs (KeepsR.next (keeps_ite (keeps_wr hs) (keeps_inc hs)))
theorem keeps_advanceSfc (hs : Keeps σ s) : Keeps σ s.advanceSfc := by
  unfold State.advanceSfc
  extract_lets +onlyGivenNames x1
  clear_value x1
  extract_lets +onlyGivenNames x2
  have h1 : Keeps σ x2 := keeps_setF (keeps_wr hs)
  clear_value x2
  split
  · extract_lets +onlyGivenNames x3
    have h2 : Keeps σ x3 := keeps_setB h1
    clear_value x3
    exact keeps_mk h2
  · exact h1
theorem keeps_switchKey {t slot at_ : Nat} (hs : Keeps σ s) : Keeps σ (s.switchKey t slot at_) := by
  unfold State.switchKey
  extract_lets +onlyGivenNames x1
  clear_value x1
  extract_lets +onlyGivenNames x2
  have h1 : Keeps σ x2 := keeps_ite (keeps_setSlot hs) hs
  clear_value x2
  extract_lets +onlyGivenNames x3
  have h2 : Keeps σ x3 := keeps_setF (keeps_setSlot h1)
  clear_value x3
  extract_lets +onlyGivenNames x4
  have h3 : Keeps σ x4 := keeps_wr (keeps_setB h2)
  clear_value x4
  exact keeps_cryEvent (keeps_mk h3)
theorem keeps_switchKeys (hs : Keeps σ s) : Keeps σ s.switchKeys := keeps_foldl (fun _ _ h1 => keeps_switchKey h1) hs
theorem keeps_frameTick (hs : Keeps σ s) : Keeps σ s.frameTick := by
  unfold State.frameTick
  extract_lets +onlyGivenNames x1
  have h1 : Keeps σ x1 := keeps_ite (keeps_advanceSfc hs) hs
  clear_value x1
  extract_lets +onlyGivenNames x2
  have h2 : Keeps σ x2 := keeps_ite (keeps_foldl (fun _ _ h2 => keeps_openPage h2) h1) h1
  clear_value x2
  extract_lets +onlyGivenNames x3
  have h3 : Keeps σ x3 := keeps_ite (keeps_tceTick h2) h2
  clear_value x3
  extract_lets +onlyGivenNames x4
  have h4 : Keeps σ x4 := keeps_ite (keeps_switchKeys h3) h3
  clear_value x4
  exact keeps_ite (keeps_foldl (fun _ _ h5 => keeps_engTick h5) h4) h4
theorem keeps_useSlice {group blk lane : Nat} (hs : Keeps σ s) : KeepsP σ (s.useSlice group blk lane) := by
  unfold State.useSlice
  split
  · exact KeepsP.mk (keeps_raise hs)
  · extract_lets +onlyGivenNames x1
    clear_value x1
    extract_lets +onlyGivenNames x2
    have h1 : Keeps σ x2 := keeps_mk hs
    clear_value x2
    exact KeepsP.mk (keeps_raise (keeps_repairDone h1))
theorem keeps_settleQuads (hs : Keeps σ s) : Keeps σ s.settleQuads := keeps_foldl (fun _ _ h1 => keeps_setB h1) hs
theorem keeps_setUpState {u st : Nat} (hs : Keeps σ s) : Keeps σ (s.setUpState u st) := by
  unfold State.setUpState
  extract_lets +onlyGivenNames x1
  clear_value x1
  extract_lets +onlyGivenNames x2
  have h1 : Keeps σ x2 := keeps_ite (keeps_mk hs) hs
  clear_value x2
  exact keeps_setF h1
theorem keeps_reselect {g : Nat} (hs : Keeps σ s) : Keeps σ (s.reselect g) := by
  unfold State.reselect
  extract_lets +onlyGivenNames x1
  exact keeps_ite hs (keeps_ite (keeps_mk hs) (keeps_ite (keeps_ite (keeps_setB hs) hs) (keeps_ite (keeps_setB hs) hs)))
theorem keeps_memberLeft {m : Nat} (hs : Keeps σ s) : Keeps σ (s.memberLeft m) :=
    keeps_foldl (fun _ _ h1 => keeps_ite (keeps_reselect h1) h1) hs
theorem keeps_portDown {u lost : Nat} (hs : Keeps σ s) : Keeps σ (s.portDown u lost) := by
  unfold State.portDown
  extract_lets +onlyGivenNames x1
  have h1 : Keeps σ x1 := keeps_setUpState (keeps_setF hs)
  clear_value x1
  extract_lets +onlyGivenNames x2
  have h2 : Keeps σ x2 := keeps_raise (keeps_inc (keeps_inc h1))
  clear_value x2
  extract_lets +onlyGivenNames x3
  clear_value x3
  extract_lets +onlyGivenNames x4
  have h3 : Keeps σ x4 := keeps_mk h2
  clear_value x4
  exact keeps_memberLeft h3
theorem keeps_setMlane {l : Nat} {x : MateLane} (hs : Keeps σ s) : Keeps σ (s.setMlane l x) := keeps_mk hs
theorem keeps_cutMate (hs : Keeps σ s) : Keeps σ s.cutMate := keeps_foldl (fun _ _ h1 => keeps_incIf (keeps_setMlane h1)) hs
theorem keeps_mateLeft {st : Nat} (hs : Keeps σ s) : Keeps σ (s.mateLeft st) := by
  unfold State.mateLeft
  extract_lets +onlyGivenNames x1
  clear_value x1
  extract_lets +onlyGivenNames x2
  have h1 : Keeps σ x2 := keeps_cutMate (keeps_setF (keeps_setF hs))
  clear_value x2
  extract_lets +onlyGivenNames x3
  clear_value x3
  extract_lets +onlyGivenNames x4
  have h2 : Keeps σ x4 := keeps_mk h1
  clear_value x4
  exact keeps_ite (keeps_memberLeft (keeps_setB h2)) h2
theorem keeps_mateDown (hs : Keeps σ s) : Keeps σ s.mateDown := keeps_ite hs (keeps_raise (keeps_mateLeft hs))
theorem keeps_narrow {mask : Nat} (hs : Keeps σ s) : Keeps σ (s.narrow mask) := by
  unfold State.narrow
  extract_lets +onlyGivenNames x1 x2
  clear_value x1 x2
  extract_lets +onlyGivenNames x3
  have h1 : Keeps σ x3 := keeps_setF hs
  clear_value x3
  extract_lets +onlyGivenNames x4 x5
  clear_value x4 x5
  split
  · exact h1
  · extract_lets +onlyGivenNames x6
    have h2 : ∀ v0 v1, Keeps σ v0 → Keeps σ (x6 v0 v1) := by
      intro v0 v1 hv0
      unfold x6
      exact keeps_mk hv0
    clear_value x6
    extract_lets +onlyGivenNames x7
    have h3 : Keeps σ x7 := keeps_cutMate (keeps_raise (keeps_inc h1))
    clear_value x7
    split
    · exact h2 _ _ (keeps_mateDown h3)
    · exact h2 _ _ (keeps_mk h3)
theorem keeps_sendWidth {lanes : List Nat} {len mask own : Nat} (hs : Keeps σ s) :
    Keeps σ (s.sendWidth lanes len mask own) := keeps_foldl (fun _ _ h1 => keeps_transmit h1) hs
theorem keeps_dropLane {l : Nat} (hs : Keeps σ s) : Keeps σ (s.dropLane l) := by
  unfold State.dropLane
  extract_lets +onlyGivenNames x1
  clear_value x1
  extract_lets +onlyGivenNames x2
  have h1 : Keeps σ x2 := keeps_setB (keeps_setB (keeps_setB hs))
  clear_value x2
  exact keeps_ite (keeps_narrow (keeps_sendWidth h1)) h1
theorem keeps_setPst {n st : Nat} (hs : Keeps σ s) : Keeps σ (s.setPst n st) := keeps_tell (keeps_setF hs)
theorem keeps_setGap {n : Nat} {b : Bool} (hs : Keeps σ s) : Keeps σ (s.setGap n b) := keeps_setB hs
theorem keeps_mirror1 {n l : Nat} (hs : Keeps σ s) : Keeps σ (s.mirror1 n l) := keeps_ite (keeps_sendControl hs) (keeps_mk hs)
theorem keeps_mirrorAll {n : Nat} (hs : Keeps σ s) : Keeps σ (s.mirrorAll n) := keeps_foldl (fun _ _ h1 => keeps_mirror1 h1) hs
theorem keeps_activate {n l : Nat} (hs : Keeps σ s) : Keeps σ (s.activate n l) := by
  unfold State.activate
  extract_lets +onlyGivenNames x1
  clear_value x1
  extract_lets +onlyGivenNames x2
  have h1 : Keeps σ x2 := keeps_wr (keeps_wr hs)
  clear_value x2
  extract_lets +onlyGivenNames x3
  have h2 : Keeps σ x3 := keeps_wr (keeps_setEqd h1)
  clear_value x3
  extract_lets +onlyGivenNames x4
  have h3 : Keeps σ x4 := keeps_wr h2
  clear_value x4
  extract_lets +onlyGivenNames x5
  have h4 : Keeps σ x5 := keeps_setB (keeps_setF h3)
  clear_value x5
  extract_lets +onlyGivenNames x6
  clear_value x6
  extract_lets +onlyGivenNames x7
  have h5 : Keeps σ x7 := keeps_setTerm h4
  clear_value x7
  extract_lets +onlyGivenNames x8
  have h6 : Keeps σ x8 := keeps_setTermSt h5
  clear_value x8
  extract_lets +onlyGivenNames x9
  have h7 : Keeps σ x9 := keeps_tellExpect h6
  clear_value x9
  exact keeps_ite (keeps_publish h7) h7
theorem keeps_voidPages {n : Nat} (hs : Keeps σ s) : Keeps σ (s.voidPages n) := keeps_foldl (fun _ _ h1 => keeps_setPage h1) hs
theorem keeps_setAway {n : Nat} {b : Bool} (hs : Keeps σ s) : Keeps σ (s.setAway n b) := keeps_mk hs
theorem keeps_startTaking {n src cause : Nat} (hs : Keeps σ s) : Keeps σ (s.startTaking n src cause) := by
  unfold State.startTaking
  extract_lets +onlyGivenNames x1
  have h1 : Keeps σ x1 := keeps_setF (keeps_setGap (keeps_setPst (keeps_setAway hs)))
  clear_value x1
  extract_lets +onlyGivenNames x2
  have h2 : Keeps σ x2 := keeps_foldl (fun _ _ h2 => keeps_activate h2) h1
  clear_value x2
  extract_lets +onlyGivenNames x3
  have h3 : Keeps σ x3 := keeps_voidPages (keeps_invalidateAll h2)
  clear_value x3
  extract_lets +onlyGivenNames x4
  clear_value x4
  extract_lets +onlyGivenNames x5
  have h4 : Keeps σ x5 := keeps_setB (keeps_setF (keeps_setF h3))
  clear_value x5
  extract_lets +onlyGivenNames x6
  clear_value x6
  extract_lets +onlyGivenNames x7
  have h5 : Keeps σ x7 := keeps_setDport h4
  clear_value x7
  extract_lets +onlyGivenNames x8
  clear_value x8
  extract_lets +onlyGivenNames x9
  have h6 : Keeps σ x9 := keeps_mk h5
  clear_value x9
  extract_lets +onlyGivenNames x10
  have h7 : Keeps σ x10 := keeps_ite (keeps_outHoldSet h6) h6
  clear_value x10
  exact keeps_raise (keeps_inc h7)
theorem keeps_moveQueues {n p : Nat} (hs : Keeps σ s) : Keeps σ (s.moveQueues n p) := by
  unfold State.moveQueues
  refine keeps_foldl (fun _ _ h1 => ?_) ?_
  · extract_lets +onlyGivenNames x1 x2 x3
    clear_value x1 x2 x3
    split
    · exact h1
    · extract_lets +onlyGivenNames x4
      have h2 : Keeps σ x4 := keeps_foldl (fun _ _ h2 => keeps_setOwner (keeps_depth (keeps_depth h2))) (keeps_setQueue h1)
      clear_value x4
      extract_lets +onlyGivenNames x5
      have h3 : Keeps σ x5 := keeps_setQueue (keeps_clearDrained h2)
      clear_value x5
      exact keeps_incN (keeps_settleHead h3)
  · exact hs
theorem keeps_toStandby {n : Nat} (hs : Keeps σ s) : Keeps σ (s.toStandby n) := by
  unfold State.toStandby
  extract_lets +onlyGivenNames x1
  clear_value x1
  extract_lets +onlyGivenNames x2
  have h1 : Keeps σ x2 := by
    unfold x2
    refine keeps_foldl (fun _ _ h1 => ?_) ?_
    · split
      · exact h1
      · extract_lets +onlyGivenNames x3 x4 x5
        clear_value x3 x4 x5
        extract_lets +onlyGivenNames x6
        have h2 : Keeps σ x6 := keeps_mk h1
        clear_value x6
        extract_lets +onlyGivenNames x7
        have h3 : Keeps σ x7 := keeps_setB (keeps_setF h2)
        clear_value x7
        exact keeps_tellExpect (keeps_dropRanging (keeps_setTerm (keeps_setTermSt h3)))
    · exact hs
  clear_value x2
  extract_lets +onlyGivenNames x3
  clear_value x3
  extract_lets +onlyGivenNames x4
  have h2 : Keeps σ x4 := keeps_mk h1
  clear_value x4
  exact keeps_txenSettle (keeps_setPst h2)
theorem keeps_switchLocal {n cause : Nat} (hs : Keeps σ s) : Keeps σ (s.switchLocal n cause) := by
  unfold State.switchLocal
  extract_lets +onlyGivenNames x1 x2
  clear_value x1 x2
  extract_lets +onlyGivenNames x3
  have h1 : Keeps σ x3 := keeps_inc (keeps_setF (keeps_setGap hs))
  clear_value x3
  extract_lets +onlyGivenNames x4
  clear_value x4
  extract_lets +onlyGivenNames x5
  have h2 : Keeps σ x5 := keeps_mk h1
  clear_value x5
  exact keeps_moveQueues (keeps_startTaking h2)
theorem keeps_switchMate {n cause : Nat} (hs : Keeps σ s) : Keeps σ (s.switchMate n cause) := by
  unfold State.switchMate
  extract_lets +onlyGivenNames x1 x2 x3
  clear_value x1 x2 x3
  extract_lets +onlyGivenNames x4
  have h1 : Keeps σ x4 := keeps_raise (keeps_inc (keeps_setF (keeps_setGap (keeps_setAway hs))))
  clear_value x4
  extract_lets +onlyGivenNames x5
  have h2 : Keeps σ x5 := keeps_sendControl h1
  clear_value x5
  exact keeps_ite (keeps_mk h2) (keeps_sendControl (keeps_toStandby h2))
theorem keeps_causeDetected {n cause : Nat} (hs : Keeps σ s) : Keeps σ (s.causeDetected n cause) :=
    keeps_ite (keeps_mk hs) (keeps_ite hs (keeps_ite (keeps_raise (keeps_setB hs)) (keeps_ite (keeps_switchMate hs) (keeps_switchLocal hs))))
theorem keeps_evalWaiting {k n : Nat} (hs : Keeps σ s) : Keeps σ (s.evalWaiting k n) := by
  unfold State.evalWaiting
  split
  · exact hs
  · exact keeps_causeDetected (keeps_mk hs)
theorem keeps_reselectAll (hs : Keeps σ s) : Keeps σ s.reselectAll :=
    keeps_ite hs (keeps_foldl (fun _ _ h1 => keeps_reselect h1) (keeps_mk hs))
theorem keeps_takingDone {n : Nat} (hs : Keeps σ s) : Keeps σ (s.takingDone n) := by
  unfold State.takingDone
  split
  · exact hs
  · extract_lets +onlyGivenNames x1 x2
    clear_value x1 x2
    extract_lets +onlyGivenNames x3
    have h1 : Keeps σ x3 := keeps_setGap (keeps_setPst hs)
    clear_value x3
    extract_lets +onlyGivenNames x4
    have h2 : Keeps σ x4 := keeps_ite (keeps_setGap h1) h1
    clear_value x4
    extract_lets +onlyGivenNames x5
    clear_value x5
    extract_lets +onlyGivenNames x6
    have h3 : Keeps σ x6 := keeps_mk h2
    clear_value x6
    extract_lets +onlyGivenNames x7
    have h4 : Keeps σ x7 := keeps_ite (keeps_outHoldClear h3) h3
    clear_value x7
    extract_lets +onlyGivenNames x8
    have h5 : Keeps σ x8 := keeps_evalWaiting (keeps_reselectAll h4)
    clear_value x8
    exact keeps_ite (keeps_evalWaiting h5) h5
theorem keeps_sendMap {n : Nat} {m : List Word64} (hs : Keeps σ s) : Keeps σ (s.sendMap n m) :=
    keeps_ite (keeps_foldl (fun _ _ h1 => keeps_sendControl h1) hs) hs
theorem keeps_mateDarken {run : Bool} (hs : Keeps σ s) : Keeps σ (s.mateDarken run) :=
    keeps_ite (keeps_foldl (fun _ _ h1 => keeps_ite (keeps_toStandby h1) h1) hs) hs
theorem keeps_execProtEnable {n : Fin 32} {v : Word} (hs : Keeps σ s) : KeepsR σ (execProtEnable n v s) := by
  unfold execProtEnable
  refine keeps_opWrite hs ?_
  split
  · exact KeepsR.next hs
  · extract_lets +onlyGivenNames x1 x2
    clear_value x1 x2
    split
    · exact KeepsR.next (keeps_tpaRefused hs)
    · extract_lets +onlyGivenNames x3
      clear_value x3
      extract_lets +onlyGivenNames x4
      have h1 : Keeps σ x4 := keeps_tell (keeps_wr hs)
      clear_value x4
      extract_lets +onlyGivenNames x5
      clear_value x5
      extract_lets +onlyGivenNames x6
      have h2 : Keeps σ x6 := keeps_ite h1 (keeps_seeLight (keeps_setPst (keeps_setAway h1)))
      clear_value x6
      extract_lets +onlyGivenNames x7
      have h3 : Keeps σ x7 := keeps_setB h2
      clear_value x7
      exact KeepsR.next (keeps_ite (keeps_mirrorAll h3) (keeps_ite (keeps_mirrorAll h3) h3))
theorem keeps_execProtForce {n : Fin 32} (hs : Keeps σ s) : KeepsR σ (execProtForce n s) := by
  unfold execProtForce
  refine keeps_opWrite hs ?_
  extract_lets +onlyGivenNames x1
  have h1 : Keeps σ x1 := keeps_setF hs
  clear_value x1
  exact keepsR_ite (KeepsR.next h1) (keepsR_ite (KeepsR.next (keeps_ite h1 (keeps_causeDetected h1))) (KeepsR.next
      (keeps_causeDetected h1)))
theorem keeps_execProtLockout {n : Fin 32} (hs : Keeps σ s) : KeepsR σ (execProtLockout n s) := by
  unfold execProtLockout
  refine keeps_opWrite hs ?_
  extract_lets +onlyGivenNames x1
  have h1 : Keeps σ x1 := keeps_setF hs
  clear_value x1
  exact KeepsR.next (keeps_ite (keeps_setB h1) h1)
theorem keeps_execProtClear {n : Fin 32} (hs : Keeps σ s) : KeepsR σ (execProtClear n s) :=
    keeps_opWrite hs (KeepsR.next (keeps_setB (keeps_setF hs)))
theorem keeps_execSilentDetect {n : Fin 32} (hs : Keeps σ s) : KeepsR σ (execSilentDetect n s) :=
    keepsR_ite (KeepsR.next (keeps_causeDetected (keeps_mk hs))) (KeepsR.next hs)
theorem keeps_execMateTimeout {n : Fin 32} (hs : Keeps σ s) : KeepsR σ (execMateTimeout n s) := by
  unfold execMateTimeout
  split
  · exact KeepsR.next hs
  · extract_lets +onlyGivenNames x1
    clear_value x1
    extract_lets +onlyGivenNames x2
    have h1 : Keeps σ x2 := keeps_mk hs
    clear_value x2
    exact KeepsR.next (keeps_startTaking h1)
theorem keeps_takeControl {sub : Byte} (hs : Keeps σ s) : KeepsOP σ (s.takeControl sub) := by
  unfold State.takeControl
  split
  · exact KeepsOP.none
  · exact KeepsOP.some (keeps_mk hs)
theorem keeps_execSwitchReceive (hs : Keeps σ s) : KeepsR σ (execSwitchReceive s) := by
  unfold execSwitchReceive
  split
  · exact KeepsR.next hs
  · extract_lets +onlyGivenNames x1
    clear_value x1
    split
    · exact KeepsR.next (KeepsOP.out (keeps_takeControl hs) ‹_›)
    · extract_lets +onlyGivenNames x2 x3
      clear_value x2 x3
      extract_lets +onlyGivenNames x4
      have h1 : Keeps σ x4 := keeps_ite (keeps_mk (KeepsOP.out (keeps_takeControl hs) ‹_›)) (KeepsOP.out (keeps_takeControl hs)
          ‹_›)
      clear_value x4
      exact KeepsR.next (keeps_startTaking h1)
theorem keeps_lightUp {n : Nat} (hs : Keeps σ s) : Keeps σ (s.lightUp n) := keeps_seeLight (keeps_mk hs)
theorem keeps_execDarkReceive (hs : Keeps σ s) : KeepsR σ (execDarkReceive s) := by
  unfold execDarkReceive
  split
  · exact KeepsR.next hs
  · exact KeepsR.next (keeps_ite (keeps_lightUp (KeepsOP.out (keeps_takeControl hs) ‹_›)) (KeepsOP.out (keeps_takeControl hs)
        ‹_›))
theorem keeps_execTakingLight {n : Fin 32} (hs : Keeps σ s) : KeepsR σ (execTakingLight n s) := by
  unfold execTakingLight
  split
  · exact KeepsR.next hs
  · extract_lets +onlyGivenNames x1
    have h1 : Keeps σ x1 := keeps_advanceTo hs
    clear_value x1
    exact KeepsR.next (keeps_ite (keeps_lightUp h1) h1)
theorem keeps_execReleasingDark {n : Fin 32} (hs : Keeps σ s) : KeepsR σ (execReleasingDark n s) := by
  unfold execReleasingDark
  split
  · exact KeepsR.next hs
  · exact KeepsR.next (keeps_toStandby (keeps_advanceTo hs))
theorem keeps_execStateBlockSend (hs : Keeps σ s) : KeepsR σ (execStateBlockSend s) :=
    KeepsR.next (keeps_ite hs (keeps_sendControl hs))
theorem keeps_stateMember {n : Nat} (hs : Keeps σ s) : Keeps σ (s.stateMember n) := by
  unfold State.stateMember
  split
  · exact hs
  · extract_lets +onlyGivenNames x1 x2
    clear_value x1 x2
    extract_lets +onlyGivenNames x3
    have h1 : Keeps σ x3 := keeps_ite (keeps_toStandby hs) hs
    clear_value x3
    exact keeps_ite (keeps_setGap (keeps_mk h1)) h1
theorem keeps_execStateBlockReceive (hs : Keeps σ s) : KeepsR σ (execStateBlockReceive s) := by
  unfold execStateBlockReceive
  extract_lets +onlyGivenNames x1
  clear_value x1
  split
  · exact KeepsR.next hs
  · extract_lets +onlyGivenNames x2 x3
    clear_value x2 x3
    extract_lets +onlyGivenNames x4
    have h1 : Keeps σ x4 := keeps_mk (KeepsOP.out (keeps_takeControl hs) ‹_›)
    clear_value x4
    extract_lets +onlyGivenNames x5
    have h2 : Keeps σ x5 := by
      unfold x5
      refine keeps_foldl (fun _ _ h2 => ?_) ?_
      · split
        · extract_lets +onlyGivenNames x6
          have h3 : Keeps σ x6 := keeps_setB h2
          clear_value x6
          exact keeps_ite (keeps_setAway h3) h3
        · exact h2
      · exact h1
    clear_value x5
    extract_lets +onlyGivenNames x6
    have h3 : Keeps σ x6 := keeps_foldl (fun _ _ h3 => keeps_stateMember h3) h2
    clear_value x6
    exact KeepsR.next (keeps_reselectAll h3)
theorem keeps_execMirror {n : Fin 32} {l : Fin 512} (hs : Keeps σ s) : KeepsR σ (execMirror n l s) :=
    KeepsR.next (keeps_ite (keeps_mirror1 hs) hs)
theorem keeps_execMirrorReceive (hs : Keeps σ s) : KeepsR σ (execMirrorReceive s) := by
  unfold execMirrorReceive
  split
  · exact KeepsR.next hs
  · exact KeepsR.next (keeps_ite (keeps_mk (KeepsOP.out (keeps_takeControl hs) ‹_›)) (KeepsOP.out (keeps_takeControl hs) ‹_›))
theorem keeps_execMapBlockReceive (hs : Keeps σ s) : KeepsR σ (execMapBlockReceive s) := by
  unfold execMapBlockReceive
  split
  · exact KeepsR.next hs
  · exact keepsR_ite (KeepsR.next (KeepsOP.out (keeps_takeControl hs) ‹_›)) (keepsR_ite (KeepsR.next (KeepsOP.out
        (keeps_takeControl hs) ‹_›)) (keepsR_ite (KeepsR.next (keeps_mk (KeepsOP.out (keeps_takeControl hs) ‹_›))) (KeepsR.next
        (keeps_mk (KeepsOP.out (keeps_takeControl hs) ‹_›)))))
theorem keeps_execTeqWrite {n : Fin 32} {v : Word} (hs : Keeps σ s) : KeepsR σ (execTeqWrite n v s) :=
    keeps_opWrite hs (KeepsR.next (keeps_ite (keeps_wr hs) (keeps_inc hs)))
theorem keeps_execRngDiscWrite {n : Fin 32} {v : Word} (hs : Keeps σ s) : KeepsR σ (execRngDiscWrite n v s) :=
    keeps_opWrite hs (KeepsR.next (keeps_ite (keeps_setB (keeps_wr hs)) (keeps_setB (keeps_inc hs))))
theorem keeps_execRngTrackWrite {n : Fin 32} {v : Word} (hs : Keeps σ s) : KeepsR σ (execRngTrackWrite n v s) :=
    keeps_opWrite hs (KeepsR.next (keeps_ite (keeps_wr hs) (keeps_inc hs)))
theorem keeps_execDiscRequest {n : Fin 32} (hs : Keeps σ s) : KeepsR σ (execDiscRequest n s) :=
    KeepsR.next (keeps_ite (keeps_setGport hs) hs)
theorem keeps_discCws {n cws unc : Nat} (hs : Keeps σ s) : Keeps σ (s.discCws n cws unc) :=
    keeps_ite (keeps_incN (keeps_add64 hs)) hs
theorem keeps_execSnResponse {n : Fin 32} {frame : BitVec 51} {k : Fin 512} {got : SnBurst} {sn : Word64} {rnd : BitVec 16}
    {delim : Int} {phase : Fin 64} (hs : Keeps σ s) :
    KeepsR σ (execSnResponse n frame k got sn rnd delim phase s) := by
  unfold execSnResponse
  split
  · exact KeepsR.next hs
  · split
    · exact KeepsR.next hs
    · extract_lets +onlyGivenNames x1
      clear_value x1
      extract_lets +onlyGivenNames x2
      have h1 : Keeps σ x2 := keeps_discCws hs
      clear_value x2
      extract_lets +onlyGivenNames x3
      clear_value x3
      extract_lets +onlyGivenNames x4
      have h2 : Keeps σ x4 := keeps_incIf (keeps_incIf h1)
      clear_value x4
      exact KeepsR.next (keeps_ite (keeps_cross h2) (keeps_ite (keeps_inc h2) (keeps_cross h2)))
theorem keeps_serialSeen {n : Nat} {x : Option SnReport} (hs : Keeps σ s) : Keeps σ (s.serialSeen n x) := by
  unfold State.serialSeen
  split
  · exact keeps_inc hs
  · extract_lets +onlyGivenNames x1
    have h1 : Keeps σ x1 := keeps_rngSees hs
    clear_value x1
    extract_lets +onlyGivenNames x2
    clear_value x2
    split
    · exact keeps_raise (keeps_rngEvent (keeps_inc hs))
    · split
      · exact keeps_raise (keeps_rngEvent (keeps_inc hs))
      · split
        · exact keeps_assignIdx (keeps_inc hs)
        · exact keeps_inc hs
        · split
          · exact keeps_inc hs
          · extract_lets +onlyGivenNames x3
            have h2 : Keeps σ x3 := keeps_wr (keeps_wr hs)
            clear_value x3
            extract_lets +onlyGivenNames x4
            clear_value x4
            extract_lets +onlyGivenNames x5
            have h3 : Keeps σ x5 := keeps_setRport h2
            clear_value x5
            exact keeps_rngEvent (keeps_inc (keeps_setB h3))
theorem keeps_emptyPend {n : Nat} (hs : Keeps σ s) : Keeps σ (s.emptyPend n) :=
    keeps_setRport (keeps_setB (keeps_wr (keeps_wr hs)))
theorem keeps_execAssignTimeout {n : Fin 32} (hs : Keeps σ s) : KeepsR σ (execAssignTimeout n s) :=
    KeepsR.next (keeps_ite (keeps_inc (keeps_emptyPend hs)) hs)
theorem keeps_rngCmd {n op l : Nat} (hs : Keeps σ s) : Keeps σ (s.rngCmd n op l) := keeps_wr hs
theorem keeps_rngRefused {n : Nat} (hs : Keeps σ s) : Keeps σ (s.rngRefused n) := keeps_inc hs
theorem keeps_execRngAssign {n : Fin 32} {l : Fin 512} (hs : Keeps σ s) : KeepsR σ (execRngAssign n l s) := by
  unfold execRngAssign
  refine keeps_opWrite hs ?_
  extract_lets +onlyGivenNames x1
  have h1 : Keeps σ x1 := keeps_rngCmd hs
  clear_value x1
  exact keepsR_ite (KeepsR.next (keeps_assignIdx (keeps_emptyPend h1))) (KeepsR.next (keeps_rngRefused h1))
theorem keeps_execRngReject {n : Fin 32} {l : Fin 512} (hs : Keeps σ s) : KeepsR σ (execRngReject n l s) := by
  unfold execRngReject
  refine keeps_opWrite hs ?_
  extract_lets +onlyGivenNames x1
  have h1 : Keeps σ x1 := keeps_rngCmd hs
  clear_value x1
  exact KeepsR.next (keeps_ite (keeps_emptyPend h1) (keeps_rngRefused h1))
theorem keeps_execRngRerange {n : Fin 32} {l : Fin 512} (hs : Keeps σ s) : KeepsR σ (execRngRerange n l s) := by
  unfold execRngRerange
  refine keeps_opWrite hs ?_
  extract_lets +onlyGivenNames x1
  have h1 : Keeps σ x1 := keeps_rngCmd hs
  clear_value x1
  exact KeepsR.next (keeps_ite (keeps_rerange h1) (keeps_rngRefused h1))
theorem keeps_execRngDeactivate {n : Fin 32} {l : Fin 512} (hs : Keeps σ s) : KeepsR σ (execRngDeactivate n l s) := by
  unfold execRngDeactivate
  refine keeps_opWrite hs ?_
  extract_lets +onlyGivenNames x1
  have h1 : Keeps σ x1 := keeps_rngCmd hs
  clear_value x1
  exact KeepsR.next (keeps_ite (keeps_rngRefused h1) (keeps_deactivate (keeps_tellInvalid h1)))
theorem keeps_execRngInvalidate {n : Fin 32} {l : Fin 512} (hs : Keeps σ s) : KeepsR σ (execRngInvalidate n l s) :=
    keeps_opWrite hs (KeepsR.next (keeps_tellInvalid (keeps_rngCmd hs)))
theorem keeps_execRangingRequest {n : Fin 32} {l : Fin 512} (hs : Keeps σ s) : KeepsR σ (execRangingRequest n l s) :=
    keepsR_ite (KeepsR.next (keeps_tellExpect (keeps_setGport (keeps_setTerm hs)))) (KeepsR.next hs)
theorem keeps_takeResult {n : Nat} {p : RngResult → Bool} (hs : Keeps σ s) : KeepsOP σ (s.takeResult n p) := by
  unfold State.takeResult
  extract_lets +onlyGivenNames x1 x2
  clear_value x1 x2
  split
  · exact KeepsOP.none
  · exact KeepsOP.some (keeps_setRport hs)
theorem keeps_execRangingBurst {n : Fin 32} (hs : Keeps σ s) : KeepsR σ (execRangingBurst n s) := by
  unfold execRangingBurst
  split
  · exact KeepsR.next hs
  · split
    · exact KeepsR.next (KeepsOP.out (keeps_takeResult hs) ‹_›)
    · extract_lets +onlyGivenNames x1
      clear_value x1
      extract_lets +onlyGivenNames x2
      have h1 : Keeps σ x2 := keeps_rngSees (KeepsOP.out (keeps_takeResult hs) ‹_›)
      clear_value x2
      extract_lets +onlyGivenNames x3 x4
      clear_value x3 x4
      extract_lets +onlyGivenNames x5
      have h2 : Keeps σ x5 := keeps_setTerm (KeepsOP.out (keeps_takeResult hs) ‹_›)
      clear_value x5
      split
      · exact KeepsR.next (keeps_deactivate (keeps_rngPlain (keeps_inc h2)))
      · extract_lets +onlyGivenNames x6
        have h3 : Keeps σ x6 := keeps_setF h2
        clear_value x6
        extract_lets +onlyGivenNames x7
        clear_value x7
        extract_lets +onlyGivenNames x8
        have h4 : Keeps σ x8 := keeps_setTerm h3
        clear_value x8
        exact KeepsR.next (keeps_sendEqd h4)
theorem keeps_execRangingAttemptFail {n : Fin 32} (hs : Keeps σ s) : KeepsR σ (execRangingAttemptFail n s) := by
  unfold execRangingAttemptFail
  split
  · exact KeepsR.next hs
  · split
    · exact KeepsR.next (KeepsOP.out (keeps_takeResult hs) ‹_›)
    · extract_lets +onlyGivenNames x1
      clear_value x1
      extract_lets +onlyGivenNames x2
      have h1 : Keeps σ x2 := keeps_setTerm (KeepsOP.out (keeps_takeResult hs) ‹_›)
      clear_value x2
      exact keepsR_ite (KeepsR.next (keeps_deactivate (keeps_rngPlain (keeps_inc h1)))) (KeepsR.next h1)
theorem keeps_confirmAdjust {n l : Nat} {d : Int} (hs : Keeps σ s) : Keeps σ (s.confirmAdjust n l d) := by
  unfold State.confirmAdjust
  extract_lets +onlyGivenNames x1
  clear_value x1
  extract_lets +onlyGivenNames x2
  have h1 : Keeps σ x2 := keeps_setOffF (keeps_setEqd hs)
  clear_value x2
  extract_lets +onlyGivenNames x3
  have h2 : Keeps σ x3 := keeps_setTerm (keeps_setB h1)
  clear_value x3
  extract_lets +onlyGivenNames x4
  have h3 : Keeps σ x4 := keeps_filterOff (keeps_tellExpect h2)
  clear_value x4
  exact keeps_publish (keeps_rngEvent h3)
theorem keeps_execOffsetTrack {n : Fin 32} (hs : Keeps σ s) : KeepsR σ (execOffsetTrack n s) := by
  unfold execOffsetTrack
  split
  · exact KeepsR.next hs
  · extract_lets +onlyGivenNames x1
    clear_value x1
    split
    · exact KeepsR.next (KeepsOP.out (keeps_takeResult hs) ‹_›)
    · extract_lets +onlyGivenNames x2
      clear_value x2
      extract_lets +onlyGivenNames x3
      have h1 : Keeps σ x3 := keeps_setF (KeepsOP.out (keeps_takeResult hs) ‹_›)
      clear_value x3
      extract_lets +onlyGivenNames x4
      clear_value x4
      extract_lets +onlyGivenNames x5
      have h2 : Keeps σ x5 := keeps_setTerm h1
      clear_value x5
      split
      · exact KeepsR.next (keeps_rerange h2)
      · extract_lets +onlyGivenNames x6
        have h3 : Keeps σ x6 := keeps_ite (keeps_publish (keeps_setTermSt h2)) (keeps_settleRec h2)
        clear_value x6
        exact keepsR_ite (keepsR_ite (KeepsR.next (keeps_confirmAdjust h3)) (KeepsR.next h3)) (KeepsR.next (keeps_filterOff h3))
theorem keeps_execPendTimeout {n : Fin 32} {l : Fin 512} (hs : Keeps σ s) : KeepsR σ (execPendTimeout n l s) :=
    keepsR_ite (KeepsR.next hs) (keepsR_ite (KeepsR.next (keeps_sendEqd (keeps_setTerm hs))) (keepsR_ite (KeepsR.next (keeps_rerange (keeps_rngPlain hs))) (KeepsR.next hs)))
theorem keeps_execLockFailReport {n : Fin 32} (hs : Keeps σ s) : KeepsR σ (execLockFailReport n s) := by
  unfold execLockFailReport
  split
  · exact KeepsR.next hs
  · extract_lets +onlyGivenNames x1
    clear_value x1
    split
    · exact KeepsR.next (KeepsOP.out (keeps_takeResult hs) ‹_›)
    · extract_lets +onlyGivenNames x2
      have h1 : Keeps σ x2 := keeps_satField (KeepsOP.out (keeps_takeResult hs) ‹_›)
      clear_value x2
      exact keepsR_ite (KeepsR.next (keeps_rngPlain (keeps_inc (keeps_setTermSt h1)))) (KeepsR.next h1)
theorem keeps_execLostTimeout {n : Fin 32} {l : Fin 512} (hs : Keeps σ s) : KeepsR σ (execLostTimeout n l s) :=
    KeepsR.next (keeps_ite (keeps_deactivate hs) hs)
theorem keeps_execRecordPublish {n : Fin 32} {l : Fin 512} (hs : Keeps σ s) : KeepsR σ (execRecordPublish n l s) :=
    KeepsR.next (keeps_ite (keeps_publish hs) hs)
theorem keeps_withBuf {f : Frm} {j ptr : Nat} (hs : Keeps σ s) : Keeps σ (s.withBuf f j ptr) := by
  unfold State.withBuf
  extract_lets +onlyGivenNames x1
  clear_value x1
  split
  · split
    · exact keeps_ite (keeps_free hs) (keeps_mk hs)
    · exact keeps_free hs
  · extract_lets +onlyGivenNames x2
    have h1 : Keeps σ x2 := keeps_setOwner hs
    clear_value x2
    exact keeps_mk h1
  · extract_lets +onlyGivenNames x2
    have h1 : Keeps σ x2 := keeps_setOwner hs
    clear_value x2
    exact keeps_mk h1
  · exact keeps_ite (keeps_ptxDone (keeps_dmaFail (keeps_free hs))) (keeps_mk hs)
theorem keeps_execBufferAlloc {j : Fin 8} {pick : BitVec 19} {metaBad : Bool} (hs : Keeps σ s) :
    KeepsR σ (execBufferAlloc j pick metaBad s) := by
  unfold execBufferAlloc
  split
  · exact KeepsR.next hs
  · extract_lets +onlyGivenNames x1
    clear_value x1
    extract_lets +onlyGivenNames x2
    have h1 : Keeps σ x2 := keeps_mk hs
    clear_value x2
    split
    · exact KeepsR.next (keeps_withBuf (KeepsP.out (keeps_alloc h1) ‹_›))
    · split
      · exact KeepsR.next (keeps_mk (KeepsP.out (keeps_alloc h1) ‹_›))
      · exact KeepsR.next (keeps_ptxDone (keeps_incIf (KeepsP.out (keeps_alloc h1) ‹_›)))
theorem keeps_execBufferFree {ptr : BitVec 19} {code : BitVec 8} {metaBad : Bool} (hs : Keeps σ s) :
    KeepsR σ (execBufferFree ptr code metaBad s) := by
  unfold execBufferFree
  extract_lets +onlyGivenNames x1
  clear_value x1
  refine KeepsR.next ?_
  split
  · exact keeps_stickBuf hs
  · exact keeps_free hs
theorem keeps_execBufferShare {ptr : BitVec 19} {code : BitVec 8} {copies : BitVec 13} {last : BitVec 7} (hs : Keeps σ s) :
    KeepsR σ (execBufferShare ptr code copies last s) := by
  unfold execBufferShare
  split
  · exact KeepsR.next (KeepsO.out (keeps_share hs) ‹_›)
  · exact KeepsR.next (keeps_inc hs)
theorem keeps_execBpmEnable {en : Bool} (hs : Keeps σ s) : KeepsR σ (execBpmEnable en s) :=
    keeps_opWrite hs (keepsR_ite (keepsR_ite (KeepsR.next hs) (keepsR_ite (KeepsR.next (keeps_rebuildPools (keeps_setB (keeps_setB hs)))) (KeepsR.next (keeps_inc hs)))) (keepsR_ite (KeepsR.next (keeps_setB (keeps_setB hs))) (KeepsR.next (keeps_inc hs))))
theorem keeps_execBpmInitDone (hs : Keeps σ s) : KeepsR σ (execBpmInitDone s) := KeepsR.next (keeps_ite (keeps_setB hs) hs)
theorem keeps_execBpmCfgWrite {k : Fin 8} {count : Bool} {v : Word} (hs : Keeps σ s) :
    KeepsR σ (execBpmCfgWrite k count v s) :=
    keeps_opWrite hs (KeepsR.next (keeps_ite (keeps_inc hs) (keeps_ite (keeps_wr hs) (keeps_wr hs))))

end Sys2Proof.Machine
end

