-- ==== Sys2Proof/Laws/KeepsHost.lean ====
section
/-! SUPPORT. Each operation keeps what nothing in the device undoes (Keeps): classification, repair, faults, uplinks, the host interface, the engines' tables and grants. -/

namespace Sys2Proof.Machine

variable {σ s : State}

theorem keeps_execSelectionCommit {i : Fin 256} {v : Word} (hs : Keeps σ s) : KeepsR σ (execSelectionCommit i v s) := by
  unfold execSelectionCommit
  refine keeps_opWrite hs ?_
  extract_lets +onlyGivenNames x1 x2
  clear_value x1 x2
  extract_lets +onlyGivenNames x3
  have h1 : Keeps σ x3 := keeps_dropHeld hs
  clear_value x3
  exact KeepsR.next (keeps_wr (keeps_wr h1))
theorem keeps_execProfileCommit {p : Fin 64} {v : Word} (hs : Keeps σ s) : KeepsR σ (execProfileCommit p v s) := by
  unfold execProfileCommit
  refine keeps_opWrite hs ?_
  extract_lets +onlyGivenNames x1 x2
  clear_value x1 x2
  extract_lets +onlyGivenNames x3
  have h1 : Keeps σ x3 := keeps_dropHeld hs
  clear_value x3
  extract_lets +onlyGivenNames x4
  have h2 : Keeps σ x4 := keeps_foldl (fun _ _ h2 => keeps_wr h2) (keeps_wr h1)
  clear_value x4
  exact KeepsR.next (keeps_ite (keeps_inc h1) h2)
theorem keeps_settleEpoch (hs : Keeps σ s) : Keeps σ s.settleEpoch := keeps_setB hs
theorem keeps_inflStep {b up : Bool} (hs : Keeps σ s) : Keeps σ (s.inflStep b up) := keeps_settleEpoch (keeps_setF hs)
theorem keeps_passDrop {p : Pkt} (hs : Keeps σ s) : Keeps σ (s.passDrop p) := by
  unfold State.passDrop
  extract_lets +onlyGivenNames x1
  have h1 : Keeps σ x1 := keeps_inflStep hs
  clear_value x1
  split
  · exact keeps_free h1
  · exact h1
theorem keeps_passTo {pipe : Nat} {p : Pkt} {d : Dest} (hs : Keeps σ s) : Keeps σ (s.passTo pipe p d) := by
  unfold State.passTo
  extract_lets +onlyGivenNames x1
  have h1 : Keeps σ x1 := keeps_inflStep hs
  clear_value x1
  extract_lets +onlyGivenNames x2
  clear_value x2
  split
  · exact keeps_withBuf (keeps_setOwner h1)
  · exact keeps_want h1
theorem keeps_passExcept {pipe : Nat} {p : Pkt} {reason : Nat} (hs : Keeps σ s) : Keeps σ (s.passExcept pipe p reason) :=
    keeps_passTo hs
theorem keeps_passForward {pipe prof : Nat} {key : List Byte} {p : Pkt} (hs : Keeps σ s) :
    Keeps σ (s.passForward pipe prof key p) := by
  unfold State.passForward
  extract_lets +onlyGivenNames x1
  clear_value x1
  extract_lets +onlyGivenNames x2
  extract_lets +onlyGivenNames x3
  clear_value x3
  split
  · exact keeps_passTo (KeepsP.out (keeps_fdbPass hs) ‹_›)
  · exact keeps_passDrop (KeepsP.out (keeps_fdbPass hs) ‹_›)
theorem keeps_passRaw {pipe : Nat} {p : Pkt} (hs : Keeps σ s) : Keeps σ (s.passRaw pipe p) := by
  unfold State.passRaw
  split
  · exact keeps_passTo (KeepsP.out (keeps_fdbPass hs) ‹_›)
  · exact keeps_passDrop (KeepsP.out (keeps_fdbPass hs) ‹_›)
theorem keeps_passMiss {pipe prof : Nat} {key : List Byte} {p : Pkt} (hs : Keeps σ s) :
    Keeps σ (s.passMiss pipe prof key p) := by
  unfold State.passMiss
  split
  · exact keeps_passForward hs
  · exact keeps_passExcept hs
  · exact keeps_passDrop hs
theorem keeps_passAct {pipe prof : Nat} {key : List Byte} {p : Pkt} {a : Act} (hs : Keeps σ s) :
    Keeps σ (s.passAct pipe prof key p a) := by
  unfold State.passAct
  extract_lets +onlyGivenNames x1
  clear_value x1
  split
  · exact keeps_passForward hs
  · exact keeps_passDrop (keeps_inc hs)
  · exact keeps_passTo hs
  · exact keeps_ite (keeps_passDrop (keeps_inc hs)) (keeps_ite (keeps_passDrop (keeps_inc hs)) (keeps_ite (keeps_passDrop
        (keeps_inc hs)) (keeps_mk hs)))
  · exact keeps_passTo hs
  · exact keeps_ite (keeps_passDrop (keeps_inc hs)) (keeps_passTo hs)
  · exact keeps_passDrop (keeps_inc hs)
theorem keeps_onePass {pipe prof : Nat} {p : Pkt} {unc : Bool} (hs : Keeps σ s) : Keeps σ (s.onePass pipe prof p unc) := by
  unfold State.onePass
  extract_lets +onlyGivenNames x1
  have h1 : Keeps σ x1 := keeps_incIf hs
  clear_value x1
  split
  · extract_lets +onlyGivenNames x2
    clear_value x2
    extract_lets +onlyGivenNames x3
    have h2 : Keeps σ x3 := keeps_inc h1
    clear_value x3
    split
    · exact keeps_passRaw h2
    · exact keeps_passExcept h2
    · exact keeps_passDrop h2
  · extract_lets +onlyGivenNames x2 x3 x4
    clear_value x2 x3 x4
    extract_lets +onlyGivenNames x5
    have h2 : Keeps σ x5 := keeps_incIf h1
    clear_value x5
    split
    · exact keeps_passExcept h2
    · split
      · exact keeps_passMiss (keeps_raise (keeps_inc h2))
      · exact keeps_passMiss (keeps_inc h2)
      · exact keeps_passAct h2
theorem keeps_pipeSlot {p cls : Nat} (hs : Keeps σ s) : Keeps σ (s.pipeSlot p cls) := keeps_add48 hs
theorem keeps_execPacketPass {p : Fin 5} {unc : Bool} (hs : Keeps σ s) : KeepsR σ (execPacketPass p unc s) := by
  unfold execPacketPass
  split
  · exact KeepsR.next hs
  · split
    · extract_lets +onlyGivenNames x1
      clear_value x1
      extract_lets +onlyGivenNames x2
      have h1 : Keeps σ x2 := keeps_mk hs
      clear_value x2
      exact KeepsR.next (keeps_pipeSlot (keeps_onePass h1))
    · extract_lets +onlyGivenNames x1
      clear_value x1
      extract_lets +onlyGivenNames x2
      have h1 : Keeps σ x2 := keeps_mk hs
      clear_value x2
      extract_lets +onlyGivenNames x3
      clear_value x3
      split
      exact KeepsR.next (keeps_pipeSlot (keeps_onePass (keeps_incIf (keeps_inflStep h1))))
    · exact KeepsR.next hs
theorem keeps_cmdTurn {r y0 : Nat} (hs : Keeps σ s) : Keeps σ (s.cmdTurn r y0) := by
  induction y0 generalizing s r with
  | zero =>
    rw [State.cmdTurn]
    exact hs
  | succ y ih =>
    rw [State.cmdTurn]
    split
    · exact ih (keeps_complete hs)
    · exact hs
theorem keeps_cmdNext {r : Nat} (hs : Keeps σ s) : Keeps σ (s.cmdNext r) := keeps_cmdTurn hs
theorem keeps_cmdDone {d : Desc} {status : Nat} (hs : Keeps σ s) : Keeps σ (s.cmdDone d status) := by
  unfold State.cmdDone
  extract_lets +onlyGivenNames x1
  have h1 : Keeps σ x1 := keeps_ite (keeps_dmaFail hs) hs
  clear_value x1
  exact keeps_cmdNext (keeps_complete (keeps_incIf h1))
theorem keeps_execTnode {r : Fin 1024} {data : List (BitVec 256)} {dmaOk : Bool} (hs : Keeps σ s) :
    KeepsR σ (execTnode r data dmaOk s) := by
  unfold execTnode
  split
  · exact KeepsR.next hs
  · extract_lets +onlyGivenNames x1
    clear_value x1
    split
    · exact KeepsR.next (keeps_cmdDone hs)
    · split
      · exact KeepsR.next (keeps_cmdDone hs)
      · split
        · exact KeepsR.next (keeps_cmdDone hs)
        · split
          · exact KeepsR.next (keeps_cmdDone (keeps_dmaRead hs))
          · extract_lets +onlyGivenNames x2
            have h1 : Keeps σ x2 := keeps_dmaRead hs
            clear_value x2
            exact KeepsR.next (keeps_cmdDone (keeps_mk h1))
theorem keeps_execTrule {r : Fin 1024} {data : List (BitVec 512)} {dmaOk : Bool} (hs : Keeps σ s) :
    KeepsR σ (execTrule r data dmaOk s) := by
  unfold execTrule
  split
  · exact KeepsR.next hs
  · extract_lets +onlyGivenNames x1 x2
    clear_value x1 x2
    extract_lets +onlyGivenNames x3
    have h1 : Keeps σ x3 := hs
    clear_value x3
    extract_lets +onlyGivenNames x4
    have h2 : Keeps σ x4 := keeps_dmaRead hs
    clear_value x4
    extract_lets +onlyGivenNames x5
    clear_value x5
    extract_lets +onlyGivenNames x6
    have h3 : ∀ v0, Keeps σ (x6 v0) := by
      intro v0
      unfold x6
      exact keeps_cmdDone (keeps_mk h2)
    clear_value x6
    split
    · exact KeepsR.next (keeps_cmdDone h1)
    · split
      · exact KeepsR.next (keeps_cmdDone h1)
      · split
        · exact KeepsR.next (keeps_cmdDone h2)
        · split
          · exact KeepsR.next (h3 _)
          · exact keepsR_ite (KeepsR.next (keeps_cmdDone h2)) (KeepsR.next (h3 _))
theorem keeps_execTroot {r : Fin 1024} {data : List Word} {dmaOk : Bool} (hs : Keeps σ s) :
    KeepsR σ (execTroot r data dmaOk s) := by
  unfold execTroot
  split
  · exact KeepsR.next hs
  · split
    · exact KeepsR.next (keeps_cmdDone hs)
    · split
      · exact KeepsR.next (keeps_cmdDone hs)
      · split
        · exact KeepsR.next (keeps_cmdDone (keeps_dmaRead hs))
        · extract_lets +onlyGivenNames x1
          have h1 : Keeps σ x1 := keeps_dmaRead hs
          clear_value x1
          exact KeepsR.next (keeps_cmdDone (keeps_foldl (fun _ _ h2 => keeps_wr h2) h1))
theorem keeps_execTread {r : Fin 1024} {dmaOk : Bool} (hs : Keeps σ s) : KeepsR σ (execTread r dmaOk s) := by
  unfold execTread
  split
  · exact KeepsR.next hs
  · exact keepsR_ite (KeepsR.next (keeps_cmdDone hs)) (keepsR_ite (KeepsR.next (keeps_cmdDone hs)) (keepsR_ite (KeepsR.next
        (keeps_cmdDone hs)) (KeepsR.next (keeps_cmdDone (keeps_emit hs)))))
theorem keeps_execEswap {r : Fin 1024} (hs : Keeps σ s) : KeepsR σ (execEswap r s) := by
  unfold execEswap
  split
  · exact KeepsR.next hs
  · exact keepsR_ite (KeepsR.next hs) (keepsR_ite (KeepsR.next (keeps_cmdDone hs)) (keepsR_ite (KeepsR.next (keeps_cmdDone hs))
        (KeepsR.next (keeps_setB (keeps_mk hs)))))
theorem keeps_execEpochSwapPoint (hs : Keeps σ s) : KeepsR σ (execEpochSwapPoint s) := by
  unfold execEpochSwapPoint
  split
  · exact KeepsR.next hs
  · extract_lets +onlyGivenNames x1
    have h1 : Keeps σ x1 := keeps_setB (keeps_setB hs)
    clear_value x1
    exact KeepsR.next (keeps_cmdDone (keeps_settleEpoch (keeps_mk h1)))
theorem keeps_consume {c n : Nat} (hs : Keeps σ s) : Keeps σ (s.consume c n) := by
  unfold State.consume
  extract_lets +onlyGivenNames x1
  have h1 : Keeps σ x1 := keeps_crossVisible hs
  clear_value x1
  split
  · exact keeps_invalidate h1
  · exact keeps_kindsSeen h1
  · exact keeps_serialSeen h1
  · exact h1
theorem keeps_execDcqItemVisible {x : Crossing} (hs : Keeps σ s) : KeepsR σ (execDcqItemVisible x s) := by
  unfold execDcqItemVisible
  split
  · exact KeepsR.next (keeps_mk hs)
  · exact KeepsR.next (keeps_setRport hs)
  · exact KeepsR.next (keeps_crossVisible hs)
  · exact KeepsR.next (keeps_consume hs)
  · exact KeepsR.next (keeps_consume hs)
  · exact KeepsR.next (keeps_crossVisible hs)
  · exact KeepsR.next (keeps_crossVisible hs)
  · exact KeepsR.next (keeps_consume hs)
  · exact KeepsR.next (keeps_crossVisible hs)
  · exact KeepsR.next (keeps_crossVisible hs)
  · exact KeepsR.next (keeps_crossVisible hs)
  · exact KeepsR.next (keeps_crossVisible hs)
theorem keeps_execFaultSourceEvent {src : Fin 52} {info : BitVec 16} {baseImage : Bool} {blk : Fin 22} {queue : BitVec 16}
    {diff : Word} (hs : Keeps σ s) :
    KeepsR σ (execFaultSourceEvent src info baseImage blk queue diff s) :=
    KeepsR.next (keeps_ite (keeps_ite (keeps_raiseLevel hs) hs) (keeps_ite (keeps_raiseLevel hs) (keeps_ite (keeps_ringError hs) (keeps_ite (keeps_raiseWith hs) (keeps_raiseWith hs)))))
theorem keeps_portCauses {acked : List (Nat × Latch)} (hs : Keeps σ s) : Keeps σ (s.portCauses acked) := by
  unfold State.portCauses
  extract_lets +onlyGivenNames x1
  exact keeps_foldl (fun _ _ h1 => keeps_ite (keeps_causeDetected h1) h1) hs
theorem keeps_fatalPorts (hs : Keeps σ s) : Keeps σ s.fatalPorts := by
  unfold State.fatalPorts
  extract_lets +onlyGivenNames x1
  have h1 : Keeps σ x1 := keeps_txenSettleAll (keeps_outsLow hs)
  clear_value x1
  exact keeps_foldl (fun _ _ h2 => keeps_ite (keeps_causeDetected h2) h2) h1
theorem keeps_execFaultAck {srcs : BitVec 52} {sameCycle : Bool} (hs : Keeps σ s) :
    KeepsR σ (execFaultAck srcs sameCycle s) := by
  unfold execFaultAck
  extract_lets +onlyGivenNames x1 x2 x3
  clear_value x1 x2 x3
  split
  · exact KeepsR.next hs
  · extract_lets +onlyGivenNames x4
    have h1 : Keeps σ x4 := keeps_portCauses (keeps_ackAll hs)
    clear_value x4
    extract_lets +onlyGivenNames x5
    have h2 : Keeps σ x5 := keeps_ite (keeps_fatalPorts h1) h1
    clear_value x5
    exact KeepsR.next (keeps_mateDarken h2)
theorem keeps_execMemoryErrorRetry {blk : Fin 22} {macro_ row : BitVec 16} {unc again : Bool} (hs : Keeps σ s) :
    KeepsR σ (execMemoryErrorRetry blk macro_ row unc again s) := by
  unfold execMemoryErrorRetry
  extract_lets +onlyGivenNames x1
  have h1 : Keeps σ x1 := keeps_ite (keeps_raise hs) (keeps_raise hs)
  clear_value x1
  exact KeepsR.next (keeps_ite h1 (keeps_ite (keeps_raise h1) (keeps_mk h1)))
theorem keeps_execRowRemapDone {blk : Fin 22} {macro_ row : BitVec 16} (hs : Keeps σ s) :
    KeepsR σ (execRowRemapDone blk macro_ row s) := by
  unfold execRowRemapDone
  extract_lets +onlyGivenNames x1
  clear_value x1
  refine KeepsR.next ?_
  split
  · exact hs
  · extract_lets +onlyGivenNames x2
    clear_value x2
    extract_lets +onlyGivenNames x3
    have h1 : Keeps σ x3 := keeps_mk hs
    clear_value x3
    extract_lets +onlyGivenNames x4
    have h2 : Keeps σ x4 := keeps_repairDone h1
    clear_value x4
    exact keeps_ite (keeps_raise h2) h2
theorem keeps_pipeDrop {p : Nat} {k : Pkt} {counted : Bool} (hs : Keeps σ s) : Keeps σ (s.pipeDrop p k counted) := by
  unfold State.pipeDrop
  extract_lets +onlyGivenNames x1
  have h1 : Keeps σ x1 := keeps_pipeSlot (keeps_ite (keeps_inflStep hs) hs)
  clear_value x1
  split
  · exact keeps_free (keeps_setOwner h1)
  · exact h1
theorem keeps_dropInPipe {p : Nat} (hs : Keeps σ s) : Keeps σ (s.dropInPipe p) := by
  unfold State.dropInPipe
  split
  · exact keeps_pipeDrop (keeps_mk hs)
  · exact keeps_pipeDrop (keeps_mk hs)
  · exact hs
theorem keeps_retirePipe {p : Nat} (hs : Keeps σ s) : Keeps σ (s.retirePipe p) := by
  unfold State.retirePipe
  extract_lets +onlyGivenNames x1 x2
  clear_value x1 x2
  extract_lets +onlyGivenNames x3
  have h1 : Keeps σ x3 := keeps_mk hs
  clear_value x3
  extract_lets +onlyGivenNames x4
  have h2 : Keeps σ x4 := keeps_foldl (fun _ _ h2 => keeps_pipeDrop h2) h1
  clear_value x4
  extract_lets +onlyGivenNames x5 x6
  clear_value x5 x6
  extract_lets +onlyGivenNames x7
  have h3 : Keeps σ x7 := keeps_mk h2
  clear_value x7
  extract_lets +onlyGivenNames x8
  have h4 : Keeps σ x8 := keeps_repairDone h3
  clear_value x8
  split
  · exact keeps_raise h4
  · exact keeps_raise h4
theorem keeps_execPipelineError {p : Fin 5} (hs : Keeps σ s) : KeepsR σ (execPipelineError p s) := by
  unfold execPipelineError
  split
  · exact KeepsR.next hs
  · extract_lets +onlyGivenNames x1
    have h1 : Keeps σ x1 := keeps_raise (keeps_dropInPipe hs)
    clear_value x1
    exact KeepsR.next (keeps_ite (keeps_retirePipe h1) (keeps_mk h1))
theorem keeps_execPipelineWatchExpire {p : Fin 5} (hs : Keeps σ s) : KeepsR σ (execPipelineWatchExpire p s) :=
    KeepsR.next (keeps_mk hs)
theorem keeps_execFltStatusClear {hi : Bool} {v : Word} (hs : Keeps σ s) : KeepsR σ (execFltStatusClear hi v s) := by
  unfold execFltStatusClear
  refine keeps_opWrite hs ?_
  extract_lets +onlyGivenNames x1
  clear_value x1
  extract_lets +onlyGivenNames x2
  have h1 : Keeps σ x2 := keeps_wr hs
  clear_value x2
  exact KeepsR.next (keeps_ite h1 (keeps_mk h1))
theorem keeps_execSourceClassWrite {src : Fin 52} {cls : Fin 4} (hs : Keeps σ s) :
    KeepsR σ (execSourceClassWrite src cls s) :=
    keeps_opWrite hs (keepsR_ite (KeepsR.next hs) (keepsR_ite (KeepsR.next (keeps_inc hs)) (KeepsR.next (keeps_mateDarken (keeps_setF hs)))))
theorem keeps_execFfrClear (hs : Keeps σ s) : KeepsR σ (execFfrClear s) :=
    keeps_opWrite hs (KeepsR.next (keeps_wr (keeps_wr (keeps_wr (keeps_wr (keeps_wr hs))))))
theorem keeps_execAliveToggle (hs : Keeps σ s) : KeepsR σ (execAliveToggle s) := KeepsR.next (keeps_ite (keeps_mk hs) hs)
theorem keeps_execFltInj {src : Fin 64} {sameCycle : Bool} (hs : Keeps σ s) : KeepsR σ (execFltInj src sameCycle s) := by
  unfold execFltInj
  refine keeps_opWrite hs ?_
  extract_lets +onlyGivenNames x1
  have h1 : Keeps σ x1 := keeps_setF hs
  clear_value x1
  split
  · exact KeepsR.next (keeps_inc h1)
  · extract_lets +onlyGivenNames x2
    have h2 : Keeps σ x2 := keeps_ite (keeps_setB h1) (keeps_setB h1)
    clear_value x2
    extract_lets +onlyGivenNames x3
    have h3 : Keeps σ x3 := keeps_ite (keeps_signal h2) h2
    clear_value x3
    extract_lets +onlyGivenNames x4
    clear_value x4
    extract_lets +onlyGivenNames x5
    have h4 : Keeps σ x5 := keeps_ite (keeps_setB h3) h3
    clear_value x5
    extract_lets +onlyGivenNames x6
    have h5 : Keeps σ x6 := keeps_ite (keeps_setB h4) h4
    clear_value x6
    exact KeepsR.next (keeps_mk h5)
theorem keeps_clearHistory (hs : Keeps σ s) : Keeps σ s.clearHistory := keeps_foldl (fun _ _ h1 => keeps_wr h1) hs
theorem keeps_execFltRcvClr {v : Word} {late : Bool} (hs : Keeps σ s) : KeepsR σ (execFltRcvClr v late s) := by
  unfold execFltRcvClr
  refine keeps_opWrite hs ?_
  extract_lets +onlyGivenNames x1
  have h1 : ∀ v0 v1, Keeps σ v0 → Keeps σ (x1 v0 v1) := by
    intro v0 v1 hv0
    unfold x1
    exact keeps_mk hv0
  clear_value x1
  exact keepsR_ite (keepsR_ite (KeepsR.next (keeps_wr (keeps_clearHistory (h1 _ _ hs)))) (KeepsR.next (keeps_inc (h1 _ _ hs))))
      (keepsR_ite (KeepsR.next (h1 _ _ hs)) (KeepsR.next (keeps_inc hs)))
theorem keeps_execFltLock (hs : Keeps σ s) : KeepsR σ (execFltLock s) := keeps_opWrite hs (KeepsR.next (keeps_mk hs))
theorem keeps_execMateAliveLoss (hs : Keeps σ s) : KeepsR σ (execMateAliveLoss s) :=
    KeepsR.next (keeps_ite (keeps_raiseLevel hs) hs)
theorem keeps_execLevelConditionAbsent {src : Fin 52} (hs : Keeps σ s) : KeepsR σ (execLevelConditionAbsent src s) :=
    KeepsR.next (keeps_mk hs)
theorem keeps_execQuadModeWrite {q : Fin 6} {v : Word} (hs : Keeps σ s) : KeepsR σ (execQuadModeWrite q v s) :=
    keeps_opWrite hs (keepsR_ite (KeepsR.next (keeps_inc hs)) (KeepsR.next (keeps_settleQuads (keeps_wr hs))))
theorem keeps_execUplPortEnable {u : Fin 24} {v : Word} (hs : Keeps σ s) : KeepsR σ (execUplPortEnable u v s) := by
  unfold execUplPortEnable
  refine keeps_opWrite hs ?_
  split
  · exact KeepsR.next hs
  · extract_lets +onlyGivenNames x1 x2
    clear_value x1 x2
    extract_lets +onlyGivenNames x3
    have h1 : Keeps σ x3 := keeps_wr hs
    clear_value x3
    exact KeepsR.next (keeps_ite h1 (keeps_setF (keeps_setUpState (keeps_pmPartial h1))))
theorem keeps_execUplPortDisable {u : Fin 24} {v : Word} (hs : Keeps σ s) : KeepsR σ (execUplPortDisable u v s) := by
  unfold execUplPortDisable
  refine keeps_opWrite hs ?_
  split
  · exact KeepsR.next hs
  · extract_lets +onlyGivenNames x1 x2
    clear_value x1 x2
    extract_lets +onlyGivenNames x3
    have h1 : Keeps σ x3 := keeps_ite (keeps_pmPartial hs) hs
    clear_value x3
    extract_lets +onlyGivenNames x4
    have h2 : Keeps σ x4 := keeps_setUpState (keeps_wr h1)
    clear_value x4
    extract_lets +onlyGivenNames x5
    have h3 : Keeps σ x5 := keeps_foldl (fun _ _ h3 => keeps_setB (keeps_setB h3)) h2
    clear_value x5
    extract_lets +onlyGivenNames x6
    clear_value x6
    extract_lets +onlyGivenNames x7
    have h4 : Keeps σ x7 := keeps_mk h3
    clear_value x7
    exact KeepsR.next (keeps_ite (keeps_memberLeft h4) h4)
theorem keeps_adapted {rx : Nat} {moves : BitVec 12} (hs : Keeps σ s) : Keeps σ (s.adapted rx moves) :=
    keeps_setB (keeps_setB hs)
theorem keeps_execLaneLock {l : Fin 32} {fit : LaneFit} (hs : Keeps σ s) : KeepsR σ (execLaneLock l fit s) := by
  unfold execLaneLock
  split
  · exact keepsR_ite (KeepsR.next (keeps_adapted (keeps_setB hs))) (KeepsR.next hs)
  · split
    · exact KeepsR.next hs
    · extract_lets +onlyGivenNames x1
      clear_value x1
      split
      · exact KeepsR.next hs
      · extract_lets +onlyGivenNames x2
        clear_value x2
        extract_lets +onlyGivenNames x3
        have h1 : Keeps σ x3 := keeps_adapted hs
        clear_value x3
        extract_lets +onlyGivenNames x4
        have h2 : Keeps σ x4 := keeps_ite h1 (keeps_wr h1)
        clear_value x4
        split
        · extract_lets +onlyGivenNames x5
          clear_value x5
          extract_lets +onlyGivenNames x6
          have h3 : Keeps σ x6 := keeps_mk h2
          clear_value x6
          exact KeepsR.next (keeps_setUpState h3)
        · exact KeepsR.next h2
theorem keeps_execLaneLockLoss {l : Fin 32} (hs : Keeps σ s) : KeepsR σ (execLaneLockLoss l s) := by
  unfold execLaneLockLoss
  split
  · exact KeepsR.next (keeps_dropLane hs)
  · extract_lets +onlyGivenNames x1
    have h1 : Keeps σ x1 := keeps_setB (keeps_setB hs)
    clear_value x1
    split
    · exact KeepsR.next h1
    · extract_lets +onlyGivenNames x2
      clear_value x2
      split
      · exact KeepsR.next (keeps_setUpState h1)
      · exact KeepsR.next (keeps_portDown h1)
      · exact KeepsR.next (keeps_setF h1)
      · exact KeepsR.next h1
theorem keeps_execPcsAlign {u : Fin 24} (hs : Keeps σ s) : KeepsR σ (execPcsAlign u s) :=
    KeepsR.next (keeps_ite (keeps_setUpState hs) hs)
theorem keeps_execPcsAlignmentLoss {u : Fin 24} (hs : Keeps σ s) : KeepsR σ (execPcsAlignmentLoss u s) :=
    KeepsR.next (keeps_ite (keeps_portDown hs) hs)
theorem keeps_execAlignTimeout {u : Fin 24} (hs : Keeps σ s) : KeepsR σ (execAlignTimeout u s) :=
    KeepsR.next (keeps_ite (keeps_setUpState hs) hs)
theorem keeps_spareLanes {y0 : List Nat} (hs : Keeps σ s) : KeepsP σ (s.spareLanes y0) := by
  induction y0 generalizing s with
  | nil =>
    rw [State.spareLanes]
    exact KeepsP.mk hs
  | cons y ys ih =>
    rw [State.spareLanes]
    split
    split
    exact KeepsP.mk (KeepsP.out (ih (KeepsP.out (keeps_useSlice hs) ‹_›)) ‹_›)
theorem keeps_execRetrainTimeout {u : Fin 24} (hs : Keeps σ s) : KeepsR σ (execRetrainTimeout u s) := by
  unfold execRetrainTimeout
  split
  · exact KeepsR.next hs
  · extract_lets +onlyGivenNames x1
    clear_value x1
    extract_lets +onlyGivenNames x2
    have h1 : ∀ v0, Keeps σ v0 → Keeps σ (x2 v0) := by
      intro v0 hv0
      unfold x2
      exact keeps_mk hv0
    clear_value x2
    split
    · exact KeepsR.next (keeps_setUpState (h1 _ hs))
    · split
      · exact KeepsR.next (keeps_raise (keeps_foldl (fun _ _ h2 => keeps_raise h2) (keeps_setUpState (h1 _ hs))))
      · split
        exact keepsR_ite (KeepsR.next (keeps_inc (keeps_mk (KeepsP.out (keeps_spareLanes hs) ‹_›)))) (KeepsR.next (keeps_raise
            (keeps_setUpState (KeepsP.out (keeps_spareLanes hs) ‹_›))))
theorem keeps_execUplRxFrame {u : Fin 24} {data : List Byte} {fcsBad uncorr cutOff : Bool} {ns : Word64} {frac : BitVec 16} (hs
    : Keeps σ s) :
    KeepsR σ (execUplRxFrame u data fcsBad uncorr cutOff ns frac s) := by
  unfold execUplRxFrame
  extract_lets +onlyGivenNames x1
  have h1 : Keeps σ x1 := keeps_advanceTo hs
  clear_value x1
  extract_lets +onlyGivenNames x2 x3
  clear_value x2 x3
  split
  · exact KeepsR.next (keeps_ite (keeps_inc (keeps_mk h1)) h1)
  · extract_lets +onlyGivenNames x4
    have h2 : Keeps σ x4 := keeps_leaveQuiet h1
    clear_value x4
    split
    · exact KeepsR.next (keeps_inc h2)
    · split
      · exact KeepsR.next (keeps_inc h2)
      · split
        · exact KeepsR.next (keeps_inc h2)
        · split
          · exact KeepsR.next (keeps_inc h2)
          · extract_lets +onlyGivenNames x5
            have h3 : Keeps σ x5 := keeps_add64 (keeps_add64 h2)
            clear_value x5
            split
            · exact KeepsR.next (keeps_inc h3)
            · extract_lets +onlyGivenNames x6
              have h4 : Keeps σ x6 := keeps_add64 h3
              clear_value x6
              extract_lets +onlyGivenNames x7
              clear_value x7
              extract_lets +onlyGivenNames x8
              have h5 : Keeps σ x8 := by
                unfold x8
                split
                · exact keeps_mk h4
                · exact h3
              clear_value x8
              exact KeepsR.next (keeps_mk h5)
theorem keeps_execUplGroupWrite {g : Fin 24} {v : Word} (hs : Keeps σ s) : KeepsR σ (execUplGroupWrite g v s) :=
    keeps_opWrite hs (KeepsR.next (keeps_ite (keeps_inc hs) (keeps_wr hs)))
theorem keeps_execProtGroupEnable {g : Fin 24} {v : Word} (hs : Keeps σ s) : KeepsR σ (execProtGroupEnable g v s) :=
    keeps_opWrite hs (keepsR_ite (KeepsR.next (keeps_inc hs)) (KeepsR.next (keeps_reselect (keeps_wr hs))))
theorem keeps_execHifGrpWrite {j : Fin 64} {v : Word} (hs : Keeps σ s) : KeepsR σ (execHifGrpWrite j v s) :=
    keeps_opWrite hs (KeepsR.next (keeps_ite (keeps_inc hs) (keeps_wr hs)))
theorem keeps_ringRefused {fn : Fn} {r : Nat} {off : Nat → Nat} (hs : Keeps σ s) : Keeps σ (s.ringRefused fn r off) := by
  unfold State.ringRefused
  split
  · exact keeps_inc hs
  · split
    · exact keeps_tenantRefused hs
    · split
      · exact keeps_tenantRefused hs
      · exact hs
theorem keeps_ringStop {r : Nat} (hs : Keeps σ s) : Keeps σ (s.ringStop r) := by
  unfold State.ringStop
  extract_lets +onlyGivenNames x1
  exact keeps_ringSettle (keeps_mk hs)
theorem keeps_ringCommit {fn : Fn} {r : Nat} {v : Word} (hs : Keeps σ s) : Keeps σ (s.ringCommit fn r v) := by
  unfold State.ringCommit
  extract_lets +onlyGivenNames x1
  clear_value x1
  extract_lets +onlyGivenNames x2
  have h1 : Keeps σ x2 := keeps_dropHeld hs
  clear_value x2
  extract_lets +onlyGivenNames x3
  clear_value x3
  extract_lets +onlyGivenNames x4
  have h2 : ∀ v0, Keeps σ v0 → Keeps σ (x4 v0) := by
    intro v0 hv0
    unfold x4
    exact keeps_foldl (fun _ _ h2 => keeps_wr h2) hv0
  clear_value x4
  extract_lets +onlyGivenNames x5 x6
  clear_value x5 x6
  split
  · exact keeps_ringRefused h1
  · split
    · exact keeps_ringRefused h1
    · extract_lets +onlyGivenNames x7 x8
      clear_value x7 x8
      extract_lets +onlyGivenNames x9
      have h3 : Keeps σ x9 := h2 _ h1
      clear_value x9
      exact keeps_ite (keeps_setF (keeps_setF (keeps_setF h3))) (keeps_ite (keeps_ringStop h3) h3)
theorem keeps_execRingContextCommit {fn : Fn} {r : Fin 1024} {v : Word} (hs : Keeps σ s) :
    KeepsR σ (execRingContextCommit fn r v s) := keeps_fnWrite hs (KeepsR.next (keeps_ringCommit hs))
theorem keeps_execRingDisable {fn : Fn} {r : Fin 1024} {v : Word} (hs : Keeps σ s) :
    KeepsR σ (execRingDisable fn r v s) := keeps_fnWrite hs (KeepsR.next (keeps_ringCommit hs))
theorem keeps_doorbell {fn : Fn} {r : Nat} {v : Word} (hs : Keeps σ s) : Keeps σ (s.doorbell fn r v) := by
  unfold State.doorbell
  split
  · exact keeps_ringRefused hs
  · extract_lets +onlyGivenNames x1 x2 x3 x4
    clear_value x1 x2 x3 x4
    split
    · exact hs
    · split
      · extract_lets +onlyGivenNames x5
        have h1 : Keeps σ x5 := keeps_setF hs
        clear_value x5
        exact keeps_ite (keeps_hostDrain h1) h1
      · exact keeps_ringError hs
theorem keeps_execDoorbell {fn : Fn} {r : Fin 1024} {v : Word} (hs : Keeps σ s) : KeepsR σ (execDoorbell fn r v s) :=
    KeepsR.next (keeps_ite (keeps_doorbell hs) hs)
theorem keeps_execDescriptorFetch {r : Fin 1024} {data : BitVec 256} {dmaOk : Bool} (hs : Keeps σ s) :
    KeepsR σ (execDescriptorFetch r data dmaOk s) := by
  unfold execDescriptorFetch
  extract_lets +onlyGivenNames x1 x2
  clear_value x1 x2
  split
  · exact KeepsR.next hs
  · extract_lets +onlyGivenNames x3
    have h1 : Keeps σ x3 := keeps_dmaRead hs
    clear_value x3
    split
    · exact KeepsR.next (keeps_ringError (keeps_raise h1))
    · extract_lets +onlyGivenNames x4
      have h2 : Keeps σ x4 := keeps_ite (keeps_leaveQuiet h1) h1
      clear_value x4
      extract_lets +onlyGivenNames x5 x6
      clear_value x5 x6
      extract_lets +onlyGivenNames x7
      have h3 : Keeps σ x7 := keeps_mk h2
      clear_value x7
      exact KeepsR.next (keeps_cmdNext (keeps_ringSettle (keeps_setF h3)))
theorem keeps_ptxEnd {d : Desc} {status : Nat} (hs : Keeps σ s) : Keeps σ (s.ptxEnd d status) := keeps_ptxDone hs
theorem keeps_execPtxQueue {r : Fin 1024} {data : List Byte} {dmaOk : Bool} (hs : Keeps σ s) :
    KeepsR σ (execPtxQueue r data dmaOk s) := by
  unfold execPtxQueue
  split
  · exact KeepsR.next hs
  · extract_lets +onlyGivenNames x1 x2 x3 x4
    clear_value x1 x2 x3 x4
    split
    · exact KeepsR.next hs
    · split
      · exact KeepsR.next (keeps_ptxEnd hs)
      · split
        · exact KeepsR.next (keeps_ptxEnd hs)
        · extract_lets +onlyGivenNames x5 x6 x7
          clear_value x5 x6 x7
          extract_lets +onlyGivenNames x8
          have h1 : Keeps σ x8 := keeps_incIf hs
          clear_value x8
          extract_lets +onlyGivenNames x9
          have h2 : Keeps σ x9 := keeps_dmaRead h1
          clear_value x9
          extract_lets +onlyGivenNames x10
          clear_value x10
          extract_lets +onlyGivenNames x11
          have h3 : Keeps σ x11 := keeps_mk h2
          clear_value x11
          exact KeepsR.next (keeps_want h3)
theorem keeps_execPtxPloam {r : Fin 1024} {data : List Byte} {dmaOk : Bool} (hs : Keeps σ s) :
    KeepsR σ (execPtxPloam r data dmaOk s) := by
  unfold execPtxPloam
  split
  · exact KeepsR.next hs
  · extract_lets +onlyGivenNames x1 x2 x3 x4
    clear_value x1 x2 x3 x4
    split
    · exact KeepsR.next hs
    · split
      · exact KeepsR.next (keeps_ptxEnd hs)
      · extract_lets +onlyGivenNames x5
        have h1 : Keeps σ x5 := keeps_dmaRead hs
        clear_value x5
        exact keepsR_ite (KeepsR.next (keeps_ptxEnd (keeps_dmaFail h1))) (keepsR_ite (KeepsR.next (keeps_ptxEnd h1))
            (keepsR_ite (KeepsR.next (keeps_ptxEnd h1)) (KeepsR.next (keeps_mk h1))))
theorem keeps_execPtxComplete {e : Fin 57} {ns : Word64} {frac : BitVec 16} (hs : Keeps σ s) :
    KeepsR σ (execPtxComplete e ns frac s) := by
  unfold execPtxComplete
  split
  · exact KeepsR.next hs
  · extract_lets +onlyGivenNames x1
    clear_value x1
    extract_lets +onlyGivenNames x2
    have h1 : Keeps σ x2 := keeps_mk hs
    clear_value x2
    extract_lets +onlyGivenNames x3 x4 x5 x6 x7 x8 x9 x10
    clear_value x3 x4 x5 x6 x7 x8 x9 x10
    extract_lets +onlyGivenNames x11
    have h2 : Keeps σ x11 := keeps_incIf h1
    clear_value x11
    extract_lets +onlyGivenNames x12 x13 x14
    clear_value x12 x13 x14
    extract_lets +onlyGivenNames x15
    have h3 : Keeps σ x15 := keeps_leaveUplink h2
    clear_value x15
    extract_lets +onlyGivenNames x16
    clear_value x16
    extract_lets +onlyGivenNames x17
    have h4 : Keeps σ x17 := by
      unfold x17
      split
      · exact h2
      · split
        · exact h3
        · exact keeps_mk h3
    clear_value x17
    split
    · exact KeepsR.next h4
    · exact keepsR_ite (KeepsR.next (keeps_complete h4)) (KeepsR.next (keeps_taken (keeps_taken (keeps_taken (keeps_complete
          h4)))))
theorem keeps_prxWrite {r : Nat} {c : PrxDone} {data : List Byte} {dmaOk wrOk : Bool} (hs : Keeps σ s) :
    Keeps σ (s.prxWrite r c data dmaOk wrOk) := by
  unfold State.prxWrite
  split
  · exact hs
  · extract_lets +onlyGivenNames x1 x2
    clear_value x1 x2
    extract_lets +onlyGivenNames x3
    have h1 : Keeps σ x3 := keeps_ite (keeps_incIf (keeps_emit hs)) (keeps_dmaFail hs)
    clear_value x3
    exact keeps_ite (keeps_complete h1) (keeps_ringError (keeps_ringSettle (keeps_dropDesc h1)))
theorem keeps_execPrxDeliver {dmaOk wrOk : Bool} (hs : Keeps σ s) : KeepsR σ (execPrxDeliver dmaOk wrOk s) := by
  unfold execPrxDeliver
  split
  · exact KeepsR.next hs
  · extract_lets +onlyGivenNames x1
    have h1 : Keeps σ x1 := keeps_mk hs
    clear_value x1
    extract_lets +onlyGivenNames x2
    have h2 : ∀ v0 v1, Keeps σ v0 → Keeps σ (x2 v0 v1) := by
      intro v0 v1 hv0
      unfold x2
      exact keeps_ite (keeps_inc hv0) (keeps_mk hv0)
    clear_value x2
    split
    · extract_lets +onlyGivenNames x3
      clear_value x3
      refine KeepsR.next ?_
      refine keeps_free ?_
      split
      · exact h2 _ _ h1
      · exact keeps_prxWrite h1
    · refine KeepsR.next ?_
      split
      · exact h2 _ _ h1
      · exact keeps_prxWrite h1
theorem keeps_execMsixModTimer {r : Fin 1024} (hs : Keeps σ s) : KeepsR σ (execMsixModTimer r s) :=
    keepsR_ite (KeepsR.next (keeps_signal (keeps_mk hs))) (KeepsR.next hs)
theorem keeps_execPcieLinkTrained {width8 : Bool} {up : LinkUp} (hs : Keeps σ s) :
    KeepsR σ (execPcieLinkTrained width8 up s) := keepsR_ite (KeepsR.next hs) (KeepsR.next (keeps_wr (keeps_wr hs)))
theorem keeps_clearMsix {n : Nat} (hs : Keeps σ s) : Keeps σ (s.clearMsix n) := keeps_mk hs
theorem keeps_execVfFlr {t : Fin 16} (hs : Keeps σ s) : KeepsR σ (execVfFlr t s) :=
    keepsR_ite (KeepsR.next hs) (KeepsR.next (keeps_clearMsix (keeps_foldl (fun _ _ h1 => keeps_ringStop (keeps_setB h1)) hs)))
theorem keeps_sisFinish {l : Nat} {r : SisRes} (hs : Keeps σ s) (hr : KeepsS σ r) : Keeps σ (s.sisFinish l r) := by
  unfold State.sisFinish
  extract_lets +onlyGivenNames x1
  clear_value x1
  split
  · exact keeps_ite (keeps_sisExc hs) (keeps_sisEnd hr)
  · exact keeps_ite (keeps_sisEnd hr) (keeps_sisExc hs)
  · exact keeps_sisEnd hr
  · exact keeps_ite (keeps_sisExc hs) hr
  · exact keeps_sisExc hs
  · exact keeps_engStop (keeps_sisEnd hr)
theorem keeps_sisRun {l : Fin 16} {op : Nat} {f : State → Engine → Word64 → SisRes} (hs : Keeps σ s) (hf : ∀ (v0 : State) (v1 :
    Engine) (v2 : Word64), Keeps σ v0 → KeepsS σ (f v0 v1 v2)) :
    KeepsR σ (s.sisRun l op f) := by
  unfold State.sisRun
  extract_lets +onlyGivenNames x1 x2
  clear_value x1 x2
  split
  · exact KeepsR.next hs
  · extract_lets +onlyGivenNames x3
    have h1 : Keeps σ x3 := keeps_dispatch hs
    clear_value x3
    exact KeepsR.next (keeps_sisFinish h1 (keepsS_ite (hf _ _ _ h1) KeepsS.exc))
theorem keeps_alu {l : Nat} {e : Engine} {w r : Word64} {c v : Bool} {cycles : Nat} (hs : Keeps σ s) :
    KeepsS σ (s.alu l e w r c v cycles) := KeepsS.done (keeps_setEng hs)
theorem keeps_sisReg {l : Fin 16} {cycles : Nat} {r : Word64 → Word64 → Word64} {c v : Word64 → Word64 → Bool} {e : Engine} {w
    : Word64} (hs : Keeps σ s) :
    KeepsS σ (sisReg l cycles r c v s e w) := keepsS_ite (keeps_alu hs) KeepsS.exc
theorem keeps_sisImm {l : Fin 16} {cycles : Nat} {ok : Word64 → Bool} {r : Word64 → Word64 → Word64} {c v : Word64 → Word64 →
    Bool} {e : Engine} {w : Word64} (hs : Keeps σ s) :
    KeepsS σ (sisImm l cycles ok r c v s e w) := keepsS_ite (keeps_alu hs) KeepsS.exc
theorem keeps_privileged {e : Engine} {r : SisRes} (hr : KeepsS σ r) : KeepsS σ (privileged e r) := keepsS_ite KeepsS.exc hr
theorem keeps_ctxAccess {term store : Bool} {f : Nat → Nat → SisRes} {e : Engine} {i : Word64} (hs : Keeps σ s) (hf : ∀ (v0 :
    Nat) (v1 : Nat), KeepsS σ (f v0 v1)) :
    KeepsS σ (s.ctxAccess term store f e i) :=
    keepsS_ite KeepsS.exc (keepsS_ite KeepsS.exc (keepsS_ite KeepsS.exc (keepsS_ite KeepsS.exc (hf _ _))))
theorem keeps_execSisLds {l : Fin 16} (hs : Keeps σ s) : KeepsR σ (execSisLds l s) :=
    keeps_sisRun hs (fun _ _ _ h1 => keeps_ctxAccess h1 (fun _ _ => KeepsS.done (keeps_setEng h1)))
theorem keeps_execSisSts {l : Fin 16} (hs : Keeps σ s) : KeepsR σ (execSisSts l s) :=
    keeps_sisRun hs (fun _ _ _ h1 => keeps_ctxAccess h1 (fun _ _ => KeepsS.done (keeps_mk h1)))
theorem keeps_execSisLdt {l : Fin 16} (hs : Keeps σ s) : KeepsR σ (execSisLdt l s) :=
    keeps_sisRun hs (fun _ _ _ h1 => keeps_ctxAccess h1 (fun _ _ => KeepsS.done (keeps_setEng h1)))
theorem keeps_execSisStt {l : Fin 16} (hs : Keeps σ s) : KeepsR σ (execSisStt l s) :=
    keeps_sisRun hs (fun _ _ _ h1 => keeps_ctxAccess h1 (fun _ _ => KeepsS.done (keeps_mk h1)))
theorem keeps_execSisLdl {l : Fin 16} (hs : Keeps σ s) : KeepsR σ (execSisLdl l s) :=
    keeps_sisRun hs (fun _ _ _ h1 => keepsS_ite KeepsS.exc (keepsS_ite KeepsS.exc (KeepsS.done (keeps_setEng h1))))
theorem keeps_execSisStl {l : Fin 16} (hs : Keeps σ s) : KeepsR σ (execSisStl l s) :=
    keeps_sisRun hs (fun _ _ _ h1 => keepsS_ite KeepsS.exc (keepsS_ite KeepsS.exc (KeepsS.done (keeps_setEng h1))))
theorem keeps_sortEnd {l : Nat} {f : Susp} {susp : Bool} (hs : Keeps σ s) : KeepsS σ (s.sortEnd l f susp) :=
    KeepsS.done (keeps_setEng hs)
theorem keeps_resume {l : Nat} (hs : Keeps σ s) : Keeps σ (s.resume l) := keeps_setSuspBit (keeps_setEng hs)
theorem keeps_execSisSort {l : Fin 16} (hs : Keeps σ s) : KeepsR σ (execSisSort l s) := by
  unfold execSisSort
  refine keeps_sisRun hs (fun _ _ _ h1 => ?_)
  split
  · exact keeps_sortEnd (keeps_resume h1)
  · split
    · exact KeepsS.exc
    · exact keeps_sortEnd h1
theorem keeps_scanEnd {l : Nat} {term : Bool} {f : Susp} {susp : Bool} (hs : Keeps σ s) :
    KeepsS σ (s.scanEnd l term f susp) := by
  unfold State.scanEnd
  extract_lets +onlyGivenNames x1
  clear_value x1
  split
  exact KeepsS.done (keeps_setEng hs)
theorem keeps_scan {l : Fin 16} {term : Bool} {e : Engine} {i : Word64} (hs : Keeps σ s) :
    KeepsS σ (scan l term s e i) := by
  unfold scan
  split
  · exact keeps_scanEnd (keeps_resume hs)
  · split
    · exact KeepsS.exc
    · exact keeps_scanEnd hs
theorem keeps_execSisScans {l : Fin 16} (hs : Keeps σ s) : KeepsR σ (execSisScans l s) :=
    keeps_sisRun hs (fun _ _ _ h1 => keeps_scan h1)
theorem keeps_execSisScant {l : Fin 16} (hs : Keeps σ s) : KeepsR σ (execSisScant l s) :=
    keeps_sisRun hs (fun _ _ _ h1 => keeps_scan h1)
theorem keeps_voidOpen {st : Nat} (hs : Keeps σ s) : Keeps σ (s.voidOpen st) := by
  unfold State.voidOpen
  extract_lets +onlyGivenNames x1 x2
  clear_value x1 x2
  extract_lets +onlyGivenNames x3
  extract_lets +onlyGivenNames x4
  exact keeps_setGport hs
theorem keeps_execGntStreamCommit {st : BitVec 16} {v : Word} (hs : Keeps σ s) : KeepsR σ (execGntStreamCommit st v s) := by
  unfold execGntStreamCommit
  refine keeps_opWrite hs ?_
  extract_lets +onlyGivenNames x1 x2 x3 x4
  clear_value x1 x2 x3 x4
  extract_lets +onlyGivenNames x5
  have h1 : Keeps σ x5 := keeps_dropHeld hs
  clear_value x5
  extract_lets +onlyGivenNames x6 x7 x8
  clear_value x6 x7 x8
  split
  · exact KeepsR.next (keeps_inc h1)
  · extract_lets +onlyGivenNames x9
    have h2 : Keeps σ x9 := keeps_tell (keeps_wr (keeps_wr h1))
    clear_value x9
    exact KeepsR.next (keeps_ite (keeps_dropPartial (keeps_voidOpen h2)) h2)
theorem keeps_execSsWindowCommit {w : Fin 2048} {v : Word} (hs : Keeps σ s) : KeepsR σ (execSsWindowCommit w v s) := by
  unfold execSsWindowCommit
  refine keeps_opWrite hs ?_
  extract_lets +onlyGivenNames x1 x2
  clear_value x1 x2
  extract_lets +onlyGivenNames x3
  have h1 : Keeps σ x3 := keeps_dropHeld hs
  clear_value x3
  extract_lets +onlyGivenNames x4
  have h2 : Keeps σ x4 := keeps_wr (keeps_wr h1)
  clear_value x4
  exact KeepsR.next (keeps_ite (keeps_inc h1) h2)
theorem keeps_execGntPortCfgWrite {n : Fin 32} {f : PortCfg} (hs : Keeps σ s) : KeepsR σ (execGntPortCfgWrite n f s) := by
  unfold execGntPortCfgWrite
  refine keeps_opWrite hs ?_
  split
  · exact KeepsR.next (keeps_ite (keeps_wr hs) (keeps_inc hs))
  · exact KeepsR.next (keeps_ite (keeps_wr hs) (keeps_inc hs))
  · exact KeepsR.next (keeps_ite (keeps_tell (keeps_wr hs)) (keeps_inc hs))
theorem keeps_setFifo {m : Nat} {f : RptFifo} (hs : Keeps σ s) : Keeps σ (s.setFifo m f) := keeps_mk hs
theorem keeps_settleFifo {m : Nat} {f : RptFifo} (hs : Keeps σ s) : Keeps σ (s.settleFifo m f) :=
    keeps_creditCheck (keeps_setFifo hs)
theorem keeps_reportItem {m st : Nat} {item : Word64} (hs : Keeps σ s) : Keeps σ (s.reportItem m st item) :=
    keeps_ite (keeps_settleFifo hs) (keeps_inc (keeps_setFifo hs))
theorem keeps_execCoalesceDrain {m : Fin 8} (hs : Keeps σ s) : KeepsR σ (execCoalesceDrain m s) := by
  unfold execCoalesceDrain
  extract_lets +onlyGivenNames x1
  clear_value x1
  split
  · exact KeepsR.next hs
  · exact keepsR_ite (KeepsR.next hs) (KeepsR.next (keeps_settleFifo hs))
theorem keeps_execReportStallLimit {m : Fin 8} (hs : Keeps σ s) : KeepsR σ (execReportStallLimit m s) :=
    KeepsR.next (keeps_ite (keeps_raise hs) hs)
theorem keeps_execMissingPage {n : Fin 32} {frame : BitVec 51} (hs : Keeps σ s) : KeepsR σ (execMissingPage n frame s) := by
  unfold execMissingPage
  split
  · exact KeepsR.next hs
  · exact keepsR_ite (KeepsR.next hs) (KeepsR.next (keeps_missPage hs))
theorem keeps_execUdfCountsDeliver {n : Fin 32} {frame : BitVec 51} (hs : Keeps σ s) :
    KeepsR σ (execUdfCountsDeliver n frame s) := by
  unfold execUdfCountsDeliver
  split
  · exact KeepsR.next hs
  · extract_lets +onlyGivenNames x1 x2 x3
    clear_value x1 x2 x3
    extract_lets +onlyGivenNames x4
    have h1 : Keeps σ x4 := keeps_mk hs
    clear_value x4
    exact KeepsR.next (keeps_cross h1)
theorem keeps_keepSpans {n : Nat} {g : Page} (hs : Keeps σ s) : Keeps σ (s.keepSpans n g) := by
  unfold State.keepSpans
  extract_lets +onlyGivenNames x1 x2 x3 x4 x5
  clear_value x1 x2 x3 x4 x5
  extract_lets +onlyGivenNames x6
  have h1 : Keeps σ x6 := keeps_setRport hs
  clear_value x6
  exact keeps_setBport h1
theorem keeps_execLedgerClose {n : Fin 32} {frame : BitVec 51} (hs : Keeps σ s) : KeepsR σ (execLedgerClose n frame s) := by
  unfold execLedgerClose
  split
  · exact KeepsR.next hs
  · split
    · exact KeepsR.next hs
    · extract_lets +onlyGivenNames x1
      have h1 : Keeps σ x1 := keeps_checkGrants hs
      clear_value x1
      extract_lets +onlyGivenNames x2
      have h2 : Keeps σ x2 := keeps_keepSpans h1
      clear_value x2
      exact KeepsR.next (keeps_setGport h2)
theorem keeps_execSisRdrpt {l : Fin 16} (hs : Keeps σ s) : KeepsR σ (execSisRdrpt l s) := by
  unfold execSisRdrpt
  refine keeps_sisRun hs (fun _ _ _ h1 => ?_)
  extract_lets +onlyGivenNames x1 x2
  clear_value x1 x2
  split
  · exact KeepsS.exc
  · split
    · exact KeepsS.exc
    · split
      · exact KeepsS.exc
      · split
        · exact KeepsS.done (keeps_setEng h1)
        · split
          · exact keepsS_ite (KeepsS.wait h1) (KeepsS.wait (keeps_setPstate (keeps_setStalled (keeps_inc (keeps_setFifo h1)))))
          · extract_lets +onlyGivenNames x3
            have h2 : Keeps σ x3 := keeps_ite (keeps_setPstate (keeps_setStalled (keeps_waited h1))) h1
            clear_value x3
            extract_lets +onlyGivenNames x4
            have h3 : Keeps σ x4 := keeps_settleFifo h2
            clear_value x4
            exact KeepsS.done (keeps_setEng h3)
theorem keeps_execSisRptlv {l : Fin 16} (hs : Keeps σ s) : KeepsR σ (execSisRptlv l s) :=
    keeps_sisRun hs (fun _ _ _ h1 => keepsS_ite KeepsS.exc (keeps_privileged (KeepsS.done (keeps_setEng h1))))
theorem keeps_execSisMbs {l : Fin 16} (hs : Keeps σ s) : KeepsR σ (execSisMbs l s) := by
  unfold execSisMbs
  refine keeps_sisRun hs (fun _ _ _ h1 => ?_)
  extract_lets +onlyGivenNames x1
  clear_value x1
  split
  · exact KeepsS.exc
  · refine keeps_privileged ?_
    split
    · exact KeepsS.done (keeps_setEng h1)
    · split
      · exact KeepsS.done (keeps_setEng h1)
      · split
        · exact KeepsS.done (keeps_setEng h1)
        · extract_lets +onlyGivenNames x2
          clear_value x2
          extract_lets +onlyGivenNames x3
          have h2 : Keeps σ x3 := keeps_mailPut h1
          clear_value x3
          exact KeepsS.done (keeps_setEng h2)
theorem keeps_execSisMbr {l : Fin 16} (hs : Keeps σ s) : KeepsR σ (execSisMbr l s) := by
  unfold execSisMbr
  refine keeps_sisRun hs (fun _ _ _ h1 => ?_)
  extract_lets +onlyGivenNames x1 x2
  clear_value x1 x2
  split
  · exact KeepsS.exc
  · refine keeps_privileged ?_
    split
    · exact KeepsS.done (keeps_setEng h1)
    · extract_lets +onlyGivenNames x3
      have h2 : Keeps σ x3 := keeps_ite (keeps_setPstate (keeps_waited h1)) h1
      clear_value x3
      split
      · exact KeepsS.done (keeps_setEng h2)
      · split
        · exact keepsS_ite (KeepsS.done (keeps_setEng h2)) (keepsS_ite (KeepsS.wait h1) (KeepsS.wait (keeps_setPstate
              (keeps_setEng h1))))
        · extract_lets +onlyGivenNames x4
          extract_lets +onlyGivenNames x5
          have h3 : Keeps σ x5 := keeps_complete h2
          clear_value x5
          exact KeepsS.done (keeps_setEng h3)
theorem keeps_execSisEmit {l : Fin 16} (hs : Keeps σ s) : KeepsR σ (execSisEmit l s) := by
  unfold execSisEmit
  refine keeps_sisRun hs (fun _ _ _ h1 => ?_)
  extract_lets +onlyGivenNames x1
  clear_value x1
  split
  · exact KeepsS.exc
  · split
    · exact KeepsS.exc
    · extract_lets +onlyGivenNames x2 x3
      clear_value x2 x3
      split
      exact KeepsS.done (keeps_setEng (KeepsP.out (keeps_calWrite h1) ‹_›))
theorem keeps_caliEnd {l : Nat} {i : Word64} {f : Susp} {susp : Bool} (hs : Keeps σ s) :
    KeepsS σ (s.caliEnd l i f susp) := by
  unfold State.caliEnd
  extract_lets +onlyGivenNames x1 x2 x3
  clear_value x1 x2 x3
  split
  split
  exact KeepsS.done (keeps_setEng (KeepsP.out (keeps_calWrite hs) ‹_›))
theorem keeps_execSisCali {l : Fin 16} (hs : Keeps σ s) : KeepsR σ (execSisCali l s) := by
  unfold execSisCali
  refine keeps_sisRun hs (fun _ _ _ h1 => ?_)
  split
  · exact keeps_caliEnd (keeps_resume h1)
  · split
    · exact KeepsS.exc
    · exact keeps_caliEnd h1
theorem keeps_execSisSeal {l : Fin 16} (hs : Keeps σ s) : KeepsR σ (execSisSeal l s) := by
  unfold execSisSeal
  refine keeps_sisRun hs (fun _ _ _ h1 => ?_)
  extract_lets +onlyGivenNames x1
  clear_value x1
  split
  · exact KeepsS.exc
  · refine keeps_privileged ?_
    extract_lets +onlyGivenNames x2
    clear_value x2
    split
    exact KeepsS.done (keeps_setEng (KeepsP.out (keeps_sealBy h1) ‹_›))

end Sys2Proof.Machine
end

