-- ==== Sys2Proof/Laws/KeepsLines.lean ====
section
/-! SUPPORT. Each operation keeps what nothing in the device undoes (Keeps): maintenance, line ports, resets, boot, observation and upstream bursts. -/

namespace Sys2Proof.Machine

variable {σ s : State}

theorem keeps_writeStores {t : Tab Word} (hs : Keeps σ s) : Keeps σ (s.writeStores t) := keeps_mk hs
theorem keeps_showSpares (hs : Keeps σ s) : Keeps σ s.showSpares := keeps_setF hs
theorem keeps_bindEngine {l p : Nat} (hs : Keeps σ s) : Keeps σ (s.bindEngine l p) := keeps_setB (keeps_setF (keeps_wr hs))
theorem keeps_bindEngines (hs : Keeps σ s) : Keeps σ s.bindEngines := by
  unfold State.bindEngines
  extract_lets +onlyGivenNames x1
  clear_value x1
  extract_lets +onlyGivenNames x2
  have h1 : Keeps σ x2 := keeps_foldl (fun _ _ h1 => keeps_setB (keeps_setB (keeps_wr h1))) hs
  clear_value x2
  extract_lets +onlyGivenNames x3
  have h2 : Keeps σ x3 := by
    unfold x3
    refine keeps_foldl (fun _ _ h2 => ?_) ?_
    · split
      · exact keeps_bindEngine h2
      · exact keeps_wr h2
    · exact h1
  clear_value x3
  exact keeps_showSpares (keeps_ite (keeps_raise h2) h2)
theorem keeps_loadErr {code : Nat} (hs : Keeps σ s) : Keeps σ (s.loadErr code) := keeps_ite (keeps_setF hs) hs
theorem keeps_applyPatches {ver : Word} {t : Tab Word} {y0 : List UcodePatch} (hs : Keeps σ s) :
    KeepsP σ (s.applyPatches ver t y0) := by
  induction y0 generalizing s ver t with
  | nil =>
    rw [State.applyPatches]
    exact KeepsP.mk hs
  | cons y ys ih =>
    rw [State.applyPatches]
    exact keepsP_ite (ih (keeps_wr (keeps_satField hs))) (KeepsP.mk (keeps_raiseWith (keeps_incN (keeps_loadErr hs))))
theorem keeps_refuseBase {code : Nat} (hs : Keeps σ s) : Keeps σ (s.refuseBase code) := keeps_raiseWith (keeps_loadErr hs)
theorem keeps_execMicrocodeLoad {base : UcodeCheck} {ver : Word} {image : BaseWords} {patches : List UcodePatch} (hs : Keeps σ
    s) :
    KeepsR σ (execMicrocodeLoad base ver image patches s) := by
  unfold execMicrocodeLoad
  split
  · exact KeepsR.next hs
  · split
    · exact KeepsR.next (keeps_refuseBase hs)
    · extract_lets +onlyGivenNames x1
      clear_value x1
      extract_lets +onlyGivenNames x2
      have h1 : Keeps σ x2 := keeps_writeStores hs
      clear_value x2
      split
      · exact KeepsR.next (keeps_refuseBase h1)
      · split
        extract_lets +onlyGivenNames x3
        have h2 : Keeps σ x3 := keeps_wr (keeps_writeStores (KeepsP.out (keeps_applyPatches (keeps_setF (keeps_wr h1))) ‹_›))
        clear_value x3
        exact KeepsR.next (keeps_mk h2)
theorem keeps_execMicrocodeLoadDone (hs : Keeps σ s) : KeepsR σ (execMicrocodeLoadDone s) :=
    KeepsR.next (keeps_ite (keeps_setB (keeps_mk hs)) hs)
theorem keeps_holdItem {l : Nat} (hs : Keeps σ s) : Keeps σ (s.holdItem l) := by
  unfold State.holdItem
  extract_lets +onlyGivenNames x1 x2 x3 x4
  clear_value x1 x2 x3 x4
  split
  · split
    · extract_lets +onlyGivenNames x5
      have h1 : Keeps σ x5 := keeps_settleFifo hs
      clear_value x5
      exact keeps_setEng h1
    · exact hs
  · exact hs
theorem keeps_retire {l : Nat} (hs : Keeps σ s) : Keeps σ (s.retire l) := by
  unfold State.retire
  extract_lets +onlyGivenNames x1 x2
  clear_value x1 x2
  extract_lets +onlyGivenNames x3
  have h1 : Keeps σ x3 := keeps_incIf hs
  clear_value x3
  extract_lets +onlyGivenNames x4
  have h2 : Keeps σ x4 := keeps_incIf h1
  clear_value x4
  extract_lets +onlyGivenNames x5 x6
  clear_value x5 x6
  extract_lets +onlyGivenNames x7
  have h3 : Keeps σ x7 := keeps_mk h2
  clear_value x7
  extract_lets +onlyGivenNames x8
  have h4 : Keeps σ x8 := keeps_setEng h3
  clear_value x8
  extract_lets +onlyGivenNames x9
  have h5 : Keeps σ x9 := keeps_wr (keeps_wr h4)
  clear_value x9
  extract_lets +onlyGivenNames x10
  have h6 : Keeps σ x10 := keeps_raise (keeps_inc h5)
  clear_value x10
  extract_lets +onlyGivenNames x11
  have h7 : Keeps σ x11 := keeps_repairDone h6
  clear_value x11
  split
  · exact keeps_showSpares (keeps_raise (keeps_raise h7))
  · extract_lets +onlyGivenNames x12
    have h8 : Keeps σ x12 := keeps_ite (keeps_raise h7) h7
    clear_value x12
    exact keeps_showSpares (keeps_mk h8)
theorem keeps_execEngineFault {l : Fin 16} {fault : EngFault} {itemHeld : Bool} (hs : Keeps σ s) :
    KeepsR σ (execEngineFault l fault itemHeld s) := by
  unfold execEngineFault
  extract_lets +onlyGivenNames x1
  clear_value x1
  split
  · exact KeepsR.next hs
  · split
    · exact KeepsR.next hs
    · extract_lets +onlyGivenNames x2
      clear_value x2
      extract_lets +onlyGivenNames x3
      have h1 : Keeps σ x3 := keeps_inc hs
      clear_value x3
      extract_lets +onlyGivenNames x4
      have h2 : Keeps σ x4 := keeps_dispatch h1
      clear_value x4
      extract_lets +onlyGivenNames x5
      have h3 : Keeps σ x5 := keeps_ite (keeps_holdItem h2) h2
      clear_value x5
      refine KeepsR.next ?_
      split
      · exact keeps_retire h3
      · extract_lets +onlyGivenNames x6
        clear_value x6
        extract_lets +onlyGivenNames x7
        have h4 : Keeps σ x7 := keeps_setEng h3
        clear_value x7
        exact keeps_raise (keeps_inc (keeps_taken (keeps_slots h4)))
theorem keeps_execMigrateDone {l : Fin 16} {unc : Bool} (hs : Keeps σ s) : KeepsR σ (execMigrateDone l unc s) := by
  unfold execMigrateDone
  split
  · exact KeepsR.next hs
  · extract_lets +onlyGivenNames x1 x2
    clear_value x1 x2
    extract_lets +onlyGivenNames x3
    have h1 : Keeps σ x3 := keeps_mk hs
    clear_value x3
    extract_lets +onlyGivenNames x4
    have h2 : Keeps σ x4 := keeps_applyLoads (keeps_showSpares (keeps_bindEngine h1))
    clear_value x4
    exact KeepsR.next (keeps_ite (keeps_raise (keeps_setB h2)) (keeps_ite (keeps_setEng h2) h2))
theorem keeps_execEventPending {l : Fin 16} {ev : EngEvent} (hs : Keeps σ s) : KeepsR σ (execEventPending l ev s) := by
  unfold execEventPending
  split
  · exact KeepsR.next hs
  · split
    · exact keepsR_ite (KeepsR.next hs) (KeepsR.next (keeps_engPend (keeps_setEng hs)))
    · exact KeepsR.next (keeps_engTick hs)
    · exact KeepsR.next (keeps_engPend hs)
theorem keeps_atSafePoint {l p : Nat} {f : Susp} (hs : Keeps σ s) : Keeps σ (s.atSafePoint l p f) := by
  unfold State.atSafePoint
  extract_lets +onlyGivenNames x1
  clear_value x1
  split
  · exact keeps_taken (keeps_setEng hs)
  · split
    · extract_lets +onlyGivenNames x2
      clear_value x2
      split
      exact keeps_setEng hs
    · exact keeps_setEng hs
theorem keeps_execEventTake {l : Fin 16} {safePoint : Option (BitVec 12)} (hs : Keeps σ s) :
    KeepsR σ (execEventTake l safePoint s) := by
  unfold execEventTake
  extract_lets +onlyGivenNames x1 x2 x3
  clear_value x1 x2 x3
  split
  · exact KeepsR.next hs
  · split
    · exact KeepsR.next hs
    · split
      · extract_lets +onlyGivenNames x4
        have h1 : Keeps σ x4 := keeps_ite hs (keeps_setPstate (keeps_waited hs))
        clear_value x4
        exact KeepsR.next (keeps_setEng h1)
      · split
        · exact KeepsR.next hs
        · split
          · exact KeepsR.next hs
          · split
            · exact KeepsR.next hs
            · extract_lets +onlyGivenNames x4
              have h1 : Keeps σ x4 := keeps_setSuspBit (keeps_inc (keeps_atSafePoint (keeps_dispatch hs)))
              clear_value x4
              exact KeepsR.next (keeps_setEng h1)
theorem keeps_execEngineRun {l : Fin 16} {v : Word} (hs : Keeps σ s) : KeepsR σ (execEngineRun l v s) := by
  unfold execEngineRun
  refine keeps_opWrite hs ?_
  split
  · exact KeepsR.next hs
  · split
    · exact KeepsR.next (keeps_inc hs)
    · extract_lets +onlyGivenNames x1
      have h1 : Keeps σ x1 := keeps_setF hs
      clear_value x1
      exact KeepsR.next (keeps_ite (keeps_setEng h1) (keeps_setEng h1))
theorem keeps_execEngineStop {l : Fin 16} {v : Word} (hs : Keeps σ s) : KeepsR σ (execEngineStop l v s) := by
  unfold execEngineStop
  refine keeps_opWrite hs ?_
  split
  · exact KeepsR.next hs
  · extract_lets +onlyGivenNames x1
    clear_value x1
    extract_lets +onlyGivenNames x2
    have h1 : Keeps σ x2 := keeps_ite hs (keeps_waited hs)
    clear_value x2
    extract_lets +onlyGivenNames x3
    have h2 : Keeps σ x3 := keeps_ite (keeps_setEng (keeps_setB h1)) (keeps_engStop h1)
    clear_value x3
    exact KeepsR.next (keeps_setB h2)
theorem keeps_execMtnMboxWrite {l : Fin 16} {v : Word} (hs : Keeps σ s) : KeepsR σ (execMtnMboxWrite l v s) := by
  unfold execMtnMboxWrite
  refine keeps_opWrite hs ?_
  extract_lets +onlyGivenNames x1
  exact KeepsR.next (keeps_ite (keeps_wr hs) (keeps_inc hs))
theorem keeps_execEngineWake {l : Fin 16} (hs : Keeps σ s) : KeepsR σ (execEngineWake l s) := KeepsR.next (keeps_setPstate hs)
theorem keeps_progDone {d : Desc} {status : Nat} (hs : Keeps σ s) : Keeps σ (s.progDone d status) :=
    keeps_cmdNext (keeps_complete (keeps_ite (keeps_dmaFail hs) hs))
theorem keeps_execPseg {r : Fin 1024} (hs : Keeps σ s) : KeepsR σ (execPseg r s) := by
  unfold execPseg
  split
  · exact KeepsR.next hs
  · extract_lets +onlyGivenNames x1 x2
    clear_value x1 x2
    split
    · exact KeepsR.next (keeps_progDone hs)
    · split
      · exact KeepsR.next (keeps_progDone hs)
      · split
        · exact KeepsR.next (keeps_progDone hs)
        · split
          · exact KeepsR.next (keeps_progDone hs)
          · extract_lets +onlyGivenNames x3 x4
            clear_value x3 x4
            extract_lets +onlyGivenNames x5
            have h1 : Keeps σ x5 := keeps_setEng hs
            clear_value x5
            exact KeepsR.next (keeps_progDone h1)
theorem keeps_execPload {r : Fin 1024} {data : List Word64} {dmaOk : Bool} (hs : Keeps σ s) :
    KeepsR σ (execPload r data dmaOk s) := by
  unfold execPload
  split
  · exact KeepsR.next hs
  · extract_lets +onlyGivenNames x1 x2 x3 x4
    clear_value x1 x2 x3 x4
    split
    · exact KeepsR.next (keeps_progDone hs)
    · split
      · exact KeepsR.next (keeps_progDone hs)
      · split
        · exact KeepsR.next hs
        · extract_lets +onlyGivenNames x5
          have h1 : Keeps σ x5 := keeps_dmaRead hs
          clear_value x5
          exact keepsR_ite (KeepsR.next (keeps_progDone h1)) (keepsR_ite (KeepsR.next (keeps_cmdNext (keeps_setEng h1)))
              (KeepsR.next (keeps_progDone (keeps_setEng h1))))
theorem keeps_execPread {r : Fin 1024} {dmaOk : Bool} (hs : Keeps σ s) : KeepsR σ (execPread r dmaOk s) := by
  unfold execPread
  split
  · exact KeepsR.next hs
  · exact keepsR_ite (KeepsR.next (keeps_progDone hs)) (keepsR_ite (KeepsR.next (keeps_progDone hs)) (KeepsR.next
        (keeps_progDone (keeps_emit hs))))
theorem keeps_tellMode {n : Nat} (hs : Keeps σ s) : Keeps σ (s.tellMode n) := keeps_tell (keeps_tell hs)
theorem keeps_execTpaModeWrite {n : Fin 32} {v : Word} (hs : Keeps σ s) : KeepsR σ (execTpaModeWrite n v s) :=
    keeps_opWrite hs (KeepsR.next (keeps_ite (keeps_tpaRefused hs) (keeps_seeLight (keeps_tellMode (keeps_wr hs)))))
theorem keeps_laser {n : Nat} {v : Bool} (hs : Keeps σ s) : Keeps σ (s.laser n v) := by
  unfold State.laser
  extract_lets +onlyGivenNames x1
  have h1 : Keeps σ x1 := keeps_setB hs
  clear_value x1
  extract_lets +onlyGivenNames x2
  clear_value x2
  extract_lets +onlyGivenNames x3
  have h2 : Keeps σ x3 := keeps_ite (keeps_setB h1) h1
  clear_value x3
  extract_lets +onlyGivenNames x4
  have h3 : Keeps σ x4 := keeps_txenSettle h2
  clear_value x4
  exact keeps_ite (keeps_txenSettle h3) h3
theorem keeps_ctrlRest {n : Nat} {laserEn sdGate : Bool} (hs : Keeps σ s) : Keeps σ (s.ctrlRest n laserEn sdGate) :=
    keeps_laser (keeps_setB hs)
theorem keeps_execPortEnable {n : Fin 32} {laserEn sdGate : Bool} (hs : Keeps σ s) :
    KeepsR σ (execPortEnable n laserEn sdGate s) := by
  unfold execPortEnable
  refine keeps_opWrite hs ?_
  extract_lets +onlyGivenNames x1
  have h1 : Keeps σ x1 := keeps_ctrlRest hs
  clear_value x1
  exact KeepsR.next (keeps_ite (keeps_tpaRefused (keeps_setB h1)) (keeps_ite h1 (keeps_seeLight (keeps_dueBroadcasts
      (keeps_tell (keeps_setB h1))))))
theorem keeps_dropFramer {n y0 : Nat} (hs : Keeps σ s) : Keeps σ (s.dropFramer n y0) := by
  induction y0 generalizing s n with
  | zero =>
    rw [State.dropFramer]
    exact hs
  | succ y ih =>
    rw [State.dropFramer]
    exact ih (keeps_dropReady hs)
theorem keeps_disablePort {n : Nat} (hs : Keeps σ s) : Keeps σ (s.disablePort n) := by
  unfold State.disablePort
  extract_lets +onlyGivenNames x1
  clear_value x1
  extract_lets +onlyGivenNames x2
  have h1 : Keeps σ x2 := keeps_tell (keeps_tell (keeps_setB (keeps_setB hs)))
  clear_value x2
  extract_lets +onlyGivenNames x3
  clear_value x3
  extract_lets +onlyGivenNames x4
  have h2 : Keeps σ x4 := keeps_setTport h1
  clear_value x4
  extract_lets +onlyGivenNames x5
  have h3 : Keeps σ x5 := keeps_foldl (fun _ _ h3 => keeps_flushQueue h3) h2
  clear_value x5
  extract_lets +onlyGivenNames x6
  have h4 : Keeps σ x6 := keeps_dropRemainder h3
  clear_value x6
  extract_lets +onlyGivenNames x7
  have h5 : Keeps σ x7 := keeps_dropFramer h4
  clear_value x7
  extract_lets +onlyGivenNames x8
  have h6 : Keeps σ x8 := keeps_invalidateAll h5
  clear_value x8
  extract_lets +onlyGivenNames x9
  have h7 : Keeps σ x9 := keeps_foldl (fun _ _ h7 => keeps_ite h7 (keeps_toFree h7)) h6
  clear_value x9
  extract_lets +onlyGivenNames x10
  have h8 : Keeps σ x10 := keeps_foldl (fun _ _ h8 => keeps_dropPartial h8) h7
  clear_value x10
  extract_lets +onlyGivenNames x11
  have h9 : Keeps σ x11 := keeps_dueBroadcasts (keeps_emptyPloams h8)
  clear_value x11
  extract_lets +onlyGivenNames x12
  clear_value x12
  extract_lets +onlyGivenNames x13
  have h10 : Keeps σ x13 := keeps_setGport h9
  clear_value x13
  extract_lets +onlyGivenNames x14
  clear_value x14
  extract_lets +onlyGivenNames x15
  have h11 : Keeps σ x15 := keeps_emptyQueue (keeps_setDport h10)
  clear_value x15
  exact keeps_txenSettle h11
theorem keeps_execPortDisable {n : Fin 32} {laserEn sdGate : Bool} (hs : Keeps σ s) :
    KeepsR σ (execPortDisable n laserEn sdGate s) :=
    keeps_opWrite hs (KeepsR.next (keeps_ctrlRest (keeps_ite (keeps_disablePort hs) hs)))
theorem keeps_execPortDrained {n : Fin 32} (hs : Keeps σ s) : KeepsR σ (execPortDrained n s) :=
    KeepsR.next (keeps_ite hs (keeps_tell (keeps_setB hs)))
theorem keeps_execLaserEnClear {n : Fin 32} (hs : Keeps σ s) : KeepsR σ (execLaserEnClear n s) :=
    keeps_opWrite hs (KeepsR.next (keeps_laser hs))
theorem keeps_execLaserEnSet {n : Fin 32} (hs : Keeps σ s) : KeepsR σ (execLaserEnSet n s) :=
    keeps_opWrite hs (KeepsR.next (keeps_laser hs))
theorem keeps_execPmaPatternWrite {n : Fin 32} {v : Word} (hs : Keeps σ s) : KeepsR σ (execPmaPatternWrite n v s) :=
    keeps_opWrite hs (KeepsR.next (keeps_ite (keeps_tpaRefused hs) (keeps_seeLight (keeps_wr hs))))
theorem keeps_execFramingStart {n : Fin 32} (hs : Keeps σ s) : KeepsR σ (execFramingStart n s) := by
  unfold execFramingStart
  extract_lets +onlyGivenNames x1
  clear_value x1
  refine KeepsR.next ?_
  split
  · exact hs
  · extract_lets +onlyGivenNames x2
    have h1 : Keeps σ x2 := keeps_tell (keeps_setB hs)
    clear_value x2
    extract_lets +onlyGivenNames x3
    clear_value x3
    extract_lets +onlyGivenNames x4
    have h2 : Keeps σ x4 := keeps_setDport h1
    clear_value x4
    exact keeps_ite (keeps_dueBroadcasts h2) h2
theorem keeps_burstPassed {n frame k : Nat} (hs : Keeps σ s) : Keeps σ (s.burstPassed n frame k) := by
  unfold State.burstPassed
  split
  · exact hs
  · exact keeps_setTport hs
theorem keeps_execBurstResetPulse {n : Fin 32} {frame : BitVec 51} {k : Fin 512} (hs : Keeps σ s) :
    KeepsR σ (execBurstResetPulse n frame k s) := by
  unfold execBurstResetPulse
  extract_lets +onlyGivenNames x1
  clear_value x1
  split
  · exact KeepsR.next (keeps_burstPassed hs)
  · extract_lets +onlyGivenNames x2 x3 x4 x5 x6 x7 x8
    clear_value x2 x3 x4 x5 x6 x7 x8
    extract_lets +onlyGivenNames x9
    have h1 : Keeps σ x9 := keeps_setTport hs
    clear_value x9
    exact KeepsR.next (keeps_ite (keeps_inc h1) (keeps_emit (keeps_incIf h1)))
theorem keeps_silentRun {n frame : Nat} {miss : Bool} (hs : Keeps σ s) : Keeps σ (s.silentRun n frame miss) := by
  unfold State.silentRun
  split
  exact keeps_mk hs
theorem keeps_execSdCheck {n : Fin 32} {frame : BitVec 51} {k : Fin 512} {pin : Bool} (hs : Keeps σ s) :
    KeepsR σ (execSdCheck n frame k pin s) := by
  unfold execSdCheck
  split
  · exact KeepsR.next hs
  · split
    · exact KeepsR.next hs
    · extract_lets +onlyGivenNames x1
      clear_value x1
      extract_lets +onlyGivenNames x2
      have h1 : Keeps σ x2 := keeps_silentRun hs
      clear_value x2
      split
      · exact KeepsR.next h1
      · extract_lets +onlyGivenNames x3
        have h2 : Keeps σ x3 := keeps_inc h1
        clear_value x3
        exact KeepsR.next (keeps_ite (keeps_abandonBurst h2) h2)
theorem keeps_execRogueEvent {n : Fin 32} {frame : BitVec 51} {cycle : BitVec 16} (hs : Keeps σ s) :
    KeepsR σ (execRogueEvent n frame cycle s) := by
  unfold execRogueEvent
  extract_lets +onlyGivenNames x1 x2 x3
  clear_value x1 x2 x3
  refine KeepsR.next ?_
  split
  · exact hs
  · extract_lets +onlyGivenNames x4
    have h1 : Keeps σ x4 := keeps_setTport hs
    clear_value x4
    extract_lets +onlyGivenNames x5
    have h2 : Keeps σ x5 := keeps_setB (keeps_inc h1)
    clear_value x5
    extract_lets +onlyGivenNames x6
    have h3 : Keeps σ x6 := keeps_ite (keeps_setB h2) h2
    clear_value x6
    extract_lets +onlyGivenNames x7
    have h4 : Keeps σ x7 := keeps_wr h3
    clear_value x7
    exact keeps_raise h4
theorem keeps_i2cEnd {m result : Nat} {chan : Option Nat} (hs : Keeps σ s) : Keeps σ (s.i2cEnd m result chan) := by
  unfold State.i2cEnd
  extract_lets +onlyGivenNames x1
  have h1 : Keeps σ x1 := keeps_wr hs
  clear_value x1
  exact keeps_mk h1
theorem keeps_execI2cCmdGo {m : Fin 4} {v : Word} (hs : Keeps σ s) : KeepsR σ (execI2cCmdGo m v s) := by
  unfold execI2cCmdGo
  refine keeps_opWrite hs ?_
  refine KeepsR.next ?_
  split
  · exact hs
  · extract_lets +onlyGivenNames x1
    have h1 : Keeps σ x1 := keeps_wr hs
    clear_value x1
    exact keeps_ite (keeps_wr h1) (keeps_setB h1)
theorem keeps_execI2cCmdDone {m : Fin 4} {r : I2cResult} {data : BitVec 64} (hs : Keeps σ s) :
    KeepsR σ (execI2cCmdDone m r data s) := by
  unfold execI2cCmdDone
  split
  · exact KeepsR.next hs
  · extract_lets +onlyGivenNames x1 x2
    clear_value x1 x2
    split
    · exact KeepsR.next (keeps_i2cEnd (keeps_drive hs))
    · exact KeepsR.next (keeps_i2cEnd (keeps_drive hs))
    · extract_lets +onlyGivenNames x3 x4 x5 x6 x7
      clear_value x3 x4 x5 x6 x7
      extract_lets +onlyGivenNames x8
      have h1 : Keeps σ x8 := keeps_ite (keeps_wr (keeps_wr hs)) hs
      clear_value x8
      exact KeepsR.next (keeps_i2cEnd (keeps_drive h1))
theorem keeps_execI2cTimeout {stop : I2cStop} (hs : Keeps σ s) : KeepsR σ (execI2cTimeout stop s) :=
    KeepsR.next (keeps_ite (keeps_i2cEnd (keeps_drive hs)) hs)
theorem keeps_clearBlock {b : Nat} {keep : Nat → Bool} (hs : Keeps σ s) : Keeps σ (s.clearBlock b keep) :=
    keeps_regs hs (Tab.wf_keep _ _ _)
theorem keeps_orphanFrames (hs : Keeps σ s) : Keeps σ s.orphanFrames := keeps_mk hs
theorem keeps_orphanCommands (hs : Keeps σ s) : Keeps σ s.orphanCommands := keeps_mk hs
theorem keeps_returnHif (hs : Keeps σ s) : Keeps σ s.returnHif := by
  unfold State.returnHif
  extract_lets +onlyGivenNames x1 x2 x3
  clear_value x1 x2 x3
  extract_lets +onlyGivenNames x4
  have h1 : Keeps σ x4 := keeps_mk hs
  clear_value x4
  extract_lets +onlyGivenNames x5
  have h2 : Keeps σ x5 := keeps_foldl (fun _ _ h2 => keeps_free h2) h1
  clear_value x5
  extract_lets +onlyGivenNames x6
  have h3 : Keeps σ x6 := by
    unfold x6
    refine keeps_foldl (fun _ _ h3 => ?_) ?_
    · split
      · exact keeps_free h3
      · exact h3
    · exact h2
  clear_value x6
  exact keeps_orphanCommands (keeps_orphanFrames (keeps_mk h3))
theorem keeps_returnTmg (hs : Keeps σ s) : Keeps σ s.returnTmg := by
  unfold State.returnTmg
  extract_lets +onlyGivenNames x1
  have h1 : Keeps σ x1 := keeps_foldl (fun _ _ h1 => keeps_foldl (fun _ _ h2 => keeps_dropQueued h2) h1) hs
  clear_value x1
  extract_lets +onlyGivenNames x2
  have h2 : Keeps σ x2 := keeps_foldl (fun _ _ h2 => keeps_dropDone (keeps_free h2)) h1
  clear_value x2
  exact keeps_mk h2
theorem keeps_returnDfr (hs : Keeps σ s) : Keeps σ s.returnDfr := by
  unfold State.returnDfr
  extract_lets +onlyGivenNames x1
  have h1 : Keeps σ x1 := by
    unfold x1
    refine keeps_foldl (fun _ _ h1 => ?_) ?_
    · extract_lets +onlyGivenNames x2
      clear_value x2
      extract_lets +onlyGivenNames x3
      have h2 : Keeps σ x3 := keeps_foldl (fun _ _ h2 => keeps_dropDone (keeps_finish h2)) h1
      clear_value x3
      extract_lets +onlyGivenNames x4
      have h3 : Keeps σ x4 := keeps_foldl (fun _ _ h3 => keeps_ptxDone h3) h2
      clear_value x4
      exact keeps_emptyPloams (keeps_stopFraming h3)
    · exact hs
  clear_value x1
  exact keeps_mk h1
theorem keeps_endStall {m : Nat} (hs : Keeps σ s) : Keeps σ (s.endStall m) := by
  unfold State.endStall
  split
  · exact hs
  · extract_lets +onlyGivenNames x1
    clear_value x1
    extract_lets +onlyGivenNames x2
    have h1 : Keeps σ x2 := keeps_setPstate (keeps_setStalled (keeps_waited (keeps_setFifo hs)))
    clear_value x2
    exact keeps_sisEnd (keeps_taken (keeps_taken (keeps_setEng h1)))
theorem keeps_emptyFifos (hs : Keeps σ s) : Keeps σ s.emptyFifos := by
  unfold State.emptyFifos
  extract_lets +onlyGivenNames x1
  have h1 : Keeps σ x1 := keeps_foldl (fun _ _ h1 => keeps_endStall h1) hs
  clear_value x1
  exact keeps_mk h1
theorem keeps_returnCounts (hs : Keeps σ s) : Keeps σ s.returnCounts :=
    keeps_foldl (fun _ _ h1 => keeps_foldl (fun _ _ h2 => keeps_ite (keeps_setPage h2) h2) h1) hs
theorem keeps_returnUdf (hs : Keeps σ s) : Keeps σ s.returnUdf := by
  unfold State.returnUdf
  extract_lets +onlyGivenNames x1
  have h1 : Keeps σ x1 := keeps_returnCounts hs
  clear_value x1
  extract_lets +onlyGivenNames x2
  have h2 : Keeps σ x2 := keeps_foldl (fun _ _ h2 => keeps_dropPartial h2) h1
  clear_value x2
  exact keeps_emptyFifos (keeps_mk h2)
theorem keeps_returnTce (hs : Keeps σ s) : Keeps σ s.returnTce := by
  unfold State.returnTce
  extract_lets +onlyGivenNames x1
  have h1 : Keeps σ x1 := keeps_foldl (fun _ _ h1 => keeps_free h1) hs
  clear_value x1
  exact keeps_mk h1
theorem keeps_returnUpl (hs : Keeps σ s) : Keeps σ s.returnUpl := by
  unfold State.returnUpl
  extract_lets +onlyGivenNames x1
  extract_lets +onlyGivenNames x2
  have h1 : Keeps σ x2 := keeps_foldl (fun _ _ h1 => keeps_finish h1) hs
  clear_value x2
  exact keeps_mk h1
theorem keeps_returnPkts {l : List Pkt} (hs : Keeps σ s) : Keeps σ (s.returnPkts l) := by
  unfold State.returnPkts
  refine keeps_foldl (fun _ _ h1 => ?_) ?_
  · split
    · exact keeps_free h1
    · exact h1
  · exact hs
theorem keeps_reexpect (hs : Keeps σ s) : Keeps σ s.reexpect := keeps_mk hs
theorem keeps_blank {b : Nat} {soft : Bool} (hs : Keeps σ s) : Keeps σ (s.blank b soft) := by
  unfold State.blank
  split
  · exact keeps_mk hs
  · exact keeps_mk hs
  · exact keeps_mk hs
  · exact keeps_mk hs
  · exact keeps_ite (keeps_mk hs) (keeps_mk hs)
  · exact keeps_mk hs
  · exact keeps_mk hs
  · exact keeps_mk hs
  · exact keeps_mk hs
  · exact keeps_ite (keeps_mk hs) (keeps_mk hs)
  · exact keeps_mk hs
  · exact keeps_mk hs
  · exact keeps_mk hs
  · exact keeps_mk hs
  · exact keeps_mk hs
  · exact keeps_mk hs
  · exact keeps_mk hs
  · exact keeps_mk hs
  · exact keeps_mk hs
theorem keeps_softTrim {b : Nat} (hs : Keeps σ s) : Keeps σ (s.softTrim b) := by
  unfold State.softTrim
  split
  · exact keeps_foldl (fun _ _ h1 => keeps_setB h1) hs
  · exact keeps_wr hs
  · exact keeps_wr hs
  · exact hs
theorem keeps_giveBack {b : Nat} (hs : Keeps σ s) : Keeps σ (s.giveBack b) := by
  unfold State.giveBack
  split
  · exact keeps_foldl (fun _ _ h1 => keeps_ite (keeps_disablePort h1) h1) hs
  · exact keeps_foldl (fun _ _ h1 => keeps_emptyPloams h1) hs
  · exact keeps_emptyFifos hs
  · exact keeps_foldl (fun _ _ h1 => keeps_applyLoads h1) hs
  · exact keeps_returnDfr hs
  · exact keeps_returnUdf hs
  · exact keeps_returnTce hs
  · exact keeps_returnPkts hs
  · exact keeps_returnPkts hs
  · exact keeps_returnTmg hs
  · exact keeps_returnUpl hs
  · exact keeps_returnHif hs
  · exact hs
theorem keeps_enterReset {b : Nat} (hs : Keeps σ s) : Keeps σ (s.enterReset b) := keeps_mk hs
theorem keeps_partialOf {b : Nat} (hs : Keeps σ s) : Keeps σ (s.partialOf b) :=
    keeps_foldl (fun _ _ h1 => keeps_pmPartial h1) hs
theorem keeps_softBlock {b : Nat} (hs : Keeps σ s) : Keeps σ (s.softBlock b) := by
  unfold State.softBlock
  extract_lets +onlyGivenNames x1
  clear_value x1
  extract_lets +onlyGivenNames x2
  have h1 : Keeps σ x2 := keeps_ite (keeps_outsLow hs) hs
  clear_value x2
  extract_lets +onlyGivenNames x3
  have h2 : Keeps σ x3 := keeps_partialOf h1
  clear_value x3
  extract_lets +onlyGivenNames x4
  have h3 : Keeps σ x4 := keeps_softTrim (keeps_clearBlock (keeps_blank (keeps_giveBack h2)))
  clear_value x4
  extract_lets +onlyGivenNames x5
  have h4 : Keeps σ x5 := keeps_resync (keeps_seeLight (keeps_enterReset h3))
  clear_value x5
  split
  · exact keeps_mk h4
  · exact keeps_clockStepped h4
  · exact keeps_reexpect h4
  · exact keeps_reexpect h4
  · exact h4
theorem keeps_resetPacketRings (hs : Keeps σ s) : Keeps σ s.resetPacketRings := by
  unfold State.resetPacketRings
  extract_lets +onlyGivenNames x1
  clear_value x1
  extract_lets +onlyGivenNames x2
  have h1 : Keeps σ x2 := keeps_orphanFrames hs
  clear_value x2
  exact keeps_regs h1 (Tab.wf_keep _ _ _)
theorem keeps_softBpm (hs : Keeps σ s) : Keeps σ s.softBpm := by
  unfold State.softBpm
  extract_lets +onlyGivenNames x1
  have h1 : Keeps σ x1 := keeps_emptyFifos (keeps_returnCounts (keeps_resetPacketRings hs))
  clear_value x1
  extract_lets +onlyGivenNames x2
  have h2 : Keeps σ x2 := keeps_foldl (fun _ _ h2 => keeps_emptyPloams h2) h1
  clear_value x2
  extract_lets +onlyGivenNames x3
  have h3 : Keeps σ x3 := keeps_foldl (fun _ _ h3 => keeps_enterReset (keeps_clearBlock (keeps_blank h3))) h2
  clear_value x3
  extract_lets +onlyGivenNames x4
  have h4 : Keeps σ x4 := keeps_resync (keeps_resync (keeps_foldl (fun _ _ h4 => keeps_setB h4) h3))
  clear_value x4
  extract_lets +onlyGivenNames x5
  extract_lets +onlyGivenNames x6
  have h5 : Keeps σ x6 := keeps_foldl (fun _ _ h5 => keeps_inflStep h5) h4
  clear_value x6
  extract_lets +onlyGivenNames x7
  clear_value x7
  extract_lets +onlyGivenNames x8
  have h6 : Keeps σ x8 := keeps_mk h5
  clear_value x8
  exact keeps_rebuildPools h6
theorem keeps_softReset {b : Nat} (hs : Keeps σ s) : Keeps σ (s.softReset b) :=
    keeps_ite hs (keeps_ite (keeps_softBpm hs) (keeps_softBlock hs))
theorem keeps_copyRecord (hs : Keeps σ s) : Keeps σ s.copyRecord := by
  unfold State.copyRecord
  extract_lets +onlyGivenNames x1
  have h1 : ∀ v0 v1 v2, Keeps σ v0 → Keeps σ (x1 v0 v1 v2) := by
    intro v0 v1 v2 hv0
    unfold x1
    exact keeps_wr hv0
  clear_value x1
  exact h1 _ _ _ (h1 _ _ _ (h1 _ _ _ (h1 _ _ _ (h1 _ _ _ hs))))
theorem keeps_blankAll {flt : Bool} (hs : Keeps σ s) : Keeps σ (s.blankAll flt) := keeps_mk hs
theorem keeps_assertReset {r : ResetSrc} (hs : Keeps σ s) : Keeps σ (s.assertReset r) := by
  unfold State.assertReset
  split
  · exact hs
  · extract_lets +onlyGivenNames x1
    have h1 : Keeps σ x1 := keeps_ite (keeps_copyRecord (keeps_endPass (keeps_outsLow hs))) (keeps_endPass (keeps_outsLow hs))
    clear_value x1
    extract_lets +onlyGivenNames x2 x3 x4 x5 x6 x7 x8 x9
    clear_value x2 x3 x4 x5 x6 x7 x8 x9
    extract_lets +onlyGivenNames x10
    have h2 : Keeps σ x10 := keeps_blankAll (keeps_regs h1 (Tab.wf_keep _ _ _))
    clear_value x10
    exact keeps_seeLight (keeps_wr (keeps_wr (keeps_wr h2)))
theorem keeps_releaseBlock {b : Nat} (hs : Keeps σ s) : Keeps σ (s.releaseBlock b) := by
  unfold State.releaseBlock
  extract_lets +onlyGivenNames x1
  clear_value x1
  extract_lets +onlyGivenNames x2
  have h1 : Keeps σ x2 := keeps_mk hs
  clear_value x2
  split
  · exact keeps_bindEngines h1
  · extract_lets +onlyGivenNames x3
    have h2 : Keeps σ x3 := keeps_setB h1
    clear_value x3
    extract_lets +onlyGivenNames x4
    clear_value x4
    extract_lets +onlyGivenNames x5
    have h3 : Keeps σ x5 := keeps_mk h2
    clear_value x5
    exact keeps_ite (keeps_frameTick h3) h3
  · extract_lets +onlyGivenNames x3
    clear_value x3
    extract_lets +onlyGivenNames x4
    have h2 : Keeps σ x4 := keeps_mk h1
    clear_value x4
    exact keeps_ite (keeps_setB h2) h2
  · exact keeps_incN (keeps_mk h1)
  · exact h1
theorem keeps_execPowerOnAon (hs : Keeps σ s) : KeepsR σ (execPowerOnAon s) := KeepsR.next (keeps_assertReset hs)
theorem keeps_execPowerOnCore (hs : Keeps σ s) : KeepsR σ (execPowerOnCore s) := KeepsR.next (keeps_assertReset hs)
theorem keeps_execPorst (hs : Keeps σ s) : KeepsR σ (execPorst s) := KeepsR.next (keeps_assertReset hs)
theorem keeps_execSysrst (hs : Keeps σ s) : KeepsR σ (execSysrst s) := KeepsR.next (keeps_assertReset hs)
theorem keeps_execSoftwareGlobalReset {v : Word} {late : Bool} (hs : Keeps σ s) :
    KeepsR σ (execSoftwareGlobalReset v late s) := by
  unfold execSoftwareGlobalReset
  refine keeps_opWrite hs ?_
  extract_lets +onlyGivenNames x1
  have h1 : ∀ v0 v1, Keeps σ v0 → Keeps σ (x1 v0 v1) := by
    intro v0 v1 hv0
    unfold x1
    exact keeps_mk hv0
  clear_value x1
  exact keepsR_ite (KeepsR.next (keeps_assertReset hs)) (keepsR_ite (KeepsR.next (keeps_incIf (h1 _ _ hs))) (KeepsR.next
      (keeps_inc (h1 _ _ hs))))
theorem keeps_execWatchdogExpire (hs : Keeps σ s) : KeepsR σ (execWatchdogExpire s) :=
    KeepsR.next (keeps_ite (keeps_assertReset (keeps_raise hs)) hs)
theorem keeps_execSupplyOutOfWindow {rail : Fin 16} (hs : Keeps σ s) : KeepsR σ (execSupplyOutOfWindow rail s) :=
    KeepsR.next (keeps_raiseLevel hs)
theorem keeps_setPhase {n : Nat} (hs : Keeps σ s) : Keeps σ (s.setPhase n) := keeps_mk hs
theorem keeps_clearSett (hs : Keeps σ s) : Keeps σ s.clearSett := keeps_regs hs (Tab.wf_keep _ _ _)
theorem keeps_execSettCheck {find : SettFind} (hs : Keeps σ s) : KeepsR σ (execSettCheck find s) := by
  unfold execSettCheck
  split
  · exact KeepsR.next hs
  · extract_lets +onlyGivenNames x1 x2 x3
    clear_value x1 x2 x3
    extract_lets +onlyGivenNames x4
    have h1 : Keeps σ x4 := keeps_ite hs (keeps_setB hs)
    clear_value x4
    extract_lets +onlyGivenNames x5
    have h2 : Keeps σ x5 := keeps_setF h1
    clear_value x5
    extract_lets +onlyGivenNames x6
    clear_value x6
    extract_lets +onlyGivenNames x7
    have h3 : Keeps σ x7 := keeps_mk h2
    clear_value x7
    extract_lets +onlyGivenNames x8
    have h4 : Keeps σ x8 := keeps_setB h3
    clear_value x8
    extract_lets +onlyGivenNames x9
    have h5 : Keeps σ x9 := keeps_ite h4 (keeps_raise (keeps_clearSett h4))
    clear_value x9
    exact KeepsR.next (keeps_setPhase h5)
theorem keeps_execStrapMeasure {code : Fin 16} (hs : Keeps σ s) : KeepsR σ (execStrapMeasure code s) :=
    KeepsR.next (keeps_ite (keeps_setPhase (keeps_wr hs)) hs)
theorem keeps_logFuses (hs : Keeps σ s) : Keeps σ s.logFuses := by
  unfold State.logFuses
  split
  · exact hs
  · extract_lets +onlyGivenNames x1
    have h1 : Keeps σ x1 := keeps_foldl (fun _ _ h1 => keeps_ledgerLog h1) hs
    clear_value x1
    exact keeps_mk h1
theorem keeps_execTrimLoad {crcMatch : Bool} (hs : Keeps σ s) : KeepsR σ (execTrimLoad crcMatch s) := by
  unfold execTrimLoad
  split
  · exact KeepsR.next hs
  · split
    · extract_lets +onlyGivenNames x1
      have h1 : Keeps σ x1 := keeps_logFuses hs
      clear_value x1
      exact KeepsR.next (keeps_setPhase (keeps_setB (keeps_mk h1)))
    · extract_lets +onlyGivenNames x1 x2
      clear_value x1 x2
      extract_lets +onlyGivenNames x3
      have h1 : Keeps σ x3 := keeps_mk hs
      clear_value x3
      exact KeepsR.next (keeps_ite (keeps_setB h1) h1)
theorem keeps_execPllLock (hs : Keeps σ s) : KeepsR σ (execPllLock s) :=
    KeepsR.next (keeps_ite (keeps_setPhase (keeps_mk hs)) hs)
theorem keeps_bistDefect {d : MemDefect} (hs : Keeps σ s) : Keeps σ (s.bistDefect d) := by
  unfold State.bistDefect
  extract_lets +onlyGivenNames x1 x2 x3 x4
  clear_value x1 x2 x3 x4
  split
  · exact hs
  · split
    · exact keeps_raise hs
    · extract_lets +onlyGivenNames x5
      clear_value x5
      extract_lets +onlyGivenNames x6
      have h1 : Keeps σ x6 := keeps_mk hs
      clear_value x6
      extract_lets +onlyGivenNames x7
      have h2 : Keeps σ x7 := keeps_repairDone h1
      clear_value x7
      exact keeps_ite (keeps_raise h2) h2
theorem keeps_execMemoryBist {defects : List MemDefect} (hs : Keeps σ s) : KeepsR σ (execMemoryBist defects s) := by
  unfold execMemoryBist
  split
  · exact KeepsR.next hs
  · extract_lets +onlyGivenNames x1
    have h1 : Keeps σ x1 := keeps_ite (keeps_foldl (fun _ _ h1 => keeps_bistDefect h1) hs) hs
    clear_value x1
    extract_lets +onlyGivenNames x2
    have h2 : Keeps σ x2 := keeps_setB h1
    clear_value x2
    exact KeepsR.next (keeps_ite h2 (keeps_setPhase h2))
theorem keeps_startRom (hs : Keeps σ s) : Keeps σ s.startRom := by
  unfold State.startRom
  extract_lets +onlyGivenNames x1
  have h1 : Keeps σ x1 := keeps_setPhase hs
  clear_value x1
  extract_lets +onlyGivenNames x2
  clear_value x2
  extract_lets +onlyGivenNames x3
  have h2 : Keeps σ x3 := keeps_mk h1
  clear_value x3
  exact keeps_setF h2
theorem keeps_execDomainRelease {perst : Bool} (hs : Keeps σ s) : KeepsR σ (execDomainRelease perst s) := by
  unfold execDomainRelease
  split
  · exact KeepsR.next hs
  · extract_lets +onlyGivenNames x1
    clear_value x1
    extract_lets +onlyGivenNames x2
    have h1 : Keeps σ x2 := keeps_foldl (fun _ _ h1 => keeps_releaseBlock h1) hs
    clear_value x2
    extract_lets +onlyGivenNames x3
    clear_value x3
    extract_lets +onlyGivenNames x4
    have h2 : Keeps σ x4 := keeps_mk h1
    clear_value x4
    exact KeepsR.next (keeps_ite h2 (keeps_startRom h2))
theorem keeps_runFirmware {version : Word} (hs : Keeps σ s) : Keeps σ (s.runFirmware version) :=
    keeps_setPhase (keeps_wr (keeps_setF hs))
theorem keeps_execBootRom {copyA copyB : BootCheck} {version : Word} (hs : Keeps σ s) :
    KeepsR σ (execBootRom copyA copyB version s) :=
    keepsR_ite (KeepsR.next hs) (keepsR_ite (KeepsR.next (keeps_runFirmware (keeps_setB hs))) (keepsR_ite (KeepsR.next (keeps_runFirmware (keeps_setB hs))) (KeepsR.next (keeps_setF (keeps_setF hs)))))
theorem keeps_execHostLoad {len : BitVec 20} {check : BootCheck} {recovery : Bool} {version : Word} (hs : Keeps σ s) :
    KeepsR σ (execHostLoad len check recovery version s) := by
  unfold execHostLoad
  refine keeps_opWrite hs ?_
  split
  · exact KeepsR.next (keeps_inc hs)
  · extract_lets +onlyGivenNames x1
    have h1 : Keeps σ x1 := keeps_setF hs
    clear_value x1
    extract_lets +onlyGivenNames x2
    clear_value x2
    extract_lets +onlyGivenNames x3
    have h2 : Keeps σ x3 := keeps_setF h1
    clear_value x3
    exact KeepsR.next (keeps_ite (keeps_runFirmware h2) h2)
theorem keeps_keepEntry {e : List Word} (hs : Keeps σ s) : Keeps σ (s.keepEntry e) := by
  unfold State.keepEntry
  extract_lets +onlyGivenNames x1
  clear_value x1
  split
  · exact keeps_ldgBump hs
  · extract_lets +onlyGivenNames x2
    have h1 : Keeps σ x2 := keeps_foldl (fun _ _ h1 => keeps_wr h1) hs
    clear_value x2
    extract_lets +onlyGivenNames x3
    have h2 : Keeps σ x3 := keeps_wr h1
    clear_value x3
    exact keeps_ite (keeps_setB h2) h2
theorem keeps_loadImage {img : LedgerSlot} (hs : Keeps σ s) : Keeps σ (s.loadImage img) := by
  unfold State.loadImage
  extract_lets +onlyGivenNames x1
  have h1 : Keeps σ x1 := keeps_endPass hs
  clear_value x1
  extract_lets +onlyGivenNames x2 x3
  clear_value x2 x3
  extract_lets +onlyGivenNames x4
  have h2 : Keeps σ x4 := keeps_foldl (fun _ _ h2 => keeps_wr h2) h1
  clear_value x4
  extract_lets +onlyGivenNames x5
  have h3 : Keeps σ x5 := keeps_foldl (fun _ _ h3 => keeps_ldgBump h3) h2
  clear_value x5
  extract_lets +onlyGivenNames x6
  have h4 : Keeps σ x6 := keeps_foldl (fun _ _ h4 => keeps_keepEntry h4) h3
  clear_value x6
  extract_lets +onlyGivenNames x7
  clear_value x7
  extract_lets +onlyGivenNames x8
  have h5 : Keeps σ x8 := keeps_mk h4
  clear_value x8
  exact keeps_setB (keeps_ledgerLog h5)
theorem keeps_restoreLedger {slotA slotB : Option LedgerSlot} (hs : Keeps σ s) : Keeps σ (s.restoreLedger slotA slotB) := by
  unfold State.restoreLedger
  split
  · exact hs
  · extract_lets +onlyGivenNames x1
    have h1 : Keeps σ x1 := by
      unfold x1
      split
      · exact keeps_loadImage hs
      · exact keeps_setB (keeps_wr hs)
    clear_value x1
    exact keeps_setB h1
theorem keeps_execOutRel {slotA slotB : Option LedgerSlot} (hs : Keeps σ s) : KeepsR σ (execOutRel slotA slotB s) := by
  unfold execOutRel
  split
  · exact KeepsR.next hs
  · extract_lets +onlyGivenNames x1 x2
    clear_value x1 x2
    extract_lets +onlyGivenNames x3
    have h1 : Keeps σ x3 := keeps_ite (keeps_mk hs) hs
    clear_value x3
    extract_lets +onlyGivenNames x4
    have h2 : Keeps σ x4 := keeps_restoreLedger h1
    clear_value x4
    refine KeepsR.next ?_
    split
    · exact h2
    · extract_lets +onlyGivenNames x5
      have h3 : Keeps σ x5 := keeps_setF (keeps_setB h2)
      clear_value x5
      exact keeps_seeLight (keeps_mk h3)
theorem keeps_execBlockSoftReset {mask : BitVec 19} (hs : Keeps σ s) : KeepsR σ (execBlockSoftReset mask s) :=
    keeps_opWrite hs (KeepsR.next (keeps_foldl (fun _ _ h1 => keeps_softReset h1) hs))
theorem keeps_execBlockResetRelease {b : Fin 19} (hs : Keeps σ s) : KeepsR σ (execBlockResetRelease b s) :=
    KeepsR.next (keeps_ite (keeps_releaseBlock hs) hs)
theorem keeps_execPcieReset {loss : Bool} (hs : Keeps σ s) : KeepsR σ (execPcieReset loss s) :=
    keepsR_ite (KeepsR.next hs) (KeepsR.next (keeps_softBlock (keeps_ite (keeps_raise hs) hs)))
theorem keeps_appendRecovery (hs : Keeps σ s) : Keeps σ s.appendRecovery := by
  unfold State.appendRecovery
  extract_lets +onlyGivenNames x1
  clear_value x1
  extract_lets +onlyGivenNames x2
  extract_lets +onlyGivenNames x3
  clear_value x3
  extract_lets +onlyGivenNames x4
  have h1 : Keeps σ x4 := keeps_ite hs (keeps_foldl (fun _ _ h1 => keeps_wr (keeps_wr h1)) hs)
  clear_value x4
  extract_lets +onlyGivenNames x5
  clear_value x5
  extract_lets +onlyGivenNames x6
  have h2 : Keeps σ x6 := keeps_wr (keeps_wr h1)
  clear_value x6
  exact keeps_satField (keeps_setF h2)
theorem keeps_execQuietTimerExpire (hs : Keeps σ s) : KeepsR σ (execQuietTimerExpire s) :=
    keepsR_ite (KeepsR.next hs) (keepsR_ite (KeepsR.next (keeps_ledgerLog (keeps_raise (keeps_setB hs)))) (KeepsR.next (keeps_assertReset (keeps_ledgerLog (keeps_appendRecovery hs)))))
theorem keeps_execQuietEnter (hs : Keeps σ s) : KeepsR σ (execQuietEnter s) := by
  unfold execQuietEnter
  extract_lets +onlyGivenNames x1
  extract_lets +onlyGivenNames x2
  exact keepsR_ite (KeepsR.next hs) (KeepsR.next (keeps_foldl (fun _ _ h1 => keeps_setF (keeps_setB h1)) (keeps_setB hs)))
theorem keeps_execQuietExit {why : QuietExit} (hs : Keeps σ s) : KeepsR σ (execQuietExit why s) :=
    KeepsR.next (keeps_ite (keeps_leaveQuiet (keeps_ite (keeps_setB hs) hs)) hs)
theorem keeps_setUpow {u p : Nat} (hs : Keeps σ s) : Keeps σ (s.setUpow u p) := keeps_mk hs
theorem keeps_execUplinkEgressSleep {u : Fin 24} {sending : Bool} (hs : Keeps σ s) :
    KeepsR σ (execUplinkEgressSleep u sending s) := KeepsR.next (keeps_setUpow hs)
theorem keeps_execUplinkEgressWake {u : Fin 24} (hs : Keeps σ s) : KeepsR σ (execUplinkEgressWake u s) :=
    KeepsR.next (keeps_setUpow hs)
theorem keeps_execSnapGo {at_ : Bool} (hs : Keeps σ s) : KeepsR σ (execSnapGo at_ s) := by
  unfold execSnapGo
  refine keeps_opWrite hs ?_
  refine KeepsR.next ?_
  split
  · exact keeps_inc hs
  · extract_lets +onlyGivenNames x1
    have h1 : Keeps σ x1 := keeps_setB (keeps_setB (keeps_setB hs))
    clear_value x1
    extract_lets +onlyGivenNames x2 x3
    clear_value x2 x3
    split
    · exact keeps_mk h1
    · extract_lets +onlyGivenNames x4
      have h2 : Keeps σ x4 := keeps_ite (keeps_setB h1) h1
      clear_value x4
      exact keeps_mk h2
theorem keeps_execSnapCopy (hs : Keeps σ s) : KeepsR σ (execSnapCopy s) := by
  unfold execSnapCopy
  split
  · exact KeepsR.next hs
  · extract_lets +onlyGivenNames x1
    clear_value x1
    extract_lets +onlyGivenNames x2
    have h1 : Keeps σ x2 := keeps_advanceTo hs
    clear_value x2
    extract_lets +onlyGivenNames x3
    clear_value x3
    extract_lets +onlyGivenNames x4
    have h2 : Keeps σ x4 := keeps_mk h1
    clear_value x4
    extract_lets +onlyGivenNames x5
    have h3 : Keeps σ x5 := keeps_wr (keeps_wr h2)
    clear_value x5
    exact KeepsR.next (keeps_setB (keeps_setB h3))
theorem keeps_execThresholdCommit {k : Fin 64} {v : Word} (hs : Keeps σ s) : KeepsR σ (execThresholdCommit k v s) :=
    keeps_opWrite hs (KeepsR.next (keeps_ite (keeps_wr hs) (keeps_inc hs)))
theorem keeps_execTraceMark {v : Word} (hs : Keeps σ s) : KeepsR σ (execTraceMark v s) :=
    keeps_opWrite hs (KeepsR.next (keeps_trace hs))
theorem keeps_execTraceCtrlWrite {v : Word} (hs : Keeps σ s) : KeepsR σ (execTraceCtrlWrite v s) := by
  unfold execTraceCtrlWrite
  extract_lets +onlyGivenNames x1
  clear_value x1
  refine keeps_opWrite hs ?_
  extract_lets +onlyGivenNames x2 x3
  clear_value x2 x3
  refine KeepsR.next ?_
  split
  · exact keeps_inc hs
  · extract_lets +onlyGivenNames x4
    have h1 : Keeps σ x4 := keeps_wr hs
    clear_value x4
    exact keeps_ite (keeps_wr (keeps_mk h1)) (keeps_hostDrain (keeps_mk h1))
theorem keeps_execTracePortSend (hs : Keeps σ s) : KeepsR σ (execTracePortSend s) := by
  unfold execTracePortSend
  split
  · exact KeepsR.next hs
  · extract_lets +onlyGivenNames x1 x2
    clear_value x1 x2
    extract_lets +onlyGivenNames x3
    have h1 : Keeps σ x3 := keeps_taken hs
    clear_value x3
    extract_lets +onlyGivenNames x4
    clear_value x4
    refine KeepsR.next ?_
    split
    · exact keeps_emit (keeps_mk h1)
    · extract_lets +onlyGivenNames x5
      clear_value x5
      split
      · refine keeps_emit ?_
        extract_lets +onlyGivenNames x6
        have h2 : Keeps σ x6 := keeps_taken h1
        clear_value x6
        exact keeps_mk h2
      · exact keeps_ite (keeps_emit (keeps_mk h1)) (keeps_emit (keeps_mk h1))
theorem keeps_thermSecond {t : Int} (hs : Keeps σ s) : Keeps σ (s.thermSecond t) :=
    keeps_ite (keeps_ite (keeps_mk hs) (keeps_mk hs)) (keeps_ite (keeps_ldgAdd (keeps_mk hs)) (keeps_mk hs))
theorem keeps_thermLevel {t : Int} {src : Fin 52} {on off : Int} (hs : Keeps σ s) :
    Keeps σ (s.thermLevel t src on off) := keeps_ite (keeps_raiseLevel hs) (keeps_ite (keeps_mk hs) hs)
theorem keeps_laserSecond {p cycles : Nat} (hs : Keeps σ s) : Keeps σ (s.laserSecond p cycles) := by
  unfold State.laserSecond
  extract_lets +onlyGivenNames x1 x2 x3 x4
  clear_value x1 x2 x3 x4
  extract_lets +onlyGivenNames x5
  have h1 : Keeps σ x5 := keeps_mk hs
  clear_value x5
  exact keeps_ite h1 (keeps_ldgAdd h1)
theorem keeps_execLifetimeSecond {second : AonSecond} (hs : Keeps σ s) : KeepsR σ (execLifetimeSecond second s) := by
  unfold execLifetimeSecond
  extract_lets +onlyGivenNames x1
  clear_value x1
  extract_lets +onlyGivenNames x2
  have h1 : Keeps σ x2 := keeps_mk hs
  clear_value x2
  extract_lets +onlyGivenNames x3
  clear_value x3
  refine KeepsR.next ?_
  split
  · exact h1
  · extract_lets +onlyGivenNames x4
    have h2 : Keeps σ x4 := keeps_ldgAdd (keeps_ldgAdd (keeps_endPass h1))
    clear_value x4
    extract_lets +onlyGivenNames x5
    have h3 : Keeps σ x5 := keeps_thermLevel (keeps_thermLevel h2)
    clear_value x5
    extract_lets +onlyGivenNames x6
    have h4 : Keeps σ x6 := keeps_foldl (fun _ _ h4 => keeps_laserSecond h4) (keeps_seeLight h3)
    clear_value x6
    extract_lets +onlyGivenNames x7 x8
    clear_value x7 x8
    extract_lets +onlyGivenNames x9
    have h5 : Keeps σ x9 := keeps_mk h4
    clear_value x9
    exact keeps_thermSecond (keeps_seeLight h5)
theorem keeps_execLedgerMirror (hs : Keeps σ s) : KeepsR σ (execLedgerMirror s) := by
  unfold execLedgerMirror
  extract_lets +onlyGivenNames x1 x2
  clear_value x1 x2
  refine KeepsR.next ?_
  split
  · exact hs
  · extract_lets +onlyGivenNames x3
    have h1 : Keeps σ x3 := keeps_setB hs
    clear_value x3
    exact keeps_mk h1
theorem keeps_execMirrorNow {en : Bool} (hs : Keeps σ s) : KeepsR σ (execMirrorNow en s) :=
    keeps_opWrite hs (KeepsR.next (keeps_setB (keeps_setB hs)))
theorem keeps_execMirrorWriteDone {ok : Bool} (hs : Keeps σ s) : KeepsR σ (execMirrorWriteDone ok s) := by
  unfold execMirrorWriteDone
  split
  · exact KeepsR.next hs
  · extract_lets +onlyGivenNames x1
    have h1 : Keeps σ x1 := keeps_endPass hs
    clear_value x1
    extract_lets +onlyGivenNames x2
    clear_value x2
    extract_lets +onlyGivenNames x3
    have h2 : Keeps σ x3 := keeps_mk h1
    clear_value x3
    refine KeepsR.next ?_
    split
    · extract_lets +onlyGivenNames x4
      clear_value x4
      extract_lets +onlyGivenNames x5
      have h3 : Keeps σ x5 := keeps_wr (keeps_wr h2)
      clear_value x5
      extract_lets +onlyGivenNames x6 x7 x8 x9
      clear_value x6 x7 x8 x9
      extract_lets +onlyGivenNames x10
      have h4 : Keeps σ x10 := keeps_mk h3
      clear_value x10
      exact keeps_emit h4
    · extract_lets +onlyGivenNames x4
      have h3 : Keeps σ x4 := keeps_setB h2
      clear_value x4
      extract_lets +onlyGivenNames x5
      have h4 : Keeps σ x5 := keeps_ite h3 (keeps_raise h3)
      clear_value x5
      exact keeps_mk h4
theorem keeps_setUport {n : Nat} {p : UdfPort} (hs : Keeps σ s) : Keeps σ (s.setUport n p) := keeps_mk hs
theorem keeps_udfCount {n k frame stream rx unused : Nat} (hs : Keeps σ s) :
    Keeps σ (s.udfCount n k frame stream rx unused) := by
  unfold State.udfCount
  extract_lets +onlyGivenNames x1
  clear_value x1
  extract_lets +onlyGivenNames x2
  exact keeps_setUport hs
theorem keeps_markBad {n : Nat} {u : UdfBurst} (hs : Keeps σ s) : Keeps σ (s.markBad n u) := keeps_setBport hs
theorem keeps_voidPartial {st : Nat} (hs : Keeps σ s) : Keeps σ (s.voidPartial st) := by
  unfold State.voidPartial
  split
  · exact hs
  · extract_lets +onlyGivenNames x1
    clear_value x1
    extract_lets +onlyGivenNames x2
    have h1 : Keeps σ x2 := keeps_mk hs
    clear_value x2
    split
    · exact keeps_free h1
    · exact h1
theorem keeps_dropFrame {g : Seg} (hs : Keeps σ s) : Keeps σ (s.dropFrame g) := keeps_ite (keeps_voidPartial hs) hs
theorem keeps_endFresh {g : Seg} (hs : Keeps σ s) : Keeps σ (s.endFresh g) := keeps_ite (keeps_dropFrame hs) hs
theorem keeps_upFrame {t : Nat} {data : List Byte} {buf : Option Nat} (hs : Keeps σ s) :
    Keeps σ (s.upFrame t data buf) := keeps_mk hs
theorem keeps_takeFrame {n : Nat} {u : UdfBurst} {g : Seg} {acc : List Byte} (hs : Keeps σ s) :
    Keeps σ (s.takeFrame n u g acc) := by
  unfold State.takeFrame
  extract_lets +onlyGivenNames x1 x2 x3 x4
  clear_value x1 x2 x3 x4
  extract_lets +onlyGivenNames x5
  have h1 : Keeps σ x5 := keeps_ite (keeps_voidPartial hs) hs
  clear_value x5
  split
  · exact h1
  · split
    · exact keeps_inc (keeps_dropFrame h1)
    · split
      · exact keeps_inc (keeps_dropFrame h1)
      · extract_lets +onlyGivenNames x6
        clear_value x6
        split
        · exact keeps_feed h1
        · split
          · exact keeps_ite (keeps_dropPartial h1) (keeps_ite (keeps_upFrame (keeps_mk h1)) (keeps_mk h1))
          · split
            · exact keeps_upFrame h1
            · extract_lets +onlyGivenNames x7
              have h2 : Keeps σ x7 := keeps_voidPartial h1
              clear_value x7
              split
              · exact keeps_inc h2
              · extract_lets +onlyGivenNames x8 x9
                clear_value x8 x9
                extract_lets +onlyGivenNames x10
                have h3 : Keeps σ x10 := keeps_mk h2
                clear_value x10
                exact keeps_want h3
theorem keeps_takeDbru {n : Nat} {u : UdfBurst} {st : Nat} {acc : List Byte} {bad : Bool} (hs : Keeps σ s) :
    Keeps σ (s.takeDbru n u st acc bad) := keeps_ite (keeps_inc hs) (keeps_ite (keeps_inc hs) (keeps_reportItem hs))
theorem keeps_takePloam {n l : Nat} {acc : List Byte} {bad rngMsg : Bool} (hs : Keeps σ s) :
    Keeps σ (s.takePloam n l acc bad rngMsg) := keeps_ite (keeps_inc hs) (keeps_ite (keeps_cross hs) (keeps_mk hs))
theorem keeps_headerFail {n : Nat} {u : UdfBurst} (hs : Keeps σ s) : KeepsQ σ (s.headerFail n u) := by
  unfold State.headerFail
  extract_lets +onlyGivenNames x1
  clear_value x1
  extract_lets +onlyGivenNames x2
  have h1 : Keeps σ x2 := keeps_udfDefect (keeps_inc (keeps_markBad hs))
  clear_value x2
  extract_lets +onlyGivenNames x3
  have h2 : Keeps σ x3 := keeps_foldl (fun _ _ h2 => keeps_ite (keeps_dropPartial h2) h2) h1
  clear_value x3
  exact KeepsQ.mk h2
theorem keeps_allocByte {n : Nat} {u : UdfBurst} {g : Seg} {acc : List Byte} {fail : Bool} (hs : Keeps σ s) :
    KeepsQ σ (s.allocByte n u g acc fail) := by
  unfold State.allocByte
  extract_lets +onlyGivenNames x1
  clear_value x1
  split
  · exact KeepsQ.mk hs
  · split
    · extract_lets +onlyGivenNames x2
      have h1 : Keeps σ x2 := keeps_udfCount hs
      clear_value x2
      extract_lets +onlyGivenNames x3
      have h2 : Keeps σ x3 := keeps_endFresh h1
      clear_value x3
      split
      · exact KeepsQ.mk (keeps_takeDbru h2)
      · exact KeepsQ.mk h2
    · split
      · split
        · exact KeepsQ.mk (keeps_endFresh (keeps_udfCount hs))
        · exact KeepsQ.mk hs
      · extract_lets +onlyGivenNames x2 x3 x4
        clear_value x2 x3 x4
        split
        · extract_lets +onlyGivenNames x5
          have h1 : Keeps σ x5 := keeps_inc hs
          clear_value x5
          exact KeepsQ.mk (keeps_ite (keeps_dropFrame h1) (keeps_dropPartial h1))
        · extract_lets +onlyGivenNames x5
          have h1 : Keeps σ x5 := keeps_ite (keeps_udfCount hs) (keeps_udfCount hs)
          clear_value x5
          split
          · exact KeepsQ.mk (keeps_takeFrame h1)
          · split
            · exact KeepsQ.mk (keeps_inc (keeps_dropFrame h1))
            · exact KeepsQ.mk h1
theorem keeps_udfByte {n : Nat} {u : UdfBurst} {b : Byte} {fails : List Nat} {rngMsg : Bool} (hs : Keeps σ s) :
    KeepsQ σ (s.udfByte n u b fails rngMsg) := by
  unfold State.udfByte
  split
  · exact KeepsQ.mk hs
  · extract_lets +onlyGivenNames x1 x2 x3 x4
    clear_value x1 x2 x3 x4
    extract_lets +onlyGivenNames x5
    have h1 : ∀ v0, Keeps σ v0 → KeepsQ σ (x5 v0) := by
      intro v0 hv0
      unfold x5
      exact KeepsQ.mk hv0
    clear_value x5
    split
    · split
      exact KeepsQ.mk (KeepsQ.out (keeps_allocByte hs) ‹_›)
    · split
      · exact keeps_headerFail hs
      · exact h1 _ hs
    · exact h1 _ (keeps_ite (keeps_takePloam hs) hs)
    · exact h1 _ (keeps_incIf hs)
theorem keeps_udfBytes {n : Nat} {u : UdfBurst} {fails : List Nat} {rngMsg : Bool} {y0 : List Byte} (hs : Keeps σ s) :
    KeepsQ σ (s.udfBytes n u fails rngMsg y0) := by
  induction y0 generalizing s n u fails rngMsg with
  | nil =>
    rw [State.udfBytes]
    exact KeepsQ.mk hs
  | cons y ys ih =>
    rw [State.udfBytes]
    exact ih ((keeps_udfByte hs).proj)
theorem keeps_cutAlloc {n : Nat} {u : UdfBurst} {g : Seg} {acc : List Byte} (hs : Keeps σ s) :
    Keeps σ (s.cutAlloc n u g acc) :=
    keeps_ite hs (keeps_ite (keeps_dropPartial hs) (keeps_ite (keeps_dropFrame hs) (keeps_dropFrame (keeps_udfCount hs))))
theorem keeps_loseSegs {n : Nat} {u : UdfBurst} {y0 : List Seg} {y1 : Nat} {y2 : List Byte} (hs : Keeps σ s) :
    KeepsQ σ (s.loseSegs n u y0 y1 y2) := by
  induction y0 generalizing s n u y1 y2 with
  | nil =>
    rw [State.loseSegs]
    exact KeepsQ.mk hs
  | cons y ys ih =>
    rw [State.loseSegs]
    split
    · exact KeepsQ.mk hs
    · extract_lets +onlyGivenNames x1
      have h1 : Keeps σ x1 := keeps_ite (keeps_cutAlloc hs) hs
      clear_value x1
      split
      · exact ih h1
      · exact KeepsQ.mk h1
theorem keeps_udfLose {n : Nat} {u : UdfBurst} {m : Nat} (hs : Keeps σ s) : KeepsQ σ (s.udfLose n u m) := by
  unfold State.udfLose
  split
  · split
    exact KeepsQ.mk (KeepsQ.out (keeps_headerFail hs) ‹_›)
  · split
    exact KeepsQ.mk (KeepsQ.out (keeps_loseSegs hs) ‹_›)
theorem keeps_setBurst {n : Nat} {u : UdfBurst} (hs : Keeps σ s) : Keeps σ (s.setBurst n u) := keeps_setUport hs
theorem keeps_countCw {n t : Nat} {ok : Bool} {corr : Nat} (hs : Keeps σ s) : Keeps σ (s.countCw n t ok corr) := by
  unfold State.countCw
  extract_lets +onlyGivenNames x1
  have h1 : Keeps σ x1 := keeps_add64 (keeps_add64 hs)
  clear_value x1
  extract_lets +onlyGivenNames x2 x3
  clear_value x2 x3
  extract_lets +onlyGivenNames x4
  have h2 : Keeps σ x4 := keeps_mk h1
  clear_value x4
  exact keeps_ite (keeps_ite (keeps_incN (keeps_inc h2)) h2) (keeps_inc (keeps_inc h2))
theorem keeps_execCodewordDecode {n : Fin 32} {frame : BitVec 51} {k : Fin 512} {need : Option (Fin 16)} {corrBits : BitVec 16}
    {data : List Byte} {fails : List Nat} {rngMsg : Bool} (hs : Keeps σ s) :
    KeepsR σ (execCodewordDecode n frame k need corrBits data fails rngMsg s) := by
  unfold execCodewordDecode
  split
  · exact KeepsR.next hs
  · extract_lets +onlyGivenNames x1 x2
    clear_value x1 x2
    split
    · exact KeepsR.next hs
    · extract_lets +onlyGivenNames x3
      have h1 : Keeps σ x3 := keeps_countCw hs
      clear_value x3
      split
      · split
        exact KeepsR.next (keeps_setBurst (KeepsQ.out (keeps_udfBytes h1) ‹_›))
      · split
        exact KeepsR.next (keeps_setBurst (KeepsQ.out (keeps_udfLose (keeps_markBad h1)) ‹_›))
theorem keeps_execBurstTruncation {n : Fin 32} {frame : BitVec 51} {k : Fin 512} (hs : Keeps σ s) :
    KeepsR σ (execBurstTruncation n frame k s) := by
  unfold execBurstTruncation
  split
  · exact KeepsR.next hs
  · split
    · exact KeepsR.next hs
    · extract_lets +onlyGivenNames x1
      clear_value x1
      extract_lets +onlyGivenNames x2
      have h1 : Keeps σ x2 := keeps_inc (keeps_inc (keeps_inc hs))
      clear_value x2
      extract_lets +onlyGivenNames x3 x4
      clear_value x3 x4
      extract_lets +onlyGivenNames x5
      have h2 : Keeps σ x5 := keeps_mk h1
      clear_value x5
      split
      exact KeepsR.next (keeps_setBurst (KeepsQ.out (keeps_udfLose (keeps_markBad h2)) ‹_›))
theorem keeps_execReasmTimeout {st : BitVec 16} (hs : Keeps σ s) : KeepsR σ (execReasmTimeout st s) := by
  unfold execReasmTimeout
  split
  · exact KeepsR.next hs
  · exact KeepsR.next (keeps_ite (keeps_dropPartial hs) hs)

end Sys2Proof.Machine
end

