-- ==== Sys2Proof/Laws/KeepsRest.lean ====
section
/-! SUPPORT. Each operation keeps what nothing in the device undoes (Keeps): circuits, accesses of functions, forwarding, framing, the mate link, ranging, the engines' arithmetic and the tick. -/

namespace Sys2Proof.Machine

variable {σ s : State}

theorem keeps_startEnd {e : Nat} (hs : Keeps σ s) : Keeps σ (s.startEnd e) := keeps_setAlign (keeps_setTend hs)
theorem keeps_execCircuitCommit {c : Fin 2048} {v : Word} (hs : Keeps σ s) : KeepsR σ (execCircuitCommit c v s) := by
  unfold execCircuitCommit
  refine keeps_opWrite hs ?_
  extract_lets +onlyGivenNames x1 x2 x3 x4 x5 x6
  clear_value x1 x2 x3 x4 x5 x6
  extract_lets +onlyGivenNames x7
  have h1 : Keeps σ x7 := keeps_dropHeld hs
  clear_value x7
  extract_lets +onlyGivenNames x8
  clear_value x8
  extract_lets +onlyGivenNames x9
  have h2 : Keeps σ x9 := keeps_wr (keeps_wr (keeps_wr (keeps_wr h1)))
  clear_value x9
  extract_lets +onlyGivenNames x10
  clear_value x10
  split
  · exact KeepsR.next (keeps_inc h1)
  · extract_lets +onlyGivenNames x11
    clear_value x11
    extract_lets +onlyGivenNames x12
    have h3 : Keeps σ x12 := keeps_ite h2 (keeps_pmPartial (keeps_pmPartial h2))
    clear_value x12
    split
    · extract_lets +onlyGivenNames x13
      have h4 : Keeps σ x13 := keeps_ite (keeps_stopCircuit h3) h3
      clear_value x13
      extract_lets +onlyGivenNames x14
      clear_value x14
      extract_lets +onlyGivenNames x15
      have h5 : Keeps σ x15 := keeps_mk h4
      clear_value x15
      exact KeepsR.next (keeps_settleStore (keeps_foldl (fun _ _ h6 => keeps_startEnd h6) h5))
    · exact keepsR_ite (KeepsR.next (keeps_mk h3)) (KeepsR.next h3)
theorem keeps_execPwEntryCommit {w : Fin 2048} {v : Word} (hs : Keeps σ s) : KeepsR σ (execPwEntryCommit w v s) := by
  unfold execPwEntryCommit
  refine keeps_opWrite hs ?_
  extract_lets +onlyGivenNames x1 x2
  clear_value x1 x2
  extract_lets +onlyGivenNames x3
  have h1 : Keeps σ x3 := keeps_dropHeld hs
  clear_value x3
  extract_lets +onlyGivenNames x4
  have h2 : Keeps σ x4 := keeps_wr (keeps_wr h1)
  clear_value x4
  exact KeepsR.next (keeps_ite h2 (keeps_inc h1))
theorem keeps_abandon {e x : Nat} (hs : Keeps σ s) : Keeps σ (s.abandon e x) := keeps_setAlign (keeps_setTend hs)
theorem keeps_huntStep {e : Nat} (hs : Keeps σ s) : Keeps σ (s.huntStep e) := by
  unfold State.huntStep
  extract_lets +onlyGivenNames x1 x2
  clear_value x1 x2
  split
  · exact keeps_setTend hs
  · split
    · exact keeps_setAlign (keeps_setTend hs)
    · exact keeps_setTend hs
theorem keeps_presyncStep {e : Nat} (hs : Keeps σ s) : Keeps σ (s.presyncStep e) := by
  unfold State.presyncStep
  extract_lets +onlyGivenNames x1
  clear_value x1
  split
  · exact hs
  · exact keeps_ite (keeps_ite (keeps_setTend hs) (keeps_setAlign (keeps_setTend hs))) (keeps_abandon hs)
theorem keeps_mfSeekStep {e : Nat} (hs : Keeps σ s) : Keeps σ (s.mfSeekStep e) := by
  unfold State.mfSeekStep
  extract_lets +onlyGivenNames x1
  clear_value x1
  split
  · exact hs
  · extract_lets +onlyGivenNames x2 x3
    clear_value x2 x3
    split
    · exact keeps_abandon hs
    · split
      · exact keeps_setTend hs
      · extract_lets +onlyGivenNames x4 x5 x6
        clear_value x4 x5 x6
        extract_lets +onlyGivenNames x7
        have h1 : Keeps σ x7 := keeps_setF (keeps_setAlign (keeps_setTend hs))
        clear_value x7
        exact keeps_ite (keeps_setB h1) (keeps_setF h1)
theorem keeps_execAlignWordMatch {e : Fin 4096} (hs : Keeps σ s) : KeepsR σ (execAlignWordMatch e s) := by
  unfold execAlignWordMatch
  refine KeepsR.next ?_
  split
  · exact keeps_huntStep hs
  · exact keeps_presyncStep hs
  · exact keeps_mfSeekStep hs
  · exact hs
theorem keeps_takeAis {e : Nat} {ais rdi : Bool} (hs : Keeps σ s) : Keeps σ (s.takeAis e ais rdi) := by
  unfold State.takeAis
  extract_lets +onlyGivenNames x1 x2 x3
  clear_value x1 x2 x3
  extract_lets +onlyGivenNames x4
  have h1 : Keeps σ x4 := keeps_ite (keeps_setB hs) hs
  clear_value x4
  extract_lets +onlyGivenNames x5
  have h2 : Keeps σ x5 := keeps_ite (keeps_setB h1) h1
  clear_value x5
  exact keeps_setTend h2
theorem keeps_newPtr {e p : Nat} {evt : Bool} (hs : Keeps σ s) : Keeps σ (s.newPtr e p evt) := by
  unfold State.newPtr
  extract_lets +onlyGivenNames x1
  clear_value x1
  extract_lets +onlyGivenNames x2
  have h1 : Keeps σ x2 := keeps_setTend hs
  clear_value x2
  exact keeps_incIf (keeps_setF (keeps_setB h1))
theorem keeps_noPtr {e : Nat} {seen : Option (Nat × Nat)} (hs : Keeps σ s) : Keeps σ (s.noPtr e seen) := by
  unfold State.noPtr
  extract_lets +onlyGivenNames x1
  clear_value x1
  extract_lets +onlyGivenNames x2
  have h1 : Keeps σ x2 := keeps_setF (keeps_setTend hs)
  clear_value x2
  exact keeps_ite (keeps_setB h1) h1
theorem keeps_takePtr {e : Nat} {h : List Byte} (hs : Keeps σ s) : Keeps σ (s.takePtr e h) :=
    keeps_ite (keeps_noPtr hs) (keeps_ite (keeps_newPtr hs) (keeps_ite (keeps_noPtr hs) (keeps_ite (keeps_newPtr hs) (keeps_ite (keeps_newPtr hs) (keeps_noPtr hs)))))
theorem keeps_storeData {e : Nat} {data : List Byte} {ptr : Nat} (hs : Keeps σ s) : Keeps σ (s.storeData e data ptr) := by
  unfold State.storeData
  split
  · exact hs
  · extract_lets +onlyGivenNames x1 x2 x3 x4
    clear_value x1 x2 x3 x4
    extract_lets +onlyGivenNames x5
    have h1 : Keeps σ x5 := keeps_buildPacket (keeps_setTend hs)
    clear_value x5
    exact keeps_setTend h1
theorem keeps_execCarrierFrameReceive {e : Fin 4096} (hs : Keeps σ s) : KeepsR σ (execCarrierFrameReceive e s) := by
  unfold execCarrierFrameReceive
  extract_lets +onlyGivenNames x1 x2 x3 x4
  clear_value x1 x2 x3 x4
  split
  · exact KeepsR.next hs
  · extract_lets +onlyGivenNames x5 x6 x7
    clear_value x5 x6 x7
    split
    · extract_lets +onlyGivenNames x8
      have h1 : Keeps σ x8 := keeps_setB (keeps_setTend hs)
      clear_value x8
      extract_lets +onlyGivenNames x9
      have h2 : Keeps σ x9 := keeps_setAlign h1
      clear_value x9
      exact KeepsR.next (keeps_ite h2 (keeps_raise h2))
    · extract_lets +onlyGivenNames x8 x9 x10 x11 x12 x13 x14 x15 x16
      clear_value x8 x9 x10 x11 x12 x13 x14 x15 x16
      extract_lets +onlyGivenNames x17
      have h1 : Keeps σ x17 := keeps_incIf (keeps_setTend hs)
      clear_value x17
      extract_lets +onlyGivenNames x18
      have h2 : Keeps σ x18 := keeps_incIf (keeps_incIf h1)
      clear_value x18
      extract_lets +onlyGivenNames x19
      have h3 : Keeps σ x19 := keeps_ite (keeps_takePtr (keeps_takeAis h2)) (keeps_setF h2)
      clear_value x19
      extract_lets +onlyGivenNames x20
      clear_value x20
      extract_lets +onlyGivenNames x21
      have h4 : Keeps σ x21 := keeps_ite (keeps_setAlign (keeps_setB (keeps_setTend h3))) h3
      clear_value x21
      extract_lets +onlyGivenNames x22 x23
      clear_value x22 x23
      extract_lets +onlyGivenNames x24
      have h5 : Keeps σ x24 := keeps_storeData h4
      clear_value x24
      extract_lets +onlyGivenNames x25 x26
      clear_value x25 x26
      extract_lets +onlyGivenNames x27
      have h6 : Keeps σ x27 := keeps_ite (keeps_raise h5) h5
      clear_value x27
      exact KeepsR.next (keeps_setTend h6)
theorem keeps_execTceSwap (hs : Keeps σ s) : KeepsR σ (execTceSwap s) :=
    keeps_opWrite hs (KeepsR.next (keeps_ite hs (keeps_setB (keeps_mk hs))))
theorem keeps_pwPayload {e n : Nat} (hs : Keeps σ s) : KeepsOPP σ (s.pwPayload e n) := by
  unfold State.pwPayload
  split
  · exact KeepsOPP.some hs
  · extract_lets +onlyGivenNames x1
    clear_value x1
    split
    · exact KeepsOPP.none
    · exact KeepsOPP.some (keeps_buildPacket (keeps_setTend hs))
theorem keeps_execPwPacketSend {w : Fin 2048} (hs : Keeps σ s) : KeepsR σ (execPwPacketSend w s) := by
  unfold execPwPacketSend
  split
  · exact KeepsR.next hs
  · split
    · exact KeepsR.next hs
    · extract_lets +onlyGivenNames x1 x2 x3 x4 x5
      clear_value x1 x2 x3 x4 x5
      extract_lets +onlyGivenNames x6
      have h1 : Keeps σ x6 := keeps_setTend (KeepsOPP.out (keeps_pwPayload hs) ‹_›)
      clear_value x6
      exact KeepsR.next (keeps_want h1)
theorem keeps_pwStore {e : Nat} {data : List Byte} (hs : Keeps σ s) : Keeps σ (s.pwStore e data) := by
  unfold State.pwStore
  extract_lets +onlyGivenNames x1 x2 x3
  clear_value x1 x2 x3
  extract_lets +onlyGivenNames x4
  have h1 : Keeps σ x4 := keeps_setTend hs
  clear_value x4
  extract_lets +onlyGivenNames x5
  have h2 : Keeps σ x5 := keeps_ite (keeps_setB h1) h1
  clear_value x5
  exact keeps_ite (keeps_pwDrop h2) h2
theorem keeps_pwAccept {e seq : Nat} {payload : List Byte} {l : Bool} (hs : Keeps σ s) :
    Keeps σ (s.pwAccept e seq payload l) := by
  unfold State.pwAccept
  extract_lets +onlyGivenNames x1
  have h1 : Keeps σ x1 := keeps_pwStore hs
  clear_value x1
  exact keeps_setTend h1
theorem keeps_pwInsert {e d n : Nat} (hs : Keeps σ s) : Keeps σ (s.pwInsert e d n) := by
  unfold State.pwInsert
  extract_lets +onlyGivenNames x1
  have h1 : Keeps σ x1 := keeps_incN (keeps_incN (keeps_pwStore hs))
  clear_value x1
  exact keeps_setTend h1
theorem keeps_execPwPacketReceive {w : Fin 2048} (hs : Keeps σ s) : KeepsR σ (execPwPacketReceive w s) := by
  unfold execPwPacketReceive
  split
  · exact KeepsR.next hs
  · extract_lets +onlyGivenNames x1
    clear_value x1
    extract_lets +onlyGivenNames x2
    have h1 : Keeps σ x2 := keeps_mk hs
    clear_value x2
    extract_lets +onlyGivenNames x3
    clear_value x3
    extract_lets +onlyGivenNames x4
    have h2 : Keeps σ x4 := keeps_free h1
    clear_value x4
    split
    · exact KeepsR.next h2
    · exact keepsR_ite (KeepsR.next (keeps_pwAccept h2)) (keepsR_ite (KeepsR.next (keeps_pwAccept (keeps_pwInsert h2)))
          (KeepsR.next (keeps_setTend (keeps_pwDrop h2))))
theorem keeps_pmInput {en sec blocks err : Nat} {defect : Bool} (hs : Keeps σ s) :
    Keeps σ (s.pmInput en sec blocks err defect) := keeps_ite (keeps_mk hs) hs
theorem keeps_pmEndInput {sec e : Nat} (hs : Keeps σ s) : Keeps σ (s.pmEndInput sec e) := by
  unfold State.pmEndInput
  extract_lets +onlyGivenNames x1 x2 x3
  clear_value x1 x2 x3
  extract_lets +onlyGivenNames x4
  have h1 : Keeps σ x4 := keeps_pmInput hs
  clear_value x4
  exact keeps_setTend h1
theorem keeps_pmFec {sec : Nat} {f : FecSecond} {down : Bool} (hs : Keeps σ s) : Keeps σ (s.pmFec sec f down) := by
  unfold State.pmFec
  extract_lets +onlyGivenNames x1
  have h1 : Keeps σ x1 := keeps_incN (keeps_add64 hs)
  clear_value x1
  exact keeps_pmInput h1
theorem keeps_execSecondBoundary {sec : BitVec 34} {fec : List FecSecond} (hs : Keeps σ s) :
    KeepsR σ (execSecondBoundary sec fec s) := by
  unfold execSecondBoundary
  split
  · exact KeepsR.next hs
  · extract_lets +onlyGivenNames x1
    have h1 : Keeps σ x1 := keeps_advanceTo hs
    clear_value x1
    extract_lets +onlyGivenNames x2
    clear_value x2
    extract_lets +onlyGivenNames x3
    have h2 : Keeps σ x3 := keeps_foldl (fun _ _ h2 => keeps_pmEndInput h2) h1
    clear_value x3
    extract_lets +onlyGivenNames x4
    have h3 : Keeps σ x4 := keeps_foldl (fun _ _ h3 => keeps_pmInput h3) h2
    clear_value x4
    extract_lets +onlyGivenNames x5
    clear_value x5
    extract_lets +onlyGivenNames x6
    have h4 : Keeps σ x6 := keeps_mk h3
    clear_value x6
    extract_lets +onlyGivenNames x7 x8
    clear_value x7 x8
    extract_lets +onlyGivenNames x9
    have h5 : Keeps σ x9 := keeps_foldl (fun _ _ h5 => keeps_pmFec h5) h4
    clear_value x9
    extract_lets +onlyGivenNames x10
    have h6 : Keeps σ x10 := keeps_foldl (fun _ _ h6 => keeps_pmInput h6) h5
    clear_value x10
    extract_lets +onlyGivenNames x11
    clear_value x11
    extract_lets +onlyGivenNames x12
    have h7 : Keeps σ x12 := keeps_mk h6
    clear_value x12
    exact KeepsR.next (keeps_ite (keeps_setF h7) h7)
theorem keeps_binCount {e w sec : Nat} {day : Bool} (hs : Keeps σ s) : Keeps σ (s.binCount e w sec day) :=
    keeps_ite (keeps_inc (keeps_mk hs)) hs
theorem keeps_execPmSecondCommit {e : Fin 20504} {sec : BitVec 34} (hs : Keeps σ s) :
    KeepsR σ (execPmSecondCommit e sec s) := by
  unfold execPmSecondCommit
  split
  · exact KeepsR.next hs
  · extract_lets +onlyGivenNames x1
    clear_value x1
    extract_lets +onlyGivenNames x2
    extract_lets +onlyGivenNames x3
    clear_value x3
    extract_lets +onlyGivenNames x4
    extract_lets +onlyGivenNames x5 x6 x7 x8
    clear_value x5 x6 x7 x8
    extract_lets +onlyGivenNames x9
    have h1 : Keeps σ x9 := keeps_mk hs
    clear_value x9
    extract_lets +onlyGivenNames x10
    have h2 : ∀ v0 v1, Keeps σ v0 → Keeps σ (x10 v0 v1) := by
      intro v0 v1 hv0
      unfold x10
      exact keeps_binCount (keeps_binCount hv0)
    clear_value x10
    refine KeepsR.next ?_
    split
    · exact h2 _ _ h1
    · extract_lets +onlyGivenNames x11
      have h3 : Keeps σ x11 := keeps_ite (h2 _ _ h1) h1
      clear_value x11
      exact keeps_ite (h2 _ _ h3) h3
theorem keeps_execPmBinClose {e : Fin 20504} {day : Bool} {start : BitVec 34} {dmaOk : Bool} (hs : Keeps σ s) :
    KeepsR σ (execPmBinClose e day start dmaOk s) := by
  unfold execPmBinClose
  extract_lets +onlyGivenNames x1 x2 x3 x4
  clear_value x1 x2 x3 x4
  split
  · exact KeepsR.next hs
  · extract_lets +onlyGivenNames x5 x6 x7 x8 x9 x10
    clear_value x5 x6 x7 x8 x9 x10
    extract_lets +onlyGivenNames x11
    have h1 : Keeps σ x11 := keeps_ite (keeps_emit hs) (keeps_inc hs)
    clear_value x11
    extract_lets +onlyGivenNames x12
    have h2 : Keeps σ x12 := keeps_foldl (fun _ _ h2 => keeps_wr h2) h1
    clear_value x12
    exact KeepsR.next (keeps_mk h2)
theorem keeps_clearRead {fn : Fn} {a : Nat} (hs : Keeps σ s) : Keeps σ (s.clearRead fn a) := by
  unfold State.clearRead
  split
  · exact hs
  · split
    · exact hs
    · extract_lets +onlyGivenNames x1
      clear_value x1
      extract_lets +onlyGivenNames x2
      have h1 : Keeps σ x2 := keeps_wr hs
      clear_value x2
      exact keeps_ite (keeps_wr h1) h1
theorem keeps_setLatch {fn : Fn} {blk : Nat} {ws : List Word} (hs : Keeps σ s) : Keeps σ (s.setLatch fn blk ws) := keeps_mk hs
theorem keeps_readHook {a : Nat} (hs : Keeps σ s) : Keeps σ (s.readHook a) :=
    keeps_ite (keeps_mk hs) (keeps_ite (keeps_setB hs) (keeps_ite (keeps_setB hs) hs))
theorem keeps_answer {w : Word} (hs : Keeps σ s) : Keeps σ (s.answer w) := keeps_mk hs
theorem keeps_readReg {fn : Fn} {a : Nat} (hs : Keeps σ s) : Keeps σ (s.readReg fn a) := by
  unfold State.readReg
  extract_lets +onlyGivenNames x1
  clear_value x1
  split
  · exact keeps_answer (keeps_readHook (keeps_clearRead hs))
  · extract_lets +onlyGivenNames x2
    have h1 : Keeps σ x2 := keeps_setLatch hs
    clear_value x2
    exact keeps_answer (keeps_foldl (fun _ _ h2 => keeps_clearRead h2) h1)
  · exact keeps_answer (keeps_readHook hs)
theorem keeps_readOp {a : Nat} (hs : Keeps σ s) : Keeps σ (s.readOp a) := by
  unfold State.readOp
  split
  · exact keeps_answer (keeps_refuseAt hs)
  · split
    · exact keeps_answer (keeps_refuseAt hs)
    · exact keeps_readReg hs
theorem keeps_readSet {n : Fin 16} {a : Nat} (hs : Keeps σ s) : Keeps σ (s.readSet n a) := by
  unfold State.readSet
  split
  · exact keeps_answer hs
  · exact keeps_ite (keeps_answer hs) (keeps_ite (keeps_answer (keeps_setLatch hs)) (keeps_ite (keeps_answer hs) (keeps_answer
        hs)))
theorem keeps_readWindow {n : Fin 16} {o : Nat} {obj : Option (List Nat)} (hs : Keeps σ s) :
    Keeps σ (s.readWindow n o obj) := by
  unfold State.readWindow
  extract_lets +onlyGivenNames x1
  clear_value x1
  extract_lets +onlyGivenNames x2
  have h1 : Keeps σ x2 := keeps_foldl (fun _ _ h1 => keeps_setTen h1) hs
  clear_value x2
  exact keeps_answer (keeps_ite h1 (keeps_tenantRefused h1))
theorem keeps_readTw {n : Fin 16} (hs : Keeps σ s) : Keeps σ (s.readTw n) := keeps_readWindow hs
theorem keeps_readTc {n : Fin 16} {o : Nat} (hs : Keeps σ s) : Keeps σ (s.readTc n o) :=
    keeps_ite (keeps_answer (keeps_tenantRefused hs)) (keeps_ite (keeps_answer hs) (keeps_ite (keeps_readWindow hs) (keeps_ite (keeps_answer hs) (keeps_ite (keeps_ite (keeps_answer (keeps_setLatch hs)) (keeps_answer hs)) (keeps_ite (keeps_answer hs) (keeps_ite (keeps_answer hs) (keeps_answer (keeps_tenantRefused hs))))))))
theorem keeps_readBell {j o : Nat} (hs : Keeps σ s) : Keeps σ (s.readBell j o) := keeps_answer hs
theorem keeps_readTen {n : Fin 16} {o : Nat} (hs : Keeps σ s) : Keeps σ (s.readTen n o) := by
  unfold State.readTen
  extract_lets +onlyGivenNames x1
  clear_value x1
  extract_lets +onlyGivenNames x2
  have h1 : Keeps σ x2 := keeps_answer (keeps_tenantRefused hs)
  clear_value x2
  split
  · split
    · exact h1
    · exact keeps_readBell hs
  · split
    · exact keeps_readTc hs
    · split
      · split
        · exact h1
        · exact keeps_readReg hs
      · split
        · exact keeps_readSet hs
        · exact keeps_ite (keeps_answer hs) (keeps_ite (keeps_ite (keeps_answer hs) (keeps_answer (keeps_setTen hs)))
              (keeps_ite (keeps_readTw hs) (keeps_ite (keeps_answer hs) h1)))
theorem keeps_readAt {fn : Fn} {a : BitVec 25} (hs : Keeps σ s) : Keeps σ (s.readAt fn a) := by
  unfold State.readAt
  split
  · exact hs
  · split
    · exact keeps_ite (keeps_readBell hs) (keeps_readOp hs)
    · exact keeps_readTen hs
theorem keeps_execLearnPlace {draw : Word} (hs : Keeps σ s) : KeepsR σ (execLearnPlace draw s) := by
  unfold execLearnPlace
  split
  · exact KeepsR.next hs
  · extract_lets +onlyGivenNames x1
    clear_value x1
    extract_lets +onlyGivenNames x2
    have h1 : Keeps σ x2 := keeps_mk hs
    clear_value x2
    split
    · exact KeepsR.next (keeps_ite (keeps_refresh h1) h1)
    · extract_lets +onlyGivenNames x3
      clear_value x3
      split
      · exact KeepsR.next (keeps_fdbEvent (keeps_inc h1))
      · split
        · exact KeepsR.next (keeps_inc h1)
        · exact KeepsR.next (keeps_fdbEvent (keeps_inc (KeepsOP.out (keeps_fdbInsert h1) ‹_›)))
theorem keeps_execAgeOut {loc : Fin 264192} (hs : Keeps σ s) : KeepsR σ (execAgeOut loc s) :=
    KeepsR.next (keeps_ite (keeps_fdbEventOf (keeps_inc (keeps_fdbPut hs))) hs)
theorem keeps_fdbDone {fn : Fn} {op status : Nat} (hs : Keeps σ s) : Keeps σ (s.fdbDone fn op status) :=
    keeps_incIf (keeps_setCs hs)
theorem keeps_setFdbData {fn : Fn} {e : BitVec 128} (hs : Keeps σ s) : Keeps σ (s.setFdbData fn e) :=
    keeps_foldl (fun _ _ h1 => keeps_setCs h1) hs
theorem keeps_execFdbRead {fn : Fn} (hs : Keeps σ s) : KeepsR σ (execFdbRead fn s) :=
    keeps_fnWrite hs (KeepsR.next (keeps_ite (keeps_fdbDone hs) (keeps_ite (keeps_fdbDone (keeps_setFdbData hs)) (keeps_fdbDone (keeps_setFdbData hs)))))
theorem keeps_execFdbWrite {fn : Fn} (hs : Keeps σ s) : KeepsR σ (execFdbWrite fn s) :=
    keeps_fnWrite hs (KeepsR.next (keeps_ite (keeps_fdbDone (keeps_fdbPut hs)) (keeps_fdbDone hs)))
theorem keeps_execFdbInsert {fn : Fn} {draw : Word} (hs : Keeps σ s) : KeepsR σ (execFdbInsert fn draw s) := by
  unfold execFdbInsert
  refine keeps_fnWrite hs ?_
  extract_lets +onlyGivenNames x1
  clear_value x1
  refine KeepsR.next ?_
  split
  · exact keeps_fdbDone hs
  · split
    · exact keeps_fdbDone hs
    · split
      · exact keeps_fdbDone hs
      · split
        · exact keeps_fdbDone hs
        · exact keeps_ite (keeps_fdbDone hs) (keeps_fdbDone (keeps_setCs (KeepsOP.out (keeps_fdbInsert hs) ‹_›)))
theorem keeps_execFdbDelete {fn : Fn} (hs : Keeps σ s) : KeepsR σ (execFdbDelete fn s) := by
  unfold execFdbDelete
  refine keeps_fnWrite hs ?_
  refine KeepsR.next ?_
  split
  · exact keeps_fdbDone hs
  · split
    · exact keeps_fdbDone hs
    · exact keeps_fdbDone (keeps_fdbPut hs)
theorem keeps_execFdbSearch {fn : Fn} (hs : Keeps σ s) : KeepsR σ (execFdbSearch fn s) := by
  unfold execFdbSearch
  refine keeps_fnWrite hs ?_
  refine KeepsR.next ?_
  split
  · exact keeps_fdbDone hs
  · split
    · exact keeps_fdbDone hs
    · exact keeps_fdbDone (keeps_setCs (keeps_setFdbData hs))
theorem keeps_fdbZero (hs : Keeps σ s) : Keeps σ s.fdbZero := by
  unfold State.fdbZero
  extract_lets +onlyGivenNames x1
  exact keeps_regs hs (Tab.wf_filter _ _ _)
theorem keeps_execFdbSeedWrite {v : Word} (hs : Keeps σ s) : KeepsR σ (execFdbSeedWrite v s) :=
    keeps_opWrite hs (KeepsR.next (keeps_fdbZero (keeps_wr hs)))
theorem keeps_execFidWrite {f : BitVec 12} {v : Word} (hs : Keeps σ s) : KeepsR σ (execFidWrite f v s) :=
    keeps_opWrite hs (KeepsR.next (keeps_ite (keeps_inc hs) (keeps_wr hs)))
theorem keeps_hold {fn : Fn} {blk entry i : Nat} {v : Word} (hs : Keeps σ s) : Keeps σ (s.hold fn blk entry i v) := keeps_mk hs
theorem keeps_countLock {d : RegD} {a : Nat} {old v : Word} (hs : Keeps σ s) : Keeps σ (s.countLock d a old v) :=
    keeps_incIf hs
theorem keeps_guardRcp {a : Nat} {v : Word} (hs : Keeps σ s) : KeepsO σ (s.guardRcp a v) := by
  unfold State.guardRcp
  extract_lets +onlyGivenNames x1
  clear_value x1
  split
  · exact KeepsO.some (keeps_inc hs)
  · split
    · exact KeepsO.some (keeps_ite (keeps_mk hs) (keeps_inc hs))
    · split
      · exact KeepsO.some (keeps_inc hs)
      · exact KeepsO.none
theorem keeps_guardTsu {a : Nat} {v : Word} (hs : Keeps σ s) : KeepsO σ (s.guardTsu a v) := by
  unfold State.guardTsu
  extract_lets +onlyGivenNames x1
  clear_value x1
  split
  · extract_lets +onlyGivenNames x2
    clear_value x2
    split
    · exact KeepsO.some (keeps_tsuRefused hs)
    · exact KeepsO.none
  · split
    · split
      · exact KeepsO.some (keeps_tsuRefused hs)
      · exact KeepsO.none
    · split
      · split
        · exact KeepsO.some (keeps_tsuRefused hs)
        · exact KeepsO.none
      · exact KeepsO.none
theorem keeps_unprotect {n : Nat} {v : Word} (hs : Keeps σ s) : Keeps σ (s.unprotect n v) := by
  unfold State.unprotect
  extract_lets +onlyGivenNames x1
  have h1 : Keeps σ x1 := keeps_ite (keeps_setGap hs) hs
  clear_value x1
  extract_lets +onlyGivenNames x2
  have h2 : Keeps σ x2 := keeps_setB (keeps_setGap (keeps_setPst (keeps_tell (keeps_wr h1))))
  clear_value x2
  extract_lets +onlyGivenNames x3
  clear_value x3
  extract_lets +onlyGivenNames x4
  have h3 : Keeps σ x4 := keeps_mk h2
  clear_value x4
  exact keeps_txenSettle h3
theorem keeps_guardTpa {a : Nat} {v : Word} (hs : Keeps σ s) : KeepsO σ (s.guardTpa a v) := by
  unfold State.guardTpa
  extract_lets +onlyGivenNames x1 x2
  clear_value x1 x2
  split
  · split
    · exact KeepsO.some hs
    · exact KeepsO.none
  · split
    · exact KeepsO.some (keeps_unprotect hs)
    · split
      · exact KeepsO.some (keeps_inc hs)
      · exact KeepsO.none
theorem keeps_guardSet {fn : Fn} {a : Nat} {v : Word} (hs : Keeps σ s) : KeepsO σ (s.guardSet fn a v) := by
  unfold State.guardSet
  split
  · exact KeepsO.some (keeps_fdbDone hs)
  · split
    · exact KeepsO.some (keeps_keyDone hs)
    · split
      · exact KeepsO.some (keeps_mk hs)
      · exact KeepsO.none
theorem keeps_guardWrite {a : Nat} {v : Word} (hs : Keeps σ s) : KeepsO σ (s.guardWrite a v) := by
  unfold State.guardWrite
  split
  · exact keeps_guardRcp hs
  · exact keeps_guardTsu hs
  · exact keeps_guardTpa hs
  · exact keeps_guardTpa hs
  · split
    · exact KeepsO.some (keeps_inc hs)
    · exact KeepsO.none
  · split
    · exact KeepsO.some (keeps_inc hs)
    · exact KeepsO.none
  · split
    · exact KeepsO.some (keeps_inc (keeps_wr hs))
    · exact KeepsO.none
  · split
    · exact KeepsO.some (keeps_inc (keeps_wr hs))
    · exact KeepsO.none
  · split
    · exact KeepsO.some (keeps_inc hs)
    · exact KeepsO.none
  · exact keeps_guardSet hs
  · exact keeps_guardSet hs
  · split
    · exact KeepsO.some (keeps_inc hs)
    · exact KeepsO.none
  · split
    · exact KeepsO.some (keeps_inc hs)
    · exact KeepsO.none
  · exact KeepsO.none
theorem keeps_clearRecord {a : Nat} (hs : Keeps σ s) : Keeps σ (s.clearRecord a) :=
    keeps_wr (keeps_wr (keeps_wr (keeps_wr hs)))
theorem keeps_writeHook {a : Nat} {old v : Word} (hs : Keeps σ s) : Keeps σ (s.writeHook a old v) := by
  unfold State.writeHook
  split
  · exact keeps_ite (keeps_leaveQuiet hs) hs
  · exact keeps_ite (keeps_mateDarken hs) (keeps_ite (keeps_clearRecord hs) hs)
  · exact keeps_ite (keeps_emit (keeps_setB hs)) hs
  · exact keeps_ite (keeps_commitUnit hs) (keeps_ite (keeps_ppsTake hs) (keeps_ite (keeps_outLow hs) (keeps_ite (keeps_outLow
        hs) (keeps_ite (keeps_todFlush hs) hs))))
  · exact keeps_ite (keeps_tell hs) hs
  · exact keeps_ite (keeps_tell hs) hs
  · exact keeps_ite (keeps_clearRecord hs) hs
  · exact keeps_ite (keeps_ite (keeps_mk hs) (keeps_mk hs)) hs
  · exact keeps_ite (keeps_clearRecord hs) hs
  · exact keeps_ite (keeps_clearRecord hs) hs
  · exact hs
theorem keeps_writeOp {a : Nat} {v : Word} (hs : Keeps σ s) : Keeps σ (s.writeOp a v) := by
  unfold State.writeOp
  split
  · exact keeps_refuseAt hs
  · split
    · exact keeps_refuseAt hs
    · split
      · exact hs
      · split
        · exact keeps_hold hs
        · split
          · exact KeepsO.out (keeps_guardWrite hs) ‹_›
          · exact keeps_writeHook (keeps_wr (keeps_countLock hs))
theorem keeps_writeSet {n : Fin 16} {a : Nat} {v : Word} (hs : Keeps σ s) : Keeps σ (s.writeSet n a v) := by
  unfold State.writeSet
  split
  · exact hs
  · split
    · exact hs
    · split
      · exact KeepsO.out (keeps_guardSet hs) ‹_›
      · exact keeps_setCs hs
theorem keeps_writeMsix {n : Fin 16} {o : Nat} {v : Word} (hs : Keeps σ s) : Keeps σ (s.writeMsix n o v) := by
  unfold State.writeMsix
  extract_lets +onlyGivenNames x1 x2 x3
  clear_value x1 x2 x3
  extract_lets +onlyGivenNames x4
  have h1 : Keeps σ x4 := keeps_setTen hs
  clear_value x4
  exact keeps_ite (keeps_emit (keeps_setTen h1)) h1
theorem keeps_writeBell {fn : Fn} {j o : Nat} {v : Word} (hs : Keeps σ s) : Keeps σ (s.writeBell fn j o v) :=
    keeps_ite (keeps_doorbell hs) hs
theorem keeps_writeTen {n : Fin 16} {o : Nat} {v : Word} (hs : Keeps σ s) : Keeps σ (s.writeTen n o v) := by
  unfold State.writeTen
  extract_lets +onlyGivenNames x1
  clear_value x1
  split
  · split
    · exact keeps_writeBell hs
    · exact keeps_tenantRefused hs
  · split
    · split
      · exact keeps_tenantRefused hs
      · split
        · exact keeps_hold hs
        · exact hs
    · split
      · exact keeps_writeSet hs
      · exact keeps_ite (keeps_tenantRefused hs) (keeps_ite (keeps_writeMsix hs) (keeps_ite (keeps_setTen hs) (keeps_ite
            (keeps_setTen hs) (keeps_ite (keeps_setTen hs) hs))))
theorem keeps_writeAt {fn : Fn} {a : BitVec 25} {v : Word} (hs : Keeps σ s) : Keeps σ (s.writeAt fn a v) := by
  unfold State.writeAt
  split
  · exact hs
  · split
    · exact keeps_ite (keeps_writeBell hs) (keeps_writeOp hs)
    · exact keeps_writeTen hs
theorem keeps_execRegisterWrite {fn : Fn} {a : BitVec 25} {v : Word} (hs : Keeps σ s) :
    KeepsR σ (execRegisterWrite fn a v s) := KeepsR.next (keeps_writeAt hs)
theorem keeps_execHeldWordWrite {fn : Fn} {a : BitVec 25} {v : Word} (hs : Keeps σ s) :
    KeepsR σ (execHeldWordWrite fn a v s) := KeepsR.next (keeps_writeAt hs)
theorem keeps_execPartialByteWrite {fn : Fn} {a : BitVec 25} {_be : Fin 15} (hs : Keeps σ s) :
    KeepsR σ (execPartialByteWrite fn a _be s) := by
  unfold execPartialByteWrite
  refine KeepsR.next ?_
  split
  · exact keeps_ite (keeps_refuseAt hs) hs
  · exact keeps_ite (keeps_tenantRefused hs) hs
theorem keeps_execReservedAccess {fn : Fn} {a : BitVec 25} {wr : Bool} (hs : Keeps σ s) :
    KeepsR σ (execReservedAccess fn a wr s) := by
  unfold execReservedAccess
  extract_lets +onlyGivenNames x1
  clear_value x1
  extract_lets +onlyGivenNames x2
  have h1 : ∀ v0, Keeps σ v0 → Keeps σ (x2 v0) := by
    intro v0 hv0
    unfold x2
    exact keeps_ite hv0 (keeps_answer hv0)
  clear_value x2
  refine KeepsR.next ?_
  split
  · exact hs
  · split
    · exact keeps_ite hs (h1 _ (keeps_refuseAt hs))
    · exact keeps_ite hs (h1 _ (keeps_tenantRefused hs))
theorem keeps_execInResetAccess {fn : Fn} {a : BitVec 25} {wr : Bool} (hs : Keeps σ s) :
    KeepsR σ (execInResetAccess fn a wr s) := by
  unfold execInResetAccess
  extract_lets +onlyGivenNames x1
  have h1 : ∀ v0, Keeps σ v0 → Keeps σ (x1 v0) := by
    intro v0 hv0
    unfold x1
    exact keeps_ite hv0 (keeps_answer hv0)
  clear_value x1
  refine KeepsR.next ?_
  split
  · exact hs
  · split
    · exact keeps_ite (h1 _ (keeps_refuseAt hs)) hs
    · split
      · exact keeps_ite (h1 _ hs) hs
      · exact hs
theorem keeps_execLatchingRead {fn : Fn} {a : BitVec 25} (hs : Keeps σ s) : KeepsR σ (execLatchingRead fn a s) :=
    KeepsR.next (keeps_readAt hs)
theorem keeps_execCounterLowRead {fn : Fn} {a : BitVec 25} (hs : Keeps σ s) : KeepsR σ (execCounterLowRead fn a s) :=
    KeepsR.next (keeps_readAt hs)
theorem keeps_execClearOnRead {fn : Fn} {a : BitVec 25} (hs : Keeps σ s) : KeepsR σ (execClearOnRead fn a s) :=
    KeepsR.next (keeps_readAt hs)
theorem keeps_execTwData0Read {t : Fin 16} (hs : Keeps σ s) : KeepsR σ (execTwData0Read t s) :=
    KeepsR.next (keeps_ite (keeps_readTw hs) hs)
theorem keeps_execSfcLoad {v : Word} (hs : Keeps σ s) : KeepsR σ (execSfcLoad v s) := by
  unfold execSfcLoad
  refine keeps_opWrite hs ?_
  split
  · exact KeepsR.next (keeps_inc hs)
  · extract_lets +onlyGivenNames x1
    have h1 : Keeps σ x1 := keeps_setB (keeps_wr hs)
    clear_value x1
    exact KeepsR.next (keeps_mk h1)
theorem keeps_execFtOffsetWrite {v : Word} (hs : Keeps σ s) : KeepsR σ (execFtOffsetWrite v s) :=
    keeps_opWrite hs (KeepsR.next (keeps_ite (keeps_inc hs) (keeps_setF hs)))
theorem keeps_execMapRead {n : Fin 32} {frame : BitVec 51} {unc : Bool} (hs : Keeps σ s) :
    KeepsR σ (execMapRead n frame unc s) := KeepsR.next (keeps_ite (keeps_setDport hs) hs)
theorem keeps_stopDisabled {n : Nat} (hs : Keeps σ s) : Keeps σ (s.stopDisabled n) :=
    keeps_seeLight (keeps_setTport (keeps_stopFraming hs))
theorem keeps_stampFrame {n f : Nat} {ft phase : Int} (hs : Keeps σ s) : Keeps σ (s.stampFrame n f ft phase) := by
  unfold State.stampFrame
  extract_lets +onlyGivenNames x1
  clear_value x1
  extract_lets +onlyGivenNames x2
  have h1 : Keeps σ x2 := keeps_wr (keeps_advanceTo hs)
  clear_value x2
  extract_lets +onlyGivenNames x3
  have h2 : Keeps σ x3 := keeps_tell h1
  clear_value x3
  extract_lets +onlyGivenNames x4
  have h3 : Keeps σ x4 := keeps_wr h2
  clear_value x4
  extract_lets +onlyGivenNames x5
  have h4 : Keeps σ x5 := keeps_wr h3
  clear_value x5
  exact keeps_ite (keeps_raise (keeps_setB (keeps_inc h4))) h4
theorem keeps_buildFrame {n f : Nat} (hs : Keeps σ s) : Keeps σ (s.buildFrame n f) := by
  unfold State.buildFrame
  split
  split
  split
  extract_lets +onlyGivenNames x1
  have h1 : Keeps σ x1 := keeps_takingDone (keeps_emit (keeps_add64 (KeepsP.out (keeps_fillXgem (KeepsP.out (keeps_framePloams
      (KeepsP.out (keeps_frameMap hs) ‹_›)) ‹_›)) ‹_›)))
  clear_value x1
  exact keeps_sendMap h1
theorem keeps_execLineFrameStart {n : Fin 32} {phase : Int} (hs : Keeps σ s) : KeepsR σ (execLineFrameStart n phase s) := by
  unfold execLineFrameStart
  split
  · exact KeepsR.next hs
  · split
    · exact KeepsR.next (keeps_stopDisabled hs)
    · extract_lets +onlyGivenNames x1 x2
      clear_value x1 x2
      extract_lets +onlyGivenNames x3
      have h1 : Keeps σ x3 := keeps_stampFrame hs
      clear_value x3
      extract_lets +onlyGivenNames x4
      clear_value x4
      extract_lets +onlyGivenNames x5
      have h2 : Keeps σ x5 := keeps_setTport h1
      clear_value x5
      extract_lets +onlyGivenNames x6
      have h3 : Keeps σ x6 := keeps_ite (keeps_announceAll h2) h2
      clear_value x6
      extract_lets +onlyGivenNames x7
      clear_value x7
      extract_lets +onlyGivenNames x8
      have h4 : Keeps σ x8 := keeps_setDport h3
      clear_value x8
      exact KeepsR.next (keeps_buildFrame h4)
theorem keeps_execProfileAnnounce {n : Fin 32} (hs : Keeps σ s) : KeepsR σ (execProfileAnnounce n s) :=
    KeepsR.next (keeps_ite (keeps_announceAll hs) hs)
theorem keeps_execHoldBegin {n : Fin 32} {v : Word} (hs : Keeps σ s) : KeepsR σ (execHoldBegin n v s) :=
    keeps_opWrite hs (KeepsR.next (keeps_wr hs))
theorem keeps_execHoldEnd {n : Fin 32} {v : Word} (hs : Keeps σ s) : KeepsR σ (execHoldEnd n v s) :=
    keeps_opWrite hs (KeepsR.next (keeps_wr hs))
theorem keeps_execHoldExpire {n : Fin 32} (hs : Keeps σ s) : KeepsR σ (execHoldExpire n s) :=
    keepsR_ite (KeepsR.next (keeps_setDport (keeps_raise (keeps_setB hs)))) (KeepsR.next hs)
theorem keeps_sendTrain {lanes : List Nat} (hs : Keeps σ s) : Keeps σ (s.sendTrain lanes) :=
    keeps_foldl (fun _ _ h1 => keeps_transmit h1) hs
theorem keeps_mateCtrl {v : Word} (hs : Keeps σ s) : Keeps σ (s.mateCtrl v) := by
  unfold State.mateCtrl
  extract_lets +onlyGivenNames x1 x2
  clear_value x1 x2
  split
  · exact keeps_inc hs
  · extract_lets +onlyGivenNames x3
    have h1 : Keeps σ x3 := keeps_wr hs
    clear_value x3
    split
    · exact keeps_mateLeft h1
    · split
      · extract_lets +onlyGivenNames x4
        have h2 : Keeps σ x4 := keeps_ite h1 (keeps_setF (keeps_mateLeft h1))
        clear_value x4
        exact keeps_sendTrain h2
      · split
        · extract_lets +onlyGivenNames x4
          clear_value x4
          split
          exact keeps_sendTrain (keeps_sendWidth (keeps_mk h1))
        · exact h1
theorem keeps_execMlkEnable {v : Word} (hs : Keeps σ s) : KeepsR σ (execMlkEnable v s) :=
    keeps_opWrite hs (KeepsR.next (keeps_mateCtrl hs))
theorem keeps_execMlkTrainStart {v : Word} (hs : Keeps σ s) : KeepsR σ (execMlkTrainStart v s) :=
    keeps_opWrite hs (KeepsR.next (keeps_mateCtrl hs))
theorem keeps_execMlkTrainEnd {v : Word} (hs : Keeps σ s) : KeepsR σ (execMlkTrainEnd v s) :=
    keeps_opWrite hs (KeepsR.next (keeps_mateCtrl hs))
theorem keeps_execBitslip {l : Fin 8} (hs : Keeps σ s) : KeepsR σ (execBitslip l s) := by
  unfold execBitslip
  refine keeps_opWrite hs ?_
  extract_lets +onlyGivenNames x1
  clear_value x1
  extract_lets +onlyGivenNames x2
  have h1 : Keeps σ x2 := keeps_setB (keeps_setF hs)
  clear_value x2
  exact KeepsR.next (keeps_setMlane h1)
theorem keeps_execMlkLinkUp (hs : Keeps σ s) : KeepsR σ (execMlkLinkUp s) := by
  unfold execMlkLinkUp
  split
  · split
    · exact KeepsR.next (keeps_mateDown hs)
    · extract_lets +onlyGivenNames x1
      have h1 : Keeps σ x1 := keeps_setF (keeps_setF hs)
      clear_value x1
      extract_lets +onlyGivenNames x2
      clear_value x2
      extract_lets +onlyGivenNames x3
      have h2 : Keeps σ x3 := keeps_mk h1
      clear_value x3
      exact KeepsR.next (keeps_foldl (fun _ _ h3 => keeps_ite (keeps_mirrorAll h3) h3) h2)
  · exact KeepsR.next hs
theorem keeps_cutLane {l : Nat} (hs : Keeps σ s) : Keeps σ (s.cutLane l) := keeps_incIf (keeps_setMlane hs)
theorem keeps_mateFrame {l : Nat} (hs : Keeps σ s) : Keeps σ (s.mateFrame l) := by
  unfold State.mateFrame
  extract_lets +onlyGivenNames x1
  clear_value x1
  split
  · exact hs
  · extract_lets +onlyGivenNames x2
    have h1 : Keeps σ x2 := keeps_setMlane hs
    clear_value x2
    extract_lets +onlyGivenNames x3
    split
    · exact keeps_inc h1
    · extract_lets +onlyGivenNames x4
      clear_value x4
      extract_lets +onlyGivenNames x5
      have h2 : Keeps σ x5 := keeps_add64 h1
      clear_value x5
      exact keeps_mk h2
theorem keeps_upBlock {l : Nat} {b : BitVec 256} (hs : Keeps σ s) : Keeps σ (s.upBlock l b) := by
  unfold State.upBlock
  extract_lets +onlyGivenNames x1 x2
  clear_value x1 x2
  split
  · exact keeps_setMlane (keeps_cutLane (keeps_leaveQuiet hs))
  · exact keeps_setMlane hs
  · exact keeps_ite (keeps_incIf (keeps_setMlane hs)) (keeps_mateFrame (keeps_setMlane hs))
  · extract_lets +onlyGivenNames x3
    have h1 : Keeps σ x3 := keeps_cutLane hs
    clear_value x3
    exact keeps_mk h1
  · extract_lets +onlyGivenNames x3
    have h1 : Keeps σ x3 := keeps_cutLane hs
    clear_value x3
    exact keeps_ite (keeps_narrow h1) h1
  · exact keeps_cutLane hs
theorem keeps_execMlkBlockReceive {l : Fin 8} {b : BitVec 256} (hs : Keeps σ s) : KeepsR σ (execMlkBlockReceive l b s) := by
  unfold execMlkBlockReceive
  split
  · exact KeepsR.next hs
  · extract_lets +onlyGivenNames x1 x2
    clear_value x1 x2
    split
    · extract_lets +onlyGivenNames x3
      have h1 : Keeps σ x3 := keeps_setB (keeps_inc hs)
      clear_value x3
      exact KeepsR.next (keeps_setMlane h1)
    · extract_lets +onlyGivenNames x3 x4
      clear_value x3 x4
      extract_lets +onlyGivenNames x5
      have h1 : Keeps σ x5 := keeps_setB (keeps_setMlane hs)
      clear_value x5
      extract_lets +onlyGivenNames x6
      have h2 : Keeps σ x6 := keeps_ite (keeps_setB h1) h1
      clear_value x6
      exact keepsR_ite (KeepsR.next (keeps_ite (keeps_upBlock h2) h2)) (keepsR_ite (KeepsR.next (keeps_mk h2)) (KeepsR.next h2))
theorem keeps_execMlkLaneDrop {l : Fin 8} (hs : Keeps σ s) : KeepsR σ (execMlkLaneDrop l s) :=
    KeepsR.next (keeps_ite (keeps_dropLane hs) hs)
theorem keeps_execMlkNarrowDone (hs : Keeps σ s) : KeepsR σ (execMlkNarrowDone s) := by
  unfold execMlkNarrowDone
  split
  · exact KeepsR.next hs
  · extract_lets +onlyGivenNames x1
    have h1 : Keeps σ x1 := keeps_setF hs
    clear_value x1
    exact KeepsR.next (keeps_mk h1)
theorem keeps_execMlkLaneRetrain {l : Fin 8} {locks : Bool} (hs : Keeps σ s) : KeepsR σ (execMlkLaneRetrain l locks s) := by
  unfold execMlkLaneRetrain
  split
  · exact KeepsR.next hs
  · extract_lets +onlyGivenNames x1
    clear_value x1
    extract_lets +onlyGivenNames x2
    have h1 : Keeps σ x2 := keeps_mk hs
    clear_value x2
    split
    · exact KeepsR.next (keeps_setB (keeps_setB h1))
    · split
      · exact KeepsR.next (keeps_raise h1)
      · split
        exact keepsR_ite (KeepsR.next (keeps_mk (KeepsP.out (keeps_useSlice hs) ‹_›))) (KeepsR.next (keeps_raise h1))
theorem keeps_execMlkClockLoss (hs : Keeps σ s) : KeepsR σ (execMlkClockLoss s) := by
  unfold execMlkClockLoss
  extract_lets +onlyGivenNames x1
  have h1 : Keeps σ x1 := keeps_setB hs
  clear_value x1
  exact KeepsR.next (keeps_ite h1 (keeps_mateDown h1))
theorem keeps_execMlkClockReturn (hs : Keeps σ s) : KeepsR σ (execMlkClockReturn s) := KeepsR.next (keeps_setB hs)
theorem keeps_execSisAdd {l : Fin 16} (hs : Keeps σ s) : KeepsR σ (execSisAdd l s) :=
    keeps_sisRun hs (fun _ _ _ h1 => keeps_sisReg h1)
theorem keeps_execSisSub {l : Fin 16} (hs : Keeps σ s) : KeepsR σ (execSisSub l s) :=
    keeps_sisRun hs (fun _ _ _ h1 => keeps_sisReg h1)
theorem keeps_execSisAnd {l : Fin 16} (hs : Keeps σ s) : KeepsR σ (execSisAnd l s) :=
    keeps_sisRun hs (fun _ _ _ h1 => keeps_sisReg h1)
theorem keeps_execSisOr {l : Fin 16} (hs : Keeps σ s) : KeepsR σ (execSisOr l s) :=
    keeps_sisRun hs (fun _ _ _ h1 => keeps_sisReg h1)
theorem keeps_execSisXor {l : Fin 16} (hs : Keeps σ s) : KeepsR σ (execSisXor l s) :=
    keeps_sisRun hs (fun _ _ _ h1 => keeps_sisReg h1)
theorem keeps_execSisShl {l : Fin 16} (hs : Keeps σ s) : KeepsR σ (execSisShl l s) :=
    keeps_sisRun hs (fun _ _ _ h1 => keeps_sisReg h1)
theorem keeps_execSisShr {l : Fin 16} (hs : Keeps σ s) : KeepsR σ (execSisShr l s) :=
    keeps_sisRun hs (fun _ _ _ h1 => keeps_sisReg h1)
theorem keeps_execSisAsr {l : Fin 16} (hs : Keeps σ s) : KeepsR σ (execSisAsr l s) :=
    keeps_sisRun hs (fun _ _ _ h1 => keeps_sisReg h1)
theorem keeps_execSisMin {l : Fin 16} (hs : Keeps σ s) : KeepsR σ (execSisMin l s) :=
    keeps_sisRun hs (fun _ _ _ h1 => keeps_sisReg h1)
theorem keeps_execSisMax {l : Fin 16} (hs : Keeps σ s) : KeepsR σ (execSisMax l s) :=
    keeps_sisRun hs (fun _ _ _ h1 => keeps_sisReg h1)
theorem keeps_execSisMul {l : Fin 16} (hs : Keeps σ s) : KeepsR σ (execSisMul l s) :=
    keeps_sisRun hs (fun _ _ _ h1 => keeps_sisReg h1)
theorem keeps_execSisExt {l : Fin 16} (hs : Keeps σ s) : KeepsR σ (execSisExt l s) :=
    keeps_sisRun hs (fun _ _ _ h1 => keepsS_ite (keeps_alu h1) KeepsS.exc)
theorem keeps_execSisIns {l : Fin 16} (hs : Keeps σ s) : KeepsR σ (execSisIns l s) :=
    keeps_sisRun hs (fun _ _ _ h1 => keepsS_ite (keeps_alu h1) KeepsS.exc)
theorem keeps_execSisAddi {l : Fin 16} (hs : Keeps σ s) : KeepsR σ (execSisAddi l s) :=
    keeps_sisRun hs (fun _ _ _ h1 => keeps_sisImm h1)
theorem keeps_execSisAndi {l : Fin 16} (hs : Keeps σ s) : KeepsR σ (execSisAndi l s) :=
    keeps_sisRun hs (fun _ _ _ h1 => keeps_sisImm h1)
theorem keeps_execSisOri {l : Fin 16} (hs : Keeps σ s) : KeepsR σ (execSisOri l s) :=
    keeps_sisRun hs (fun _ _ _ h1 => keeps_sisImm h1)
theorem keeps_execSisXori {l : Fin 16} (hs : Keeps σ s) : KeepsR σ (execSisXori l s) :=
    keeps_sisRun hs (fun _ _ _ h1 => keeps_sisImm h1)
theorem keeps_execSisShli {l : Fin 16} (hs : Keeps σ s) : KeepsR σ (execSisShli l s) :=
    keeps_sisRun hs (fun _ _ _ h1 => keeps_sisImm h1)
theorem keeps_execSisShri {l : Fin 16} (hs : Keeps σ s) : KeepsR σ (execSisShri l s) :=
    keeps_sisRun hs (fun _ _ _ h1 => keeps_sisImm h1)
theorem keeps_execSisAsri {l : Fin 16} (hs : Keeps σ s) : KeepsR σ (execSisAsri l s) :=
    keeps_sisRun hs (fun _ _ _ h1 => keeps_sisImm h1)
theorem keeps_execSisMuli {l : Fin 16} (hs : Keeps σ s) : KeepsR σ (execSisMuli l s) :=
    keeps_sisRun hs (fun _ _ _ h1 => keeps_sisImm h1)
theorem keeps_execSisLi {l : Fin 16} (hs : Keeps σ s) : KeepsR σ (execSisLi l s) :=
    keeps_sisRun hs (fun _ _ _ h1 => keeps_sisImm h1)
theorem keeps_execSisLih {l : Fin 16} (hs : Keeps σ s) : KeepsR σ (execSisLih l s) :=
    keeps_sisRun hs (fun _ _ _ h1 => keeps_sisImm h1)
theorem keeps_execSisCb {l : Fin 16} (hs : Keeps σ s) : KeepsR σ (execSisCb l s) := by
  unfold execSisCb
  refine keeps_sisRun hs (fun _ _ _ h1 => ?_)
  split
  · exact KeepsS.jump h1
  · exact KeepsS.done h1
  · exact KeepsS.exc
theorem keeps_execSisCall {l : Fin 16} (hs : Keeps σ s) : KeepsR σ (execSisCall l s) :=
    keeps_sisRun hs (fun _ _ _ h1 => keepsS_ite (KeepsS.jump (keeps_setEng h1)) KeepsS.exc)
theorem keeps_execSisJr {l : Fin 16} (hs : Keeps σ s) : KeepsR σ (execSisJr l s) :=
    keeps_sisRun hs (fun _ _ _ h1 => keepsS_ite (KeepsS.jump h1) KeepsS.exc)
theorem keeps_execSisCallx {l : Fin 16} (hs : Keeps σ s) : KeepsR σ (execSisCallx l s) :=
    keeps_sisRun hs (fun _ _ _ h1 => keepsS_ite KeepsS.exc (keepsS_ite KeepsS.exc (keepsS_ite KeepsS.exc (KeepsS.goto (keeps_setEng h1)))))
theorem keeps_execSisRetx {l : Fin 16} (hs : Keeps σ s) : KeepsR σ (execSisRetx l s) :=
    keeps_sisRun hs (fun _ _ _ h1 => keepsS_ite KeepsS.exc (KeepsS.goto (keeps_setEng h1)))
theorem keeps_execSisBudgetSpent {l : Fin 16} (hs : Keeps σ s) : KeepsR σ (execSisBudgetSpent l s) :=
    KeepsR.next (keeps_ite (keeps_setEng hs) hs)
theorem keeps_execSisEret {l : Fin 16} (hs : Keeps σ s) : KeepsR σ (execSisEret l s) :=
    keeps_sisRun hs (fun _ _ _ h1 => keepsS_ite KeepsS.exc (keepsS_ite KeepsS.exc (keepsS_ite KeepsS.exc (KeepsS.goto (keeps_setEng h1)))))
theorem keeps_execSisHalt {l : Fin 16} (hs : Keeps σ s) : KeepsR σ (execSisHalt l s) :=
    keeps_sisRun hs (fun _ _ _ h1 => keepsS_ite KeepsS.exc (keeps_privileged (KeepsS.stop h1)))
theorem keeps_execSisRdsys {l : Fin 16} (hs : Keeps σ s) : KeepsR σ (execSisRdsys l s) :=
    keeps_sisRun hs (fun _ _ _ h1 => keepsS_ite KeepsS.exc (keepsS_ite KeepsS.exc (KeepsS.done (keeps_setEng h1))))
theorem keeps_execSisWrsys {l : Fin 16} (hs : Keeps σ s) : KeepsR σ (execSisWrsys l s) := by
  unfold execSisWrsys
  refine keeps_sisRun hs (fun _ _ _ h1 => ?_)
  extract_lets +onlyGivenNames x1
  clear_value x1
  split
  · exact KeepsS.exc
  · refine keeps_privileged ?_
    split
    · exact KeepsS.done (keeps_setEng h1)
    · exact KeepsS.done (keeps_setEng h1)
    · exact KeepsS.done (keeps_setEng h1)
    · exact KeepsS.exc
theorem keeps_execSisWaitft {l : Fin 16} (hs : Keeps σ s) : KeepsR σ (execSisWaitft l s) := by
  unfold execSisWaitft
  refine keeps_sisRun hs (fun _ _ _ h1 => ?_)
  split
  · exact KeepsS.exc
  · refine keeps_privileged ?_
    split
    · exact KeepsS.exc
    · extract_lets +onlyGivenNames x1
      have h2 : Keeps σ x1 := keeps_ite (keeps_inc (keeps_setSuspBit (keeps_someSlots (keeps_setEng h1)))) h1
      clear_value x1
      extract_lets +onlyGivenNames x2
      clear_value x2
      split
      · extract_lets +onlyGivenNames x3
        have h3 : Keeps σ x3 := keeps_applyLoads (keeps_setEng h2)
        clear_value x3
        exact KeepsS.done (keeps_setEng h3)
      · exact KeepsS.wait (keeps_setPstate (keeps_setEng h2))
theorem keeps_execFrameTick (hs : Keeps σ s) : KeepsR σ (execFrameTick s) :=
    KeepsR.next (keeps_ite hs (keeps_frameTick (keeps_advanceTo hs)))
theorem keeps_stepUsers {ahead : List Nat} {was : Clk} (hs : Keeps σ s) : Keeps σ (s.stepUsers ahead was) := by
  unfold State.stepUsers
  extract_lets +onlyGivenNames x1 x2 x3
  clear_value x1 x2 x3
  extract_lets +onlyGivenNames x4
  have h1 : Keeps σ x4 := keeps_mk hs
  clear_value x4
  extract_lets +onlyGivenNames x5
  have h2 : Keeps σ x5 := keeps_ite (keeps_ageAll h1) h1
  clear_value x5
  extract_lets +onlyGivenNames x6
  have h3 : Keeps σ x6 := keeps_ite (keeps_setF h2) h2
  clear_value x6
  extract_lets +onlyGivenNames x7
  have h4 : Keeps σ x7 := keeps_ite (keeps_frameTick h3) h3
  clear_value x7
  exact keeps_fireDue (keeps_clockStepped h4)
theorem keeps_applyStep (hs : Keeps σ s) : Keeps σ s.applyStep := by
  unfold State.applyStep
  extract_lets +onlyGivenNames x1
  have h1 : Keeps σ x1 := keeps_ite (keeps_holdGain hs) hs
  clear_value x1
  split
  · exact h1
  · split
    · exact keeps_tsuRefused (keeps_mk h1)
    · extract_lets +onlyGivenNames x2
      clear_value x2
      extract_lets +onlyGivenNames x3
      have h2 : Keeps σ x3 := keeps_setB (keeps_mk h1)
      clear_value x3
      exact keeps_stepUsers h2
theorem keeps_execStepApply (hs : Keeps σ s) : KeepsR σ (execStepApply s) := KeepsR.next (keeps_ite (keeps_applyStep hs) hs)
theorem keeps_spendSlew (hs : Keeps σ s) : Keeps σ s.spendSlew := by
  unfold State.spendSlew
  split
  · exact hs
  · exact keeps_ite (keeps_endSlew hs) (keeps_wr hs)
theorem keeps_gainTick (hs : Keeps σ s) : Keeps σ s.gainTick := by
  unfold State.gainTick
  extract_lets +onlyGivenNames x1
  clear_value x1
  extract_lets +onlyGivenNames x2
  have h1 : Keeps σ x2 := keeps_spendSlew (keeps_holdGain hs)
  clear_value x2
  exact keeps_holdMet (keeps_mk h1)
theorem keeps_clockTick (hs : Keeps σ s) : Keeps σ s.clockTick := by
  unfold State.clockTick
  split
  · exact hs
  · split
    · exact keeps_applyStep hs
    · extract_lets +onlyGivenNames x1
      have h1 : Keeps σ x1 := keeps_gainTick hs
      clear_value x1
      exact keeps_fireDue (keeps_ite (keeps_frameTick h1) h1)
theorem keeps_idle (hs : Keeps σ s) : Keeps σ s.idle := keeps_countCycles (keeps_clockTick hs)

end Sys2Proof.Machine
end

