-- ==== Sys2Proof/Laws/Ops.lean ====
section
/-! SUPPORT. Laws of the shared operations. -/

namespace Sys2Proof.Machine

/-- A register that was just written reads what was written. -/
@[simp] theorem State.rd_wr_same (s : State) (a : Nat) (w : Word) : (s.wr a w).rd a = w := Tab.look_put_same _ _ _ _

/-- Writing a register leaves every other one. -/
theorem State.rd_wr_other (s : State) (a b : Nat) (w : Word) (h : b ≠ a) : (s.wr a w).rd b = s.rd b :=
  Tab.look_put_other _ _ _ _ _ _ h

/-- A write that reaches its register is carried out. -/
theorem State.fnWrite_reaches {s : State} {fn : Fn} {a : Nat} {r : Res} (h : s.reaches a) : s.fnWrite fn a r = r := by
  simp only [State.fnWrite, h.1, h.2, Bool.not_true, Bool.false_eq_true, if_false]

theorem State.opWrite_reaches {s : State} {a : Nat} {r : Res} (h : s.reaches a) : s.opWrite a r = r :=
  State.fnWrite_reaches h

/-- An instruction that runs is dispatched, and comes to what its operation makes of the engine. -/
theorem State.sisRun_runs {s : State} {l : Fin 16} {op : Nat} {f : State → Engine → Word64 → SisRes} (h : s.runs l op) :
    s.sisRun l op f = s.sisNext l fun t e => f t e (s.insn l) := by
  obtain ⟨h1, h2, h3⟩ := h
  simp only [State.insn] at h3
  simp only [State.sisRun, State.sisNext, State.insn, h1, h2, h3, Bool.not_true, bne_self_eq_false, Bool.false_and, Bool.or_self,
    Bool.false_eq_true, if_false, beq_self_eq_true, if_true]

/-- An operation that is done, not at the last word of a segment, goes on at the next address. -/
theorem State.sisNext_done {s t : State} {l c : Nat} {susp : Bool} {f : State → Engine → SisRes}
    (h : (((s.dispatch l).eng l).pc + 1) % 512 ≠ 0) (hf : f (s.dispatch l) ((s.dispatch l).eng l) = .done t c susp) :
    s.sisNext l f = .next (t.sisEnd l ((s.dispatch l).eng l).pc (((s.dispatch l).eng l).pc + 1) c susp) := by
  simp only [State.sisNext, hf, State.sisFinish, if_neg h]

/-- At the last word of a segment it raises XSEG instead. -/
theorem State.sisNext_last {s : State} {l : Nat} {f : State → Engine → SisRes}
    (h : (((s.dispatch l).eng l).pc + 1) % 512 = 0)
    (hf : ∃ t c susp, f (s.dispatch l) ((s.dispatch l).eng l) = .done t c susp) :
    s.sisNext l f = .next ((s.dispatch l).sisExc l 3) := by
  obtain ⟨t, c, susp, hf⟩ := hf
  simp only [State.sisNext, hf, State.sisFinish, if_pos h]

/-- An operation that waits, not at the last word of a segment, leaves its instruction to be tried again. -/
theorem State.sisNext_wait {s t : State} {l : Nat} {f : State → Engine → SisRes}
    (h : (((s.dispatch l).eng l).pc + 1) % 512 ≠ 0) (hf : f (s.dispatch l) ((s.dispatch l).eng l) = .wait t) :
    s.sisNext l f = .next t := by
  simp only [State.sisNext, hf, State.sisFinish, if_neg h]

/-- An exception is raised on the state before the instruction. -/
theorem State.sisNext_exc {s : State} {l code : Nat} {f : State → Engine → SisRes}
    (hf : f (s.dispatch l) ((s.dispatch l).eng l) = .exc code) : s.sisNext l f = .next ((s.dispatch l).sisExc l code) := by
  simp only [State.sisNext, hf, State.sisFinish]

/-- An operation that goes to any address. -/
theorem State.sisNext_goto {s t : State} {l pc c : Nat} {f : State → Engine → SisRes}
    (hf : f (s.dispatch l) ((s.dispatch l).eng l) = .goto t pc c) :
    s.sisNext l f = .next (t.sisEnd l ((s.dispatch l).eng l).pc pc c false) := by
  simp only [State.sisNext, hf, State.sisFinish]

/-- A jump to a target in the segment. -/
theorem State.sisNext_jump {s t : State} {l c : Nat} {x : Int} {f : State → Engine → SisRes}
    (h : x / 512 = (((s.dispatch l).eng l).pc : Int) / 512)
    (hf : f (s.dispatch l) ((s.dispatch l).eng l) = .jump t x c) :
    s.sisNext l f = .next (t.sisEnd l ((s.dispatch l).eng l).pc x.toNat c false) := by
  simp only [State.sisNext, hf, State.sisFinish, if_pos h]

/-- A jump to a target outside the segment raises XSEG. -/
theorem State.sisNext_out {s : State} {l : Nat} {x : Int} {f : State → Engine → SisRes}
    (h : x / 512 ≠ (((s.dispatch l).eng l).pc : Int) / 512)
    (hf : ∃ t c, f (s.dispatch l) ((s.dispatch l).eng l) = .jump t x c) :
    s.sisNext l f = .next ((s.dispatch l).sisExc l 3) := by
  obtain ⟨t, c, hf⟩ := hf
  simp only [State.sisNext, hf, State.sisFinish, if_neg h]

end Sys2Proof.Machine
end

