-- ==== Sys2Proof/Laws/State.lean ====
section
/-! SUPPORT. What each elementary update does to each field of State, so that no proof unfolds a record update; and what the
port, engine and circuit tables read after one. -/

namespace Sys2Proof.Machine

variable (s : State)

/-! wr. -/

@[simp] theorem State.wr_pending (a : Nat) (w : Word) : (s.wr a w).pending = s.pending := rfl
@[simp] theorem State.wr_regs (a : Nat) (w : Word) : (s.wr a w).regs = s.regs.put (resetWord a) a w := rfl
@[simp] theorem State.wr_clk (a : Nat) (w : Word) : (s.wr a w).clk = s.clk := rfl
@[simp] theorem State.wr_flt (a : Nat) (w : Word) : (s.wr a w).flt = s.flt := rfl
@[simp] theorem State.wr_rcp (a : Nat) (w : Word) : (s.wr a w).rcp = s.rcp := rfl
@[simp] theorem State.wr_obs (a : Nat) (w : Word) : (s.wr a w).obs = s.obs := rfl
@[simp] theorem State.wr_hif (a : Nat) (w : Word) : (s.wr a w).hif = s.hif := rfl
@[simp] theorem State.wr_tpa (a : Nat) (w : Word) : (s.wr a w).tpa = s.tpa := rfl
@[simp] theorem State.wr_brx (a : Nat) (w : Word) : (s.wr a w).brx = s.brx := rfl
@[simp] theorem State.wr_rng (a : Nat) (w : Word) : (s.wr a w).rng = s.rng := rfl
@[simp] theorem State.wr_gnt (a : Nat) (w : Word) : (s.wr a w).gnt = s.gnt := rfl
@[simp] theorem State.wr_udf (a : Nat) (w : Word) : (s.wr a w).udf = s.udf := rfl
@[simp] theorem State.wr_tce (a : Nat) (w : Word) : (s.wr a w).tce = s.tce := rfl
@[simp] theorem State.wr_cls (a : Nat) (w : Word) : (s.wr a w).cls = s.cls := rfl
@[simp] theorem State.wr_fdb (a : Nat) (w : Word) : (s.wr a w).fdb = s.fdb := rfl
@[simp] theorem State.wr_bpm (a : Nat) (w : Word) : (s.wr a w).bpm = s.bpm := rfl
@[simp] theorem State.wr_tmg (a : Nat) (w : Word) : (s.wr a w).tmg = s.tmg := rfl
@[simp] theorem State.wr_cry (a : Nat) (w : Word) : (s.wr a w).cry = s.cry := rfl
@[simp] theorem State.wr_dfr (a : Nat) (w : Word) : (s.wr a w).dfr = s.dfr := rfl
@[simp] theorem State.wr_prot (a : Nat) (w : Word) : (s.wr a w).prot = s.prot := rfl
@[simp] theorem State.wr_upl (a : Nat) (w : Word) : (s.wr a w).upl = s.upl := rfl
@[simp] theorem State.wr_mlk (a : Nat) (w : Word) : (s.wr a w).mlk = s.mlk := rfl
@[simp] theorem State.wr_mtn (a : Nat) (w : Word) : (s.wr a w).mtn = s.mtn := rfl
@[simp] theorem State.wr_tsu (a : Nat) (w : Word) : (s.wr a w).tsu = s.tsu := rfl
@[simp] theorem State.wr_dcq (a : Nat) (w : Word) : (s.wr a w).dcq = s.dcq := rfl
@[simp] theorem State.wr_rdata (a : Nat) (w : Word) : (s.wr a w).rdata = s.rdata := rfl
@[simp] theorem State.wr_outs (a : Nat) (w : Word) : (s.wr a w).outs = s.outs := rfl
@[simp] theorem State.wr_rx (a : Nat) (w : Word) : (s.wr a w).rx = s.rx := rfl
@[simp] theorem State.wr_freeN (a : Nat) (w : Word) : (s.wr a w).freeN = s.freeN := rfl

/-! setF. -/

@[simp] theorem State.setF_pending (a hi lo v : Nat) : (s.setF a hi lo v).pending = s.pending := rfl
@[simp] theorem State.setF_clk (a hi lo v : Nat) : (s.setF a hi lo v).clk = s.clk := rfl
@[simp] theorem State.setF_flt (a hi lo v : Nat) : (s.setF a hi lo v).flt = s.flt := rfl
@[simp] theorem State.setF_rcp (a hi lo v : Nat) : (s.setF a hi lo v).rcp = s.rcp := rfl
@[simp] theorem State.setF_obs (a hi lo v : Nat) : (s.setF a hi lo v).obs = s.obs := rfl
@[simp] theorem State.setF_hif (a hi lo v : Nat) : (s.setF a hi lo v).hif = s.hif := rfl
@[simp] theorem State.setF_tpa (a hi lo v : Nat) : (s.setF a hi lo v).tpa = s.tpa := rfl
@[simp] theorem State.setF_brx (a hi lo v : Nat) : (s.setF a hi lo v).brx = s.brx := rfl
@[simp] theorem State.setF_rng (a hi lo v : Nat) : (s.setF a hi lo v).rng = s.rng := rfl
@[simp] theorem State.setF_gnt (a hi lo v : Nat) : (s.setF a hi lo v).gnt = s.gnt := rfl
@[simp] theorem State.setF_udf (a hi lo v : Nat) : (s.setF a hi lo v).udf = s.udf := rfl
@[simp] theorem State.setF_tce (a hi lo v : Nat) : (s.setF a hi lo v).tce = s.tce := rfl
@[simp] theorem State.setF_cls (a hi lo v : Nat) : (s.setF a hi lo v).cls = s.cls := rfl
@[simp] theorem State.setF_fdb (a hi lo v : Nat) : (s.setF a hi lo v).fdb = s.fdb := rfl
@[simp] theorem State.setF_bpm (a hi lo v : Nat) : (s.setF a hi lo v).bpm = s.bpm := rfl
@[simp] theorem State.setF_tmg (a hi lo v : Nat) : (s.setF a hi lo v).tmg = s.tmg := rfl
@[simp] theorem State.setF_cry (a hi lo v : Nat) : (s.setF a hi lo v).cry = s.cry := rfl
@[simp] theorem State.setF_dfr (a hi lo v : Nat) : (s.setF a hi lo v).dfr = s.dfr := rfl
@[simp] theorem State.setF_prot (a hi lo v : Nat) : (s.setF a hi lo v).prot = s.prot := rfl
@[simp] theorem State.setF_upl (a hi lo v : Nat) : (s.setF a hi lo v).upl = s.upl := rfl
@[simp] theorem State.setF_mlk (a hi lo v : Nat) : (s.setF a hi lo v).mlk = s.mlk := rfl
@[simp] theorem State.setF_mtn (a hi lo v : Nat) : (s.setF a hi lo v).mtn = s.mtn := rfl
@[simp] theorem State.setF_tsu (a hi lo v : Nat) : (s.setF a hi lo v).tsu = s.tsu := rfl
@[simp] theorem State.setF_dcq (a hi lo v : Nat) : (s.setF a hi lo v).dcq = s.dcq := rfl
@[simp] theorem State.setF_rdata (a hi lo v : Nat) : (s.setF a hi lo v).rdata = s.rdata := rfl
@[simp] theorem State.setF_outs (a hi lo v : Nat) : (s.setF a hi lo v).outs = s.outs := rfl
@[simp] theorem State.setF_rx (a hi lo v : Nat) : (s.setF a hi lo v).rx = s.rx := rfl
@[simp] theorem State.setF_freeN (a hi lo v : Nat) : (s.setF a hi lo v).freeN = s.freeN := rfl

/-! setB. -/

@[simp] theorem State.setB_pending (a i : Nat) (b : Bool) : (s.setB a i b).pending = s.pending := rfl
@[simp] theorem State.setB_clk (a i : Nat) (b : Bool) : (s.setB a i b).clk = s.clk := rfl
@[simp] theorem State.setB_flt (a i : Nat) (b : Bool) : (s.setB a i b).flt = s.flt := rfl
@[simp] theorem State.setB_rcp (a i : Nat) (b : Bool) : (s.setB a i b).rcp = s.rcp := rfl
@[simp] theorem State.setB_obs (a i : Nat) (b : Bool) : (s.setB a i b).obs = s.obs := rfl
@[simp] theorem State.setB_hif (a i : Nat) (b : Bool) : (s.setB a i b).hif = s.hif := rfl
@[simp] theorem State.setB_tpa (a i : Nat) (b : Bool) : (s.setB a i b).tpa = s.tpa := rfl
@[simp] theorem State.setB_brx (a i : Nat) (b : Bool) : (s.setB a i b).brx = s.brx := rfl
@[simp] theorem State.setB_rng (a i : Nat) (b : Bool) : (s.setB a i b).rng = s.rng := rfl
@[simp] theorem State.setB_gnt (a i : Nat) (b : Bool) : (s.setB a i b).gnt = s.gnt := rfl
@[simp] theorem State.setB_udf (a i : Nat) (b : Bool) : (s.setB a i b).udf = s.udf := rfl
@[simp] theorem State.setB_tce (a i : Nat) (b : Bool) : (s.setB a i b).tce = s.tce := rfl
@[simp] theorem State.setB_cls (a i : Nat) (b : Bool) : (s.setB a i b).cls = s.cls := rfl
@[simp] theorem State.setB_fdb (a i : Nat) (b : Bool) : (s.setB a i b).fdb = s.fdb := rfl
@[simp] theorem State.setB_bpm (a i : Nat) (b : Bool) : (s.setB a i b).bpm = s.bpm := rfl
@[simp] theorem State.setB_tmg (a i : Nat) (b : Bool) : (s.setB a i b).tmg = s.tmg := rfl
@[simp] theorem State.setB_cry (a i : Nat) (b : Bool) : (s.setB a i b).cry = s.cry := rfl
@[simp] theorem State.setB_dfr (a i : Nat) (b : Bool) : (s.setB a i b).dfr = s.dfr := rfl
@[simp] theorem State.setB_prot (a i : Nat) (b : Bool) : (s.setB a i b).prot = s.prot := rfl
@[simp] theorem State.setB_upl (a i : Nat) (b : Bool) : (s.setB a i b).upl = s.upl := rfl
@[simp] theorem State.setB_mlk (a i : Nat) (b : Bool) : (s.setB a i b).mlk = s.mlk := rfl
@[simp] theorem State.setB_mtn (a i : Nat) (b : Bool) : (s.setB a i b).mtn = s.mtn := rfl
@[simp] theorem State.setB_tsu (a i : Nat) (b : Bool) : (s.setB a i b).tsu = s.tsu := rfl
@[simp] theorem State.setB_dcq (a i : Nat) (b : Bool) : (s.setB a i b).dcq = s.dcq := rfl
@[simp] theorem State.setB_rdata (a i : Nat) (b : Bool) : (s.setB a i b).rdata = s.rdata := rfl
@[simp] theorem State.setB_outs (a i : Nat) (b : Bool) : (s.setB a i b).outs = s.outs := rfl
@[simp] theorem State.setB_rx (a i : Nat) (b : Bool) : (s.setB a i b).rx = s.rx := rfl
@[simp] theorem State.setB_freeN (a i : Nat) (b : Bool) : (s.setB a i b).freeN = s.freeN := rfl

/-! setTen. -/

@[simp] theorem State.setTen_pending (k : Nat) (w : Word) : (s.setTen k w).pending = s.pending := rfl
@[simp] theorem State.setTen_regs (k : Nat) (w : Word) : (s.setTen k w).regs = s.regs := rfl
@[simp] theorem State.setTen_clk (k : Nat) (w : Word) : (s.setTen k w).clk = s.clk := rfl
@[simp] theorem State.setTen_flt (k : Nat) (w : Word) : (s.setTen k w).flt = s.flt := rfl
@[simp] theorem State.setTen_rcp (k : Nat) (w : Word) : (s.setTen k w).rcp = s.rcp := rfl
@[simp] theorem State.setTen_obs (k : Nat) (w : Word) : (s.setTen k w).obs = s.obs := rfl
@[simp] theorem State.setTen_hif (k : Nat) (w : Word) : (s.setTen k w).hif = { s.hif with ten := s.hif.ten.put (tenWord k) k w } := rfl
@[simp] theorem State.setTen_tpa (k : Nat) (w : Word) : (s.setTen k w).tpa = s.tpa := rfl
@[simp] theorem State.setTen_brx (k : Nat) (w : Word) : (s.setTen k w).brx = s.brx := rfl
@[simp] theorem State.setTen_rng (k : Nat) (w : Word) : (s.setTen k w).rng = s.rng := rfl
@[simp] theorem State.setTen_gnt (k : Nat) (w : Word) : (s.setTen k w).gnt = s.gnt := rfl
@[simp] theorem State.setTen_udf (k : Nat) (w : Word) : (s.setTen k w).udf = s.udf := rfl
@[simp] theorem State.setTen_tce (k : Nat) (w : Word) : (s.setTen k w).tce = s.tce := rfl
@[simp] theorem State.setTen_cls (k : Nat) (w : Word) : (s.setTen k w).cls = s.cls := rfl
@[simp] theorem State.setTen_fdb (k : Nat) (w : Word) : (s.setTen k w).fdb = s.fdb := rfl
@[simp] theorem State.setTen_bpm (k : Nat) (w : Word) : (s.setTen k w).bpm = s.bpm := rfl
@[simp] theorem State.setTen_tmg (k : Nat) (w : Word) : (s.setTen k w).tmg = s.tmg := rfl
@[simp] theorem State.setTen_cry (k : Nat) (w : Word) : (s.setTen k w).cry = s.cry := rfl
@[simp] theorem State.setTen_dfr (k : Nat) (w : Word) : (s.setTen k w).dfr = s.dfr := rfl
@[simp] theorem State.setTen_prot (k : Nat) (w : Word) : (s.setTen k w).prot = s.prot := rfl
@[simp] theorem State.setTen_upl (k : Nat) (w : Word) : (s.setTen k w).upl = s.upl := rfl
@[simp] theorem State.setTen_mlk (k : Nat) (w : Word) : (s.setTen k w).mlk = s.mlk := rfl
@[simp] theorem State.setTen_mtn (k : Nat) (w : Word) : (s.setTen k w).mtn = s.mtn := rfl
@[simp] theorem State.setTen_tsu (k : Nat) (w : Word) : (s.setTen k w).tsu = s.tsu := rfl
@[simp] theorem State.setTen_dcq (k : Nat) (w : Word) : (s.setTen k w).dcq = s.dcq := rfl
@[simp] theorem State.setTen_rdata (k : Nat) (w : Word) : (s.setTen k w).rdata = s.rdata := rfl
@[simp] theorem State.setTen_outs (k : Nat) (w : Word) : (s.setTen k w).outs = s.outs := rfl
@[simp] theorem State.setTen_rx (k : Nat) (w : Word) : (s.setTen k w).rx = s.rx := rfl
@[simp] theorem State.setTen_freeN (k : Nat) (w : Word) : (s.setTen k w).freeN = s.freeN := rfl
@[simp] theorem State.setTen_rd (k : Nat) (w : Word) (adr : Nat) : (s.setTen k w).rd adr = s.rd adr := rfl

/-! setTport. -/

@[simp] theorem State.setTport_pending (n : Nat) (p : TpaPort) : (s.setTport n p).pending = s.pending := rfl
@[simp] theorem State.setTport_regs (n : Nat) (p : TpaPort) : (s.setTport n p).regs = s.regs := rfl
@[simp] theorem State.setTport_clk (n : Nat) (p : TpaPort) : (s.setTport n p).clk = s.clk := rfl
@[simp] theorem State.setTport_flt (n : Nat) (p : TpaPort) : (s.setTport n p).flt = s.flt := rfl
@[simp] theorem State.setTport_rcp (n : Nat) (p : TpaPort) : (s.setTport n p).rcp = s.rcp := rfl
@[simp] theorem State.setTport_obs (n : Nat) (p : TpaPort) : (s.setTport n p).obs = s.obs := rfl
@[simp] theorem State.setTport_hif (n : Nat) (p : TpaPort) : (s.setTport n p).hif = s.hif := rfl
@[simp] theorem State.setTport_tpa (n : Nat) (p : TpaPort) : (s.setTport n p).tpa = { s.tpa with port := s.tpa.port.put {} n p } := rfl
@[simp] theorem State.setTport_brx (n : Nat) (p : TpaPort) : (s.setTport n p).brx = s.brx := rfl
@[simp] theorem State.setTport_rng (n : Nat) (p : TpaPort) : (s.setTport n p).rng = s.rng := rfl
@[simp] theorem State.setTport_gnt (n : Nat) (p : TpaPort) : (s.setTport n p).gnt = s.gnt := rfl
@[simp] theorem State.setTport_udf (n : Nat) (p : TpaPort) : (s.setTport n p).udf = s.udf := rfl
@[simp] theorem State.setTport_tce (n : Nat) (p : TpaPort) : (s.setTport n p).tce = s.tce := rfl
@[simp] theorem State.setTport_cls (n : Nat) (p : TpaPort) : (s.setTport n p).cls = s.cls := rfl
@[simp] theorem State.setTport_fdb (n : Nat) (p : TpaPort) : (s.setTport n p).fdb = s.fdb := rfl
@[simp] theorem State.setTport_bpm (n : Nat) (p : TpaPort) : (s.setTport n p).bpm = s.bpm := rfl
@[simp] theorem State.setTport_tmg (n : Nat) (p : TpaPort) : (s.setTport n p).tmg = s.tmg := rfl
@[simp] theorem State.setTport_cry (n : Nat) (p : TpaPort) : (s.setTport n p).cry = s.cry := rfl
@[simp] theorem State.setTport_dfr (n : Nat) (p : TpaPort) : (s.setTport n p).dfr = s.dfr := rfl
@[simp] theorem State.setTport_prot (n : Nat) (p : TpaPort) : (s.setTport n p).prot = s.prot := rfl
@[simp] theorem State.setTport_upl (n : Nat) (p : TpaPort) : (s.setTport n p).upl = s.upl := rfl
@[simp] theorem State.setTport_mlk (n : Nat) (p : TpaPort) : (s.setTport n p).mlk = s.mlk := rfl
@[simp] theorem State.setTport_mtn (n : Nat) (p : TpaPort) : (s.setTport n p).mtn = s.mtn := rfl
@[simp] theorem State.setTport_tsu (n : Nat) (p : TpaPort) : (s.setTport n p).tsu = s.tsu := rfl
@[simp] theorem State.setTport_dcq (n : Nat) (p : TpaPort) : (s.setTport n p).dcq = s.dcq := rfl
@[simp] theorem State.setTport_rdata (n : Nat) (p : TpaPort) : (s.setTport n p).rdata = s.rdata := rfl
@[simp] theorem State.setTport_outs (n : Nat) (p : TpaPort) : (s.setTport n p).outs = s.outs := rfl
@[simp] theorem State.setTport_rx (n : Nat) (p : TpaPort) : (s.setTport n p).rx = s.rx := rfl
@[simp] theorem State.setTport_freeN (n : Nat) (p : TpaPort) : (s.setTport n p).freeN = s.freeN := rfl
@[simp] theorem State.setTport_rd (n : Nat) (p : TpaPort) (adr : Nat) : (s.setTport n p).rd adr = s.rd adr := rfl

/-! setBport. -/

@[simp] theorem State.setBport_pending (n : Nat) (p : BrxPort) : (s.setBport n p).pending = s.pending := rfl
@[simp] theorem State.setBport_regs (n : Nat) (p : BrxPort) : (s.setBport n p).regs = s.regs := rfl
@[simp] theorem State.setBport_clk (n : Nat) (p : BrxPort) : (s.setBport n p).clk = s.clk := rfl
@[simp] theorem State.setBport_flt (n : Nat) (p : BrxPort) : (s.setBport n p).flt = s.flt := rfl
@[simp] theorem State.setBport_rcp (n : Nat) (p : BrxPort) : (s.setBport n p).rcp = s.rcp := rfl
@[simp] theorem State.setBport_obs (n : Nat) (p : BrxPort) : (s.setBport n p).obs = s.obs := rfl
@[simp] theorem State.setBport_hif (n : Nat) (p : BrxPort) : (s.setBport n p).hif = s.hif := rfl
@[simp] theorem State.setBport_tpa (n : Nat) (p : BrxPort) : (s.setBport n p).tpa = s.tpa := rfl
@[simp] theorem State.setBport_brx (n : Nat) (p : BrxPort) : (s.setBport n p).brx = { s.brx with port := s.brx.port.put {} n p } := rfl
@[simp] theorem State.setBport_rng (n : Nat) (p : BrxPort) : (s.setBport n p).rng = s.rng := rfl
@[simp] theorem State.setBport_gnt (n : Nat) (p : BrxPort) : (s.setBport n p).gnt = s.gnt := rfl
@[simp] theorem State.setBport_udf (n : Nat) (p : BrxPort) : (s.setBport n p).udf = s.udf := rfl
@[simp] theorem State.setBport_tce (n : Nat) (p : BrxPort) : (s.setBport n p).tce = s.tce := rfl
@[simp] theorem State.setBport_cls (n : Nat) (p : BrxPort) : (s.setBport n p).cls = s.cls := rfl
@[simp] theorem State.setBport_fdb (n : Nat) (p : BrxPort) : (s.setBport n p).fdb = s.fdb := rfl
@[simp] theorem State.setBport_bpm (n : Nat) (p : BrxPort) : (s.setBport n p).bpm = s.bpm := rfl
@[simp] theorem State.setBport_tmg (n : Nat) (p : BrxPort) : (s.setBport n p).tmg = s.tmg := rfl
@[simp] theorem State.setBport_cry (n : Nat) (p : BrxPort) : (s.setBport n p).cry = s.cry := rfl
@[simp] theorem State.setBport_dfr (n : Nat) (p : BrxPort) : (s.setBport n p).dfr = s.dfr := rfl
@[simp] theorem State.setBport_prot (n : Nat) (p : BrxPort) : (s.setBport n p).prot = s.prot := rfl
@[simp] theorem State.setBport_upl (n : Nat) (p : BrxPort) : (s.setBport n p).upl = s.upl := rfl
@[simp] theorem State.setBport_mlk (n : Nat) (p : BrxPort) : (s.setBport n p).mlk = s.mlk := rfl
@[simp] theorem State.setBport_mtn (n : Nat) (p : BrxPort) : (s.setBport n p).mtn = s.mtn := rfl
@[simp] theorem State.setBport_tsu (n : Nat) (p : BrxPort) : (s.setBport n p).tsu = s.tsu := rfl
@[simp] theorem State.setBport_dcq (n : Nat) (p : BrxPort) : (s.setBport n p).dcq = s.dcq := rfl
@[simp] theorem State.setBport_rdata (n : Nat) (p : BrxPort) : (s.setBport n p).rdata = s.rdata := rfl
@[simp] theorem State.setBport_outs (n : Nat) (p : BrxPort) : (s.setBport n p).outs = s.outs := rfl
@[simp] theorem State.setBport_rx (n : Nat) (p : BrxPort) : (s.setBport n p).rx = s.rx := rfl
@[simp] theorem State.setBport_freeN (n : Nat) (p : BrxPort) : (s.setBport n p).freeN = s.freeN := rfl
@[simp] theorem State.setBport_rd (n : Nat) (p : BrxPort) (adr : Nat) : (s.setBport n p).rd adr = s.rd adr := rfl

/-! setGport. -/

@[simp] theorem State.setGport_pending (n : Nat) (p : GntPort) : (s.setGport n p).pending = s.pending := rfl
@[simp] theorem State.setGport_regs (n : Nat) (p : GntPort) : (s.setGport n p).regs = s.regs := rfl
@[simp] theorem State.setGport_clk (n : Nat) (p : GntPort) : (s.setGport n p).clk = s.clk := rfl
@[simp] theorem State.setGport_flt (n : Nat) (p : GntPort) : (s.setGport n p).flt = s.flt := rfl
@[simp] theorem State.setGport_rcp (n : Nat) (p : GntPort) : (s.setGport n p).rcp = s.rcp := rfl
@[simp] theorem State.setGport_obs (n : Nat) (p : GntPort) : (s.setGport n p).obs = s.obs := rfl
@[simp] theorem State.setGport_hif (n : Nat) (p : GntPort) : (s.setGport n p).hif = s.hif := rfl
@[simp] theorem State.setGport_tpa (n : Nat) (p : GntPort) : (s.setGport n p).tpa = s.tpa := rfl
@[simp] theorem State.setGport_brx (n : Nat) (p : GntPort) : (s.setGport n p).brx = s.brx := rfl
@[simp] theorem State.setGport_rng (n : Nat) (p : GntPort) : (s.setGport n p).rng = s.rng := rfl
@[simp] theorem State.setGport_gnt (n : Nat) (p : GntPort) : (s.setGport n p).gnt = { s.gnt with port := s.gnt.port.put {} n p } := rfl
@[simp] theorem State.setGport_udf (n : Nat) (p : GntPort) : (s.setGport n p).udf = s.udf := rfl
@[simp] theorem State.setGport_tce (n : Nat) (p : GntPort) : (s.setGport n p).tce = s.tce := rfl
@[simp] theorem State.setGport_cls (n : Nat) (p : GntPort) : (s.setGport n p).cls = s.cls := rfl
@[simp] theorem State.setGport_fdb (n : Nat) (p : GntPort) : (s.setGport n p).fdb = s.fdb := rfl
@[simp] theorem State.setGport_bpm (n : Nat) (p : GntPort) : (s.setGport n p).bpm = s.bpm := rfl
@[simp] theorem State.setGport_tmg (n : Nat) (p : GntPort) : (s.setGport n p).tmg = s.tmg := rfl
@[simp] theorem State.setGport_cry (n : Nat) (p : GntPort) : (s.setGport n p).cry = s.cry := rfl
@[simp] theorem State.setGport_dfr (n : Nat) (p : GntPort) : (s.setGport n p).dfr = s.dfr := rfl
@[simp] theorem State.setGport_prot (n : Nat) (p : GntPort) : (s.setGport n p).prot = s.prot := rfl
@[simp] theorem State.setGport_upl (n : Nat) (p : GntPort) : (s.setGport n p).upl = s.upl := rfl
@[simp] theorem State.setGport_mlk (n : Nat) (p : GntPort) : (s.setGport n p).mlk = s.mlk := rfl
@[simp] theorem State.setGport_mtn (n : Nat) (p : GntPort) : (s.setGport n p).mtn = s.mtn := rfl
@[simp] theorem State.setGport_tsu (n : Nat) (p : GntPort) : (s.setGport n p).tsu = s.tsu := rfl
@[simp] theorem State.setGport_dcq (n : Nat) (p : GntPort) : (s.setGport n p).dcq = s.dcq := rfl
@[simp] theorem State.setGport_rdata (n : Nat) (p : GntPort) : (s.setGport n p).rdata = s.rdata := rfl
@[simp] theorem State.setGport_outs (n : Nat) (p : GntPort) : (s.setGport n p).outs = s.outs := rfl
@[simp] theorem State.setGport_rx (n : Nat) (p : GntPort) : (s.setGport n p).rx = s.rx := rfl
@[simp] theorem State.setGport_freeN (n : Nat) (p : GntPort) : (s.setGport n p).freeN = s.freeN := rfl
@[simp] theorem State.setGport_rd (n : Nat) (p : GntPort) (adr : Nat) : (s.setGport n p).rd adr = s.rd adr := rfl

/-! setRport. -/

@[simp] theorem State.setRport_pending (n : Nat) (p : RngPort) : (s.setRport n p).pending = s.pending := rfl
@[simp] theorem State.setRport_regs (n : Nat) (p : RngPort) : (s.setRport n p).regs = s.regs := rfl
@[simp] theorem State.setRport_clk (n : Nat) (p : RngPort) : (s.setRport n p).clk = s.clk := rfl
@[simp] theorem State.setRport_flt (n : Nat) (p : RngPort) : (s.setRport n p).flt = s.flt := rfl
@[simp] theorem State.setRport_rcp (n : Nat) (p : RngPort) : (s.setRport n p).rcp = s.rcp := rfl
@[simp] theorem State.setRport_obs (n : Nat) (p : RngPort) : (s.setRport n p).obs = s.obs := rfl
@[simp] theorem State.setRport_hif (n : Nat) (p : RngPort) : (s.setRport n p).hif = s.hif := rfl
@[simp] theorem State.setRport_tpa (n : Nat) (p : RngPort) : (s.setRport n p).tpa = s.tpa := rfl
@[simp] theorem State.setRport_brx (n : Nat) (p : RngPort) : (s.setRport n p).brx = s.brx := rfl
@[simp] theorem State.setRport_rng (n : Nat) (p : RngPort) : (s.setRport n p).rng = { s.rng with port := s.rng.port.put {} n p } := rfl
@[simp] theorem State.setRport_gnt (n : Nat) (p : RngPort) : (s.setRport n p).gnt = s.gnt := rfl
@[simp] theorem State.setRport_udf (n : Nat) (p : RngPort) : (s.setRport n p).udf = s.udf := rfl
@[simp] theorem State.setRport_tce (n : Nat) (p : RngPort) : (s.setRport n p).tce = s.tce := rfl
@[simp] theorem State.setRport_cls (n : Nat) (p : RngPort) : (s.setRport n p).cls = s.cls := rfl
@[simp] theorem State.setRport_fdb (n : Nat) (p : RngPort) : (s.setRport n p).fdb = s.fdb := rfl
@[simp] theorem State.setRport_bpm (n : Nat) (p : RngPort) : (s.setRport n p).bpm = s.bpm := rfl
@[simp] theorem State.setRport_tmg (n : Nat) (p : RngPort) : (s.setRport n p).tmg = s.tmg := rfl
@[simp] theorem State.setRport_cry (n : Nat) (p : RngPort) : (s.setRport n p).cry = s.cry := rfl
@[simp] theorem State.setRport_dfr (n : Nat) (p : RngPort) : (s.setRport n p).dfr = s.dfr := rfl
@[simp] theorem State.setRport_prot (n : Nat) (p : RngPort) : (s.setRport n p).prot = s.prot := rfl
@[simp] theorem State.setRport_upl (n : Nat) (p : RngPort) : (s.setRport n p).upl = s.upl := rfl
@[simp] theorem State.setRport_mlk (n : Nat) (p : RngPort) : (s.setRport n p).mlk = s.mlk := rfl
@[simp] theorem State.setRport_mtn (n : Nat) (p : RngPort) : (s.setRport n p).mtn = s.mtn := rfl
@[simp] theorem State.setRport_tsu (n : Nat) (p : RngPort) : (s.setRport n p).tsu = s.tsu := rfl
@[simp] theorem State.setRport_dcq (n : Nat) (p : RngPort) : (s.setRport n p).dcq = s.dcq := rfl
@[simp] theorem State.setRport_rdata (n : Nat) (p : RngPort) : (s.setRport n p).rdata = s.rdata := rfl
@[simp] theorem State.setRport_outs (n : Nat) (p : RngPort) : (s.setRport n p).outs = s.outs := rfl
@[simp] theorem State.setRport_rx (n : Nat) (p : RngPort) : (s.setRport n p).rx = s.rx := rfl
@[simp] theorem State.setRport_freeN (n : Nat) (p : RngPort) : (s.setRport n p).freeN = s.freeN := rfl
@[simp] theorem State.setRport_rd (n : Nat) (p : RngPort) (adr : Nat) : (s.setRport n p).rd adr = s.rd adr := rfl

/-! setDport. -/

@[simp] theorem State.setDport_pending (n : Nat) (p : DfrPort) : (s.setDport n p).pending = s.pending := rfl
@[simp] theorem State.setDport_regs (n : Nat) (p : DfrPort) : (s.setDport n p).regs = s.regs := rfl
@[simp] theorem State.setDport_clk (n : Nat) (p : DfrPort) : (s.setDport n p).clk = s.clk := rfl
@[simp] theorem State.setDport_flt (n : Nat) (p : DfrPort) : (s.setDport n p).flt = s.flt := rfl
@[simp] theorem State.setDport_rcp (n : Nat) (p : DfrPort) : (s.setDport n p).rcp = s.rcp := rfl
@[simp] theorem State.setDport_obs (n : Nat) (p : DfrPort) : (s.setDport n p).obs = s.obs := rfl
@[simp] theorem State.setDport_hif (n : Nat) (p : DfrPort) : (s.setDport n p).hif = s.hif := rfl
@[simp] theorem State.setDport_tpa (n : Nat) (p : DfrPort) : (s.setDport n p).tpa = s.tpa := rfl
@[simp] theorem State.setDport_brx (n : Nat) (p : DfrPort) : (s.setDport n p).brx = s.brx := rfl
@[simp] theorem State.setDport_rng (n : Nat) (p : DfrPort) : (s.setDport n p).rng = s.rng := rfl
@[simp] theorem State.setDport_gnt (n : Nat) (p : DfrPort) : (s.setDport n p).gnt = s.gnt := rfl
@[simp] theorem State.setDport_udf (n : Nat) (p : DfrPort) : (s.setDport n p).udf = s.udf := rfl
@[simp] theorem State.setDport_tce (n : Nat) (p : DfrPort) : (s.setDport n p).tce = s.tce := rfl
@[simp] theorem State.setDport_cls (n : Nat) (p : DfrPort) : (s.setDport n p).cls = s.cls := rfl
@[simp] theorem State.setDport_fdb (n : Nat) (p : DfrPort) : (s.setDport n p).fdb = s.fdb := rfl
@[simp] theorem State.setDport_bpm (n : Nat) (p : DfrPort) : (s.setDport n p).bpm = s.bpm := rfl
@[simp] theorem State.setDport_tmg (n : Nat) (p : DfrPort) : (s.setDport n p).tmg = s.tmg := rfl
@[simp] theorem State.setDport_cry (n : Nat) (p : DfrPort) : (s.setDport n p).cry = s.cry := rfl
@[simp] theorem State.setDport_dfr (n : Nat) (p : DfrPort) : (s.setDport n p).dfr = { s.dfr with port := s.dfr.port.put {} n p } := rfl
@[simp] theorem State.setDport_prot (n : Nat) (p : DfrPort) : (s.setDport n p).prot = s.prot := rfl
@[simp] theorem State.setDport_upl (n : Nat) (p : DfrPort) : (s.setDport n p).upl = s.upl := rfl
@[simp] theorem State.setDport_mlk (n : Nat) (p : DfrPort) : (s.setDport n p).mlk = s.mlk := rfl
@[simp] theorem State.setDport_mtn (n : Nat) (p : DfrPort) : (s.setDport n p).mtn = s.mtn := rfl
@[simp] theorem State.setDport_tsu (n : Nat) (p : DfrPort) : (s.setDport n p).tsu = s.tsu := rfl
@[simp] theorem State.setDport_dcq (n : Nat) (p : DfrPort) : (s.setDport n p).dcq = s.dcq := rfl
@[simp] theorem State.setDport_rdata (n : Nat) (p : DfrPort) : (s.setDport n p).rdata = s.rdata := rfl
@[simp] theorem State.setDport_outs (n : Nat) (p : DfrPort) : (s.setDport n p).outs = s.outs := rfl
@[simp] theorem State.setDport_rx (n : Nat) (p : DfrPort) : (s.setDport n p).rx = s.rx := rfl
@[simp] theorem State.setDport_freeN (n : Nat) (p : DfrPort) : (s.setDport n p).freeN = s.freeN := rfl
@[simp] theorem State.setDport_rd (n : Nat) (p : DfrPort) (adr : Nat) : (s.setDport n p).rd adr = s.rd adr := rfl

/-! setUport. -/

@[simp] theorem State.setUport_pending (n : Nat) (p : UdfPort) : (s.setUport n p).pending = s.pending := rfl
@[simp] theorem State.setUport_regs (n : Nat) (p : UdfPort) : (s.setUport n p).regs = s.regs := rfl
@[simp] theorem State.setUport_clk (n : Nat) (p : UdfPort) : (s.setUport n p).clk = s.clk := rfl
@[simp] theorem State.setUport_flt (n : Nat) (p : UdfPort) : (s.setUport n p).flt = s.flt := rfl
@[simp] theorem State.setUport_rcp (n : Nat) (p : UdfPort) : (s.setUport n p).rcp = s.rcp := rfl
@[simp] theorem State.setUport_obs (n : Nat) (p : UdfPort) : (s.setUport n p).obs = s.obs := rfl
@[simp] theorem State.setUport_hif (n : Nat) (p : UdfPort) : (s.setUport n p).hif = s.hif := rfl
@[simp] theorem State.setUport_tpa (n : Nat) (p : UdfPort) : (s.setUport n p).tpa = s.tpa := rfl
@[simp] theorem State.setUport_brx (n : Nat) (p : UdfPort) : (s.setUport n p).brx = s.brx := rfl
@[simp] theorem State.setUport_rng (n : Nat) (p : UdfPort) : (s.setUport n p).rng = s.rng := rfl
@[simp] theorem State.setUport_gnt (n : Nat) (p : UdfPort) : (s.setUport n p).gnt = s.gnt := rfl
@[simp] theorem State.setUport_udf (n : Nat) (p : UdfPort) : (s.setUport n p).udf = { s.udf with port := s.udf.port.put {} n p } := rfl
@[simp] theorem State.setUport_tce (n : Nat) (p : UdfPort) : (s.setUport n p).tce = s.tce := rfl
@[simp] theorem State.setUport_cls (n : Nat) (p : UdfPort) : (s.setUport n p).cls = s.cls := rfl
@[simp] theorem State.setUport_fdb (n : Nat) (p : UdfPort) : (s.setUport n p).fdb = s.fdb := rfl
@[simp] theorem State.setUport_bpm (n : Nat) (p : UdfPort) : (s.setUport n p).bpm = s.bpm := rfl
@[simp] theorem State.setUport_tmg (n : Nat) (p : UdfPort) : (s.setUport n p).tmg = s.tmg := rfl
@[simp] theorem State.setUport_cry (n : Nat) (p : UdfPort) : (s.setUport n p).cry = s.cry := rfl
@[simp] theorem State.setUport_dfr (n : Nat) (p : UdfPort) : (s.setUport n p).dfr = s.dfr := rfl
@[simp] theorem State.setUport_prot (n : Nat) (p : UdfPort) : (s.setUport n p).prot = s.prot := rfl
@[simp] theorem State.setUport_upl (n : Nat) (p : UdfPort) : (s.setUport n p).upl = s.upl := rfl
@[simp] theorem State.setUport_mlk (n : Nat) (p : UdfPort) : (s.setUport n p).mlk = s.mlk := rfl
@[simp] theorem State.setUport_mtn (n : Nat) (p : UdfPort) : (s.setUport n p).mtn = s.mtn := rfl
@[simp] theorem State.setUport_tsu (n : Nat) (p : UdfPort) : (s.setUport n p).tsu = s.tsu := rfl
@[simp] theorem State.setUport_dcq (n : Nat) (p : UdfPort) : (s.setUport n p).dcq = s.dcq := rfl
@[simp] theorem State.setUport_rdata (n : Nat) (p : UdfPort) : (s.setUport n p).rdata = s.rdata := rfl
@[simp] theorem State.setUport_outs (n : Nat) (p : UdfPort) : (s.setUport n p).outs = s.outs := rfl
@[simp] theorem State.setUport_rx (n : Nat) (p : UdfPort) : (s.setUport n p).rx = s.rx := rfl
@[simp] theorem State.setUport_freeN (n : Nat) (p : UdfPort) : (s.setUport n p).freeN = s.freeN := rfl
@[simp] theorem State.setUport_rd (n : Nat) (p : UdfPort) (adr : Nat) : (s.setUport n p).rd adr = s.rd adr := rfl

/-! setEng. -/

@[simp] theorem State.setEng_pending (l : Nat) (e : Engine) : (s.setEng l e).pending = s.pending := rfl
@[simp] theorem State.setEng_regs (l : Nat) (e : Engine) : (s.setEng l e).regs = s.regs := rfl
@[simp] theorem State.setEng_clk (l : Nat) (e : Engine) : (s.setEng l e).clk = s.clk := rfl
@[simp] theorem State.setEng_flt (l : Nat) (e : Engine) : (s.setEng l e).flt = s.flt := rfl
@[simp] theorem State.setEng_rcp (l : Nat) (e : Engine) : (s.setEng l e).rcp = s.rcp := rfl
@[simp] theorem State.setEng_obs (l : Nat) (e : Engine) : (s.setEng l e).obs = s.obs := rfl
@[simp] theorem State.setEng_hif (l : Nat) (e : Engine) : (s.setEng l e).hif = s.hif := rfl
@[simp] theorem State.setEng_tpa (l : Nat) (e : Engine) : (s.setEng l e).tpa = s.tpa := rfl
@[simp] theorem State.setEng_brx (l : Nat) (e : Engine) : (s.setEng l e).brx = s.brx := rfl
@[simp] theorem State.setEng_rng (l : Nat) (e : Engine) : (s.setEng l e).rng = s.rng := rfl
@[simp] theorem State.setEng_gnt (l : Nat) (e : Engine) : (s.setEng l e).gnt = s.gnt := rfl
@[simp] theorem State.setEng_udf (l : Nat) (e : Engine) : (s.setEng l e).udf = s.udf := rfl
@[simp] theorem State.setEng_tce (l : Nat) (e : Engine) : (s.setEng l e).tce = s.tce := rfl
@[simp] theorem State.setEng_cls (l : Nat) (e : Engine) : (s.setEng l e).cls = s.cls := rfl
@[simp] theorem State.setEng_fdb (l : Nat) (e : Engine) : (s.setEng l e).fdb = s.fdb := rfl
@[simp] theorem State.setEng_bpm (l : Nat) (e : Engine) : (s.setEng l e).bpm = s.bpm := rfl
@[simp] theorem State.setEng_tmg (l : Nat) (e : Engine) : (s.setEng l e).tmg = s.tmg := rfl
@[simp] theorem State.setEng_cry (l : Nat) (e : Engine) : (s.setEng l e).cry = s.cry := rfl
@[simp] theorem State.setEng_dfr (l : Nat) (e : Engine) : (s.setEng l e).dfr = s.dfr := rfl
@[simp] theorem State.setEng_prot (l : Nat) (e : Engine) : (s.setEng l e).prot = s.prot := rfl
@[simp] theorem State.setEng_upl (l : Nat) (e : Engine) : (s.setEng l e).upl = s.upl := rfl
@[simp] theorem State.setEng_mlk (l : Nat) (e : Engine) : (s.setEng l e).mlk = s.mlk := rfl
@[simp] theorem State.setEng_mtn (l : Nat) (e : Engine) : (s.setEng l e).mtn = { s.mtn with eng := s.mtn.eng.put {} l e } := rfl
@[simp] theorem State.setEng_tsu (l : Nat) (e : Engine) : (s.setEng l e).tsu = s.tsu := rfl
@[simp] theorem State.setEng_dcq (l : Nat) (e : Engine) : (s.setEng l e).dcq = s.dcq := rfl
@[simp] theorem State.setEng_rdata (l : Nat) (e : Engine) : (s.setEng l e).rdata = s.rdata := rfl
@[simp] theorem State.setEng_outs (l : Nat) (e : Engine) : (s.setEng l e).outs = s.outs := rfl
@[simp] theorem State.setEng_rx (l : Nat) (e : Engine) : (s.setEng l e).rx = s.rx := rfl
@[simp] theorem State.setEng_freeN (l : Nat) (e : Engine) : (s.setEng l e).freeN = s.freeN := rfl
@[simp] theorem State.setEng_rd (l : Nat) (e : Engine) (adr : Nat) : (s.setEng l e).rd adr = s.rd adr := rfl

/-! setCrossing. -/

@[simp] theorem State.setCrossing_pending (q : Nat) (d : Dcq) : (s.setCrossing q d).pending = s.pending := rfl
@[simp] theorem State.setCrossing_regs (q : Nat) (d : Dcq) : (s.setCrossing q d).regs = s.regs := rfl
@[simp] theorem State.setCrossing_clk (q : Nat) (d : Dcq) : (s.setCrossing q d).clk = s.clk := rfl
@[simp] theorem State.setCrossing_flt (q : Nat) (d : Dcq) : (s.setCrossing q d).flt = s.flt := rfl
@[simp] theorem State.setCrossing_rcp (q : Nat) (d : Dcq) : (s.setCrossing q d).rcp = s.rcp := rfl
@[simp] theorem State.setCrossing_obs (q : Nat) (d : Dcq) : (s.setCrossing q d).obs = s.obs := rfl
@[simp] theorem State.setCrossing_hif (q : Nat) (d : Dcq) : (s.setCrossing q d).hif = s.hif := rfl
@[simp] theorem State.setCrossing_tpa (q : Nat) (d : Dcq) : (s.setCrossing q d).tpa = s.tpa := rfl
@[simp] theorem State.setCrossing_brx (q : Nat) (d : Dcq) : (s.setCrossing q d).brx = s.brx := rfl
@[simp] theorem State.setCrossing_rng (q : Nat) (d : Dcq) : (s.setCrossing q d).rng = s.rng := rfl
@[simp] theorem State.setCrossing_gnt (q : Nat) (d : Dcq) : (s.setCrossing q d).gnt = s.gnt := rfl
@[simp] theorem State.setCrossing_udf (q : Nat) (d : Dcq) : (s.setCrossing q d).udf = s.udf := rfl
@[simp] theorem State.setCrossing_tce (q : Nat) (d : Dcq) : (s.setCrossing q d).tce = s.tce := rfl
@[simp] theorem State.setCrossing_cls (q : Nat) (d : Dcq) : (s.setCrossing q d).cls = s.cls := rfl
@[simp] theorem State.setCrossing_fdb (q : Nat) (d : Dcq) : (s.setCrossing q d).fdb = s.fdb := rfl
@[simp] theorem State.setCrossing_bpm (q : Nat) (d : Dcq) : (s.setCrossing q d).bpm = s.bpm := rfl
@[simp] theorem State.setCrossing_tmg (q : Nat) (d : Dcq) : (s.setCrossing q d).tmg = s.tmg := rfl
@[simp] theorem State.setCrossing_cry (q : Nat) (d : Dcq) : (s.setCrossing q d).cry = s.cry := rfl
@[simp] theorem State.setCrossing_dfr (q : Nat) (d : Dcq) : (s.setCrossing q d).dfr = s.dfr := rfl
@[simp] theorem State.setCrossing_prot (q : Nat) (d : Dcq) : (s.setCrossing q d).prot = s.prot := rfl
@[simp] theorem State.setCrossing_upl (q : Nat) (d : Dcq) : (s.setCrossing q d).upl = s.upl := rfl
@[simp] theorem State.setCrossing_mlk (q : Nat) (d : Dcq) : (s.setCrossing q d).mlk = s.mlk := rfl
@[simp] theorem State.setCrossing_mtn (q : Nat) (d : Dcq) : (s.setCrossing q d).mtn = s.mtn := rfl
@[simp] theorem State.setCrossing_tsu (q : Nat) (d : Dcq) : (s.setCrossing q d).tsu = s.tsu := rfl
@[simp] theorem State.setCrossing_dcq (q : Nat) (d : Dcq) : (s.setCrossing q d).dcq = s.dcq.put {} q d := rfl
@[simp] theorem State.setCrossing_rdata (q : Nat) (d : Dcq) : (s.setCrossing q d).rdata = s.rdata := rfl
@[simp] theorem State.setCrossing_outs (q : Nat) (d : Dcq) : (s.setCrossing q d).outs = s.outs := rfl
@[simp] theorem State.setCrossing_rx (q : Nat) (d : Dcq) : (s.setCrossing q d).rx = s.rx := rfl
@[simp] theorem State.setCrossing_freeN (q : Nat) (d : Dcq) : (s.setCrossing q d).freeN = s.freeN := rfl
@[simp] theorem State.setCrossing_rd (q : Nat) (d : Dcq) (adr : Nat) : (s.setCrossing q d).rd adr = s.rd adr := rfl

/-! setTend. -/

@[simp] theorem State.setTend_pending (e : Nat) (x : TceEnd) : (s.setTend e x).pending = s.pending := rfl
@[simp] theorem State.setTend_regs (e : Nat) (x : TceEnd) : (s.setTend e x).regs = s.regs := rfl
@[simp] theorem State.setTend_clk (e : Nat) (x : TceEnd) : (s.setTend e x).clk = s.clk := rfl
@[simp] theorem State.setTend_flt (e : Nat) (x : TceEnd) : (s.setTend e x).flt = s.flt := rfl
@[simp] theorem State.setTend_rcp (e : Nat) (x : TceEnd) : (s.setTend e x).rcp = s.rcp := rfl
@[simp] theorem State.setTend_obs (e : Nat) (x : TceEnd) : (s.setTend e x).obs = s.obs := rfl
@[simp] theorem State.setTend_hif (e : Nat) (x : TceEnd) : (s.setTend e x).hif = s.hif := rfl
@[simp] theorem State.setTend_tpa (e : Nat) (x : TceEnd) : (s.setTend e x).tpa = s.tpa := rfl
@[simp] theorem State.setTend_brx (e : Nat) (x : TceEnd) : (s.setTend e x).brx = s.brx := rfl
@[simp] theorem State.setTend_rng (e : Nat) (x : TceEnd) : (s.setTend e x).rng = s.rng := rfl
@[simp] theorem State.setTend_gnt (e : Nat) (x : TceEnd) : (s.setTend e x).gnt = s.gnt := rfl
@[simp] theorem State.setTend_udf (e : Nat) (x : TceEnd) : (s.setTend e x).udf = s.udf := rfl
@[simp] theorem State.setTend_tce (e : Nat) (x : TceEnd) : (s.setTend e x).tce = { s.tce with ends := s.tce.ends.put {} e x } := rfl
@[simp] theorem State.setTend_cls (e : Nat) (x : TceEnd) : (s.setTend e x).cls = s.cls := rfl
@[simp] theorem State.setTend_fdb (e : Nat) (x : TceEnd) : (s.setTend e x).fdb = s.fdb := rfl
@[simp] theorem State.setTend_bpm (e : Nat) (x : TceEnd) : (s.setTend e x).bpm = s.bpm := rfl
@[simp] theorem State.setTend_tmg (e : Nat) (x : TceEnd) : (s.setTend e x).tmg = s.tmg := rfl
@[simp] theorem State.setTend_cry (e : Nat) (x : TceEnd) : (s.setTend e x).cry = s.cry := rfl
@[simp] theorem State.setTend_dfr (e : Nat) (x : TceEnd) : (s.setTend e x).dfr = s.dfr := rfl
@[simp] theorem State.setTend_prot (e : Nat) (x : TceEnd) : (s.setTend e x).prot = s.prot := rfl
@[simp] theorem State.setTend_upl (e : Nat) (x : TceEnd) : (s.setTend e x).upl = s.upl := rfl
@[simp] theorem State.setTend_mlk (e : Nat) (x : TceEnd) : (s.setTend e x).mlk = s.mlk := rfl
@[simp] theorem State.setTend_mtn (e : Nat) (x : TceEnd) : (s.setTend e x).mtn = s.mtn := rfl
@[simp] theorem State.setTend_tsu (e : Nat) (x : TceEnd) : (s.setTend e x).tsu = s.tsu := rfl
@[simp] theorem State.setTend_dcq (e : Nat) (x : TceEnd) : (s.setTend e x).dcq = s.dcq := rfl
@[simp] theorem State.setTend_rdata (e : Nat) (x : TceEnd) : (s.setTend e x).rdata = s.rdata := rfl
@[simp] theorem State.setTend_outs (e : Nat) (x : TceEnd) : (s.setTend e x).outs = s.outs := rfl
@[simp] theorem State.setTend_rx (e : Nat) (x : TceEnd) : (s.setTend e x).rx = s.rx := rfl
@[simp] theorem State.setTend_freeN (e : Nat) (x : TceEnd) : (s.setTend e x).freeN = s.freeN := rfl
@[simp] theorem State.setTend_rd (e : Nat) (x : TceEnd) (adr : Nat) : (s.setTend e x).rd adr = s.rd adr := rfl

/-! emit. -/

@[simp] theorem State.emit_pending (o : Out) : (s.emit o).pending = s.pending := rfl
@[simp] theorem State.emit_regs (o : Out) : (s.emit o).regs = s.regs := rfl
@[simp] theorem State.emit_clk (o : Out) : (s.emit o).clk = s.clk := rfl
@[simp] theorem State.emit_flt (o : Out) : (s.emit o).flt = s.flt := rfl
@[simp] theorem State.emit_rcp (o : Out) : (s.emit o).rcp = s.rcp := rfl
@[simp] theorem State.emit_obs (o : Out) : (s.emit o).obs = s.obs := rfl
@[simp] theorem State.emit_hif (o : Out) : (s.emit o).hif = s.hif := rfl
@[simp] theorem State.emit_tpa (o : Out) : (s.emit o).tpa = s.tpa := rfl
@[simp] theorem State.emit_brx (o : Out) : (s.emit o).brx = s.brx := rfl
@[simp] theorem State.emit_rng (o : Out) : (s.emit o).rng = s.rng := rfl
@[simp] theorem State.emit_gnt (o : Out) : (s.emit o).gnt = s.gnt := rfl
@[simp] theorem State.emit_udf (o : Out) : (s.emit o).udf = s.udf := rfl
@[simp] theorem State.emit_tce (o : Out) : (s.emit o).tce = s.tce := rfl
@[simp] theorem State.emit_cls (o : Out) : (s.emit o).cls = s.cls := rfl
@[simp] theorem State.emit_fdb (o : Out) : (s.emit o).fdb = s.fdb := rfl
@[simp] theorem State.emit_bpm (o : Out) : (s.emit o).bpm = s.bpm := rfl
@[simp] theorem State.emit_tmg (o : Out) : (s.emit o).tmg = s.tmg := rfl
@[simp] theorem State.emit_cry (o : Out) : (s.emit o).cry = s.cry := rfl
@[simp] theorem State.emit_dfr (o : Out) : (s.emit o).dfr = s.dfr := rfl
@[simp] theorem State.emit_prot (o : Out) : (s.emit o).prot = s.prot := rfl
@[simp] theorem State.emit_upl (o : Out) : (s.emit o).upl = s.upl := rfl
@[simp] theorem State.emit_mlk (o : Out) : (s.emit o).mlk = s.mlk := rfl
@[simp] theorem State.emit_mtn (o : Out) : (s.emit o).mtn = s.mtn := rfl
@[simp] theorem State.emit_tsu (o : Out) : (s.emit o).tsu = s.tsu := rfl
@[simp] theorem State.emit_dcq (o : Out) : (s.emit o).dcq = s.dcq := rfl
@[simp] theorem State.emit_rdata (o : Out) : (s.emit o).rdata = s.rdata := rfl
@[simp] theorem State.emit_outs (o : Out) : (s.emit o).outs = s.outs ++ [o] := rfl
@[simp] theorem State.emit_rx (o : Out) : (s.emit o).rx = s.rx := rfl
@[simp] theorem State.emit_freeN (o : Out) : (s.emit o).freeN = s.freeN := rfl
@[simp] theorem State.emit_rd (o : Out) (adr : Nat) : (s.emit o).rd adr = s.rd adr := rfl

/-! taken. -/

@[simp] theorem State.taken_pending  : (s.taken).pending = s.pending := rfl
@[simp] theorem State.taken_regs  : (s.taken).regs = s.regs := rfl
@[simp] theorem State.taken_clk  : (s.taken).clk = s.clk := rfl
@[simp] theorem State.taken_flt  : (s.taken).flt = s.flt := rfl
@[simp] theorem State.taken_rcp  : (s.taken).rcp = s.rcp := rfl
@[simp] theorem State.taken_obs  : (s.taken).obs = s.obs := rfl
@[simp] theorem State.taken_hif  : (s.taken).hif = s.hif := rfl
@[simp] theorem State.taken_tpa  : (s.taken).tpa = s.tpa := rfl
@[simp] theorem State.taken_brx  : (s.taken).brx = s.brx := rfl
@[simp] theorem State.taken_rng  : (s.taken).rng = s.rng := rfl
@[simp] theorem State.taken_gnt  : (s.taken).gnt = s.gnt := rfl
@[simp] theorem State.taken_udf  : (s.taken).udf = s.udf := rfl
@[simp] theorem State.taken_tce  : (s.taken).tce = s.tce := rfl
@[simp] theorem State.taken_cls  : (s.taken).cls = s.cls := rfl
@[simp] theorem State.taken_fdb  : (s.taken).fdb = s.fdb := rfl
@[simp] theorem State.taken_bpm  : (s.taken).bpm = s.bpm := rfl
@[simp] theorem State.taken_tmg  : (s.taken).tmg = s.tmg := rfl
@[simp] theorem State.taken_cry  : (s.taken).cry = s.cry := rfl
@[simp] theorem State.taken_dfr  : (s.taken).dfr = s.dfr := rfl
@[simp] theorem State.taken_prot  : (s.taken).prot = s.prot := rfl
@[simp] theorem State.taken_upl  : (s.taken).upl = s.upl := rfl
@[simp] theorem State.taken_mlk  : (s.taken).mlk = s.mlk := rfl
@[simp] theorem State.taken_mtn  : (s.taken).mtn = s.mtn := rfl
@[simp] theorem State.taken_tsu  : (s.taken).tsu = s.tsu := rfl
@[simp] theorem State.taken_dcq  : (s.taken).dcq = s.dcq := rfl
@[simp] theorem State.taken_rdata  : (s.taken).rdata = s.rdata := rfl
@[simp] theorem State.taken_outs  : (s.taken).outs = s.outs := rfl
@[simp] theorem State.taken_rx  : (s.taken).rx = s.rx := rfl
@[simp] theorem State.taken_freeN  : (s.taken).freeN = s.freeN + 1 := rfl
@[simp] theorem State.taken_rd  (adr : Nat) : (s.taken).rd adr = s.rd adr := rfl

/-! Reading back. -/

@[simp] theorem State.rd_setF_same (a hi lo v : Nat) : (s.setF a hi lo v).rd a = setFldW (s.rd a) hi lo v := State.rd_wr_same _ _ _
@[simp] theorem State.rd_setB_same (a i : Nat) (b : Bool) : (s.setB a i b).rd a = setBitW (s.rd a) i b := State.rd_wr_same _ _ _
theorem State.rd_setF_other (a x hi lo v : Nat) (h : x ≠ a) : (s.setF a hi lo v).rd x = s.rd x := State.rd_wr_other _ _ _ _ h
theorem State.rd_setB_other (a x i : Nat) (b : Bool) (h : x ≠ a) : (s.setB a i b).rd x = s.rd x := State.rd_wr_other _ _ _ _ h
@[simp] theorem State.ten_setTen_same (k : Nat) (w : Word) : (s.setTen k w).ten k = w := Tab.look_put_same _ _ _ _

@[simp] theorem State.tport_setTport_same (n : Nat) (p : TpaPort) : (s.setTport n p).tport n = p := Tab.look_put_same _ _ _ _
theorem State.tport_setTport_other (n m : Nat) (p : TpaPort) (h : m ≠ n) : (s.setTport n p).tport m = s.tport m :=
  Tab.look_put_other _ _ _ _ _ _ h
@[simp] theorem State.bport_setBport_same (n : Nat) (p : BrxPort) : (s.setBport n p).bport n = p := Tab.look_put_same _ _ _ _
theorem State.bport_setBport_other (n m : Nat) (p : BrxPort) (h : m ≠ n) : (s.setBport n p).bport m = s.bport m :=
  Tab.look_put_other _ _ _ _ _ _ h
@[simp] theorem State.gport_setGport_same (n : Nat) (p : GntPort) : (s.setGport n p).gport n = p := Tab.look_put_same _ _ _ _
theorem State.gport_setGport_other (n m : Nat) (p : GntPort) (h : m ≠ n) : (s.setGport n p).gport m = s.gport m :=
  Tab.look_put_other _ _ _ _ _ _ h
@[simp] theorem State.rport_setRport_same (n : Nat) (p : RngPort) : (s.setRport n p).rport n = p := Tab.look_put_same _ _ _ _
theorem State.rport_setRport_other (n m : Nat) (p : RngPort) (h : m ≠ n) : (s.setRport n p).rport m = s.rport m :=
  Tab.look_put_other _ _ _ _ _ _ h
@[simp] theorem State.dport_setDport_same (n : Nat) (p : DfrPort) : (s.setDport n p).dport n = p := Tab.look_put_same _ _ _ _
theorem State.dport_setDport_other (n m : Nat) (p : DfrPort) (h : m ≠ n) : (s.setDport n p).dport m = s.dport m :=
  Tab.look_put_other _ _ _ _ _ _ h
@[simp] theorem State.uport_setUport_same (n : Nat) (p : UdfPort) : (s.setUport n p).uport n = p := Tab.look_put_same _ _ _ _
theorem State.uport_setUport_other (n m : Nat) (p : UdfPort) (h : m ≠ n) : (s.setUport n p).uport m = s.uport m :=
  Tab.look_put_other _ _ _ _ _ _ h
@[simp] theorem State.eng_setEng_same (n : Nat) (p : Engine) : (s.setEng n p).eng n = p := Tab.look_put_same _ _ _ _
theorem State.eng_setEng_other (n m : Nat) (p : Engine) (h : m ≠ n) : (s.setEng n p).eng m = s.eng m :=
  Tab.look_put_other _ _ _ _ _ _ h
@[simp] theorem State.tend_setTend_same (n : Nat) (p : TceEnd) : (s.setTend n p).tend n = p := Tab.look_put_same _ _ _ _
theorem State.tend_setTend_other (n m : Nat) (p : TceEnd) (h : m ≠ n) : (s.setTend n p).tend m = s.tend m :=
  Tab.look_put_other _ _ _ _ _ _ h

end Sys2Proof.Machine
end

