-- ==== Sys2Proof/Machine/Pins.lean ====
section
/-! DEFINITION. The levels of the output pins in each phase (Table 21.5) and the PCIe attributes (Table 19.1). -/

namespace Sys2Proof.Machine

/-- What an output pin shows. Where it carries something, that is in the outputs of the state (`Out`) and of the rule named. -/
inductive Level
  | low | high | idle | highZ | carries
  deriving DecidableEq, Repr

/-- The outputs of Table 21.5. -/
inductive Pin
  | ponTxen (n : Fin 32)
  | ponBrst (n : Fin 32)
  | transmitters
  | pcie
  | opticsI2c
  | pps (o : Fin 2)
  | clkOut (o : Fin 2)
  | todTx
  | qspiSelect
  | alive
  | faultN
  | intN
  | trace
  | tdo
  deriving DecidableEq, Repr

/-- The TAP is enabled: strap code 13, once measured; in every other code it is held in reset (R617). -/
def State.tapOn (s : State) : Bool := s.bit Reg.RCP_STRAP 14

/-- The level of an output (Table 21.5; Table 20.3 in the Fatal state). In code 13 every functional output keeps its level of
phases 1 to 6, since the release stops there (R617); the spec leaves to IEEE 1149.1 what a boundary-scan instruction drives. -/
def State.level (s : State) : Pin → Level
  | .ponTxen n => if s.txen n then .high else .low
  | .ponBrst _ => if s.outRel then .carries else .low
  | .transmitters => if s.outRel && !s.flt.fatal then .carries else .idle
  | .pcie => if 7 ≤ s.rcp.phase && s.up 17 then .carries else .idle
  | .opticsI2c => if s.outRel then .carries else .highZ
  | .pps o => if s.outRel && decide (65536 * s.tsu.ppsFall.look 0 o > s.outClk.units / 65536) then .high else .low
  | .clkOut o => if s.outRel && s.tsu.ckoHigh.getLsbD o then .high else .low
  | .todTx => if s.outRel then .carries else .high
  | .qspiSelect => if 8 ≤ s.rcp.phase then .carries else .high
  | .alive => if s.flt.alive then .high else .low
  | .faultN => if s.faultN then .low else .high
  | .intN => if s.intN then .low else .high
  | .trace => if s.outRel then .carries else .low
  | .tdo => if s.tapOn then .carries else .highZ

/-! The PCIe functions (R563). -/

/-- What the configuration space of the functions shows. -/
structure PcieAttr where
  classCode : BitVec 24 := 0x028000
  totalVFs : Nat := 16
  firstVF : Nat := 1
  stride : Nat := 1
  /-- Bytes of BAR0/1 and BAR4/5 of the PF, and of BAR2/3 of a VF. -/
  registerBar : Nat := 0x4000000
  doorbellBar : Nat := 0x40000
  tenantBar : Nat := 0x10000
  pfVectors : Nat := 512
  vfVectors : Nat := 96
  minPayload : Nat := 128
  maxPayload : Nat := 512
  minRead : Nat := 128
  maxRead : Nat := 4096
  maxTags : Nat := 512
  aer : Bool := true
  /-- ATS, PRI, PASID, peer-to-peer, MSI and INTx. -/
  others : Bool := false
  deriving DecidableEq, Repr

/-- Table 19.1. -/
def pcieAttr : PcieAttr := {}

/-- The offset of a function from PF0 among the functions of the device. -/
def fnOffset : Fn → Nat
  | .op => 0
  | .t n => pcieAttr.firstVF + pcieAttr.stride * n

end Sys2Proof.Machine
end

