-- ==== Sys2Proof/Tests/Slice0.lean ====
section
/-! SUPPORT. Tests: the commands that no sender can form, tests by the spec's own tables and examples, and for every statement
with hypotheses a state that meets them. -/

namespace Sys2Proof.Tests

open Sys2Proof Sys2Proof.Machine

-- One theorem after another: the kernel's evaluations below would each take a thread of their own.
set_option Elab.async false

/-! States for the witnesses, each a few fields away from a device that runs. -/

/-- Outputs released, every block out of reset. -/
def awake : State :=
  { State.reset with rcp := { State.reset.rcp with phase := 10, releasing := none, domains := 6, inReset := 0 } }

def tsuDown : State := { awake with rcp := { awake.rcp with inReset := 0x8000 } }

def fresh9 : State := { awake with rcp := { awake.rcp with phase := 9 } }

/-- Port 31 in XGS-PON mode, enabled, with its transmitter on. -/
def lightOn : State :=
  ((((awake.setB Reg.RCP_STATUS 7 true).setB Reg.RCP_STATUS 3 true).setF (Reg.TPA_MODE 31) 1 0 2).setB (Reg.TPA_CTRL 31) 1
    true).setB (Reg.TPA_CTRL 31) 0 true

def takingLit : State :=
  let s := lightOn.setPst 31 3
  { s with prot := { s.prot with lit := 0x80000000 } }

def lightOff : State := lightOn.setB (Reg.TPA_CTRL 31) 0 false

/-- Port 31 takes over from its mate. -/
def takingOver : State := lightOn.setPst 31 3

def framing : State := lightOn.setB (Reg.TPA_STATUS 31) 1 true

def shutOn : State := framing.setTport 31 { framing.tport 31 with shutting := true }

def i2cOn : State := (awake.setB (Reg.TPA_I_STATUS 3) 4 true).setB (Reg.TPA_I_CFG 3) 16 false

/-- Page 5 of port 31, followed by BRX, with one burst of a kind. -/
def pageOn (kind : Nat) (st : PageSt) : State :=
  let s := framing.setGport 31 { pages := [{ frame := 5, st := st, announced := true, ents :=
    [{ stream := 63488, start := 100, grant := 100, kind := kind, first := 100, fin := 200 }] }] }
  s.setBport 31 { plans := [(5, true)], snaps := [{ frame := 5, k := 0, loc := 0, warm := false, rate := 3, ent := {}, age := 0, est := 0 }] }

def burstOn : State := pageOn 0 .final
def closedOn : State := pageOn 0 .closed
def lockedOn : State := burstOn.setBport 31 { burstOn.bport 31 with snaps :=
  [{ frame := 5, k := 0, loc := 0, warm := false, rate := 3, ent := {}, age := 0, est := 0, found := some 0 }] }

/-- The snapshot has been abandoned; UDF has decoded the burst. -/
def forsaken : State := burstOn.setBport 31 { burstOn.bport 31 with snaps :=
  [{ frame := 5, k := 0, loc := 0, warm := false, rate := 3, ent := {}, age := 0, est := 0, abandoned := true }] }
def burstDone : State := lockedOn.setUport 31 { bursts := [{ frame := 5, k := 0 }] }

/-- Serial number 9 holds local index 0 of port 31, and a discovery window is open; without and with AUTO. -/
def discPend : State :=
  (((pageOn 2 .final).setF (Reg.RNG_CTX 31 0 0) 31 28 2).wr (Reg.RNG_CTX 31 0 4) 9).setB (Reg.RNG_DISC 31) 11 false
def discOn : State := discPend.setB (Reg.RNG_DISC 31) 11 true


/-- The same with serial number 7 on the other port of the pair. -/
def discPair : State :=
  (((discOn.wr (Reg.TPA_MODE 30) 0x41).setF (Reg.RNG_CTX 30 0 0) 31 28 2).wr (Reg.RNG_CTX 30 0 4) 7).resync 0
def asking : State := (framing.setB (Reg.RNG_DISC 31) 10 true).resync 0
def pendOn : State := (lightOn.setB (Reg.RNG_STATUS 31) 2 true).resync 0

def rangingOn : State := (awake.setF (Reg.RNG_CTX 31 511 0) 31 28 1).setF (Reg.RNG_CTRL 31) 5 0 10
def operating : State := rangingOn.setF (Reg.RNG_CTX 31 511 0) 31 28 2
def adjusting : State := operating.setB (Reg.RNG_CTX 31 511 0) 16 true

/-- A result of terminal 511 of port 31 waits for RNG. -/
def State.result (s : State) (ranging : Bool) (off : Option Int) : State :=
  s.setRport 31 { results := [{ l := 511, ranging := ranging, off := off }] }

/-- A ranging grant of terminal 511 has been asked for. -/
def askedOn : State := rangingOn.setTerm 31 511 { rangingOn.term 31 511 with asked := true }

def rangedFar : State := State.result askedOn true (some 64000000000)
def rangedNear : State := State.result askedOn true (some 0)
def rangedFail : State := State.result askedOn true none
def missed : State := State.result operating false none
def drifted : State := State.result operating false (some 64000000000)
def tracked : State := State.result operating false (some 0)

def confirmed : State := State.result adjusting false (some 0)
def unconfirmed : State := State.result adjusting false (some 1000)

def coalesced : State := awake.setFifo 7 { slots := [(65535, 0)] }

/-- Word 1 of an enabled stream is held for a commit. -/
def streamHeld (w : Word) : State :=
  let s := awake.wr (Reg.GNT_STR_w1 0) 0x80000000
  { s with hif := { s.hif with held := s.hif.held.put {} (heldKey .op 4) { entry := Reg.GNT_STR_w0 0, words := [(1, w)] } } }

def readyOn : State := (awake.setB Reg.MTN_STATUS 0 true).setB (Reg.MTN_L_MAP 15) 31 true

/-- Engine 0 at an instruction, with a tick pending. -/
def atWord (w : Word64) : State :=
  (awake.setB (Reg.MTN_L_MAP 0) 31 true).setEng 0
    { st := .running, prog := [(0, w)], cwb := 0xFFFFFFFF, pend := 2, emask := 2 }
def running (op : Nat) : State := atWord (BitVec.ofNat 64 (2 ^ 56 * op))
def running1 (op : Nat) : State := atWord (BitVec.ofNat 64 (2 ^ 56 * op + 2 ^ 24))
def edit (s : State) (f : Engine → Engine) : State := s.setEng 0 (f (s.eng 0))
def atEnd (op : Nat) : State :=
  edit (running op) fun e => { e with pc := 511, prog := [(511, BitVec.ofNat 64 (2 ^ 56 * op))] }
def asks (op d aux : Nat) : State := atWord (BitVec.ofNat 64 (2 ^ 56 * op + 2 ^ 51 * d + aux))
def handling (op : Nat) : State := edit (running op) fun e => { e with flags := 0x40 }
def tenanted (op : Nat) : State := edit (running op) fun e => { e with owner := [(0, 1)] }
def owned (op k : Nat) : State := edit (asks op 0 k) fun e => { e with owner := [(1, 1)] }
def far (op : Nat) : State := edit (atWord (BitVec.ofNat 64 (2 ^ 56 * op + 2 ^ 46))) fun e => { e with g := [(1, 600)] }
def spent : State := edit (tenanted 1) fun e => { e with call := some { ret := 600, dst := 0, left := 0, last := 0 } }
def longOn : State := (running 0x68).setB (Reg.MTN_L_CTRL 0) 1 true
def withItem (op : Nat) : State := ((running op).setF (Reg.GNT_RF_CFG 0) 19 16 0).setFifo 0 { items := [5] }
def moving : State := { awake with mtn := { moving := [(15, 17)] } }

/-- Engine 0 at a mailbox instruction with A = 28, on ring 3 of a type. -/
def mailOn (op ty : Nat) (box : Word) : State :=
  ((atWord (BitVec.ofNat 64 (2 ^ 56 * op + 2 ^ 46 * 28))).wr (Reg.MTN_L_MBOX 0) box).wr (Reg.HIF_RING 3 0)
    (BitVec.ofNat 32 (2 ^ 31 + 2 ^ 28 * ty + 2 ^ 23 * 6))
def mailTx : State := mailOn 0x74 6 0x40000003
def mailRx : State :=
  { mailOn 0x75 5 0x80030000 with hif := { fetched := [{ ring := 3, idx := 0, data := 7 }] } }

/-- The ring is full: producer and consumer index 64 apart. -/
def mailFull : State := mailTx.setF (Reg.HIF_RING 3 2) 16 0 64

/-- A program command on ring 0: segment 1 of engine 0, one instruction. -/
def progBits : Nat := 2 ^ 124 + 2 ^ 96
def cmdDesc (op bits : Nat) : Desc := { ring := 0, idx := 0, data := BitVec.ofNat 256 (2 ^ 112 * op + bits) }
def cmdOn (op bits : Nat) : State :=
  let s := (awake.setB (Reg.MTN_L_MAP 0) 31 true).wr (Reg.HIF_RING 0 0) 0xB3000000
  { s with hif := { fetched := [cmdDesc op bits] } }

def slewing : State := { awake with tsu := { slew := some 6871947673 } }
def stepOn : State := { awake with tsu := { step := true } }
def stepBack : State := { stepOn with clk := { ns := 5 } }
def cmpOn : State := awake.setB (Reg.TSU_CMP_CTRL 15) 31 true
def outsOn : State :=
  (((awake.setB (Reg.TSU_PPO_CTRL 1) 31 true).setB (Reg.TSU_CKO_CTRL 1) 31 true).setB Reg.TSU_STATUS 3 true).setB Reg.TSU_CTRL 1 false
def todOn : State :=
  let s : State := { awake with rcp := { awake.rcp with pipes := 0 } }
  ((s.setB (Reg.TSU_PPI_CTRL 1) 31 true).setB Reg.TSU_TOD_CTRL 31 true).setF (Reg.TSU_n_TOD_CTRL 31) 31 30 1

/-- A TIME block that echoes k. -/
def timeBlock (k : Nat) : List Byte := 1 :: List.replicate 10 0 ++ bytesBE 9 k ++ List.replicate 9 0
def mateGot (k : Nat) : State :=
  { (awake.setB Reg.TSU_MATE_CTRL 31 true).setF Reg.MLK_STATUS 2 0 2 with
    tsu := { sent := [7] }, mlk := { control := [(timeBlock k, 0, 0)] } }
def mateOn : State := mateGot 7
def mateOff : State := mateGot 9

def deframing : State := awake.setUport 31 { bursts := [{ frame := 5, k := 0, len := 1 }] }

def gathering : State :=
  let s := (awake.setF (Reg.UDF_n_CTRL 0) 15 8 0).wr Reg.DFR_SFC_LO 10
  { s with udf := { s.udf with parts := [(0, { portId := 0, data := [0] })] } }

/-- Port 23 is UP. -/
def linkUp : State := (awake.setB (Reg.CRY_UP 23) 30 true).setF (Reg.UPL_u_STATUS 23) 2 0 3
def linkCut : State := { awake with upl := { cutting := 0x800000 } }

/-- End 4095 in a state of its search, with bits received. -/
def searching (st : Nat) (bits : List Bool) (bad : Nat) : State :=
  (awake.setTend 4095 { bits := bits, badWord := bad }).setAlign 4095 st
def hunting : State := searching 1 [] 0
def presync : State := searching 2 alignWord 0
def seeking : State := searching 3 [] 0
def inSync : State := searching 4 (List.replicate 360 false) 3
def inSync1 : State := searching 4 (alignWord ++ List.replicate 328 false) 0
def monitoring : State := awake.setB Reg.TCE_CTRL 7 true

/-- Circuit 2047 between a terminal and pseudowire 2047, in packets of 32 bytes. -/
def pwSends : State :=
  ((awake.wr (Reg.TCE_CIRC 2047 3) 0x80000001).wr (Reg.TCE_CIRC 2047 1) (BitVec.ofNat 32 (2047 * 2 ^ 18))).setF
    (Reg.TCE_PW_w1 2047) 31 21 32
def pwIdle : State := pwSends.setAlign 4094 4
def pwGot : State := { pwSends with tce := { packets := [(2047, 0, {})] } }
def pwStray : State := { awake with tce := { packets := [(2047, 0, {})] } }

/-- Shaper x, a rate and a burst size stand in a function's command set. -/
def shaping (fn : Fn) (x : Nat) : State :=
  ((awake.setCs fn Reg.TMG_SCMD_IDX (BitVec.ofNat 32 x)).setCs fn (Reg.TMG_SCMD_D 0) 1).setCs fn (Reg.TMG_SCMD_D 1) 0x80

/-- A device of a mate pair in the alignment loop. -/
def mating : State := ((awake.setF Reg.RCP_STRAP 11 10 1).wr Reg.MLK_CTRL 0xC00000FF).setF Reg.MLK_STATUS 2 0 1

/-- A frame of the host whose bytes could not be read waits for a buffer of pool 0, which holds eight. -/
def pooled : State :=
  let s := ((awake.setF (Reg.BPM_COUNT 0) 18 0 8).rebuildPools.setB Reg.BPM_CTRL 0 true).setB Reg.BPM_STATUS 0 true
  s.want 7 60 false { pkt := { kind := 3, down := true, data := [] }, dest := .queue 5, desc := some { ring := 0, idx := 0, data := 0 } }

/-! Commands that no sender can form. -/

theorem test_wf_tenant_register : (Instr.registerWrite (.t 0) 0x4000 0).wf = false := by decide
theorem test_wf_tenant_held : (Instr.heldWordWrite (.t 15) 0x4000 0).wf = false := by decide
theorem test_wf_tenant_partial : (Instr.partialByteWrite (.t 0) 0x4000 0).wf = false := by decide
theorem test_wf_tenant_reserved : (Instr.reservedAccess (.t 0) 0x4000 true).wf = false := by decide
theorem test_wf_tenant_in_reset : (Instr.inResetAccess (.t 0) 0x4000 false).wf = false := by decide
theorem test_wf_tenant_latching : (Instr.latchingRead (.t 0) 0x4000).wf = false := by decide
theorem test_wf_tenant_counter : (Instr.counterLowRead (.t 0) 0x4000).wf = false := by decide
theorem test_wf_tenant_clear : (Instr.clearOnRead (.t 0) 0x4000).wf = false := by decide
theorem test_wf_operator_register : (Instr.registerWrite .op 0x4000 0).wf = true := by decide
theorem test_wf_phase : (Instr.lineFrameStart 0 (2 ^ 31)).wf = false := by decide
theorem test_wf_phase_low : (Instr.lineFrameStart 0 (-(2 ^ 31) - 1)).wf = false := by decide
theorem test_wf_codeword : (Instr.codewordDecode 0 0 0 none 0 (List.replicate 1825 0) [] false).wf = false := by
  decide +kernel
theorem test_wf_codeword_position : (Instr.codewordDecode 0 0 0 none 0 [] [1048576] false).wf = false := by decide
theorem test_wf_lit_ports : (Instr.lifetimeSecond ⟨0, List.replicate 33 0⟩).wf = false := by decide
theorem test_wf_lit_cycles : (Instr.lifetimeSecond ⟨0, [25000001]⟩).wf = false := by decide
theorem test_wf_microcode : (Instr.microcodeLoad .good 0 ⟨0, List.replicate 16385 0⟩ []).wf = false := by decide +kernel
theorem test_wf_second : (Instr.secondBoundary 0 (List.replicate 25 ⟨0, 0, 0, 0⟩)).wf = false := by decide
theorem test_wf_pload_empty : (Instr.pload 0 [] true).wf = false := by decide
theorem test_wf_pload_long : (Instr.pload 0 (List.replicate 513 0) true).wf = false := by decide +kernel
theorem test_wf_tnode : (Instr.tnode 0 (List.replicate 4097 0) true).wf = false := by decide +kernel
theorem test_wf_trule : (Instr.trule 0 (List.replicate 1025 0) true).wf = false := by decide +kernel
theorem test_wf_troot : (Instr.troot 0 (List.replicate 7 0) true).wf = false := by decide
theorem test_wf_frame : (Instr.ptxQueue 0 (List.replicate 16385 0) true).wf = false := by decide +kernel
theorem test_wf_ploam : (Instr.ptxPloam 0 (List.replicate 47 0) true).wf = false := by decide
theorem test_wf_ledger : (Instr.outRel (some ⟨0, [0], true, none⟩) none).wf = false := by decide

/-- The outcome is a next state with a property. -/
def ends (r : Res) (p : State → Bool) : Bool := match r with
  | .next t => p t
  | _ => false

/-! The machine after reset. -/

theorem test_reset_canonical : State.reset.RegsCanonical := by decide

/-! The spec's own examples. -/

/-- 23, example: the memory entry, the context and the grant-stream entry of terminal 9,765. -/
theorem test_locations : Reg.BRX_MEM_w0 19 37 = 0xD38128 ∧ Reg.RNG_CTX 19 37 0 = 0xF384A0 ∧
    Reg.GNT_STR_w0 39062 = 0x114C4B0 := by decide

/-- 21, example: code 11 is mate B (2), host load, x4. -/
theorem test_strap : strapWord 11 = BitVec.ofNat 32 (2 ^ 12 + 2 ^ 11 + 2 ^ 9 + 11) := by decide

/-- 04, example: TEQ, RTD_MIN, PD and the window of TP19. -/
def tp19 : State :=
  ((awake.wr (Reg.TPA_MODE 19) 0x31).setF (Reg.RNG_CTRL 19) 5 0 24).wr (Reg.RNG_DISC 19) (BitVec.ofNat 32 (250 * 2 ^ 16 + 60))
theorem test_teq : tp19.teq 19 = 29859840 ∧ tp19.rtdMin 19 = 2985984 ∧ tp19.pd 19 = 26873856 := by decide
theorem test_window : tp19.windowCycles 19 = 74339 := by decide

/-- 04, example: the expected offset of terminal 9,765. -/
theorem test_expected_offset :
    (({ tp19 with rng := { term := [(9765, { prov := 10123457 })] } } : State)).deltaExp 19 37 = 7137473 := by decide

/-- 03, example: the phase estimate 1, and the drift 1,994 after the good burst at 63. -/
def mem37 : MemEnt := { drift := 2000, valid := true, lastOk := true, rate := 0, phase := 20, peak := 14 }
theorem test_estimate : estPhase mem37 1480 = 1 := by decide
theorem test_drift :
    (goodBurst mem37 { frame := 0, k := 0, loc := 37, warm := true, rate := 0, ent := mem37, age := 1480, est := 1 }
      63 14 4 1480).1.drift = 1994 := by decide

/-- 05, example: warm bursts of 9,600 bytes span 572 cycles, cold ones of 4,000 bytes 288. -/
def grants19 : State := (tp19.wr (Reg.GNT_n_PAY 19 0) 17408).setF (Reg.GNT_n_CFG 19) 15 8 24
theorem test_burst_length : grants19.burstLen 19 0 true 9600 = 572 ∧ grants19.burstLen 19 0 false 4000 = 288 := by decide

/-- 05, example: demotion takes 767 bytes and leaves F. -/
theorem test_demotion : (grants19.fixBurst 19 [{ stream := 39062, start := 1203, grant := 9600, first := 1203, fin := 1775
                                                 asWarm := true }] (false, some 0)).1.map (fun e => (e.grant, e.fin)) = [(8833, 1775)] := by
  decide

/-- 02, example (Table 02.4): the clipped pulse runs from cycle 9,983 for 4 cycles. -/
def pulseOn : State :=
  let s := (framing.setGport 31 { pages := [{ frame := 0, st := .final, announced := true, ents :=
    [{ stream := 63488, start := 9991, grant := 100, first := 9991, fin := 10100 }] }] }).setBport 31 { plans := [(0, true)] }
  (s.wr (Reg.TPA_BRST 31) 0x20604).setTport 31 { framing.tport 31 with fPrev := some 9982 }
theorem test_pulse : ends (execBurstResetPulse 31 0 0 pulseOn)
    (fun t => decide (t.outs = [.brst 31 9983 4] ∧ t.rd (Reg.TPA_CNT_BRST_CLIP 31) = 1)) = true := by
  decide

/-- 10, example: the carrier frame of K = 32, U = 1 has 360 bits. -/
theorem test_carrier : (awake.wr (Reg.TCE_CIRC 517 3) (BitVec.ofNat 32 (31 * 2 ^ 12 + 2 ^ 6))).frameBits 1034 = 360 := by decide

/-- 17, example: the time of day of terminal 9,765, and FRAC = 0xC63F; the example's own rounding errs by 0.026 ps. -/
def tod19 : State :=
  (((((awake.wr (Reg.TSU_n_TXD 19) 2140).wr (Reg.TSU_n_RXD 19) 1760).wr (Reg.TSU_n_RSP 19) 35000000).wr (Reg.TSU_n_SPLIT 19)
    0x7FFEB075).wr (Reg.DFR_n_FT_PHASE 19) 1237).resync 15
theorem test_time_of_day :
    todMsg (some 37) 0 (todRound (tod19.todExact 19 1718064000000375000
      (some { rtd64 := 647902291, cal := true, tcal := 412, valid := true })) (-1702)) false =
      .timeOfDay 37 0 1718064000 459208 0xC63F := by decide

/-- 07, example program, address 14: addi g6, g1, 2. -/
theorem test_addi : ends (execSisAddi 0 ((atWord 0x2130400000000002).setEng 0
      { (atWord 0x2130400000000002).eng 0 with g := [(1, 40)] }))
    (fun t => decide ((t.eng 0).get 6 = 42 ∧ (t.eng 0).pc = 1)) = true := by
  decide

/-- R249: the largest signed number plus 1 sets N and V, and neither Z nor C. -/
theorem test_add_overflow : ends (execSisAddi 0 ((atWord 0x2130400000000001).setEng 0
      { (atWord 0x2130400000000001).eng 0 with g := [(1, 0x7FFFFFFFFFFFFFFF)] }))
    (fun t => decide ((t.eng 0).flags = 0b1010)) = true := by
  decide

/-- R249: 0 less 1 sets N and C (borrow). -/
theorem test_sub_borrow : ends (execSisSub 0 ((atWord 0x0230020000000000).setEng 0
      { (atWord 0x0230020000000000).eng 0 with g := [(1, 1)] }))
    (fun t => decide ((t.eng 0).flags = 0b0110 ∧ (t.eng 0).get 6 = 0xFFFFFFFFFFFFFFFF)) = true := by
  decide

/-- R630: the two keys of a software global reset, and any other value. -/
theorem test_swrst : ends (execSoftwareGlobalReset 0xD2 false awake)
    (fun t => decide (t.rcp.swKey = true ∧ t.rd Reg.RCP_CNT_REFUSED = 0)) = true := by
  decide
theorem test_swrst_wrong : ends (execSoftwareGlobalReset 0x2D false awake)
    (fun t => decide (t.rd Reg.RCP_CNT_REFUSED = 1 ∧ t.rcp.phase = 10)) = true := by
  decide

theorem witness_StepTakesTheFront : State.reset.pending = [] := by decide

theorem witness_ResetState : 0 ≠ Reg.RCP_CAUSE := by decide

theorem witness_StepKeepsTheRegisterTable : State.reset.RegsCanonical ∧ Goes State.reset := ⟨by decide, _, rfl⟩

theorem witness_StepKeepsTheQueue : State.reset.QueueFormed ∧ Goes State.reset := ⟨by decide, _, rfl⟩

theorem witness_CommandsSendInOrder : exec .tsrefLoss State.reset = .next State.reset := rfl

theorem witness_WritesThatDoNotReach : registerOf .stepGo = some (.op, Reg.TSU_STEP) ∧ ¬ State.reset.reaches Reg.TSU_STEP ∧
    tsuDown.up 17 = true ∧ ¬ tsuDown.reaches Reg.TSU_STEP := by decide

theorem witness_TpaPortSettings : awake.reaches (Reg.TPA_CTRL 31) := by decide

theorem witness_TpaPortSettings_effects :
    (decide (awake.reaches (Reg.TPA_MODE 31)) && !decide (!awake.idlePort 31 || (awake.paired 31 && !awake.idlePort (pairOf 31)))) = true ∧
    (decide (lightOn.reaches (Reg.TPA_MODE 31)) && decide (!lightOn.idlePort 31 || (lightOn.paired 31 && !lightOn.idlePort (pairOf 31)))) = true ∧
    (decide (awake.reaches (Reg.TPA_CTRL 31)) && !decide (!awake.drained 31 || awake.modeErr 31 || awake.pairErr 31 || awake.pattern 31 != 0) && !decide (awake.en 31)) = true ∧
    (decide (lightOn.reaches (Reg.TPA_CTRL 31)) && !decide (!lightOn.drained 31 || lightOn.modeErr 31 || lightOn.pairErr 31 || lightOn.pattern 31 != 0) && decide (lightOn.en 31)) = true ∧
    (decide ((awake.wr (Reg.TPA_PMA 31) 0x4000).reaches (Reg.TPA_CTRL 31)) && decide (!(awake.wr (Reg.TPA_PMA 31) 0x4000).drained 31 || (awake.wr (Reg.TPA_PMA 31) 0x4000).modeErr 31 || (awake.wr (Reg.TPA_PMA 31) 0x4000).pairErr 31 || (awake.wr (Reg.TPA_PMA 31) 0x4000).pattern 31 != 0)) = true ∧
    ((let busy := awake.en 31 || awake.dfrRun 31 || !(awake.busyQueues 31).isEmpty || !(awake.dport 31).ready.isEmpty || !(awake.lastList 31).isEmpty || !(awake.bport 31).snaps.isEmpty || !(awake.bport 31).missed.isEmpty || !(awake.udf.port.look {} 31).bursts.isEmpty; !decide (busy))) = true ∧
    (decide (awake.reaches (Reg.TPA_PMA 31)) && !decide (fldW (0x4000 : Word) 15 14 ≠ 0 && !awake.idlePort 31)) = true ∧
    (decide (lightOn.reaches (Reg.TPA_PMA 31)) && decide (fldW (0x4000 : Word) 15 14 ≠ 0 && !lightOn.idlePort 31)) = true ∧
    ((let taking := lightOn.pst 31 == 3; !decide (!lightOn.txen 31 || !lightOn.en 31 || lightOn.pattern 31 != 0 || lightOn.dfrRun 31) && !decide (taking))) = true ∧
    ((let taking := takingLit.pst 31 == 3; !decide (!takingLit.txen 31 || !takingLit.en 31 || takingLit.pattern 31 != 0 || takingLit.dfrRun 31) && decide (taking))) = true := by decide +kernel

theorem witness_TpaLinesAndOpticsBus_effects :
    ((let base : Int := (frameCycles * (5 : BitVec 51).toNat : Nat); (match burstOn.tpaBurst 31 (5 : BitVec 51).toNat 0 with | some h => (let lead := burstOn.fld (Reg.TPA_BRST 31) 7 0; (let width := burstOn.fld (Reg.TPA_BRST 31) 13 8; (let stop := base + h.first - lead; (let first := stop - width; (let t := burstOn.tport 31; (let lim : Int := match t.fPrev with | some f => f + 1 | none => first; (let start := max first lim; (let t1 := burstOn.setTport 31 { t with fPrev := some (base + h.fin).toNat, rogued := false }; !decide (stop - start < t1.fld (Reg.TPA_BRST 31) 21 16))))))))) | _ => false))) = true ∧
    ((let base : Int := (frameCycles * (5 : BitVec 51).toNat : Nat); (match (burstOn.setF (Reg.TPA_BRST 31) 21 16 63).tpaBurst 31 (5 : BitVec 51).toNat 0 with | some h => (let lead := (burstOn.setF (Reg.TPA_BRST 31) 21 16 63).fld (Reg.TPA_BRST 31) 7 0; (let width := (burstOn.setF (Reg.TPA_BRST 31) 21 16 63).fld (Reg.TPA_BRST 31) 13 8; (let stop := base + h.first - lead; (let first := stop - width; (let t := (burstOn.setF (Reg.TPA_BRST 31) 21 16 63).tport 31; (let lim : Int := match t.fPrev with | some f => f + 1 | none => first; (let start := max first lim; (let t1 := (burstOn.setF (Reg.TPA_BRST 31) 21 16 63).setTport 31 { t with fPrev := some (base + h.fin).toNat, rogued := false }; decide (stop - start < t1.fld (Reg.TPA_BRST 31) 21 16))))))))) | _ => false))) = true ∧
    ((match awake.tpaBurst 31 (0 : BitVec 51).toNat 511 with | none => true | _ => false)) = true ∧
    ((match burstOn.tpaBurst 31 (5 : BitVec 51).toNat 0 with | some h => !decide (h.kind = 1 || h.kind = 2) && (let light := true != burstOn.bit (Reg.TPA_SD 31) 31; decide (light)) | _ => false)) = true ∧
    ((match burstOn.tpaBurst 31 (5 : BitVec 51).toNat 0 with | some h => !decide (h.kind = 1 || h.kind = 2) && (let light := false != burstOn.bit (Reg.TPA_SD 31) 31; (let t1 := burstOn.silentRun 31 (5 : BitVec 51).toNat (!light); !decide (light) && (let t2 := t1.inc (Reg.TPA_CNT_SD_MISS 31); !decide (t2.bit (Reg.TPA_CTRL 31) 2)))) | _ => false)) = true ∧
    ((match (burstOn.setB (Reg.TPA_CTRL 31) 2 true).tpaBurst 31 (5 : BitVec 51).toNat 0 with | some h => !decide (h.kind = 1 || h.kind = 2) && (let light := false != (burstOn.setB (Reg.TPA_CTRL 31) 2 true).bit (Reg.TPA_SD 31) 31; (let t1 := (burstOn.setB (Reg.TPA_CTRL 31) 2 true).silentRun 31 (5 : BitVec 51).toNat (!light); !decide (light) && (let t2 := t1.inc (Reg.TPA_CNT_SD_MISS 31); decide (t2.bit (Reg.TPA_CTRL 31) 2)))) | _ => false)) = true ∧
    ((let t := framing.tport 31; (let at_ := frameCycles * (0 : BitVec 51).toNat + (0 : BitVec 16).toNat; (let early := match t.fPrev with | some f => decide (at_ < f + framing.fld (Reg.TPA_SD 31) 15 8) | none => false; !decide (!framing.en 31 || !framing.dfrRun 31 || framing.holding 31 || decide (framing.now < t.hush) || t.rogued || early || !framing.quietAt 31 at_ (framing.fld (Reg.TPA_SD 31) 27 16)))))) = true ∧
    (decide (awake.reaches (Reg.TPA_I_CMD 3)) && !decide (awake.i2cBusy 3) && !decide (fldW (1 : Word) 3 0 = 0 || decide (8 < fldW (1 : Word) 3 0))) = true ∧
    (decide (awake.reaches (Reg.TPA_I_CMD 3)) && !decide (awake.i2cBusy 3) && decide (fldW (0 : Word) 3 0 = 0 || decide (8 < fldW (0 : Word) 3 0))) = true ∧
    (decide (i2cOn.i2cBusy (⟨3, 23, 0⟩ : I2cStop).m)) = true := by decide +kernel

theorem witness_BrxProfilesAndMemory_effects :
    (decide (awake.reaches (Reg.BRX_PROF 31 3)) && (let v' : Word := (0xFFFFFFFF : Word) &&& 0xE3FFF0FF; (let ok := awake.idlePort 31 && profsOk (awake.fld (Reg.BRX_CTRL 31) 11 8) fun j => if j = 3 then v' else awake.rd (Reg.BRX_PROF 31 j); decide (ok)))) = true ∧
    (decide (awake.reaches (Reg.BRX_PROF 31 3)) && (let v' : Word := (0 : Word) &&& 0xE3FFF0FF; (let ok := awake.idlePort 31 && profsOk (awake.fld (Reg.BRX_CTRL 31) 11 8) fun j => if j = 3 then v' else awake.rd (Reg.BRX_PROF 31 j); !decide (ok)))) = true ∧
    (decide (awake.reaches (Reg.BRX_CTRL 31)) && (let v1 : Word := (0 : Word) &&& 0xFFFFFF06; (let v2 := if fldW v1 31 16 = 0 then setFldW v1 31 16 1 else v1; (let v3 := if fldW v2 11 8 = 0 then setFldW v2 11 8 1 else v2; (let ws := fldW v3 11 8; (let ok := ws == awake.fld (Reg.BRX_CTRL 31) 11 8 || (awake.idlePort 31 && profsOk ws fun j => awake.rd (Reg.BRX_PROF 31 j)); decide (ok))))))) = true ∧
    (decide (lightOn.reaches (Reg.BRX_CTRL 31)) && (let v1 : Word := (0 : Word) &&& 0xFFFFFF06; (let v2 := if fldW v1 31 16 = 0 then setFldW v1 31 16 1 else v1; (let v3 := if fldW v2 11 8 = 0 then setFldW v2 11 8 1 else v2; (let ws := fldW v3 11 8; (let ok := ws == lightOn.fld (Reg.BRX_CTRL 31) 11 8 || (lightOn.idlePort 31 && profsOk ws fun j => lightOn.rd (Reg.BRX_PROF 31 j)); !decide (ok))))))) = true ∧
    (decide (awake.reaches (Reg.BRX_MEM_CMD 31)) && !decide (awake.memBusy 31)) = true ∧
    (decide ((awake.setB (Reg.BRX_MEM_CMD 31) 31 true).reaches (Reg.BRX_MEM_CMD 31)) && decide ((awake.setB (Reg.BRX_MEM_CMD 31) 31 true).memBusy 31)) = true ∧
    (decide (awake.reaches (Reg.BRX_MEM_CMD (⟨31, 511⟩ : MemAll).n)) && !decide (awake.memBusy (⟨31, 511⟩ : MemAll).n)) = true ∧
    (decide ((awake.setB (Reg.BRX_MEM_CMD 31) 31 true).reaches (Reg.BRX_MEM_CMD (⟨31, 511⟩ : MemAll).n)) && decide ((awake.setB (Reg.BRX_MEM_CMD 31) 31 true).memBusy (⟨31, 511⟩ : MemAll).n)) = true ∧
    (decide (awake.up 1)) = true := by decide +kernel

theorem witness_BrxBursts_effects :
    ((let f := (0 : BitVec 51).toNat; (let t1 := awake.missedDue 31 fun x => decide (x < f); (match t1.page 31 f with | none => true | _ => false)))) = true ∧
    ((let f := (5 : BitVec 51).toNat; (let t1 := burstOn.missedDue 31 fun x => decide (x < f); (match t1.page 31 f with | some g => (let quiet := (t1.gport 31).covered f; (let ok := g.sealed && g.announced && !quiet && !false && t1.en 31; !decide (g.sealed && g.announced && !ok))) | _ => false)))) = true ∧
    ((let f := (5 : BitVec 51).toNat; (let t1 := burstOn.missedDue 31 fun x => decide (x < f); (match t1.page 31 f with | some g => (let quiet := (t1.gport 31).covered f; (let ok := g.sealed && g.announced && !quiet && !true && t1.en 31; decide (g.sealed && g.announced && !ok))) | _ => false)))) = true ∧
    ((match closedOn.page 31 (5 : BitVec 51).toNat with | some g => !decide (g.st != .closed) && (let t1 := closedOn.cross 2 31 (.kinds (5 : BitVec 51).toNat ((burstsOf g.ents).map fun b => closedOn.kindOf 31 b)); (let d := t1.restState 31 (0 : BitVec 64).toNat; !decide (!t1.isAwake 31 && decide (t1.fld (Reg.BRX_STATUS 31) 1 0 < d)))) | _ => false)) = true ∧
    ((let f := (5 : BitVec 51).toNat; !decide (burstOn.quiet) && !decide (!burstOn.en 31) && (match ((some 0) : Option (Fin 512)) with | some k' => (match burstOn.wakesFor 31 f k' with | some b => true | _ => false) | _ => false))) = true ∧
    ((let f := (0 : BitVec 51).toNat; !decide (lightOn.quiet) && !decide (!lightOn.en 31) && (match (none : Option (Fin 512)) with | none => !decide (lightOn.knownFrame 31 f) | _ => false))) = true ∧
    ((let f := (5 : BitVec 51).toNat; !decide ((burstOn.setB (Reg.TPA_CTRL 31) 0 false).quiet) && decide (!(burstOn.setB (Reg.TPA_CTRL 31) 0 false).en 31) && (match (((some 0) : Option (Fin 512)).bind fun j => ((burstOn.setB (Reg.TPA_CTRL 31) 0 false).wakesFor 31 f j).map fun b => (b, j.val)) with | some x => !decide ((headOf x.1).kind == 2) | _ => false))) = true ∧
    ((match (burstOn.bport 31).snap (5 : BitVec 51).toNat 0, burstOn.received 31 (5 : BitVec 51).toNat 0 with | some sn, some b => (let h := headOf b; !decide (h.kind = 2 || sn.found.isSome || sn.judged.isSome) && (match (none : Option Int) with | none => true | _ => false)) | _, _ => false)) = true ∧
    ((match (burstOn.bport 31).snap (5 : BitVec 51).toNat 0, burstOn.received 31 (5 : BitVec 51).toNat 0 with | some sn, some b => (let h := headOf b; !decide (h.kind = 2 || sn.found.isSome || sn.judged.isSome) && (let t1 := if sn.warm && !sn.ent.valid then burstOn.inc (Reg.BRX_CNT_WARM_STALE 31) else burstOn; (let t2 := t1.setB (Reg.BRX_STATUS 31) 2 true; (let near := decide ((wrap64 (⟨63, 31⟩ : SearchEnd).code sn.est).natAbs ≤ t2.fld (Reg.BRX_CTRL 31) 11 8); (match ((some 0) : Option Int) with | some d => (let kk := rbPerBit sn.rate; (let off : Int := 64 * kk * d + kk * (⟨63, 31⟩ : SearchEnd).code; !decide (sn.abandoned || (sn.warm && !(true && near)) || !t2.delimOk 31 h sn d off))) | _ => false))))) | _, _ => false)) = true ∧
    ((match (forsaken.bport 31).snap (5 : BitVec 51).toNat 0, forsaken.received 31 (5 : BitVec 51).toNat 0 with | some sn, some b => (let h := headOf b; !decide (h.kind = 2 || sn.found.isSome || sn.judged.isSome) && (let t1 := if sn.warm && !sn.ent.valid then forsaken.inc (Reg.BRX_CNT_WARM_STALE 31) else forsaken; (let t2 := t1.setB (Reg.BRX_STATUS 31) 2 true; (let near := decide ((wrap64 (⟨63, 31⟩ : SearchEnd).code sn.est).natAbs ≤ t2.fld (Reg.BRX_CTRL 31) 11 8); (match ((some 0) : Option Int) with | some d => (let kk := rbPerBit sn.rate; (let off : Int := 64 * kk * d + kk * (⟨63, 31⟩ : SearchEnd).code; decide (sn.abandoned || (sn.warm && !(true && near)) || !t2.delimOk 31 h sn d off))) | _ => false))))) | _, _ => false)) = true ∧
    ((match (burstDone.bport 31).snap (5 : BitVec 51).toNat 0, burstDone.received 31 (5 : BitVec 51).toNat 0 with | some sn, some b => (let rec_ := (burstDone.udf.port.look {} 31).bursts.find? fun u => u.frame == sn.frame && u.k == sn.k; (match sn.found, sn.judged with | some ph, none => !decide (rec_.any fun u => decide (u.pos < u.len)) && !decide (sn.bad || rec_.isNone) | _, _ => false)) | _, _ => false)) = true ∧
    ((match (lockedOn.bport 31).snap (5 : BitVec 51).toNat 0, lockedOn.received 31 (5 : BitVec 51).toNat 0 with | some sn, some b => (let rec_ := (lockedOn.udf.port.look {} 31).bursts.find? fun u => u.frame == sn.frame && u.k == sn.k; (match sn.found, sn.judged with | some ph, none => !decide (rec_.any fun u => decide (u.pos < u.len)) && decide (sn.bad || rec_.isNone) | _, _ => false)) | _, _ => false)) = true := by decide +kernel

theorem witness_RngGuardedRegisters_effects :
    (decide (awake.reaches (Reg.RNG_CTRL 31)) && (let v1 : Word := (10 : Word) &&& 0xFFFFFF3F; (let v2 := if fldW v1 31 16 = 0 then setFldW v1 31 16 1 else v1; (let v3 := if fldW v2 15 8 = 0 then setFldW v2 15 8 1 else v2; (let q := fldW v3 5 0; (let ok := q == awake.fld (Reg.RNG_CTRL 31) 5 0 || ((awake.rngSees 31).idlePort 31 && decide (4 ≤ q) && decide (q ≤ 40)); decide (ok))))))) = true ∧
    (decide (awake.reaches (Reg.RNG_CTRL 31)) && (let v1 : Word := (0 : Word) &&& 0xFFFFFF3F; (let v2 := if fldW v1 31 16 = 0 then setFldW v1 31 16 1 else v1; (let v3 := if fldW v2 15 8 = 0 then setFldW v2 15 8 1 else v2; (let q := fldW v3 5 0; (let ok := q == awake.fld (Reg.RNG_CTRL 31) 5 0 || ((awake.rngSees 31).idlePort 31 && decide (4 ≤ q) && decide (q ≤ 40)); !decide (ok))))))) = true ∧
    (decide (awake.reaches (Reg.RNG_DISC 31)) && (let v1 : Word := (0x00640000 : Word) &&& 0x03FF0FFF; (let lo := fldW v1 9 0; (let hi := fldW v1 25 16; (let ok := decide (lo < hi) && decide (hi ≤ 25 * awake.fld (Reg.RNG_CTRL 31) 5 0) && decide (discW v1 ≤ 250); decide (ok)))))) = true ∧
    (decide (awake.reaches (Reg.RNG_DISC 31)) && (let v1 : Word := (0 : Word) &&& 0x03FF0FFF; (let lo := fldW v1 9 0; (let hi := fldW v1 25 16; (let ok := decide (lo < hi) && decide (hi ≤ 25 * awake.fld (Reg.RNG_CTRL 31) 5 0) && decide (discW v1 ≤ 250); !decide (ok)))))) = true ∧
    (decide (awake.reaches (Reg.RNG_TRACK 31)) && (let v1 := if fldW (0x20100 : Word) 31 28 = 0 then setFldW (0x20100 : Word) 31 28 1 else (0x20100 : Word); (let v2 := if fldW v1 7 0 = 0 then setFldW v1 7 0 1 else v1; (let lim := fldW v2 23 16; (let ok := decide (fldW v2 15 8 < lim) && decide (lim < awake.driftTop 31); decide (ok)))))) = true ∧
    (decide (awake.reaches (Reg.RNG_TRACK 31)) && (let v1 := if fldW (0 : Word) 31 28 = 0 then setFldW (0 : Word) 31 28 1 else (0 : Word); (let v2 := if fldW v1 7 0 = 0 then setFldW v1 7 0 1 else v1; (let lim := fldW v2 23 16; (let ok := decide (fldW v2 15 8 < lim) && decide (lim < awake.driftTop 31); !decide (ok)))))) = true := by decide +kernel

theorem witness_RngDiscovery_heard :
    let at_ := fun (s : State) => (s.crossing (32 * 5 + (31 : Fin 32))).items.head?
    let x : SnReport := { sn := 7, rnd := 0, off := 0 }
    at_ (discOn.cross 5 31 (.serial none)) = some (.serial none) ∧
    (let s := discOn.cross 5 31 (.serial (some { x with sn := 9 }))
     at_ s = some (.serial (some { x with sn := 9 })) ∧ ((s.crossVisible 5 31).snOn 31 9).isSome = true) ∧
    (let t := (discPair.cross 5 31 (.serial (some x))).crossVisible 5 31
     t.snOn 31 7 = none ∧ (t.rngSees 31).pairValid 31 = true ∧ (t.snOn (pairOf 31) 7).isSome = true) ∧
    (let t := ((discOn.resync 0).cross 5 31 (.serial (some x))).crossVisible 5 31
     t.snOn 31 7 = none ∧ (t.rngSees 31).pairValid 31 = false ∧ t.bit (Reg.RNG_DISC 31) 11 = true ∧ t.mayAssign 31 = true ∧
     (t.lowestFree 31).isSome = true) ∧
    (let t := (((discOn.resync 0).dueBroadcasts 31 1).cross 5 31 (.serial (some x))).crossVisible 5 31
     t.snOn 31 7 = none ∧ (t.rngSees 31).pairValid 31 = false ∧ t.bit (Reg.RNG_DISC 31) 11 = true ∧ t.mayAssign 31 = false) ∧
    (let t := (discPend.cross 5 31 (.serial (some x))).crossVisible 5 31
     t.snOn 31 7 = none ∧ (t.rngSees 31).pairValid 31 = false ∧ t.bit (Reg.RNG_DISC 31) 11 = false ∧ t.pend 31 = false) ∧
    (let t := ((discPend.setB (Reg.RNG_STATUS 31) 2 true).cross 5 31 (.serial (some x))).crossVisible 5 31
     t.snOn 31 7 = none ∧ (t.rngSees 31).pairValid 31 = false ∧ t.bit (Reg.RNG_DISC 31) 11 = false ∧ t.pend 31 = true) := by
  decide +kernel

theorem witness_RngDiscovery_effects :
    ((let ok := !asking.quiet && !asking.justLeftQuiet && (asking.rngSees 31).dfrRun 31 && asking.bit (Reg.RNG_DISC 31) 10 && !asking.bit (Reg.RNG_STATUS 31) 3 && (asking.rport 31).bcast == 0 && (asking.lowestFree 31).isSome; decide (ok))) = true ∧
    ((match (if discOn.en 31 then discOn.received 31 (5 : BitVec 51).toNat 0 else none : Option _) with | some b => !decide ((headOf b).kind != 2) && (let unc := (⟨false,[],true⟩ : SnBurst).cws.countP fun need => !discOn.correctable 31 need; (let good := (⟨false,[],true⟩ : SnBurst).good && unc == 0; decide (!good))) | _ => false)) = true ∧
    ((match (if discOn.en 31 then discOn.received 31 (5 : BitVec 51).toNat 0 else none : Option _) with | some b => !decide ((headOf b).kind != 2) && (let unc := (⟨true,[],false⟩ : SnBurst).cws.countP fun need => !discOn.correctable 31 need; (let good := (⟨true,[],false⟩ : SnBurst).good && unc == 0; !decide (!good) && decide (!(⟨true,[],false⟩ : SnBurst).mic))) | _ => false)) = true ∧
    ((match (if discOn.en 31 then discOn.received 31 (5 : BitVec 51).toNat 0 else none : Option _) with | some b => !decide ((headOf b).kind != 2) && (let unc := (⟨true, [], true⟩ : SnBurst).cws.countP fun need => !discOn.correctable 31 need; (let good := (⟨true, [], true⟩ : SnBurst).good && unc == 0; !decide (!good) && !decide (!(⟨true, [], true⟩ : SnBurst).mic))) | _ => false)) = true ∧
    (decide (pendOn.pend 31)) = true := by decide +kernel

theorem witness_RngSoftwareCommands : awake.reaches (Reg.RNG_CMD 31) := by decide

theorem witness_RngSoftwareCommands_effects :
    (decide (pendOn.reaches (Reg.RNG_CMD 31)) && (let t1 := pendOn.rngCmd 31 0 511; decide (t1.pend 31 && t1.termSt 31 511 == 0 && t1.mayAssign 31))) = true ∧
    (decide (awake.reaches (Reg.RNG_CMD 31)) && (let t1 := awake.rngCmd 31 0 511; !decide (t1.pend 31 && t1.termSt 31 511 == 0 && t1.mayAssign 31))) = true ∧
    (decide (pendOn.reaches (Reg.RNG_CMD 31)) && (let t1 := pendOn.rngCmd 31 1 511; decide (t1.pend 31))) = true ∧
    (decide (awake.reaches (Reg.RNG_CMD 31)) && (let t1 := awake.rngCmd 31 1 511; !decide (t1.pend 31))) = true ∧
    (decide (operating.reaches (Reg.RNG_CMD 31)) && (let t1 := operating.rngCmd 31 2 511; decide (t1.termSt 31 511 == 2 || t1.termSt 31 511 == 3))) = true ∧
    (decide (awake.reaches (Reg.RNG_CMD 31)) && (let t1 := awake.rngCmd 31 2 511; !decide (t1.termSt 31 511 == 2 || t1.termSt 31 511 == 3))) = true ∧
    (decide (operating.reaches (Reg.RNG_CMD 31)) && (let t1 := operating.rngCmd 31 3 511; !decide (t1.termSt 31 511 == 0))) = true ∧
    (decide (awake.reaches (Reg.RNG_CMD 31)) && (let t1 := awake.rngCmd 31 3 511; decide (t1.termSt 31 511 == 0))) = true ∧
    ((let t := rangingOn.term 31 511; decide (rangingOn.termSt 31 511 == 1 && !t.assigning && !(t.asked && rangingOn.rangingTrace 31 511) && !t.waiting && !t.leaving))) = true := by decide +kernel

theorem witness_RngMeasurements_effects :
    ((match (rangedFar.takeResult 31 fun r => r.ranging && r.off.isSome) with | some (r, t1) => !decide (t1.termSt 31 r.l != 1 || !(t1.term 31 r.l).asked) && (let off := r.off.getD 0; (let c := t1.rngSees 31; (let rtd : Int := off / 64 + c.teq 31 - c.pd 31; decide (rtd < c.rtdMin 31 ∨ (c.teq 31 : Int) < rtd)))) | _ => false)) = true ∧
    ((match (rangedNear.takeResult 31 fun r => r.ranging && r.off.isSome) with | some (r, t1) => !decide (t1.termSt 31 r.l != 1 || !(t1.term 31 r.l).asked) && (let off := r.off.getD 0; (let c := t1.rngSees 31; (let rtd : Int := off / 64 + c.teq 31 - c.pd 31; !decide (rtd < c.rtdMin 31 ∨ (c.teq 31 : Int) < rtd)))) | _ => false)) = true ∧
    ((match (rangedFail.takeResult 31 fun r => r.ranging && r.off.isNone) with | some (r, t1) => !decide (t1.termSt 31 r.l != 1 || !(t1.term 31 r.l).asked) && (let t := t1.term 31 r.l; !decide (3 ≤ t.fails + 1)) | _ => false)) = true ∧
    ((match ((rangedFail.setTerm 31 511 { rangedFail.term 31 511 with fails := 2 }).takeResult 31 fun r => r.ranging && r.off.isNone) with | some (r, t1) => !decide (t1.termSt 31 r.l != 1 || !(t1.term 31 r.l).asked) && (let t := t1.term 31 r.l; decide (3 ≤ t.fails + 1)) | _ => false)) = true ∧
    ((match (missed.takeResult 31 fun r => !r.ranging && r.off.isNone) with | some (r, t1) => (let l := r.l; !decide (!(t1.termSt 31 l == 2 || t1.termSt 31 l == 3)) && (let t2 := t1.satField (Reg.RNG_CTX 31 l 0) 27 24 1; !decide (t2.termSt 31 l = 2 ∧ t2.fld (Reg.RNG_TRACK 31) 31 28 ≤ t2.fld (Reg.RNG_CTX 31 l 0) 27 24))) | _ => false)) = true ∧
    ((match ((missed.setF (Reg.RNG_TRACK 31) 31 28 1).takeResult 31 fun r => !r.ranging && r.off.isNone) with | some (r, t1) => (let l := r.l; !decide (!(t1.termSt 31 l == 2 || t1.termSt 31 l == 3)) && (let t2 := t1.satField (Reg.RNG_CTX 31 l 0) 27 24 1; decide (t2.termSt 31 l = 2 ∧ t2.fld (Reg.RNG_TRACK 31) 31 28 ≤ t2.fld (Reg.RNG_CTX 31 l 0) 27 24))) | _ => false)) = true ∧
    ((match (drifted.takeResult 31 fun r => !r.ranging && r.off.isSome) with | some (r, t1) => (let l := r.l; !decide (!(t1.termSt 31 l == 2 || t1.termSt 31 l == 3)) && (let d := r.off.getD 0; (let t2 := t1.setF (Reg.RNG_CTX 31 l 0) 27 24 0; (let t3 := t2.setTerm 31 l { t2.term 31 l with unproven := false }; decide (64 * t3.driftLim 31 < d.natAbs))))) | _ => false)) = true ∧
    ((match (tracked.takeResult 31 fun r => !r.ranging && r.off.isSome) with | some (r, t1) => (let l := r.l; !decide (!(t1.termSt 31 l == 2 || t1.termSt 31 l == 3)) && (let d := r.off.getD 0; (let t2 := t1.setF (Reg.RNG_CTX 31 l 0) 27 24 0; (let t3 := t2.setTerm 31 l { t2.term 31 l with unproven := false }; !decide (64 * t3.driftLim 31 < d.natAbs) && (let t4 := if t3.termSt 31 l = 3 then (t3.setTermSt 31 l 2).publish 31 l else t3.settleRec 31 l; !decide (t4.adjPend 31 l)))))) | _ => false)) = true ∧
    ((match (confirmed.takeResult 31 fun r => !r.ranging && r.off.isSome) with | some (r, t1) => (let l := r.l; !decide (!(t1.termSt 31 l == 2 || t1.termSt 31 l == 3)) && (let d := r.off.getD 0; (let t2 := t1.setF (Reg.RNG_CTX 31 l 0) 27 24 0; (let t3 := t2.setTerm 31 l { t2.term 31 l with unproven := false }; !decide (64 * t3.driftLim 31 < d.natAbs) && (let t4 := if t3.termSt 31 l = 3 then (t3.setTermSt 31 l 2).publish 31 l else t3.settleRec 31 l; decide (t4.adjPend 31 l) && decide ((d - (t4.offF 31 l - 64 * (t4.term 31 l).delta)).natAbs ≤ 128)))))) | _ => false)) = true ∧
    ((match (unconfirmed.takeResult 31 fun r => !r.ranging && r.off.isSome) with | some (r, t1) => (let l := r.l; !decide (!(t1.termSt 31 l == 2 || t1.termSt 31 l == 3)) && (let d := r.off.getD 0; (let t2 := t1.setF (Reg.RNG_CTX 31 l 0) 27 24 0; (let t3 := t2.setTerm 31 l { t2.term 31 l with unproven := false }; !decide (64 * t3.driftLim 31 < d.natAbs) && (let t4 := if t3.termSt 31 l = 3 then (t3.setTermSt 31 l 2).publish 31 l else t3.settleRec 31 l; decide (t4.adjPend 31 l) && !decide ((d - (t4.offF 31 l - 64 * (t4.term 31 l).delta)).natAbs ≤ 128)))))) | _ => false)) = true ∧
    ((let t := adjusting.term 31 511; !decide (!adjusting.adjPend 31 511 || t.waiting) && decide (t.sends ≤ 1))) = true ∧
    ((let t := (adjusting.setTerm 31 511 { adjusting.term 31 511 with sends := 2 }).term 31 511; !decide (!(adjusting.setTerm 31 511 { adjusting.term 31 511 with sends := 2 }).adjPend 31 511 || t.waiting) && !decide (t.sends ≤ 1) && decide ((adjusting.setTerm 31 511 { adjusting.term 31 511 with sends := 2 }).termSt 31 511 = 2))) = true ∧
    (decide ((rangingOn.setF (Reg.RNG_CTX 31 511 0) 31 28 3).termSt 31 511 == 3 && !((rangingOn.setF (Reg.RNG_CTX 31 511 0) 31 28 3).term 31 511).leaving)) = true ∧
    (decide ((rangingOn.setOffF 31 511 5).offF 31 511 != ((rangingOn.setOffF 31 511 5).term 31 511).pubOff)) = true := by decide +kernel

theorem witness_GrantTables_effects :
    (decide (awake.reaches (Reg.GNT_STR_w0 (0 : BitVec 16).toNat)) && (let i := (0 : BitVec 16).toNat; (let a0 := Reg.GNT_STR_w0 i; (let w1 : Word := awake.heldWord .op 4 a0 1 &&& 0xFFF03FFF; (let old := awake.rd (Reg.GNT_STR_w1 i); (let t1 := awake.dropHeld .op 4; (let fixed := (w1 ^^^ old) &&& 0x07F03FFF != 0; (let wasEn := old.getLsbD 31; (let en := w1.getLsbD 31; !decide ((fixed && (wasEn || !t1.strDrained i)) || (en && !wasEn && !t1.strDrained i)) && !decide (wasEn && !en)))))))))) = true ∧
    (decide ((streamHeld 0).reaches (Reg.GNT_STR_w0 (0 : BitVec 16).toNat)) && (let i := (0 : BitVec 16).toNat; (let a0 := Reg.GNT_STR_w0 i; (let w1 : Word := (streamHeld 0).heldWord .op 4 a0 1 &&& 0xFFF03FFF; (let old := (streamHeld 0).rd (Reg.GNT_STR_w1 i); (let t1 := (streamHeld 0).dropHeld .op 4; (let fixed := (w1 ^^^ old) &&& 0x07F03FFF != 0; (let wasEn := old.getLsbD 31; (let en := w1.getLsbD 31; !decide ((fixed && (wasEn || !t1.strDrained i)) || (en && !wasEn && !t1.strDrained i)) && decide (wasEn && !en)))))))))) = true ∧
    (decide ((streamHeld 0x80100000).reaches (Reg.GNT_STR_w0 (0 : BitVec 16).toNat)) && (let i := (0 : BitVec 16).toNat; (let a0 := Reg.GNT_STR_w0 i; (let w1 : Word := (streamHeld 0x80100000).heldWord .op 4 a0 1 &&& 0xFFF03FFF; (let old := (streamHeld 0x80100000).rd (Reg.GNT_STR_w1 i); (let t1 := (streamHeld 0x80100000).dropHeld .op 4; (let fixed := (w1 ^^^ old) &&& 0x07F03FFF != 0; (let wasEn := old.getLsbD 31; (let en := w1.getLsbD 31; decide ((fixed && (wasEn || !t1.strDrained i)) || (en && !wasEn && !t1.strDrained i))))))))))) = true ∧
    (decide (awake.reaches (Reg.GNT_SSW_w0 2047)) && (let a0 := Reg.GNT_SSW_w0 2047; (let w1 : Word := awake.heldWord .op 4 a0 1 &&& 0xFFF8FFFF; (let t1 := awake.dropHeld .op 4; (let s' := (t1.wr a0 (0 : Word)).wr (Reg.GNT_SSW_w1 2047) w1; !decide (w1.getLsbD 31 && s'.windowBad 2047)))))) = true ∧
    (decide ((awake.wr (Reg.GNT_SSW_w1 2047) 0x80000000).reaches (Reg.GNT_SSW_w0 2047)) && (let a0 := Reg.GNT_SSW_w0 2047; (let w1 : Word := (awake.wr (Reg.GNT_SSW_w1 2047) 0x80000000).heldWord .op 4 a0 1 &&& 0xFFF8FFFF; (let t1 := (awake.wr (Reg.GNT_SSW_w1 2047) 0x80000000).dropHeld .op 4; (let s' := (t1.wr a0 (0 : Word)).wr (Reg.GNT_SSW_w1 2047) w1; decide (w1.getLsbD 31 && s'.windowBad 2047)))))) = true ∧
    (decide (awake.reaches (match ((.pay 0 1) : PortCfg) with | .pay k _ => Reg.GNT_n_PAY 31 k | .cfg _ => Reg.GNT_n_CFG 31 | .guard _ => Reg.BRX_GUARD 31)) && (match ((.pay 0 1) : PortCfg) with | .pay k v => (let w := v.setWidth 32; decide (w == awake.rd (Reg.GNT_n_PAY 31 k) || (awake.gntSees 31).idlePort 31)) | _ => false)) = true ∧
    (decide ((lightOn.resync 0).reaches (match ((.pay 0 1) : PortCfg) with | .pay k _ => Reg.GNT_n_PAY 31 k | .cfg _ => Reg.GNT_n_CFG 31 | .guard _ => Reg.BRX_GUARD 31)) && (match ((.pay 0 1) : PortCfg) with | .pay k v => (let w := v.setWidth 32; !decide (w == (lightOn.resync 0).rd (Reg.GNT_n_PAY 31 k) || ((lightOn.resync 0).gntSees 31).idlePort 31)) | _ => false)) = true ∧
    (decide (awake.reaches (match ((.cfg 0x100) : PortCfg) with | .pay k _ => Reg.GNT_n_PAY 31 k | .cfg _ => Reg.GNT_n_CFG 31 | .guard _ => Reg.BRX_GUARD 31)) && (match ((.cfg 0x100) : PortCfg) with | .cfg v => (let w := v &&& 0x0F03FF00; decide (fldW w 15 8 == awake.ovh 31 || (awake.gntSees 31).idlePort 31)) | _ => false)) = true ∧
    (decide ((lightOn.resync 0).reaches (match ((.cfg 0x100) : PortCfg) with | .pay k _ => Reg.GNT_n_PAY 31 k | .cfg _ => Reg.GNT_n_CFG 31 | .guard _ => Reg.BRX_GUARD 31)) && (match ((.cfg 0x100) : PortCfg) with | .cfg v => (let w := v &&& 0x0F03FF00; !decide (fldW w 15 8 == (lightOn.resync 0).ovh 31 || ((lightOn.resync 0).gntSees 31).idlePort 31)) | _ => false)) = true ∧
    (decide (awake.reaches (match ((.guard 1) : PortCfg) with | .pay k _ => Reg.GNT_n_PAY 31 k | .cfg _ => Reg.GNT_n_CFG 31 | .guard _ => Reg.BRX_GUARD 31)) && (match ((.guard 1) : PortCfg) with | .guard v => (let w : Word := if v = 0 then 1 else v.setWidth 32; decide (w == awake.rd (Reg.BRX_GUARD 31) || awake.idlePort 31)) | _ => false)) = true ∧
    (decide (lightOn.reaches (match ((.guard 1) : PortCfg) with | .pay k _ => Reg.GNT_n_PAY 31 k | .cfg _ => Reg.GNT_n_CFG 31 | .guard _ => Reg.BRX_GUARD 31)) && (match ((.guard 1) : PortCfg) with | .guard v => (let w : Word := if v = 0 then 1 else v.setWidth 32; !decide (w == lightOn.rd (Reg.BRX_GUARD 31) || lightOn.idlePort 31)) | _ => false)) = true := by decide +kernel

theorem witness_GrantReportsAndPages_effects :
    ((let f := coalesced.fifo 7; (match f.nextSlot with | some (st, item) => !decide (!f.credit) | _ => false))) = true ∧
    (decide (((awake.setFifo 7 { stalled := some 0 }).fifo 7).stalled.isSome)) = true ∧
    ((match (pageOn 0 .opened).page 31 (5 : BitVec 51).toNat with | some g => !decide (g.sealed) | _ => false)) = true ∧
    ((match (if burstOn.up 6 then burstOn.page 31 (5 : BitVec 51).toNat else none : Option _) with | some g => true | _ => false)) = true ∧
    ((match burstOn.page 31 (5 : BitVec 51).toNat with | some g => !decide (!g.sealed) | _ => false)) = true := by decide +kernel

theorem witness_EnginePrograms : fresh9.up 4 = true ∧ 9 ≤ fresh9.rcp.phase ∧ fresh9.bit Reg.MTN_STATUS 0 = false ∧
    fresh9.mtn.loading = false ∧ ∃ crc, storeCrc (imageStore []) ≠ crc :=
  ⟨by decide, by decide, by decide, by decide, storeCrc (imageStore []) + 1, by
    generalize storeCrc (imageStore []) = x
    bv_omega⟩

theorem witness_EnginePrograms_effects :
    (!decide (!fresh9.up 4 || decide (fresh9.rcp.phase < 9) || fresh9.bit Reg.MTN_STATUS 0 || fresh9.mtn.loading) && decide (baseCode (.sig : UcodeCheck) ≠ 0)) = true ∧
    (decide (({ awake with mtn := { loading := true } }).mtn.loading)) = true ∧
    (decide (readyOn.reaches (Reg.MTN_L_CTRL 15)) && !decide (!(1 : Word).getLsbD 0) && !decide (!readyOn.bit Reg.MTN_STATUS 0 || !readyOn.bound 15) && (let t1 := readyOn.setF (Reg.MTN_L_CTRL 15) 1 0 (fldW (1 : Word) 1 0); (let e := t1.eng 15; decide (e.st == .stopped)))) = true ∧
    (decide ((readyOn.setEng 15 { st := .running }).reaches (Reg.MTN_L_CTRL 15)) && !decide (!(1 : Word).getLsbD 0) && !decide (!(readyOn.setEng 15 { st := .running }).bit Reg.MTN_STATUS 0 || !(readyOn.setEng 15 { st := .running }).bound 15) && (let t1 := (readyOn.setEng 15 { st := .running }).setF (Reg.MTN_L_CTRL 15) 1 0 (fldW (1 : Word) 1 0); (let e := t1.eng 15; !decide (e.st == .stopped)))) = true ∧
    (decide (awake.reaches (Reg.MTN_L_CTRL 15)) && !decide (!(1 : Word).getLsbD 0) && decide (!awake.bit Reg.MTN_STATUS 0 || !awake.bound 15)) = true ∧
    (decide (awake.reaches (Reg.MTN_L_CTRL 15)) && !decide ((0 : Word).getLsbD 0)) = true ∧
    (decide (awake.reaches (Reg.MTN_L_MBOX 15)) && (let ty := fun r => awake.fld (Reg.HIF_RING r 0) 30 28; (let ok := !awake.bit (Reg.MTN_L_CTRL 15) 0 && (!(0 : Word).getLsbD 31 || ty (fldW (0 : Word) 25 16) == 5) && (!(0 : Word).getLsbD 30 || ty (fldW (0 : Word) 9 0) == 6); decide (ok)))) = true ∧
    (decide (awake.reaches (Reg.MTN_L_MBOX 15)) && (let ty := fun r => awake.fld (Reg.HIF_RING r 0) 30 28; (let ok := !awake.bit (Reg.MTN_L_CTRL 15) 0 && (!(0x80000000 : Word).getLsbD 31 || ty (fldW (0x80000000 : Word) 25 16) == 5) && (!(0x80000000 : Word).getLsbD 30 || ty (fldW (0x80000000 : Word) 9 0) == 6); !decide (ok)))) = true ∧
    ((match (cmdOn 0x40 progBits).cmdHead 0 0x40 with | some d => (let l := progEng d; (let g := progSeg d; !decide (!(cmdOn 0x40 progBits).bound l) && !decide (((cmdOn 0x40 progBits).ringTenant 0).isSome) && !decide (g = 0) && !decide ((cmdOn 0x40 progBits).progRuns l))) | _ => false)) = true ∧
    ((match (cmdOn 0x41 progBits).cmdHead 0 0x41 with | some d => (let l := progEng d; (let g := progSeg d; (let run := (cmdOn 0x41 progBits).progRuns l; (let c := (cmdOn 0x41 progBits).progCheck 0 d; !decide (c ≠ 0) && !decide (run && g == 0) && !decide (true && ([7] : List Word64).length ≠ descN d) && !decide (!true) && !decide (run))))) | _ => false)) = true ∧
    ((match ((cmdOn 0x41 progBits).setB (Reg.MTN_L_CTRL 0) 0 true).cmdHead 0 0x41 with | some d => (let l := progEng d; (let g := progSeg d; (let run := ((cmdOn 0x41 progBits).setB (Reg.MTN_L_CTRL 0) 0 true).progRuns l; (let c := ((cmdOn 0x41 progBits).setB (Reg.MTN_L_CTRL 0) 0 true).progCheck 0 d; !decide (c ≠ 0) && !decide (run && g == 0) && !decide (true && ([7] : List Word64).length ≠ descN d) && !decide (!true) && decide (run))))) | _ => false)) = true ∧
    ((match (cmdOn 0x42 progBits).cmdHead 0 0x42 with | some d => (let c := (cmdOn 0x42 progBits).progCheck 0 d; !decide (c ≠ 0) && !decide (!true)) | _ => false)) = true := by decide +kernel

theorem witness_EngineFaultsAndEvents : moving.mtn.moving.look 0 15 = 17 := by decide

theorem witness_EngineFaultsAndEvents_effects :
    ((let e := (running 1).eng 0; !decide (!(running 1).bound 0 || e.st == .stopped || e.st == .starting) && (match (running 1).faultCycles 0 (⟨.microword,false⟩ : EngFault).cause with | some cycles => !decide ((⟨.microword,false⟩ : EngFault).lasting) | _ => false))) = true ∧
    ((let e := (running 1).eng 0; !decide (!(running 1).bound 0 || e.st == .stopped || e.st == .starting) && (match (running 1).faultCycles 0 (⟨.microword, true⟩ : EngFault).cause with | some cycles => decide ((⟨.microword, true⟩ : EngFault).lasting) | _ => false))) = true ∧
    (!decide (!awake.up 4) && (match ((.fault 0 0 0) : EngEvent) with | .fault port blk code => !decide (awake.fld (Reg.GNT_n_CFG port) 27 24 ≠ (0 : Fin 16).val) | _ => false)) = true ∧
    (!decide (!awake.up 4) && (match (.tick : EngEvent) with | .tick => true | _ => false)) = true ∧
    (!decide (!awake.up 4) && (match (.intr : EngEvent) with | .intr => true | _ => false)) = true ∧
    ((let e := (running 1).eng 0; (let stalled := (running 1).stalls 0; (let spent := e.tenantCode && e.call.any fun c => c.left == 0; !decide (!(running 1).up 4 || !(running 1).bound 0 || (running 1).flt.fatal || stalled || e.item.isSome || spent || e.st == .stopped || e.st == .starting) && (match e.takeable with | some k => (match (none : Option (BitVec 12)) with | none => true | _ => false) | _ => false))))) = true ∧
    ((let e := longOn.eng 0; (let stalled := longOn.stalls 0; (let spent := e.tenantCode && e.call.any fun c => c.left == 0; !decide (!longOn.up 4 || !longOn.bound 0 || longOn.flt.fatal || stalled || e.item.isSome || spent || e.st == .stopped || e.st == .starting) && (match e.takeable with | some k => (match ((some 0) : Option (BitVec 12)) with | some p => !decide (e.st != .running || !longOn.bit (Reg.MTN_L_CTRL 0) 1) && (match longFrame e with | some f => !decide (f.op ≠ 0x68 && f.op ≠ 0x79 && f.count.toNat < p.toNat) | _ => false) | _ => false) | _ => false))))) = true := by decide +kernel

theorem witness_SisRegisterArithmetic : ∀ op ∈ [0x01, 0x02, 0x03, 0x04, 0x05, 0x06, 0x07, 0x08, 0x09, 0x0A, 0x0B],
    ((running op).steps 0 op ∧ zeroReg ((running op).insn 0) = true ∧ iAux ((running op).insn 0) = 0) ∧
    (atEnd op).runsLast 0 op ∧ zeroReg ((atEnd op).insn 0) = true ∧ iAux ((atEnd op).insn 0) = 0 := by decide +kernel

theorem witness_SisImmediateAndFieldArithmetic :
    (∀ op ∈ [0x21, 0x23, 0x24, 0x25, 0x2B, 0x2F, 0x26, 0x27, 0x28, 0x2E], ∀ s ∈ [running op, atEnd op], zeroImm (s.insn 0) = true ∧ fldW (s.insn 0) 31 6 = 0 ∧ iA (s.insn 0) = 0) ∧
    (∀ op ∈ [0x0C, 0x0D], ∀ s ∈ [running op, atEnd op], zeroReg (s.insn 0) = true ∧ iB (s.insn 0) = 0 ∧ fldW (s.insn 0) 15 12 = 0) ∧
    ∀ op ∈ [0x21, 0x23, 0x24, 0x25, 0x2B, 0x2F, 0x26, 0x27, 0x28, 0x2E, 0x0C, 0x0D], (running op).steps 0 op ∧ (atEnd op).runsLast 0 op := by decide +kernel

theorem witness_SisControl_runs :
    (∀ op ∈ [0x40, 0x41, 0x42, 0x43, 0x44, 0x45, 0x46, 0x48, 0x49, 0x4A], ∀ s ∈ [running op, handling op, tenanted op],
      s.runs 0 op ∧ s.steps 0 op ∧ fldW (s.insn 0) 55 0 = 0 ∧ zeroReg (s.insn 0) = true ∧
      iA (s.insn 0) = 0 ∧ iB (s.insn 0) = 0 ∧ iD (s.insn 0) = 0 ∧ iAux (s.insn 0) = 0 ∧ iOff (s.insn 0) = 0) ∧
    (∀ op ∈ [0x40, 0x42, 0x43, 0x44, 0x45, 0x46, 0x48, 0x49, 0x4A], ((running op).eng 0).tenantCode = false ∧
      ((tenanted op).eng 0).tenantCode = true) ∧ ((handling 0x45).eng 0).evact = true ∧ ((running 0x45).eng 0).evact = false := by
  decide +kernel

theorem witness_SisControl_branches :
    (∀ c ∈ [(0 : Nat), 1, 2, 7], (asks 0x40 c 0).runs 0 0x40 ∧ (asks 0x40 c 0).steps 0 0x40 ∧
      cbCond (iD ((asks 0x40 c 0).insn 0)) 0 0 = [some true, some true, some false, none, none, none, none, none][c % 4 + c / 7]?.join) ∧
    (asks 0x40 0 9).runs 0 0x40 ∧ (0 + iOff ((asks 0x40 0 9).insn 0)) / 512 = 0 ∧
    (asks 0x40 0 600).runs 0 0x40 ∧ (0 + iOff ((asks 0x40 0 600).insn 0)) / 512 ≠ 0 ∧
    (asks 0x41 0 600).runs 0 0x41 ∧ (0 + iOff ((asks 0x41 0 600).insn 0)) / 512 ≠ 0 ∧
    (far 0x42).runs 0 0x42 ∧ iA ((far 0x42).insn 0) = 1 ∧ (((far 0x42).eng 0).get 1).toNat % 4096 / 512 ≠ ((far 0x42).eng 0).pc / 512 := by decide +kernel

theorem witness_SisControl_calls :
    ((owned 0x43 1).steps 0 0x43 ∧ ((owned 0x43 1).eng 0).tenantCode = false ∧ ((owned 0x43 1).eng 0).ten = false ∧
      iAux ((owned 0x43 1).insn 0) = 1 ∧ ((owned 0x43 1).eng 0).owner.look 0 1 ≠ 0) ∧
    (∀ k ∈ [1, 2, 3, 4, 9], (owned 0x49 k).steps 0 0x49 ∧ ((owned 0x49 k).eng 0).tenantCode = false ∧
      iAux ((owned 0x49 k).insn 0) = k ∧ (owned 0x48 k).steps 0 0x48 ∧ iAux ((owned 0x48 k).insn 0) = k) ∧
    (let s := (owned 0x48 4).setEng 0 ((tenanted 0x48).eng 0)
     tenantSys 4 = false ∧ tenantSys 0 = true ∧ (s.eng 0).tenantCode = true) ∧
    (((running 0x4A).dispatch 0).eng 0).pend.getLsbD 1 = true ∧
    (let s := (running 0x4A).setEng 0 { (running 0x4A).eng 0 with pend := 0 }
     s.steps 0 0x4A ∧ (s.eng 0).pend.getLsbD 1 = false) ∧
    (spent.eng 0).call.any (fun c => c.left == 0) = true ∧ ((running 0x44).eng 0).call.any (fun c => c.left == 0) = false := by
  decide +kernel

theorem witness_SisTables :
    (∀ op ∈ [0x60, 0x62], (running op).steps 0 op ∧ zeroTbl ((running op).insn 0) = true ∧ iW ((running op).insn 0) ≤ 3) ∧
    (∀ op ∈ [0x61, 0x63], (running1 op).steps 0 op ∧ zeroTbl ((running1 op).insn 0) = true ∧ iW ((running1 op).insn 0) = 1) ∧
    (∀ op ∈ [0x64, 0x65], (running op).steps 0 op ∧ iW ((running op).insn 0) = 0 ∧
      tblIndex (((running op).dispatch 0).eng 0) ((running op).insn 0) ≤ 511 ∧ (((running op).dispatch 0).eng 0).locked 0 = false) ∧
    (∀ op ∈ [0x60, 0x62], inWindow (((running op).dispatch 0).eng 0) (op == 0x62) 0 = true ∧
      ((running op).dispatch 0).inShare (((running op).dispatch 0).eng 0) (op == 0x62) 0 = true) ∧
    (∀ op ∈ [0x61, 0x63], inWindow (((running1 op).dispatch 0).eng 0) (op == 0x63) 0 = true ∧
      ((running1 op).dispatch 0).inShare (((running1 op).dispatch 0).eng 0) (op == 0x63) 0 = true) ∧
    (∀ op ∈ [0x68, 0x69, 0x6A], (running op).steps 0 op ∧ (((running op).dispatch 0).eng 0).resumes = none) ∧
    (sortFrame (((running 0x68).dispatch 0).eng 0) ((running 0x68).insn 0)).isLeft = true ∧
    (scanFrame false (((running 0x69).dispatch 0).eng 0) ((running 0x69).insn 0)).isLeft = true ∧
    (scanFrame true (((running 0x6A).dispatch 0).eng 0) ((running 0x6A).insn 0)).isLeft = true := by decide +kernel

theorem witness_SisTables_traps :
    (∀ op ∈ [0x60, 0x61, 0x62, 0x63], (tenanted op).runs 0 op ∧ zeroTbl ((tenanted op).insn 0) = true ∧
      inWindow ((tenanted op).eng 0) (decide (0x62 ≤ op)) 0 = true ∧ (tenanted op).inShare ((tenanted op).eng 0) (decide (0x62 ≤ op)) 0 = false) ∧
    (∀ op ∈ [0x60, 0x61, 0x62, 0x63], let s := (running op).setEng 0 { (running op).eng 0 with cwb := 0 }
      s.runs 0 op ∧ inWindow (s.eng 0) (decide (0x62 ≤ op)) 0 = false) ∧
    (∀ op ∈ [0x68, 0x69, 0x6A], let s := (running op).setEng 0 { (running op).eng 0 with susp := some { pc := 0, op := op } }
      s.steps 0 op ∧ ((s.dispatch 0).eng 0).resumes = some { pc := 0, op := op }) := by decide +kernel

theorem witness_SisPorts_reports :
    (∀ op ∈ [0x70, 0x71], ∀ s ∈ [running op, withItem op], s.steps 0 op ∧ zeroReg (s.insn 0) = true ∧ iA (s.insn 0) = 0 ∧
      iB (s.insn 0) = 0 ∧ iAux (s.insn 0) = 0 ∧ ((s.dispatch 0).eng 0).tenantCode = false ∧
      (s.dispatch 0).fld (Reg.GNT_RF_CFG 0) 19 16 = 0 ∧ ((s.dispatch 0).eng 0).item = none) ∧
    (let f := ((withItem 0x70).dispatch 0).fifo 0; f.stalled ≠ some 0 ∧ bestItem f.items = some 5) ∧
    (let f := ((running 0x70).dispatch 0).fifo 0; f.stalled ≠ some 0 ∧ bestItem f.items = none) ∧
    (let s := (running 0x70).setFifo 0 { stalled := some 0 }
     s.steps 0 0x70 ∧ (s.fifo 0).stalled = some 0 ∧ bestItem (s.fifo 0).items = none) ∧
    (let s := edit (running 0x70) fun e => { e with item := some 7 }
     s.steps 0 0x70 ∧ ((s.dispatch 0).eng 0).item = some 7) ∧
    (let s := (running 0x70).setF (Reg.GNT_RF_CFG 0) 19 16 3
     s.runs 0 0x70 ∧ (s.dispatch 0).fld (Reg.GNT_RF_CFG 0) 19 16 ≠ 0) := by decide +kernel

theorem witness_SisPorts_mail :
    (let t := mailTx.dispatch 0;
      mailTx.steps 0 0x74 ∧ zeroReg (mailTx.insn 0) = true ∧ iA (mailTx.insn 0) = 28 ∧ (t.eng 0).tenantCode = false ∧
      t.txRing 0 = some 3 ∧ t.ringType 3 = 6 ∧ t.ringRoom 3 6 = true) ∧
    (let t := mailRx.dispatch 0;
      mailRx.steps 0 0x75 ∧ zeroReg (mailRx.insn 0) = true ∧ iA (mailRx.insn 0) = 28 ∧ iD (mailRx.insn 0) = 0 ∧
      iAux (mailRx.insn 0) = 0 ∧ (t.eng 0).st = .running ∧
      (t.eng 0).tenantCode = false ∧ t.rxRing 0 = some 3 ∧ t.ringType 3 = 5 ∧
      (t.hif.fetched.find? fun d => d.ring == 3) = some { ring := 3, idx := 0, data := 7 }) := by decide +kernel

theorem witness_SisPorts_mail_status :
    (let s := mailTx.wr (Reg.MTN_L_MBOX 0) 0
     s.steps 0 0x74 ∧ (s.dispatch 0).txRing 0 = none ∧ (mailOn 0x74 5 0x40000003).steps 0 0x74 ∧
      ((mailOn 0x74 5 0x40000003).dispatch 0).ringType 3 = 5 ∧ (mailFull.steps 0 0x74 ∧ (mailFull.dispatch 0).txRing 0 = some 3 ∧
      (mailFull.dispatch 0).ringType 3 = 6 ∧ (mailFull.dispatch 0).ringRoom 3 6 = false)) ∧
    (let s := mailRx.wr (Reg.MTN_L_MBOX 0) 0
     s.steps 0 0x75 ∧ (s.dispatch 0).rxRing 0 = none ∧ (mailOn 0x75 5 0x80030000).steps 0 0x75 ∧
      ((mailOn 0x75 5 0x80030000).dispatch 0).rxRing 0 = some 3 ∧
      (((mailOn 0x75 5 0x80030000).dispatch 0).hif.fetched.find? fun d => d.ring == 3) = none) ∧
    (let s := edit (mailOn 0x75 5 0x80030000) fun e => { e with prog := [(0, BitVec.ofNat 64 (2 ^ 56 * 0x75 + 2 ^ 46 * 28 + 1))] }
     s.steps 0 0x75 ∧ iAux (s.insn 0) % 2 = 1 ∧ (s.dispatch 0).rxRing 0 = some 3 ∧
      ((s.dispatch 0).hif.fetched.find? fun d => d.ring == 3) = none) ∧
    (let s := edit mailRx fun e => { e with st := .waitMail }
     let t := s.dispatch 0
     s.engReady 0 = true ∧ (t.eng 0).st = .waitMail ∧ (t.eng 0).tenantCode = false ∧ ((t.eng 0).pc + 1) % 512 ≠ 0 ∧
      t.rxRing 0 = some 3 ∧ t.ringType 3 = 5 ∧
      (t.hif.fetched.find? fun d => d.ring == 3) = some { ring := 3, idx := 0, data := 7 }) := by decide +kernel

theorem witness_SisPorts_calendar :
    (∀ op ∈ [0x78, 0x79, 0x7A], (running op).steps 0 op ∧ zeroCal ((running op).insn 0) = true ∧ iD ((running op).insn 0) = 0 ∧
      entOk ((((running op).dispatch 0).eng 0).get 0) = true ∧ (((running op).dispatch 0).eng 0).resumes = none ∧
      (((running op).dispatch 0).eng 0).tenantCode = false) ∧
    (caliFrame (((running 0x79).dispatch 0).eng 0) ((running 0x79).insn 0)).isLeft = true ∧
    (let s := edit (running 0x79) fun e => { e with susp := some { pc := 0, op := 0x79 } }
     s.steps 0 0x79 ∧ ((s.dispatch 0).eng 0).resumes = some { pc := 0, op := 0x79 }) ∧
    (let s := edit (asks 0x78 1 0) fun e => { e with g := [(1, 32)] }
     s.runs 0 0x78 ∧ zeroCal (s.insn 0) = true ∧ entOk (((s.dispatch 0).eng 0).get (iD (s.insn 0))) = false) ∧
    (tenanted 0x7A).runs 0 0x7A ∧ (((tenanted 0x7A).dispatch 0).eng 0).tenantCode = true := by decide +kernel

theorem witness_TsuRateAndSlew : awake.reaches Reg.TSU_INC_NS ∧ awake.reaches Reg.TSU_SLEW_TICKS ∧
    slewing.tsu.slew = some 6871947673 := by decide

theorem witness_TsuStepAndRearm : awake.reaches Reg.TSU_STEP ∧ awake.reaches Reg.TSU_REARM ∧
    (stepBack.tsuUp = true ∧ stepBack.tsu.step = true ∧
      let h := stepBack.holdGain (stepBack.tsu.slew.getD stepBack.tsu.inc)
      h.setUnits < h.clk.units) ∧
    (stepOn.tsuUp = true ∧ stepOn.tsu.step = true ∧
      let h := stepOn.holdGain (stepOn.tsu.slew.getD stepOn.tsu.inc)
      ¬ h.setUnits < h.clk.units) := by decide

theorem witness_TsuReferenceAndFrameTick : awake.tsuUp = true := by decide

theorem witness_TsuCompareUnits : awake.reaches (Reg.TSU_CMP_TGT_HI 15) ∧
    (cmpOn.tsuUp = true ∧ cmpOn.bit (Reg.TSU_CMP_CTRL 15) 31 = true ∧ cmpOn.past40 (cmpOn.cmpTarget 15) = true ∧
     cmpOn.bit (Reg.TSU_CMP_CTRL 15) 30 = false ∧ cmpOn.bit (Reg.TSU_CMP_CTRL 15) 29 = false ∧
     cmpOn.bit (Reg.TSU_CMP_CTRL 15) 28 = false) := by decide

theorem witness_TsuOutputs : awake.reaches (Reg.TSU_PPO_PERIOD 1) ∧ awake.reaches (Reg.TSU_PPO_WIDTH 1) ∧
    awake.reaches (Reg.TSU_PPO_OFS 1) ∧ awake.reaches Reg.TSU_CTRL ∧
    (outsOn.tsuUp = true ∧ outsOn.flt.fatal = false ∧ outsOn.bit (Reg.TSU_PPO_CTRL 1) 31 = true ∧
     outsOn.bit (Reg.TSU_CKO_CTRL 1) 31 = true ∧ outsOn.outRel = false ∧ (outsOn.setB Reg.RCP_STATUS 7 true).outRel = true) ∧
    (let q := (outsOn.setF Reg.TSU_TOD_CTRL 31 30 3).setB (Reg.TSU_PPO_CTRL 0) 31 true
     q.bit (Reg.TSU_PPO_CTRL 0) 31 = true ∧ q.bit Reg.TSU_TOD_CTRL 31 = true ∧ q.bit Reg.TSU_TOD_CTRL 30 = true ∧
     ({ q with tsu := { q.tsu with tx := [1] } } : State).tsu.tx ≠ []) ∧
    (outsOn.bit Reg.TSU_CTRL 1 = false ∧ outsOn.bit Reg.TSU_STATUS 3 = true) := by decide

theorem witness_TsuInputsAndMateTime : awake.bit (Reg.TSU_PPI_CTRL 1) 31 = false ∧
    (todOn.tsuUp = true ∧ todOn.bit (Reg.TSU_PPI_CTRL 1) 31 = true ∧ (todOn.advanceTo 5).tsu.ppsIn.look none 1 = none ∧
      (todOn.advanceTo 5).bit (Reg.TSU_PPI_CTRL 1) 0 = false ∧ todOn.bit (Reg.TSU_PPI_CTRL 1) 29 = false ∧
      (({ todOn with tsu := { todOn.tsu with ppsIn := [(1, some 0)] } } : State).advanceTo 5).tsu.ppsIn.look none 1 = some 0) ∧
    awake.reaches Reg.TSU_TOD_TX ∧ todOn.bit Reg.TSU_TOD_CTRL 31 = true ∧
    (mateOn.bit Reg.TSU_MATE_CTRL 31 = true ∧ mateOn.mateState = 2) ∧
    (mateOn.mlk.control.find? (fun c => c.1.head? == some 1) = some (timeBlock 7, 0, 0) ∧
      mateOn.tsu.sent.contains (joinBytesBE (((timeBlock 7).drop 11).take 9)) = true ∧
      mateOff.mlk.control.find? (fun c => c.1.head? == some 1) = some (timeBlock 9, 0, 0) ∧
      mateOff.tsu.sent.contains (joinBytesBE (((timeBlock 9).drop 11).take 9)) = false) ∧
    todOn.fld (Reg.TSU_n_TOD_CTRL 31) 31 30 = 1 := by decide +kernel

theorem witness_DfrSettingsAndHolds : awake.reaches (Reg.DFR_n_CTRL 31) := by decide

theorem witness_DfrSettingsAndHolds_effects :
    (decide (awake.reaches Reg.DFR_CTRL) && !decide (awake.anyRun)) = true ∧
    (decide (framing.reaches Reg.DFR_CTRL) && decide (framing.anyRun)) = true ∧
    (decide (awake.reaches Reg.DFR_FT_OFFSET) && !decide (awake.anyRun || decide (124999 < fldW (0 : Word) 16 0))) = true ∧
    (decide (framing.reaches Reg.DFR_FT_OFFSET) && decide (framing.anyRun || decide (124999 < fldW (0 : Word) 16 0))) = true ∧
    ((let p := ((awake.setB (Reg.DFR_n_STATUS 31) 1 true).setF (Reg.DFR_n_CTRL 31) 19 14 0).dport 31; decide (((awake.setB (Reg.DFR_n_STATUS 31) 1 true).setF (Reg.DFR_n_CTRL 31) 19 14 0).holding 31 && decide (((awake.setB (Reg.DFR_n_STATUS 31) 1 true).setF (Reg.DFR_n_CTRL 31) 19 14 0).fld (Reg.DFR_n_CTRL 31) 19 14 ≤ p.held) && !p.expired))) = true ∧
    ((let p := awake.dport 31; !decide (awake.holding 31 && decide (awake.fld (Reg.DFR_n_CTRL 31) 19 14 ≤ p.held) && !p.expired))) = true ∧
    (decide (framing.dfrRun 31)) = true ∧
    (!decide (awake.dfrRun 31)) = true := by decide +kernel

theorem witness_DfrFramesAndMaps_effects :
    (decide (lightOn.txen 31)) = true ∧
    (!decide (awake.txen 31)) = true ∧
    (decide (!awake.dfrRun 31 || !awake.txen 31)) = true ∧
    (!decide (!shutOn.dfrRun 31 || !shutOn.txen 31) && decide ((shutOn.tport 31).shutting)) = true ∧
    (!decide (!framing.dfrRun 31 || !framing.txen 31) && !decide ((framing.tport 31).shutting)) = true := by decide +kernel

theorem witness_UdfCodewordsAndReassembly_effects :
    ((match awake.burst? 31 (0 : BitVec 51).toNat 511 with | none => true | _ => false)) = true ∧
    ((match deframing.burst? 31 (5 : BitVec 51).toNat 0 with | some u => (let ok := deframing.correctable 31 ((some 0) : Option (Fin 16)); (let size := min (deframing.cwInfo 31) (u.len - u.pos); decide (size = 0 || (ok && ([] : List Byte).length != size)))) | _ => false)) = true ∧
    ((match deframing.burst? 31 (5 : BitVec 51).toNat 0 with | some u => (let ok := deframing.correctable 31 ((some 0) : Option (Fin 16)); (let size := min (deframing.cwInfo 31) (u.len - u.pos); !decide (size = 0 || (ok && ([0] : List Byte).length != size)) && decide (ok))) | _ => false)) = true ∧
    ((match deframing.burst? 31 (5 : BitVec 51).toNat 0 with | some u => (let ok := deframing.correctable 31 (none : Option (Fin 16)); (let size := min (deframing.cwInfo 31) (u.len - u.pos); !decide (size = 0 || (ok && ([] : List Byte).length != size)) && !decide (ok))) | _ => false)) = true ∧
    ((match (awake.setUport 31 { bursts := [{ frame := 5, k := 0 }] }).burst? 31 (5 : BitVec 51).toNat 0 with | some u => decide (u.len ≤ u.pos) | _ => false)) = true ∧
    ((match deframing.burst? 31 (5 : BitVec 51).toNat 0 with | some u => !decide (u.len ≤ u.pos) | _ => false)) = true ∧
    ((match awake.partial? (0 : BitVec 16).toNat with | none => true | _ => false)) = true ∧
    ((match gathering.partial? (0 : BitVec 16).toNat with | some p => (let n := strPort (0 : BitVec 16).toNat; (let busy := (gathering.uport n).bursts.any fun u => u.segs.any fun g => g.kind == 2 && g.stream == (0 : BitVec 16).toNat; (let passed := (gathering.upNow n + 2 ^ 51 - p.frame) % 2 ^ 51; decide (!busy && decide (gathering.fld (Reg.UDF_n_CTRL n) 15 8 < passed) && decide (passed < 2 ^ 50))))) | _ => false)) = true ∧
    ((match (gathering.setF (Reg.UDF_n_CTRL 0) 15 8 9).partial? (0 : BitVec 16).toNat with | some p => (let n := strPort (0 : BitVec 16).toNat; (let busy := ((gathering.setF (Reg.UDF_n_CTRL 0) 15 8 9).uport n).bursts.any fun u => u.segs.any fun g => g.kind == 2 && g.stream == (0 : BitVec 16).toNat; (let passed := ((gathering.setF (Reg.UDF_n_CTRL 0) 15 8 9).upNow n + 2 ^ 51 - p.frame) % 2 ^ 51; !decide (!busy && decide ((gathering.setF (Reg.UDF_n_CTRL 0) 15 8 9).fld (Reg.UDF_n_CTRL n) 15 8 < passed) && decide (passed < 2 ^ 50))))) | _ => false)) = true := by decide +kernel

theorem witness_TceEntries : awake.reaches (Reg.TCE_CIRC_w3 2047) ∧ awake.reaches (Reg.TCE_PW_w0 2047) ∧
    awake.reaches Reg.TCE_SWAP := by decide

theorem witness_TceAlignment : hunting.align 4095 = 1 ∧
    (presync.align 4095 = 2 ∧ (presync.tend 4095).window (presync.tend 4095).pos 32 = some alignWord) ∧
    seeking.align 4095 = 3 ∧ (awake.align 0 ≠ 1 ∧ awake.align 0 ≠ 2 ∧ awake.align 0 ≠ 3 ∧ awake.align 0 ≠ 4) ∧
    (awake.tend 0).window (awake.tend 0).pos (awake.frameBits 0) = none ∧
    (inSync.align 4095 = 4 ∧
      (inSync.tend 4095).window (inSync.tend 4095).pos (inSync.frameBits 4095) = some (List.replicate 360 false) ∧
      headWord (bytesOf (List.replicate 360 false)) = false ∧ 3 ≤ (inSync.tend 4095).badWord) := by decide +kernel

theorem witness_TceCarrierFrame : inSync1.align 4095 = 4 ∧
    (inSync1.tend 4095).window (inSync1.tend 4095).pos (inSync1.frameBits 4095) =
      some (alignWord ++ List.replicate 328 false) ∧
    (if headWord (bytesOf (alignWord ++ List.replicate 328 false)) then 0 else (inSync1.tend 4095).badWord + 1) < 4 := by decide +kernel

theorem witness_TcePseudowires : awake.pwEnd 0 = none ∧
    (pwIdle.pwEnd 2047 = some 4095 ∧ pwIdle.pwPayload 4095 (pwIdle.pwPlen 2047) = none) ∧
    (∃ s1, pwSends.pwEnd 2047 = some 4095 ∧ pwSends.pwPayload 4095 (pwSends.pwPlen 2047) = some (ones 32, true, s1)) ∧
    (∃ pk, (pwGot.tce.packets.find? fun p => p.1 == (2047 : Fin 2048).val) = some pk ∧
      (({ pwGot with tce := { pwGot.tce with packets := pwGot.tce.packets.erase pk } } : State).free pk.2.2.buf 0x3A).pwEnd
        2047 = some 4095) ∧
    (∃ pk, (pwStray.tce.packets.find? fun p => p.1 == (2047 : Fin 2048).val) = some pk ∧
      (({ pwStray with tce := { pwStray.tce with packets := pwStray.tce.packets.erase pk } } : State).free pk.2.2.buf
        0x3A).pwEnd 2047 = none) :=
  ⟨by decide, by decide, ⟨pwSends, by decide⟩, ⟨_, rfl, by decide⟩, ⟨_, rfl, by decide⟩⟩

theorem witness_TcePerformance : awake.tsuUp = true ∧ awake.pmEn = false ∧ monitoring.pmEn = true ∧
    (awake.tce.bins.look none 5 = none ∧ 900 = awake.binOf false 900 ∧ 901 ≠ awake.binOf false 901 ∧ 901 ≠ awake.tce.stepTo) ∧
    (let s : State := { awake with tce := { awake.tce with bins := [(5, some 1800)] } }
     s.tce.bins.look none 5 = some 1800) := by decide

theorem witness_ClassifierEntriesAndPasses : awake.reaches (Reg.PRS_SEL_w0 255) ∧
    awake.reaches (Reg.PRS_p_CTRL 63) := by decide

theorem witness_FdbLearningAndCommands : awake.reaches Reg.FDB_HASH_SEED ∧
    awake.reaches (Reg.FDB_FID ((0 : BitVec 12)).toNat) ∧
    awake.reaches Reg.FDB_CMD := by decide

theorem witness_BufferPools : awake.reaches Reg.BPM_CTRL ∧
    awake.reaches (if true then Reg.BPM_COUNT 7 else Reg.BPM_CFG 7) := by decide

theorem witness_TmgShapersAndGates : awake.reaches Reg.TMG_SCMD ∧
    awake.reaches (Reg.TMG_G_CTRL 55) := by decide

theorem witness_TmgQueuesAndNodes : awake.reaches ((qnodeReg ((.queue 69631))).getD Reg.TMG_CTRL) ∧
    awake.reaches (Reg.TMG_GRP 511) := by decide

theorem witness_CipherKeysAndAssociations : awake.reaches Reg.CRY_CMD ∧
    awake.reaches (Reg.CRY_GSC 511) ∧
    awake.reaches (Reg.CRY_TXSC_w0 255) := by decide

theorem witness_UplinkPortsAndLanes : awake.reaches (Reg.UPL_Q 5) ∧
    awake.reaches (Reg.UPL_u_CTRL 23) := by decide

theorem witness_UplinkFramesAndGroups_effects :
    ((let t1 := awake.advanceTo (0 : Word64).toNat; decide (t1.upState 23 ≠ 3) && !decide (true && t1.upl.cutting.getLsbD 23))) = true ∧
    ((let t1 := linkCut.advanceTo (0 : Word64).toNat; decide (t1.upState 23 ≠ 3) && decide (true && t1.upl.cutting.getLsbD 23))) = true ∧
    ((let t1 := linkUp.advanceTo (0 : Word64).toNat; !decide (t1.upState 23 ≠ 3) && decide (true || true))) = true ∧
    ((let t1 := linkUp.advanceTo (0 : Word64).toNat; (let len := ([] : List Byte).length + 4; !decide (t1.upState 23 ≠ 3) && !decide (false || false) && decide (len < 64)))) = true ∧
    ((let t1 := (linkUp.setF (Reg.UPL_u_CTRL 23) 14 0 64).advanceTo (0 : Word64).toNat; (let len := ((List.replicate 64 0) : List Byte).length + 4; !decide (t1.upState 23 ≠ 3) && (let t2 := t1.leaveQuiet; !decide (false || false) && !decide (len < 64) && decide (t2.fld (Reg.UPL_u_CTRL 23) 14 0 < len))))) = true ∧
    ((let t1 := linkUp.advanceTo (0 : Word64).toNat; (let type := joinBytesBE ((((List.replicate 12 0 ++ [0x88, 8] ++ List.replicate 64 0) : List Byte).drop 12).take 2); (let len := ((List.replicate 12 0 ++ [0x88, 8] ++ List.replicate 64 0) : List Byte).length + 4; !decide (t1.upState 23 ≠ 3) && (let t2 := t1.leaveQuiet; !decide (false || false) && !decide (len < 64) && !decide (t2.fld (Reg.UPL_u_CTRL 23) 14 0 < len) && decide (type = 0x8808)))))) = true ∧
    ((let t1 := linkUp.advanceTo (0 : Word64).toNat; (let type := joinBytesBE ((((List.replicate 12 0 ++ [0x88, 0xE5] ++ List.replicate 64 0) : List Byte).drop 12).take 2); (let len := ((List.replicate 12 0 ++ [0x88, 0xE5] ++ List.replicate 64 0) : List Byte).length + 4; !decide (t1.upState 23 ≠ 3) && (let t2 := t1.leaveQuiet; !decide (false || false) && !decide (len < 64) && !decide (t2.fld (Reg.UPL_u_CTRL 23) 14 0 < len) && !decide (type = 0x8808) && (let t3 := (t2.add64 (Reg.UPL_u_CNT_RX_FRAMES_LO 23) 1).add64 (Reg.UPL_u_CNT_RX_BYTES_LO 23) len; (match t3.openFrame 23 ((List.replicate 12 0 ++ [0x88, 0xE5] ++ List.replicate 64 0) : List Byte) with | .drop c => true | _ => false))))))) = true ∧
    ((let t1 := linkUp.advanceTo (0 : Word64).toNat; (let type := joinBytesBE ((((List.replicate 64 0) : List Byte).drop 12).take 2); (let len := ((List.replicate 64 0) : List Byte).length + 4; !decide (t1.upState 23 ≠ 3) && (let t2 := t1.leaveQuiet; !decide (false || false) && !decide (len < 64) && !decide (t2.fld (Reg.UPL_u_CTRL 23) 14 0 < len) && !decide (type = 0x8808) && (let t3 := (t2.add64 (Reg.UPL_u_CNT_RX_FRAMES_LO 23) 1).add64 (Reg.UPL_u_CNT_RX_BYTES_LO 23) len; (match t3.openFrame 23 ((List.replicate 64 0) : List Byte) with | .pass d sa => true | _ => false))))))) = true ∧
    (decide (awake.reaches (Reg.UPL_GRP 23)) && (let bad := (List.range 24).any fun u => (0 : Word).getLsbD u && (awake.portLanes u == 0 || (List.range 24).any fun h => h != (23 : Fin 24).val && awake.bit (Reg.UPL_GRP h) 31 && awake.bit (Reg.UPL_GRP h) u); !decide (bad))) = true ∧
    (decide (awake.reaches (Reg.UPL_GRP 23)) && (let bad := (List.range 24).any fun u => (1 : Word).getLsbD u && (awake.portLanes u == 0 || (List.range 24).any fun h => h != (23 : Fin 24).val && awake.bit (Reg.UPL_GRP h) 31 && awake.bit (Reg.UPL_GRP h) u); decide (bad))) = true ∧
    (decide (awake.reaches (Reg.UPL_PG 23)) && (let n := ((List.range 24).filter (awake.bit (Reg.UPL_GRP 23))).length; (let want := if (0 : Word).getLsbD 30 then 1 else 2; !decide ((0 : Word).getLsbD 31 && n != want)))) = true ∧
    (decide (awake.reaches (Reg.UPL_PG 23)) && (let n := ((List.range 24).filter (awake.bit (Reg.UPL_GRP 23))).length; (let want := if (0x80000000 : Word).getLsbD 30 then 1 else 2; decide ((0x80000000 : Word).getLsbD 31 && n != want)))) = true := by decide +kernel

theorem witness_MateLink : awake.reaches Reg.MLK_CTRL ∧ awake.reaches (Reg.MLK_l_CMD 7) := by decide

theorem witness_MateLink_control :
    (let s := mating; s.reaches Reg.MLK_CTRL ∧ s.mateRole = true ∧ s.bit Reg.MLK_CTRL 31 = true ∧ s.bit Reg.MLK_CTRL 30 = true ∧
      s.mateState = 1) ∧
    (let s := mating.setF Reg.MLK_STATUS 2 0 0; s.mateRole = true ∧ s.mateState ≠ 1) ∧ awake.mateRole = false ∧
    (let w : Word := 0xC00000FF &&& 0xC00000FF; w.getLsbD 31 = true ∧ w.getLsbD 30 = true) ∧
    (let w : Word := setBitW 0xC00000FF 30 false &&& 0xC00000FF; w.getLsbD 31 = true ∧ w.getLsbD 30 = false) ∧
    (let w : Word := 0xFF &&& 0xC00000FF; w.getLsbD 31 = false) := by decide +kernel

theorem witness_ProtectionCommandsAndDetection : awake.reaches (Reg.TPA_PROT 31) ∧
    awake.reaches (Reg.TPA_PCMD 31) := by decide

theorem witness_RegisterAccess_writes :
    (let A := Reg.OBS_SMP_MASK
     awake.up 17 = true ∧ awake.windowShut A = false ∧ (regAt A).isSome = true ∧ awake.unusedLane A = false ∧ heldAt A = none ∧
      (awake.guardWrite A 5).isNone = true ∧ A % 4 = 0) ∧
    (let A := Reg.GNT_STR_w1 7
     awake.windowShut A = false ∧ (regAt A).isSome = true ∧ awake.unusedLane A = false ∧ heldAt A = some (4, Reg.GNT_STR_w0 7, 1)) ∧
    (setAddr 0x2004 = some (Reg.FDB_CMD + 4) ∧ (regAt (Reg.FDB_CMD + 4)).isSome = true ∧ awake.windowShut (Reg.FDB_CMD + 4) = false ∧
      (awake.guardSet (.t 3) (Reg.FDB_CMD + 4) 5).isNone = true) ∧
    (let s := (awake.setB (Reg.HIF_GRP 0) 31 true).setF (Reg.HIF_GRP 0) 30 27 3
     s.up 17 = true ∧ s.slotGroup 3 0 = some 0 ∧ heldAt (Reg.HIF_RING 0 1) = some (18, Reg.HIF_RING 0 0, 1)) := by decide +kernel

theorem witness_RegisterAccess_refused :
    awake.up 17 = true ∧ awake.windowShut 0x30000 = false ∧ regAt 0x30000 = none ∧ awake.tenListed 3 0xC = false ∧
    awake.tenListed 3 0 = true ∧ awake.tenListed 3 0x8000 = false ∧
    (tsuDown.up 17 = true ∧ tsuDown.windowShut Reg.TSU_STEP = true) ∧
    (let s := { awake with rcp := { awake.rcp with inReset := 0x400 } }
     s.up 17 = true ∧ setAddr 0x2000 = some Reg.FDB_CMD ∧ s.windowShut Reg.FDB_CMD = true) := by decide +kernel

theorem witness_RegisterAccess_reads :
    (groupAt (Reg.GNT_STR_w0 3) = (0, [Reg.GNT_STR_w1 3]) ∧ (regAt (Reg.GNT_STR_w0 3)).isSome = true ∧
      awake.windowShut (Reg.GNT_STR_w0 3) = false ∧ groupAt (Reg.GLB_CNT_RSV) = (0, []) ∧ (regAt Reg.GLB_CNT_RSV).isSome = true) ∧
    (let s := ((awake.setB (Reg.TCE_CIRC_w3 0) 28 true).setF (Reg.TCE_CIRC_w3 0) 27 24 3).setTen 0x35000 0x40000000
     s.up 17 = true ∧ (s.twObject 3 4 0).isSome = true ∧ s.ten 0x35000 = 0x40000000) ∧
    (groupAt (Reg.HIF_r_CNT_DONE_LO 1023) = (0, [Reg.HIF_r_CNT_DONE_LO 1023 + 4]) ∧ awake.windowShut (Reg.HIF_r_CNT_DONE_LO 1023) = false) := by decide +kernel

theorem witness_HostRingsAndLink : awake.reaches (Reg.HIF_GRP 63) ∧ awake.reaches (Reg.HIF_RING 1023 0) := by decide

theorem witness_HostRingsAndLink_bell :
    (let s := awake.wr (Reg.HIF_RING 0 0) 0xB3000000
     s.up 17 = true ∧ s.ringOwner 0 = .op ∧ s.ringOwner 0 ≠ .t 3 ∧ s.ringType 0 ≠ 0 ∧ fldW (5 : Word) 31 17 = 0 ∧
      fldW (5 : Word) 16 0 ≤ s.ringSize 0 ∧ s.ringSize 0 < fldW (65 : Word) 16 0 ∧ s.fld Reg.OBS_TRC_CTRL 27 18 = 0 ∧
      (s.setF Reg.OBS_TRC_CTRL 27 18 9).fld Reg.OBS_TRC_CTRL 27 18 ≠ 0) ∧
    fldW (0x80000000 : Word) 31 17 ≠ 0 := by decide +kernel

theorem witness_HostRingsAndLink_commit :
    (let t := awake.dropHeld .op 18
     awake.reaches (Reg.HIF_RING 0 0) ∧ t.ringOwner 0 = .op ∧ t.ringOwner 0 ≠ .t 3 ∧
      t.ctxBad 0 (awake.ctxWords .op 0 0) = true ∧ t.ctxBad 0 (awake.ctxWords .op 0 0xB3000000) = false ∧
      (t.rd (Reg.HIF_RING 0 0)).getLsbD 31 = false ∧ ((awake.ctxWords .op 0 0xB3000000).getD 0 0).getLsbD 31 = true ∧
      t.ctxBad 0 (awake.ctxWords .op 0 0x33000000) = false ∧ ((awake.ctxWords .op 0 0x33000000).getD 0 0).getLsbD 31 = false) ∧
    (let s := awake.wr (Reg.HIF_RING 0 0) 0xB3000000
     let t := s.dropHeld .op 18
     t.ctxBad 0 (s.ctxWords .op 0 0x33000000) = false ∧ (t.rd (Reg.HIF_RING 0 0)).getLsbD 31 = true ∧
      t.ctxBad 0 (s.ctxWords .op 0 0xB4000000) = true) ∧
    (let s := (awake.wr (Reg.HIF_RING 0 0) 0xB3000000).wr (Reg.HIF_GRP 0) 0x98000000
     let t := s.dropHeld .op 18
     t.ringOwner 0 = .t 3 ∧ (s.ctxWords .op 0 0x33000000).getD 0 0 = setBitW (t.rd (Reg.HIF_RING 0 0)) 31 false) := by decide +kernel

theorem witness_HostPackets_unread :
    ∃ w d, pooled.bpm.wants.find? (fun w => w.req == 7) = some w ∧ w.frm.desc = some d ∧ w.frm.dest = .queue 5 ∧ w.frm.pkt.data = [] ∧
      (({ pooled with bpm := { pooled.bpm with wants := pooled.bpm.wants.erase w } } : State).alloc 7 w.len w.up 0 false).1 = .inl 0 :=
  ⟨_, _, rfl, rfl, rfl, rfl, by decide +kernel⟩

theorem witness_FaultRegisters : awake.reaches Reg.FLT_FFR_INFO ∧
    awake.reaches Reg.FLT_CTRL := by decide

theorem witness_FaultRegisters_effects :
    (decide ((awake.wr Reg.FLT_STATUS_LO 0x400000).reaches (fltHalf true)) && (let a := fltHalf true; (let s1 := (awake.wr Reg.FLT_STATUS_LO 0x400000).wr a ((awake.wr Reg.FLT_STATUS_LO 0x400000).rd a &&& ~~~((0 : Word) &&& ~~~(awake.wr Reg.FLT_STATUS_LO 0x400000).activeHalf true)); decide (s1.latched 22)))) = true ∧
    (decide (awake.reaches (fltHalf true)) && (let a := fltHalf true; (let s1 := awake.wr a (awake.rd a &&& ~~~((0 : Word) &&& ~~~awake.activeHalf true)); !decide (s1.latched 22)))) = true ∧
    (decide (awake.reaches (Reg.FLT_SRC 0)) && (let a := Reg.FLT_SRC 0; decide (awake.bit a 5 || (awake.bit a 4 && decide ((0 : Fin 4).val < 2)) || awake.fld a 1 0 = (0 : Fin 4).val))) = true ∧
    (decide (({ awake with flt := { lock := true } } : State).reaches (Reg.FLT_SRC 25)) && (let a := Reg.FLT_SRC 25; !decide (({ awake with flt := { lock := true } } : State).bit a 5 || (({ awake with flt := { lock := true } } : State).bit a 4 && decide ((0 : Fin 4).val < 2)) || ({ awake with flt := { lock := true } } : State).fld a 1 0 = (0 : Fin 4).val) && decide (({ awake with flt := { lock := true } } : State).flt.lock))) = true ∧
    (decide (awake.reaches (Reg.FLT_SRC 25)) && (let a := Reg.FLT_SRC 25; !decide (awake.bit a 5 || (awake.bit a 4 && decide ((0 : Fin 4).val < 2)) || awake.fld a 1 0 = (0 : Fin 4).val) && !decide (awake.flt.lock))) = true ∧
    (decide (awake.reaches Reg.FLT_INJ) && decide (51 < (63 : Fin 64).val)) = true ∧
    (decide (awake.reaches Reg.FLT_INJ) && !decide (51 < (0 : Fin 64).val)) = true ∧
    (decide (({ awake with flt := { clrKey := true } } : State).reaches Reg.FLT_RCV_CLR) && decide (({ awake with flt := { clrKey := true } } : State).flt.clrKey) && decide ((0x3C : Word) = 0x3C && !false)) = true ∧
    (decide (({ awake with flt := { clrKey := true } } : State).reaches Reg.FLT_RCV_CLR) && decide (({ awake with flt := { clrKey := true } } : State).flt.clrKey) && !decide ((0 : Word) = 0x3C && !true)) = true ∧
    (decide (awake.reaches Reg.FLT_RCV_CLR) && !decide (awake.flt.clrKey) && decide ((0xC3 : Word) = 0xC3)) = true ∧
    (decide (awake.reaches Reg.FLT_RCV_CLR) && !decide (awake.flt.clrKey) && !decide ((0 : Word) = 0xC3)) = true := by decide +kernel

theorem witness_ResetsAndPowerStates : awake.reaches Reg.RCP_SWRST ∧
    awake.reaches Reg.RCP_BLK_RST := by decide

theorem witness_ReleaseAndBoot : awake.reaches Reg.RCP_HLOAD := by decide

theorem witness_SnapshotsAndTrace : awake.reaches Reg.OBS_SNAP ∧
    awake.reaches (Reg.OBS_THR_CFG 63) ∧
    awake.reaches Reg.OBS_TRC_MARK ∧
    awake.reaches (Reg.OBS_TRC_CTRL) := by decide

theorem witness_LifetimeLedger : awake.reaches Reg.OBS_LDG_CTRL := by decide

theorem witness_ModeAndPatternOnlyWhileIdle :
    (awake.reaches (Reg.TPA_MODE 31) ∧ awake.reaches (Reg.TPA_PMA 31) ∧ fldW (0x4000 : Word) 15 14 ≠ 0 ∧
      awake.bit (Reg.TPA_CTRL 31) 0 = false ∧ awake.bit (Reg.TPA_STATUS 31) 0 = true) ∧
    (lightOn.reaches (Reg.TPA_MODE 31) ∧ lightOn.reaches (Reg.TPA_PMA 31) ∧ lightOn.bit (Reg.TPA_CTRL 31) 0 = true) := by decide

theorem witness_ShaperConfigurationRestarts :
    (let s := shaping .op 0;
      s.reaches Reg.TMG_SCMD ∧ s.shaperCheck .op (fldW (s.cs .op Reg.TMG_SCMD_IDX) 16 0) = 0 ∧
      fldW (s.cs .op Reg.TMG_SCMD_IDX) 16 0 < 88576 ∧
      shaperBad (s.cs .op (Reg.TMG_SCMD_D 0)) (s.cs .op (Reg.TMG_SCMD_D 1)) = false) ∧
    (let s := shaping .op 88831;
      s.shaperCheck .op (fldW (s.cs .op Reg.TMG_SCMD_IDX) 16 0) = 0 ∧ 88576 ≤ fldW (s.cs .op Reg.TMG_SCMD_IDX) 16 0 ∧
      shaperBad (s.cs .op (Reg.TMG_SCMD_D 0)) (s.cs .op (Reg.TMG_SCMD_D 1)) = false) ∧
    (let s := shaping (.t 15) 88576;
      s.reaches Reg.TMG_SCMD ∧ 88576 ≤ fldW (s.cs (.t 15) Reg.TMG_SCMD_IDX) 16 0) := by decide

end Sys2Proof.Tests
end

section
/-! PROOFS. When a write of a port's mode or test pattern is accepted (R51, R58). -/

namespace Sys2Proof.Machine

/-- A port is idle exactly when EN is 0 and DRAINED is 1. -/
theorem State.idlePort_eq_true_iff {s : State} {n : Nat} :
    s.idlePort n = true ↔ s.bit (Reg.TPA_CTRL n) 0 = false ∧ s.bit (Reg.TPA_STATUS n) 0 = true := by
  simp only [State.idlePort, State.en, State.drained, Bool.and_eq_true, Bool.not_eq_true']

theorem State.idlePort_eq_false_iff {s : State} {n : Nat} :
    s.idlePort n = false ↔ s.bit (Reg.TPA_CTRL n) 0 = true ∨ s.bit (Reg.TPA_STATUS n) 0 = false := by
  simp only [State.idlePort, State.en, State.drained, Bool.and_eq_false_iff, Bool.not_eq_false']

/-- A write of TPA_n_MODE that arrives: refused unless the port is idle, and of a pair both ports (R51, R55). -/
theorem exec_tpaModeWrite_reaches {n : Fin 32} {v : Word} {s : State} (h : s.reaches (Reg.TPA_MODE n)) :
    exec (.tpaModeWrite n v) s =
      .next (if !s.idlePort n || (s.paired n && !s.idlePort (pairOf n)) then s.tpaRefused n
        else ((s.wr (Reg.TPA_MODE n) (modeWord n v)).tellMode n).seeLight) :=
  State.opWrite_reaches h

/-- A write of TPA_n_PMA that arrives: refused only when it sets a pattern on a port that is not idle (R58). -/
theorem exec_pmaPatternWrite_reaches {n : Fin 32} {v : Word} {s : State} (h : s.reaches (Reg.TPA_PMA n)) :
    exec (.pmaPatternWrite n v) s =
      .next (if fldW v 15 14 ≠ 0 && !s.idlePort n then s.tpaRefused n
        else (s.wr (Reg.TPA_PMA n) (v &&& 0xFFFF)).seeLight) :=
  State.opWrite_reaches h

/-- A port that is not idle refuses every write of its mode, whatever its pair does. -/
theorem exec_tpaModeWrite_of_not_idle {n : Fin 32} {v : Word} {s : State} (h : s.reaches (Reg.TPA_MODE n))
    (hidle : s.idlePort n = false) : exec (.tpaModeWrite n v) s = .next (s.tpaRefused n) := by
  rw [exec_tpaModeWrite_reaches h, hidle]
  simp only [Bool.not_false, Bool.true_or, if_true]

theorem exec_pmaPatternWrite_of_idle {n : Fin 32} {v : Word} {s : State} (h : s.reaches (Reg.TPA_PMA n))
    (hidle : s.idlePort n = true) :
    exec (.pmaPatternWrite n v) s = .next (s.wr (Reg.TPA_PMA n) (v &&& 0xFFFF)).seeLight := by
  rw [exec_pmaPatternWrite_reaches h, hidle]
  simp only [Bool.not_true, Bool.and_false, Bool.false_eq_true, if_false]

theorem exec_pmaPatternWrite_of_not_idle {n : Fin 32} {v : Word} {s : State} (h : s.reaches (Reg.TPA_PMA n))
    (hpat : fldW v 15 14 ≠ 0) (hidle : s.idlePort n = false) :
    exec (.pmaPatternWrite n v) s = .next (s.tpaRefused n) := by
  rw [exec_pmaPatternWrite_reaches h, hidle]
  simp only [hpat, ne_eq, not_false_eq_true, decide_true, Bool.not_false, Bool.and_self, if_true]

/-- Settles O59: each clause is the write's outcome on a port that is, or is not, idle, and a refused write of TPA is one event of
TPA_n_CNT_REFUSED. -/
theorem modeAndPatternOnlyWhileIdle : Obligations.ModeAndPatternOnlyWhileIdle := by
  unfold Obligations.ModeAndPatternOnlyWhileIdle
  refine ⟨fun n v s h hbusy => ?mode, fun n v s h hpat => ⟨fun hen hdrained => ?stored, fun hbusy => ?refused⟩⟩
  case mode => exact exec_tpaModeWrite_of_not_idle h (State.idlePort_eq_false_iff.2 hbusy)
  case stored => exact exec_pmaPatternWrite_of_idle h (State.idlePort_eq_true_iff.2 ⟨hen, hdrained⟩)
  case refused => exact exec_pmaPatternWrite_of_not_idle h hpat (State.idlePort_eq_false_iff.2 hbusy)

end Sys2Proof.Machine
end

section
/-! PROOFS. What a shaper command leaves in the tokens of its shaper (R445, R446). -/

namespace Sys2Proof.Machine

/-- A mask that is all ones over a field leaves the field. -/
theorem fldW_and_of_ones {w : Nat} {x m : BitVec w} {hi lo : Nat} (h : fldW m hi lo = 2 ^ (hi + 1 - lo) - 1) :
    fldW (x &&& m) hi lo = fldW x hi lo := by
  unfold fldW fldN at h ⊢
  rw [BitVec.toNat_and, Nat.shiftRight_and_distrib, Nat.and_mod_two_pow, h, Nat.and_two_pow_sub_one_eq_mod, Nat.mod_mod]

/-! Traffic management's record under the updates that a command set makes. -/

@[simp] theorem State.setCs_tmg (s : State) (fn : Fn) (a : Nat) (w : Word) : (s.setCs fn a w).tmg = s.tmg := by
  cases fn with
  | op => exact State.wr_tmg s a w
  | t n => exact State.setTen_tmg s _ w

@[simp] theorem State.incN_tmg (s : State) (a n : Nat) : (s.incN a n).tmg = s.tmg := by
  simp only [State.incN]
  split
  · split
    · exact State.wr_tmg s a _
    · rw [State.setB_tmg, State.wr_tmg]
  · exact State.wr_tmg s a _

@[simp] theorem State.incIf_tmg (s : State) (c : Bool) (a : Nat) : (s.incIf c a).tmg = s.tmg := by
  cases c with
  | false => rfl
  | true => exact State.incN_tmg s a 1

@[simp] theorem State.shaperDone_tmg (s : State) (fn : Fn) (op fill : Bool) (status : Nat) :
    (s.shaperDone fn op fill status).tmg = s.tmg := by
  rw [State.shaperDone, State.incIf_tmg, State.setCs_tmg]

/-! The tokens of a shaper. -/

theorem State.tokOf_congr {s t : State} (h : s.tmg = t.tmg) (x : Nat) : s.tokOf x = t.tokOf x := by
  rw [State.tokOf, State.tokOf, h]

@[simp] theorem State.tokOf_setTok_same (s : State) (x : Nat) (t : Tok) : (s.setTok x t).tokOf x = t := Tab.look_put_same _ _ _ _

@[simp] theorem State.tokOf_shaperDone (s : State) (fn : Fn) (op fill : Bool) (status x : Nat) :
    (s.shaperDone fn op fill status).tokOf x = s.tokOf x :=
  State.tokOf_congr (State.shaperDone_tmg s fn op fill status) x

/-! A shaper command that arrives. -/

/-- The configuration of shaper x as a WRITE stores it from D0 and D1. -/
def State.storeShaper (s : State) (x : Nat) (d0 d1 : Word) : State :=
  (s.wr (Reg.TMG_SH x 0) (d0 &&& 0x00FFFFFF)).wr (Reg.TMG_SH x 1) (d1 &&& 0xFFFFFFF8)

/-- The capacity that BURST of D1 stands for: BURST × 64 × 256 (R441). -/
@[simp] theorem State.shCap_storeShaper (s : State) (x : Nat) (d0 d1 : Word) :
    (s.storeShaper x d0 d1).shCap x = fldW d1 22 7 * 64 * 256 := by
  have hmask : fldW (d1 &&& 0xFFFFFFF8) 22 7 = fldW d1 22 7 := fldW_and_of_ones (by decide)
  rw [State.shCap, State.fld, State.storeShaper, State.rd_wr_same, hmask]
  omega

/-- The tokens that shaper x holds just after a WRITE with capacity cap (R445, R446). -/
def State.restartTokens (s : State) (x cap : Nat) (fill : Bool) : Int :=
  if 88576 ≤ x then min (s.tokOf x).t cap else if fill then (cap : Int) else 0

theorem State.restartTokens_of_ordinary {s : State} {x cap : Nat} {fill : Bool} (hx : x < 88576) :
    s.restartTokens x cap fill = if fill then (cap : Int) else 0 := if_neg (Nat.not_le.2 hx)

theorem State.restartTokens_of_aggregate {s : State} {x cap : Nat} {fill : Bool} (hx : 88576 ≤ x) :
    s.restartTokens x cap fill = min (s.tokOf x).t (cap : Int) := if_pos hx

/-- A command that passes its checks stores the configuration, and T and T0 become the same value (R444 to R446). -/
theorem exec_shaperWrite_completes {fn : Fn} {fill : Bool} {s : State} {x : Nat} {d0 d1 : Word} (h : s.reaches Reg.TMG_SCMD)
    (hx : fldW (s.cs fn Reg.TMG_SCMD_IDX) 16 0 = x) (hd0 : s.cs fn (Reg.TMG_SCMD_D 0) = d0)
    (hd1 : s.cs fn (Reg.TMG_SCMD_D 1) = d1) (hcheck : s.shaperCheck fn x = 0) (hgood : shaperBad d0 d1 = false) :
    let t0 := s.restartTokens x (fldW d1 22 7 * 64 * 256) fill
    exec (.shaperWrite fn fill) s =
      .next (((s.storeShaper x d0 d1).setTok x { t := t0, t0 := t0 }).shaperDone fn false fill 0) := by
  rw [State.restartTokens, ← State.shCap_storeShaper s x d0 d1]
  refine (State.fnWrite_reaches h).trans ?_
  simp only [hx, hd0, hd1, hcheck, hgood, Bool.and_false, Bool.false_eq_true, if_false, ne_eq, not_true_eq_false]
  rfl

/-- A command refused by its index or its sender only ends with that status (R447). -/
theorem exec_shaperWrite_refused {fn : Fn} {fill : Bool} {s : State} {c : Nat} (h : s.reaches Reg.TMG_SCMD)
    (hcheck : s.shaperCheck fn (fldW (s.cs fn Reg.TMG_SCMD_IDX) 16 0) = c) (hc : c ≠ 0) :
    exec (.shaperWrite fn fill) s = .next (s.shaperDone fn false fill c) := by
  refine (State.fnWrite_reaches h).trans ?_
  simp only [hcheck, hc, decide_false, Bool.false_and, Bool.false_eq_true, if_false, ne_eq, not_false_eq_true, if_true]

/-- No tenant passes the checks of an aggregate shaper (R446). -/
theorem State.shaperCheck_tenant_aggregate {s : State} {n : Fin 16} {x : Nat} (hx : 88576 ≤ x) :
    s.shaperCheck (.t n) x ≠ 0 := by
  have hqueue : ¬ x < 69632 := by omega
  simp only [State.shaperCheck, fnTenant, if_neg hqueue, hx, decide_true, Bool.true_or, if_true]
  split
  · exact one_ne_zero
  · exact three_ne_zero

/-- Settles O60: the tokens that a completed command leaves are read back through its end, and a tenant's command on an
aggregate shaper ends with the status of its check. -/
theorem shaperConfigurationRestarts : Obligations.ShaperConfigurationRestarts := by
  unfold Obligations.ShaperConfigurationRestarts
  refine ⟨?completes, fun n fill s h hagg => ?refused⟩
  case completes =>
    intro fn fill s h x cap hcheck hgood
    refine ⟨_, exec_shaperWrite_completes h rfl rfl rfl hcheck hgood, fun hord => ?_, fun hagg => ?_⟩
    · rw [State.tokOf_shaperDone, State.tokOf_setTok_same]
      exact State.restartTokens_of_ordinary hord
    · rw [State.tokOf_shaperDone, State.tokOf_setTok_same]
      exact ⟨State.restartTokens_of_aggregate hagg, State.restartTokens_of_aggregate hagg⟩
  case refused =>
    have hstatus := State.shaperCheck_tenant_aggregate (s := s) (n := n) hagg
    exact ⟨_, hstatus, exec_shaperWrite_refused h rfl hstatus⟩

end Sys2Proof.Machine
end

section
/-! PROOFS. What every step keeps, and the writes that do not reach their register (95, What each step holds; R590, R667). -/

namespace Sys2Proof.Machine

/-- Every command keeps what nothing in the device undoes: for each one, the law of its meaning. -/
theorem exec_keeps (c : Instr) (s : State) : KeepsR s (exec c s) := by
  cases c with
  | registerWrite => exact keeps_execRegisterWrite Keeps.rfl
  | heldWordWrite => exact keeps_execHeldWordWrite Keeps.rfl
  | partialByteWrite fn a be => exact keeps_execPartialByteWrite (_be := be) Keeps.rfl
  | reservedAccess => exact keeps_execReservedAccess Keeps.rfl
  | inResetAccess => exact keeps_execInResetAccess Keeps.rfl
  | latchingRead => exact keeps_execLatchingRead Keeps.rfl
  | counterLowRead => exact keeps_execCounterLowRead Keeps.rfl
  | clearOnRead => exact keeps_execClearOnRead Keeps.rfl
  | dcqItemVisible => exact keeps_execDcqItemVisible Keeps.rfl
  | faultSourceEvent => exact keeps_execFaultSourceEvent Keeps.rfl
  | faultAck => exact keeps_execFaultAck Keeps.rfl
  | memoryErrorRetry => exact keeps_execMemoryErrorRetry Keeps.rfl
  | rowRemapDone => exact keeps_execRowRemapDone Keeps.rfl
  | pipelineError => exact keeps_execPipelineError Keeps.rfl
  | pipelineWatchExpire => exact keeps_execPipelineWatchExpire Keeps.rfl
  | tpaModeWrite => exact keeps_execTpaModeWrite Keeps.rfl
  | portEnable => exact keeps_execPortEnable Keeps.rfl
  | portDisable => exact keeps_execPortDisable Keeps.rfl
  | portDrained => exact keeps_execPortDrained Keeps.rfl
  | laserEnClear => exact keeps_execLaserEnClear Keeps.rfl
  | laserEnSet => exact keeps_execLaserEnSet Keeps.rfl
  | pmaPatternWrite => exact keeps_execPmaPatternWrite Keeps.rfl
  | framingStart => exact keeps_execFramingStart Keeps.rfl
  | burstResetPulse => exact keeps_execBurstResetPulse Keeps.rfl
  | sdCheck => exact keeps_execSdCheck Keeps.rfl
  | rogueEvent => exact keeps_execRogueEvent Keeps.rfl
  | i2cCmdGo => exact keeps_execI2cCmdGo Keeps.rfl
  | i2cCmdDone => exact keeps_execI2cCmdDone Keeps.rfl
  | i2cTimeout => exact keeps_execI2cTimeout Keeps.rfl
  | brxProfWrite => exact keeps_execBrxProfWrite Keeps.rfl
  | brxCtrlWrite => exact keeps_execBrxCtrlWrite Keeps.rfl
  | memInvalidateOne => exact keeps_execMemInvalidateOne Keeps.rfl
  | memInvalidateAll => exact keeps_execMemInvalidateAll Keeps.rfl
  | memCmdDone => exact keeps_execMemCmdDone Keeps.rfl
  | ageTick => exact keeps_execAgeTick Keeps.rfl
  | burstKindsFixed => exact keeps_execBurstKindsFixed Keeps.rfl
  | brxSleep => exact keeps_execBrxSleep Keeps.rfl
  | brxWake => exact keeps_execBrxWake Keeps.rfl
  | planningPoint => exact keeps_execPlanningPoint Keeps.rfl
  | burstAcquire => exact keeps_execBurstAcquire Keeps.rfl
  | burstVerdict => exact keeps_execBurstVerdict Keeps.rfl
  | teqWrite => exact keeps_execTeqWrite Keeps.rfl
  | rngDiscWrite => exact keeps_execRngDiscWrite Keeps.rfl
  | rngTrackWrite => exact keeps_execRngTrackWrite Keeps.rfl
  | discRequest => exact keeps_execDiscRequest Keeps.rfl
  | snResponse => exact keeps_execSnResponse Keeps.rfl
  | assignTimeout => exact keeps_execAssignTimeout Keeps.rfl
  | rngAssign => exact keeps_execRngAssign Keeps.rfl
  | rngReject => exact keeps_execRngReject Keeps.rfl
  | rngRerange => exact keeps_execRngRerange Keeps.rfl
  | rngDeactivate => exact keeps_execRngDeactivate Keeps.rfl
  | rngInvalidate => exact keeps_execRngInvalidate Keeps.rfl
  | rangingRequest => exact keeps_execRangingRequest Keeps.rfl
  | rangingBurst => exact keeps_execRangingBurst Keeps.rfl
  | rangingAttemptFail => exact keeps_execRangingAttemptFail Keeps.rfl
  | offsetTrack => exact keeps_execOffsetTrack Keeps.rfl
  | pendTimeout => exact keeps_execPendTimeout Keeps.rfl
  | lockFailReport => exact keeps_execLockFailReport Keeps.rfl
  | lostTimeout => exact keeps_execLostTimeout Keeps.rfl
  | recordPublish => exact keeps_execRecordPublish Keeps.rfl
  | gntStreamCommit => exact keeps_execGntStreamCommit Keeps.rfl
  | ssWindowCommit => exact keeps_execSsWindowCommit Keeps.rfl
  | gntPortCfgWrite => exact keeps_execGntPortCfgWrite Keeps.rfl
  | coalesceDrain => exact keeps_execCoalesceDrain Keeps.rfl
  | reportStallLimit => exact keeps_execReportStallLimit Keeps.rfl
  | missingPage => exact keeps_execMissingPage Keeps.rfl
  | ledgerClose => exact keeps_execLedgerClose Keeps.rfl
  | udfCountsDeliver => exact keeps_execUdfCountsDeliver Keeps.rfl
  | microcodeLoad => exact keeps_execMicrocodeLoad Keeps.rfl
  | microcodeLoadDone => exact keeps_execMicrocodeLoadDone Keeps.rfl
  | engineFault => exact keeps_execEngineFault Keeps.rfl
  | migrateDone => exact keeps_execMigrateDone Keeps.rfl
  | eventPending => exact keeps_execEventPending Keeps.rfl
  | eventTake => exact keeps_execEventTake Keeps.rfl
  | engineRun => exact keeps_execEngineRun Keeps.rfl
  | engineStop => exact keeps_execEngineStop Keeps.rfl
  | mtnMboxWrite => exact keeps_execMtnMboxWrite Keeps.rfl
  | engineWake => exact keeps_execEngineWake Keeps.rfl
  | sisAdd => exact keeps_execSisAdd Keeps.rfl
  | sisSub => exact keeps_execSisSub Keeps.rfl
  | sisAnd => exact keeps_execSisAnd Keeps.rfl
  | sisOr => exact keeps_execSisOr Keeps.rfl
  | sisXor => exact keeps_execSisXor Keeps.rfl
  | sisShl => exact keeps_execSisShl Keeps.rfl
  | sisShr => exact keeps_execSisShr Keeps.rfl
  | sisAsr => exact keeps_execSisAsr Keeps.rfl
  | sisMin => exact keeps_execSisMin Keeps.rfl
  | sisMax => exact keeps_execSisMax Keeps.rfl
  | sisMul => exact keeps_execSisMul Keeps.rfl
  | sisExt => exact keeps_execSisExt Keeps.rfl
  | sisIns => exact keeps_execSisIns Keeps.rfl
  | sisAddi => exact keeps_execSisAddi Keeps.rfl
  | sisAndi => exact keeps_execSisAndi Keeps.rfl
  | sisOri => exact keeps_execSisOri Keeps.rfl
  | sisXori => exact keeps_execSisXori Keeps.rfl
  | sisShli => exact keeps_execSisShli Keeps.rfl
  | sisShri => exact keeps_execSisShri Keeps.rfl
  | sisAsri => exact keeps_execSisAsri Keeps.rfl
  | sisMuli => exact keeps_execSisMuli Keeps.rfl
  | sisLi => exact keeps_execSisLi Keeps.rfl
  | sisLih => exact keeps_execSisLih Keeps.rfl
  | sisCb => exact keeps_execSisCb Keeps.rfl
  | sisCall => exact keeps_execSisCall Keeps.rfl
  | sisJr => exact keeps_execSisJr Keeps.rfl
  | sisCallx => exact keeps_execSisCallx Keeps.rfl
  | sisRetx => exact keeps_execSisRetx Keeps.rfl
  | sisBudgetSpent => exact keeps_execSisBudgetSpent Keeps.rfl
  | sisEret => exact keeps_execSisEret Keeps.rfl
  | sisHalt => exact keeps_execSisHalt Keeps.rfl
  | sisRdsys => exact keeps_execSisRdsys Keeps.rfl
  | sisWrsys => exact keeps_execSisWrsys Keeps.rfl
  | sisWaitft => exact keeps_execSisWaitft Keeps.rfl
  | sisLds => exact keeps_execSisLds Keeps.rfl
  | sisSts => exact keeps_execSisSts Keeps.rfl
  | sisLdt => exact keeps_execSisLdt Keeps.rfl
  | sisStt => exact keeps_execSisStt Keeps.rfl
  | sisLdl => exact keeps_execSisLdl Keeps.rfl
  | sisStl => exact keeps_execSisStl Keeps.rfl
  | sisSort => exact keeps_execSisSort Keeps.rfl
  | sisScans => exact keeps_execSisScans Keeps.rfl
  | sisScant => exact keeps_execSisScant Keeps.rfl
  | sisRdrpt => exact keeps_execSisRdrpt Keeps.rfl
  | sisRptlv => exact keeps_execSisRptlv Keeps.rfl
  | sisMbs => exact keeps_execSisMbs Keeps.rfl
  | sisMbr => exact keeps_execSisMbr Keeps.rfl
  | sisEmit => exact keeps_execSisEmit Keeps.rfl
  | sisCali => exact keeps_execSisCali Keeps.rfl
  | sisSeal => exact keeps_execSisSeal Keeps.rfl
  | pseg => exact keeps_execPseg Keeps.rfl
  | pload => exact keeps_execPload Keeps.rfl
  | pread => exact keeps_execPread Keeps.rfl
  | frameTick => exact keeps_execFrameTick Keeps.rfl
  | sfcLoad => exact keeps_execSfcLoad Keeps.rfl
  | ftOffsetWrite => exact keeps_execFtOffsetWrite Keeps.rfl
  | lineFrameStart => exact keeps_execLineFrameStart Keeps.rfl
  | mapRead => exact keeps_execMapRead Keeps.rfl
  | profileAnnounce => exact keeps_execProfileAnnounce Keeps.rfl
  | holdBegin => exact keeps_execHoldBegin Keeps.rfl
  | holdEnd => exact keeps_execHoldEnd Keeps.rfl
  | holdExpire => exact keeps_execHoldExpire Keeps.rfl
  | codewordDecode => exact keeps_execCodewordDecode Keeps.rfl
  | burstTruncation => exact keeps_execBurstTruncation Keeps.rfl
  | reasmTimeout => exact keeps_execReasmTimeout Keeps.rfl
  | secondBoundary => exact keeps_execSecondBoundary Keeps.rfl
  | circuitCommit => exact keeps_execCircuitCommit Keeps.rfl
  | pwEntryCommit => exact keeps_execPwEntryCommit Keeps.rfl
  | carrierFrameReceive => exact keeps_execCarrierFrameReceive Keeps.rfl
  | alignWordMatch => exact keeps_execAlignWordMatch Keeps.rfl
  | tceSwap => exact keeps_execTceSwap Keeps.rfl
  | pwPacketSend => exact keeps_execPwPacketSend Keeps.rfl
  | pwPacketReceive => exact keeps_execPwPacketReceive Keeps.rfl
  | pmSecondCommit => exact keeps_execPmSecondCommit Keeps.rfl
  | pmBinClose => exact keeps_execPmBinClose Keeps.rfl
  | selectionCommit => exact keeps_execSelectionCommit Keeps.rfl
  | profileCommit => exact keeps_execProfileCommit Keeps.rfl
  | packetPass => exact keeps_execPacketPass Keeps.rfl
  | tnode => exact keeps_execTnode Keeps.rfl
  | trule => exact keeps_execTrule Keeps.rfl
  | troot => exact keeps_execTroot Keeps.rfl
  | tread => exact keeps_execTread Keeps.rfl
  | eswap => exact keeps_execEswap Keeps.rfl
  | epochSwapPoint => exact keeps_execEpochSwapPoint Keeps.rfl
  | learnPlace => exact keeps_execLearnPlace Keeps.rfl
  | ageOut => exact keeps_execAgeOut Keeps.rfl
  | fdbRead => exact keeps_execFdbRead Keeps.rfl
  | fdbWrite => exact keeps_execFdbWrite Keeps.rfl
  | fdbInsert => exact keeps_execFdbInsert Keeps.rfl
  | fdbDelete => exact keeps_execFdbDelete Keeps.rfl
  | fdbSearch => exact keeps_execFdbSearch Keeps.rfl
  | fdbSeedWrite => exact keeps_execFdbSeedWrite Keeps.rfl
  | fidWrite => exact keeps_execFidWrite Keeps.rfl
  | bufferAlloc => exact keeps_execBufferAlloc Keeps.rfl
  | bufferFree => exact keeps_execBufferFree Keeps.rfl
  | bufferShare => exact keeps_execBufferShare Keeps.rfl
  | bpmEnable => exact keeps_execBpmEnable Keeps.rfl
  | bpmInitDone => exact keeps_execBpmInitDone Keeps.rfl
  | bpmCfgWrite => exact keeps_execBpmCfgWrite Keeps.rfl
  | frameAdmit => exact keeps_execFrameAdmit Keeps.rfl
  | egressSelect => exact keeps_execEgressSelect Keeps.rfl
  | shaperTick => exact keeps_execShaperTick Keeps.rfl
  | shaperWrite => exact keeps_execShaperWrite Keeps.rfl
  | shaperRead => exact keeps_execShaperRead Keeps.rfl
  | gateCommit => exact keeps_execGateCommit Keeps.rfl
  | gateTakeover => exact keeps_execGateTakeover Keeps.rfl
  | gateEntryAdvance => exact keeps_execGateEntryAdvance Keeps.rfl
  | launchSelect => exact keeps_execLaunchSelect Keeps.rfl
  | queueDisable => exact keeps_execQueueDisable Keeps.rfl
  | queueDrained => exact keeps_execQueueDrained Keeps.rfl
  | queueEnable => exact keeps_execQueueEnable Keeps.rfl
  | tmgGrpWrite => exact keeps_execTmgGrpWrite Keeps.rfl
  | queueSample => exact keeps_execQueueSample Keeps.rfl
  | tkey => exact keeps_execTkey Keeps.rfl
  | tswitch => exact keeps_execTswitch Keeps.rfl
  | tclear => exact keeps_execTclear Keeps.rfl
  | sakey => exact keeps_execSakey Keeps.rfl
  | saena => exact keeps_execSaena Keeps.rfl
  | sadis => exact keeps_execSadis Keeps.rfl
  | saDone => exact keeps_execSaDone Keeps.rfl
  | gscWrite => exact keeps_execGscWrite Keeps.rfl
  | txscAnWrite => exact keeps_execTxscAnWrite Keeps.rfl
  | quadModeWrite => exact keeps_execQuadModeWrite Keeps.rfl
  | uplPortEnable => exact keeps_execUplPortEnable Keeps.rfl
  | uplPortDisable => exact keeps_execUplPortDisable Keeps.rfl
  | laneLock => exact keeps_execLaneLock Keeps.rfl
  | laneLockLoss => exact keeps_execLaneLockLoss Keeps.rfl
  | pcsAlign => exact keeps_execPcsAlign Keeps.rfl
  | alignTimeout => exact keeps_execAlignTimeout Keeps.rfl
  | retrainTimeout => exact keeps_execRetrainTimeout Keeps.rfl
  | uplRxFrame => exact keeps_execUplRxFrame Keeps.rfl
  | uplGroupWrite => exact keeps_execUplGroupWrite Keeps.rfl
  | protGroupEnable => exact keeps_execProtGroupEnable Keeps.rfl
  | mlkEnable => exact keeps_execMlkEnable Keeps.rfl
  | mlkTrainStart => exact keeps_execMlkTrainStart Keeps.rfl
  | bitslip => exact keeps_execBitslip Keeps.rfl
  | mlkTrainEnd => exact keeps_execMlkTrainEnd Keeps.rfl
  | mlkLinkUp => exact keeps_execMlkLinkUp Keeps.rfl
  | mlkBlockReceive => exact keeps_execMlkBlockReceive Keeps.rfl
  | mlkLaneDrop => exact keeps_execMlkLaneDrop Keeps.rfl
  | mlkNarrowDone => exact keeps_execMlkNarrowDone Keeps.rfl
  | mlkLaneRetrain => exact keeps_execMlkLaneRetrain Keeps.rfl
  | mlkClockLoss => exact keeps_execMlkClockLoss Keeps.rfl
  | incCommit => exact keeps_execIncCommit Keeps.rfl
  | slewStart => exact keeps_execSlewStart Keeps.rfl
  | slewCancel => exact keeps_execSlewCancel Keeps.rfl
  | slewEnd => exact keeps_execSlewEnd Keeps.rfl
  | stepGo => exact keeps_execStepGo Keeps.rfl
  | stepApply => exact keeps_execStepApply Keeps.rfl
  | rearmWrite => exact keeps_execRearmWrite Keeps.rfl
  | tsrefLoss => exact keeps_execTsrefLoss Keeps.rfl
  | tsPllUnlock => exact keeps_execTsPllUnlock Keeps.rfl
  | compareTargetCommit => exact keeps_execCompareTargetCommit Keeps.rfl
  | compareFire => exact keeps_execCompareFire Keeps.rfl
  | ppsConfigWrite => exact keeps_execPpsConfigWrite Keeps.rfl
  | ppsOutPulse => exact keeps_execPpsOutPulse Keeps.rfl
  | outHoldSet => exact keeps_execOutHoldSet Keeps.rfl
  | outHoldClear => exact keeps_execOutHoldClear Keeps.rfl
  | holdConverged => exact keeps_execHoldConverged Keeps.rfl
  | ppsInCapture => exact keeps_execPpsInCapture Keeps.rfl
  | todTxWrite => exact keeps_execTodTxWrite Keeps.rfl
  | todRxByte => exact keeps_execTodRxByte Keeps.rfl
  | mateTimeSend => exact keeps_execMateTimeSend Keeps.rfl
  | mateTimeReceive => exact keeps_execMateTimeReceive Keeps.rfl
  | todPeriodStart => exact keeps_execTodPeriodStart Keeps.rfl
  | protEnable => exact keeps_execProtEnable Keeps.rfl
  | protForce => exact keeps_execProtForce Keeps.rfl
  | protLockout => exact keeps_execProtLockout Keeps.rfl
  | protClear => exact keeps_execProtClear Keeps.rfl
  | silentDetect => exact keeps_execSilentDetect Keeps.rfl
  | mateTimeout => exact keeps_execMateTimeout Keeps.rfl
  | switchReceive => exact keeps_execSwitchReceive Keeps.rfl
  | darkReceive => exact keeps_execDarkReceive Keeps.rfl
  | takingLight => exact keeps_execTakingLight Keeps.rfl
  | releasingDark => exact keeps_execReleasingDark Keeps.rfl
  | stateBlockSend => exact keeps_execStateBlockSend Keeps.rfl
  | stateBlockReceive => exact keeps_execStateBlockReceive Keeps.rfl
  | mirror => exact keeps_execMirror Keeps.rfl
  | mirrorReceive => exact keeps_execMirrorReceive Keeps.rfl
  | mapBlockReceive => exact keeps_execMapBlockReceive Keeps.rfl
  | hifGrpWrite => exact keeps_execHifGrpWrite Keeps.rfl
  | ringContextCommit => exact keeps_execRingContextCommit Keeps.rfl
  | ringDisable => exact keeps_execRingDisable Keeps.rfl
  | doorbell => exact keeps_execDoorbell Keeps.rfl
  | descriptorFetch => exact keeps_execDescriptorFetch Keeps.rfl
  | ptxQueue => exact keeps_execPtxQueue Keeps.rfl
  | ptxPloam => exact keeps_execPtxPloam Keeps.rfl
  | ptxComplete => exact keeps_execPtxComplete Keeps.rfl
  | prxDeliver => exact keeps_execPrxDeliver Keeps.rfl
  | msixModTimer => exact keeps_execMsixModTimer Keeps.rfl
  | twData0Read => exact keeps_execTwData0Read Keeps.rfl
  | pcieReset => exact keeps_execPcieReset Keeps.rfl
  | vfFlr => exact keeps_execVfFlr Keeps.rfl
  | fltStatusClear => exact keeps_execFltStatusClear Keeps.rfl
  | sourceClassWrite => exact keeps_execSourceClassWrite Keeps.rfl
  | ffrClear => exact keeps_execFfrClear Keeps.rfl
  | aliveToggle => exact keeps_execAliveToggle Keeps.rfl
  | fltInj => exact keeps_execFltInj Keeps.rfl
  | quietTimerExpire => exact keeps_execQuietTimerExpire Keeps.rfl
  | fltRcvClr => exact keeps_execFltRcvClr Keeps.rfl
  | fltLock => exact keeps_execFltLock Keeps.rfl
  | mateAliveLoss => exact keeps_execMateAliveLoss Keeps.rfl
  | powerOnAon => exact keeps_execPowerOnAon Keeps.rfl
  | powerOnCore => exact keeps_execPowerOnCore Keeps.rfl
  | porst => exact keeps_execPorst Keeps.rfl
  | sysrst => exact keeps_execSysrst Keeps.rfl
  | softwareGlobalReset => exact keeps_execSoftwareGlobalReset Keeps.rfl
  | watchdogExpire => exact keeps_execWatchdogExpire Keeps.rfl
  | supplyOutOfWindow => exact keeps_execSupplyOutOfWindow Keeps.rfl
  | settCheck => exact keeps_execSettCheck Keeps.rfl
  | strapMeasure => exact keeps_execStrapMeasure Keeps.rfl
  | trimLoad => exact keeps_execTrimLoad Keeps.rfl
  | pllLock => exact keeps_execPllLock Keeps.rfl
  | memoryBist => exact keeps_execMemoryBist Keeps.rfl
  | domainRelease => exact keeps_execDomainRelease Keeps.rfl
  | bootRom => exact keeps_execBootRom Keeps.rfl
  | hostLoad => exact keeps_execHostLoad Keeps.rfl
  | outRel => exact keeps_execOutRel Keeps.rfl
  | blockSoftReset => exact keeps_execBlockSoftReset Keeps.rfl
  | blockResetRelease => exact keeps_execBlockResetRelease Keeps.rfl
  | quietEnter => exact keeps_execQuietEnter Keeps.rfl
  | quietExit => exact keeps_execQuietExit Keeps.rfl
  | uplinkEgressSleep => exact keeps_execUplinkEgressSleep Keeps.rfl
  | snapGo => exact keeps_execSnapGo Keeps.rfl
  | snapCopy => exact keeps_execSnapCopy Keeps.rfl
  | thresholdCommit => exact keeps_execThresholdCommit Keeps.rfl
  | traceMark => exact keeps_execTraceMark Keeps.rfl
  | traceCtrlWrite => exact keeps_execTraceCtrlWrite Keeps.rfl
  | lifetimeSecond => exact keeps_execLifetimeSecond Keeps.rfl
  | ledgerMirror => exact keeps_execLedgerMirror Keeps.rfl
  | mirrorNow => exact keeps_execMirrorNow Keeps.rfl
  | mirrorWriteDone => exact keeps_execMirrorWriteDone Keeps.rfl
  | levelConditionAbsent => exact keeps_execLevelConditionAbsent Keeps.rfl
  | clkTsPllRelock => exact keeps_execClkTsPllRelock Keeps.rfl
  | mlkClockReturn => exact keeps_execMlkClockReturn Keeps.rfl
  | pcsAlignmentLoss => exact keeps_execPcsAlignmentLoss Keeps.rfl
  | uplinkEgressWake => exact keeps_execUplinkEgressWake Keeps.rfl
  | clkOutEdge => exact keeps_execClkOutEdge Keeps.rfl
  | tracePortSend => exact keeps_execTracePortSend Keeps.rfl
  | pcieLinkTrained => exact keeps_execPcieLinkTrained Keeps.rfl

/-! A step: the front of the queue is carried out in the state without it, or a tick passes. -/

theorem step_cons (c : Instr) (q : List Instr) (s : State) :
    step { s with pending := c :: q } = exec c { s with pending := q } := rfl

theorem step_of_pending_nil {s : State} (h : s.pending = []) : step s = .next s.idle := by
  rw [step, h]

theorem step_of_pending_cons {s : State} {c : Instr} {q : List Instr} (h : s.pending = c :: q) :
    step s = exec c { s with pending := q } := by
  rw [step, h]

/-- Whatever a step answers comes from the state without the front of its queue by operations of the device. -/
theorem step_keeps (s : State) : KeepsR { s with pending := s.pending.tail } (step s) := by
  cases hq : s.pending with
  | nil =>
    rw [step_of_pending_nil hq, List.tail_nil, ← hq]
    exact KeepsR.next (keeps_idle Keeps.rfl)
  | cons c q =>
    rw [step_of_pending_cons hq]
    exact exec_keeps c _

/-- Settles O1: both clauses are how a step reads its queue. -/
theorem stepTakesTheFront : Obligations.StepTakesTheFront := by
  unfold Obligations.StepTakesTheFront
  exact ⟨step_cons, fun _ => step_of_pending_nil⟩

/-- Only RCP_CAUSE is listed in the register table after reset. -/
theorem State.rd_reset_of_ne {a : Nat} (h : a ≠ Reg.RCP_CAUSE) : State.reset.rd a = resetWord a :=
  if_neg h

/-- Settles O2: the record after reset is evaluated; of its registers one alone is listed. -/
theorem resetState : Obligations.ResetState := by
  unfold Obligations.ResetState
  exact ⟨rfl, rfl, rfl, rfl, rfl, fun _ => State.rd_reset_of_ne, by decide, rfl⟩

/-- Settles O3: a step is made of operations that keep the register table in canonical form. -/
theorem stepKeepsTheRegisterTable : Obligations.StepKeepsTheRegisterTable := by
  unfold Obligations.StepKeepsTheRegisterTable
  intro s t hcanonical hstep
  exact (step_keeps s t hstep).regs hcanonical

/-- Settles O4: no operation of the device touches the queue, so only its front is gone. -/
theorem stepKeepsTheQueue : Obligations.StepKeepsTheQueue := by
  unfold Obligations.StepKeepsTheQueue
  intro s t hstep
  have htail : t.pending = s.pending.tail := (step_keeps s t hstep).pending
  refine ⟨htail, fun hformed => ?_⟩
  rw [State.QueueFormed, List.all_eq_true] at hformed ⊢
  rw [htail]
  exact fun c hc => hformed c (List.mem_of_mem_tail hc)

/-- Settles O5: the queue, the outputs and the count of free values are part of what every command keeps. -/
theorem commandsSendInOrder : Obligations.CommandsSendInOrder := by
  unfold Obligations.CommandsSendInOrder
  intro c s t hexec
  have hkeeps := exec_keeps c s t hexec
  exact ⟨hkeeps.pending, hkeeps.outs, hkeeps.freeN⟩

/-! Writes of one register by a function. -/

/-- A command that is the write of one register does all it does through that write. -/
theorem exec_eq_fnWrite {c : Instr} {fn : Fn} {a : Nat} (h : registerOf c = some (fn, a)) (s : State) :
    ∃ r, exec c s = s.fnWrite fn a r := by
  cases c <;> cases h <;> exact ⟨_, rfl⟩

/-- A write that cannot reach its register: nothing, or the refusal (R590, R667). -/
theorem State.fnWrite_of_not_reaches {s : State} {fn : Fn} {a : Nat} {r : Res} (h : ¬ s.reaches a) :
    s.fnWrite fn a r = .next (s.shutOut fn a) := by
  unfold State.fnWrite State.shutOut
  cases hup : s.up 17 with
  | false => rfl
  | true =>
    have hshut : s.windowShut a = true := Bool.of_not_eq_false fun hopen => h ⟨hup, hopen⟩
    rw [hshut]
    cases fn with
    | op => rfl
    | t n => rfl

/-- Settles O7: each such command is a write of its register, and a write that cannot arrive is refused. -/
theorem writesThatDoNotReach : Obligations.WritesThatDoNotReach := by
  unfold Obligations.WritesThatDoNotReach
  intro c fn a s hreg hshut
  obtain ⟨r, hexec⟩ := exec_eq_fnWrite hreg s
  rw [hexec, State.fnWrite_of_not_reaches hshut]

end Sys2Proof.Machine
end

section
/-! PROOFS. No command faults and none is refused (log entry 8). -/

namespace Sys2Proof.Machine

/-- The answer is a next state. -/
def Answers (r : Res) : Prop := ∃ t, r = .next t

theorem answers_next (t : State) : Answers (.next t) := ⟨t, rfl⟩

theorem answers_ite {c : Prop} [Decidable c] {r q : Res} (hr : Answers r) (hq : Answers q) :
    Answers (if c then r else q) := by
  split
  · exact hr
  · exact hq

/-- A write that cannot arrive is answered too. -/
theorem answers_fnWrite {s : State} {fn : Fn} {a : Nat} {r : Res} (hr : Answers r) : Answers (s.fnWrite fn a r) := by
  by_cases h : s.reaches a
  · rw [State.fnWrite_reaches h]
    exact hr
  · rw [State.fnWrite_of_not_reaches h]
    exact answers_next _

theorem answers_opWrite {s : State} {a : Nat} {r : Res} (hr : Answers r) : Answers (s.opWrite a r) := answers_fnWrite hr

/-! The commands whose meaning branches: every branch of each ends in a next state. -/

variable {s : State}

theorem execDcqItemVisible_answers {x : Crossing} : Answers (execDcqItemVisible x s) := by
  unfold execDcqItemVisible
  split <;> exact answers_next _

theorem execFaultAck_answers {srcs : BitVec 52} {sameCycle : Bool} : Answers (execFaultAck srcs sameCycle s) := by
  unfold execFaultAck
  extract_lets
  split <;> exact answers_next _

theorem execPipelineError_answers {p : Fin 5} : Answers (execPipelineError p s) := by
  unfold execPipelineError
  split <;> exact answers_next _

theorem execBurstResetPulse_answers {n : Fin 32} {frame : BitVec 51} {k : Fin 512} :
    Answers (execBurstResetPulse n frame k s) := by
  unfold execBurstResetPulse
  extract_lets
  split <;> exact answers_next _

theorem execSdCheck_answers {n : Fin 32} {frame : BitVec 51} {k : Fin 512} {pin : Bool} :
    Answers (execSdCheck n frame k pin s) := by
  unfold execSdCheck
  split
  · exact answers_next _
  · split
    · exact answers_next _
    · extract_lets
      split <;> exact answers_next _

theorem execI2cCmdDone_answers {m : Fin 4} {r : I2cResult} {data : BitVec 64} : Answers (execI2cCmdDone m r data s) := by
  unfold execI2cCmdDone
  split
  · exact answers_next _
  · cases r with
    | ok => exact answers_next _
    | recovered k => exact answers_next _
    | nack i =>
      dsimp only
      split <;> exact answers_next _

theorem execBurstKindsFixed_answers {n : Fin 32} {frame : BitVec 51} {cycle : BitVec 64} :
    Answers (execBurstKindsFixed n frame cycle s) := by
  unfold execBurstKindsFixed
  split
  · exact answers_next _
  · split <;> exact answers_next _

theorem execBrxWake_answers {n : Fin 32} {frame : BitVec 51} {k : Option (Fin 512)} : Answers (execBrxWake n frame k s) := by
  unfold execBrxWake
  extract_lets
  split
  · exact answers_next _
  · split
    · split <;> exact answers_next _
    · split
      · exact answers_next _
      · split <;> exact answers_next _

theorem execPlanningPoint_answers {n : Fin 32} {frame : BitVec 51} {copyBad : Bool} :
    Answers (execPlanningPoint n frame copyBad s) := by
  unfold execPlanningPoint
  extract_lets
  split <;> exact answers_next _

theorem execBurstAcquire_answers {n : Fin 32} {frame : BitVec 51} {k : Fin 512} {eye : Bool} {found : SearchEnd}
    {delim : Option Int} :
    Answers (execBurstAcquire n frame k eye found delim s) := by
  unfold execBurstAcquire
  split
  · extract_lets
    split
    · exact answers_next _
    · split
      · exact answers_next _
      · extract_lets
        split <;> exact answers_next _
  · exact answers_next _

theorem execBurstVerdict_answers {n : Fin 32} {frame : BitVec 51} {k : Fin 512} {payload : PayloadEnd} :
    Answers (execBurstVerdict n frame k payload s) := by
  unfold execBurstVerdict
  split
  · extract_lets
    split
    · split
      · exact answers_next _
      · split <;> exact answers_next _
    · exact answers_next _
  · exact answers_next _

theorem execSnResponse_answers {n : Fin 32} {frame : BitVec 51} {k : Fin 512} {got : SnBurst} {sn : Word64}
    {rnd : BitVec 16} {delim : Int} {phase : Fin 64} :
    Answers (execSnResponse n frame k got sn rnd delim phase s) := by
  unfold execSnResponse
  split
  · exact answers_next _
  · split <;> exact answers_next _

theorem execRngAssign_answers {n : Fin 32} {l : Fin 512} : Answers (execRngAssign n l s) := by
  unfold execRngAssign
  refine answers_opWrite ?_
  extract_lets
  split <;> exact answers_next _

theorem execRangingRequest_answers {n : Fin 32} {l : Fin 512} : Answers (execRangingRequest n l s) := by
  unfold execRangingRequest
  extract_lets
  split <;> exact answers_next _

theorem execRangingBurst_answers {n : Fin 32} : Answers (execRangingBurst n s) := by
  unfold execRangingBurst
  split
  · exact answers_next _
  · split
    · exact answers_next _
    · extract_lets
      split <;> exact answers_next _

theorem execRangingAttemptFail_answers {n : Fin 32} : Answers (execRangingAttemptFail n s) := by
  unfold execRangingAttemptFail
  split
  · exact answers_next _
  · split
    · exact answers_next _
    · extract_lets
      split <;> exact answers_next _

theorem execOffsetTrack_answers {n : Fin 32} : Answers (execOffsetTrack n s) := by
  unfold execOffsetTrack
  split
  · exact answers_next _
  · extract_lets
    split
    · exact answers_next _
    · split
      · exact answers_next _
      · split
        · split <;> exact answers_next _
        · exact answers_next _

theorem execPendTimeout_answers {n : Fin 32} {l : Fin 512} : Answers (execPendTimeout n l s) := by
  unfold execPendTimeout
  extract_lets
  split
  · exact answers_next _
  · split
    · exact answers_next _
    · split <;> exact answers_next _

theorem execLockFailReport_answers {n : Fin 32} : Answers (execLockFailReport n s) := by
  unfold execLockFailReport
  split
  · exact answers_next _
  · extract_lets
    split
    · exact answers_next _
    · split <;> exact answers_next _

theorem execGntStreamCommit_answers {st : BitVec 16} {v : Word} : Answers (execGntStreamCommit st v s) := by
  unfold execGntStreamCommit
  refine answers_opWrite ?_
  extract_lets
  split <;> exact answers_next _

theorem execGntPortCfgWrite_answers {n : Fin 32} {f : PortCfg} : Answers (execGntPortCfgWrite n f s) := by
  unfold execGntPortCfgWrite
  refine answers_opWrite ?_
  split <;> exact answers_next _

theorem execCoalesceDrain_answers {m : Fin 8} : Answers (execCoalesceDrain m s) := by
  unfold execCoalesceDrain
  extract_lets
  split
  · exact answers_next _
  · split <;> exact answers_next _

theorem execMissingPage_answers {n : Fin 32} {frame : BitVec 51} : Answers (execMissingPage n frame s) := by
  unfold execMissingPage
  split
  · exact answers_next _
  · split <;> exact answers_next _

theorem execLedgerClose_answers {n : Fin 32} {frame : BitVec 51} : Answers (execLedgerClose n frame s) := by
  unfold execLedgerClose
  split
  · exact answers_next _
  · split <;> exact answers_next _

theorem execUdfCountsDeliver_answers {n : Fin 32} {frame : BitVec 51} : Answers (execUdfCountsDeliver n frame s) := by
  unfold execUdfCountsDeliver
  split <;> exact answers_next _

theorem execMicrocodeLoad_answers {base : UcodeCheck} {ver : Word} {image : BaseWords} {patches : List UcodePatch} :
    Answers (execMicrocodeLoad base ver image patches s) := by
  unfold execMicrocodeLoad
  split
  · exact answers_next _
  · split
    · exact answers_next _
    · extract_lets
      split
      · exact answers_next _
      · split
        exact answers_next _

theorem execEngineFault_answers {l : Fin 16} {fault : EngFault} {itemHeld : Bool} :
    Answers (execEngineFault l fault itemHeld s) := by
  unfold execEngineFault
  extract_lets
  split
  · exact answers_next _
  · split <;> exact answers_next _

theorem execMigrateDone_answers {l : Fin 16} {unc : Bool} : Answers (execMigrateDone l unc s) := by
  unfold execMigrateDone
  split <;> exact answers_next _

theorem execEventPending_answers {l : Fin 16} {ev : EngEvent} : Answers (execEventPending l ev s) := by
  unfold execEventPending
  split
  · exact answers_next _
  · split
    · split <;> exact answers_next _
    · exact answers_next _
    · exact answers_next _

theorem execEventTake_answers {l : Fin 16} {safePoint : Option (BitVec 12)} : Answers (execEventTake l safePoint s) := by
  unfold execEventTake
  extract_lets
  split
  · exact answers_next _
  · split
    · exact answers_next _
    · split
      · exact answers_next _
      · split
        · exact answers_next _
        · split
          · exact answers_next _
          · split <;> exact answers_next _

theorem execEngineRun_answers {l : Fin 16} {v : Word} : Answers (execEngineRun l v s) := by
  unfold execEngineRun
  refine answers_opWrite ?_
  split
  · exact answers_next _
  · split <;> exact answers_next _

theorem execEngineStop_answers {l : Fin 16} {v : Word} : Answers (execEngineStop l v s) := by
  unfold execEngineStop
  refine answers_opWrite ?_
  split <;> exact answers_next _

theorem execPseg_answers {r : Fin 1024} : Answers (execPseg r s) := by
  unfold execPseg
  split
  · exact answers_next _
  · extract_lets
    split
    · exact answers_next _
    · split
      · exact answers_next _
      · split
        · exact answers_next _
        · split <;> exact answers_next _

theorem execPload_answers {r : Fin 1024} {data : List Word64} {dmaOk : Bool} : Answers (execPload r data dmaOk s) := by
  unfold execPload
  split
  · exact answers_next _
  · extract_lets
    split
    · exact answers_next _
    · split
      · exact answers_next _
      · split
        · exact answers_next _
        · split
          · exact answers_next _
          · split <;> exact answers_next _

theorem execPread_answers {r : Fin 1024} {dmaOk : Bool} : Answers (execPread r dmaOk s) := by
  unfold execPread
  split
  · exact answers_next _
  · extract_lets
    split
    · exact answers_next _
    · split <;> exact answers_next _

theorem execSfcLoad_answers {v : Word} : Answers (execSfcLoad v s) := by
  unfold execSfcLoad
  refine answers_opWrite ?_
  split <;> exact answers_next _

theorem execLineFrameStart_answers {n : Fin 32} {phase : Int} : Answers (execLineFrameStart n phase s) := by
  unfold execLineFrameStart
  split
  · exact answers_next _
  · split <;> exact answers_next _

theorem execHoldExpire_answers {n : Fin 32} : Answers (execHoldExpire n s) := by
  unfold execHoldExpire
  extract_lets
  split <;> exact answers_next _

theorem execCodewordDecode_answers {n : Fin 32} {frame : BitVec 51} {k : Fin 512} {need : Option (Fin 16)}
    {corrBits : BitVec 16} {data : List Byte} {fails : List Nat} {rngMsg : Bool} :
    Answers (execCodewordDecode n frame k need corrBits data fails rngMsg s) := by
  unfold execCodewordDecode
  split
  · exact answers_next _
  · extract_lets
    split
    · exact answers_next _
    · split
      · split
        exact answers_next _
      · split
        exact answers_next _

theorem execBurstTruncation_answers {n : Fin 32} {frame : BitVec 51} {k : Fin 512} :
    Answers (execBurstTruncation n frame k s) := by
  unfold execBurstTruncation
  split
  · exact answers_next _
  · split
    · exact answers_next _
    · extract_lets
      split
      exact answers_next _

theorem execReasmTimeout_answers {st : BitVec 16} : Answers (execReasmTimeout st s) := by
  unfold execReasmTimeout
  split <;> exact answers_next _

theorem execSecondBoundary_answers {sec : BitVec 34} {fec : List FecSecond} : Answers (execSecondBoundary sec fec s) := by
  unfold execSecondBoundary
  split <;> exact answers_next _

theorem execCircuitCommit_answers {c : Fin 2048} {v : Word} : Answers (execCircuitCommit c v s) := by
  unfold execCircuitCommit
  refine answers_opWrite ?_
  extract_lets
  split
  · exact answers_next _
  · split
    · exact answers_next _
    · split <;> exact answers_next _

theorem execCarrierFrameReceive_answers {e : Fin 4096} : Answers (execCarrierFrameReceive e s) := by
  unfold execCarrierFrameReceive
  extract_lets
  split
  · exact answers_next _
  · extract_lets
    split <;> exact answers_next _

theorem execPwPacketSend_answers {w : Fin 2048} : Answers (execPwPacketSend w s) := by
  unfold execPwPacketSend
  split
  · exact answers_next _
  · split <;> exact answers_next _

theorem execPwPacketReceive_answers {w : Fin 2048} : Answers (execPwPacketReceive w s) := by
  unfold execPwPacketReceive
  split
  · exact answers_next _
  · extract_lets
    split
    · exact answers_next _
    · extract_lets
      split
      · exact answers_next _
      · split <;> exact answers_next _

theorem execPmSecondCommit_answers {e : Fin 20504} {sec : BitVec 34} : Answers (execPmSecondCommit e sec s) := by
  unfold execPmSecondCommit
  split <;> exact answers_next _

theorem execPmBinClose_answers {e : Fin 20504} {day : Bool} {start : BitVec 34} {dmaOk : Bool} :
    Answers (execPmBinClose e day start dmaOk s) := by
  unfold execPmBinClose
  extract_lets
  split <;> exact answers_next _

theorem execPacketPass_answers {p : Fin 5} {unc : Bool} : Answers (execPacketPass p unc s) := by
  unfold execPacketPass
  split
  · exact answers_next _
  · split
    · exact answers_next _
    · extract_lets
      split
      exact answers_next _
    · exact answers_next _

theorem execTnode_answers {r : Fin 1024} {data : List (BitVec 256)} {dmaOk : Bool} : Answers (execTnode r data dmaOk s) := by
  unfold execTnode
  split
  · exact answers_next _
  · extract_lets
    split
    · exact answers_next _
    · split
      · exact answers_next _
      · split
        · exact answers_next _
        · split <;> exact answers_next _

theorem execTrule_answers {r : Fin 1024} {data : List (BitVec 512)} {dmaOk : Bool} : Answers (execTrule r data dmaOk s) := by
  unfold execTrule
  split
  · exact answers_next _
  · extract_lets
    split
    · exact answers_next _
    · split
      · exact answers_next _
      · split
        · exact answers_next _
        · split
          · exact answers_next _
          · split <;> exact answers_next _

theorem execTroot_answers {r : Fin 1024} {data : List Word} {dmaOk : Bool} : Answers (execTroot r data dmaOk s) := by
  unfold execTroot
  split
  · exact answers_next _
  · split
    · exact answers_next _
    · split
      · exact answers_next _
      · split <;> exact answers_next _

theorem execTread_answers {r : Fin 1024} {dmaOk : Bool} : Answers (execTread r dmaOk s) := by
  unfold execTread
  split
  · exact answers_next _
  · extract_lets
    split
    · split
      · exact answers_next _
      · split
        · exact answers_next _
        · split <;> exact answers_next _
    · split
      · exact answers_next _
      · split
        · exact answers_next _
        · split <;> exact answers_next _

theorem execEswap_answers {r : Fin 1024} : Answers (execEswap r s) := by
  unfold execEswap
  split
  · exact answers_next _
  · split
    · exact answers_next _
    · split
      · exact answers_next _
      · split <;> exact answers_next _

theorem execEpochSwapPoint_answers : Answers (execEpochSwapPoint s) := by
  unfold execEpochSwapPoint
  split <;> exact answers_next _

theorem execLearnPlace_answers {draw : Word} : Answers (execLearnPlace draw s) := by
  unfold execLearnPlace
  split
  · exact answers_next _
  · extract_lets
    split
    · exact answers_next _
    · split
      · exact answers_next _
      · split <;> exact answers_next _

theorem execBufferAlloc_answers {j : Fin 8} {pick : BitVec 19} {metaBad : Bool} :
    Answers (execBufferAlloc j pick metaBad s) := by
  unfold execBufferAlloc
  split
  · exact answers_next _
  · extract_lets
    split
    · exact answers_next _
    · split <;> exact answers_next _

theorem execBufferShare_answers {ptr : BitVec 19} {code : BitVec 8} {copies : BitVec 13} {last : BitVec 7} :
    Answers (execBufferShare ptr code copies last s) := by
  unfold execBufferShare
  split <;> exact answers_next _

theorem execBpmEnable_answers {en : Bool} : Answers (execBpmEnable en s) := by
  unfold execBpmEnable
  refine answers_opWrite ?_
  split
  · split
    · exact answers_next _
    · split <;> exact answers_next _
  · split <;> exact answers_next _

theorem execFrameAdmit_answers : Answers (execFrameAdmit s) := by
  unfold execFrameAdmit
  split
  · exact answers_next _
  · extract_lets
    split
    · exact answers_next _
    · split <;> exact answers_next _

theorem execEgressSelect_answers {e : Fin 57} : Answers (execEgressSelect e s) := by
  unfold execEgressSelect
  extract_lets
  split
  · split
    · exact answers_next _
    · split <;> exact answers_next _
  · split
    · exact answers_next _
    · split
      · exact answers_next _
      · split <;> exact answers_next _

theorem execShaperTick_answers {x : Fin 88832} : Answers (execShaperTick x s) := by
  unfold execShaperTick
  split <;> exact answers_next _

theorem execShaperWrite_answers {fn : Fn} {fill : Bool} : Answers (execShaperWrite fn fill s) := by
  unfold execShaperWrite
  refine answers_fnWrite ?_
  extract_lets
  split <;> exact answers_next _

theorem execShaperRead_answers {go : ReadGo} : Answers (execShaperRead go s) := by
  unfold execShaperRead
  extract_lets
  refine answers_fnWrite ?_
  split <;> exact answers_next _

theorem execGateCommit_answers {g : Fin 56} {v : Word} : Answers (execGateCommit g v s) := by
  unfold execGateCommit
  refine answers_opWrite ?_
  extract_lets
  split
  · exact answers_next _
  · split <;> exact answers_next _

theorem execGateTakeover_answers {g : Fin 56} : Answers (execGateTakeover g s) := by
  unfold execGateTakeover
  split <;> exact answers_next _

theorem execGateEntryAdvance_answers {g : Fin 56} : Answers (execGateEntryAdvance g s) := by
  unfold execGateEntryAdvance
  extract_lets
  split
  · exact answers_next _
  · split <;> exact answers_next _

theorem execLaunchSelect_answers {e : Fin 57} : Answers (execLaunchSelect e s) := by
  unfold execLaunchSelect
  split
  · exact answers_next _
  · split
    · exact answers_next _
    · extract_lets
      split
      · exact answers_next _
      · split <;> exact answers_next _

theorem execQueueDisable_answers {x : QNode} {v : Word} : Answers (execQueueDisable x v s) := by
  unfold execQueueDisable
  refine answers_opWrite ?_
  split <;> exact answers_next _

theorem execQueueDrained_answers {x : QNode} : Answers (execQueueDrained x s) := by
  unfold execQueueDrained
  split <;> exact answers_next _

theorem execQueueEnable_answers {x : QNode} {v : Word} : Answers (execQueueEnable x v s) := by
  unfold execQueueEnable
  refine answers_opWrite ?_
  split
  · exact answers_next _
  · split <;> exact answers_next _

theorem execQueueSample_answers {q : Fin 69632} : Answers (execQueueSample q s) := by
  unfold execQueueSample
  extract_lets
  split <;> exact answers_next _

theorem execTkey_answers {fn : Fn} : Answers (execTkey fn s) := by
  unfold execTkey
  refine answers_fnWrite ?_
  extract_lets
  split <;> exact answers_next _

theorem execTswitch_answers {fn : Fn} : Answers (execTswitch fn s) := by
  unfold execTswitch
  refine answers_fnWrite ?_
  extract_lets
  split <;> exact answers_next _

theorem execTclear_answers {fn : Fn} : Answers (execTclear fn s) := by
  unfold execTclear
  refine answers_fnWrite ?_
  extract_lets
  split <;> exact answers_next _

theorem execSakey_answers {fn : Fn} : Answers (execSakey fn s) := by
  unfold execSakey
  refine answers_fnWrite ?_
  extract_lets
  split <;> exact answers_next _

theorem execSaena_answers {fn : Fn} : Answers (execSaena fn s) := by
  unfold execSaena
  refine answers_fnWrite ?_
  extract_lets
  split <;> exact answers_next _

theorem execSadis_answers {fn : Fn} : Answers (execSadis fn s) := by
  unfold execSadis
  refine answers_fnWrite ?_
  extract_lets
  split
  · exact answers_next _
  · split <;> exact answers_next _

theorem execSaDone_answers {a : Fin 1024} : Answers (execSaDone a s) := by
  unfold execSaDone
  split <;> exact answers_next _

theorem execQuadModeWrite_answers {q : Fin 6} {v : Word} : Answers (execQuadModeWrite q v s) := by
  unfold execQuadModeWrite
  refine answers_opWrite ?_
  split <;> exact answers_next _

theorem execUplPortEnable_answers {u : Fin 24} {v : Word} : Answers (execUplPortEnable u v s) := by
  unfold execUplPortEnable
  refine answers_opWrite ?_
  split <;> exact answers_next _

theorem execUplPortDisable_answers {u : Fin 24} {v : Word} : Answers (execUplPortDisable u v s) := by
  unfold execUplPortDisable
  refine answers_opWrite ?_
  split <;> exact answers_next _

theorem execLaneLock_answers {l : Fin 32} {fit : LaneFit} : Answers (execLaneLock l fit s) := by
  unfold execLaneLock
  split
  · extract_lets
    split <;> exact answers_next _
  · split
    · exact answers_next _
    · extract_lets
      split
      · exact answers_next _
      · split <;> exact answers_next _

theorem execLaneLockLoss_answers {l : Fin 32} : Answers (execLaneLockLoss l s) := by
  unfold execLaneLockLoss
  split
  · exact answers_next _
  · extract_lets
    split
    · exact answers_next _
    · extract_lets
      split <;> exact answers_next _

theorem execRetrainTimeout_answers {u : Fin 24} : Answers (execRetrainTimeout u s) := by
  unfold execRetrainTimeout
  split
  · exact answers_next _
  · extract_lets
    split
    · exact answers_next _
    · split
      · exact answers_next _
      · split
        split <;> exact answers_next _

theorem execUplRxFrame_answers {u : Fin 24} {data : List Byte} {fcsBad uncorr cutOff : Bool} {ns : Word64}
    {frac : BitVec 16} :
    Answers (execUplRxFrame u data fcsBad uncorr cutOff ns frac s) := by
  unfold execUplRxFrame
  extract_lets
  split
  · exact answers_next _
  · split
    · exact answers_next _
    · split
      · exact answers_next _
      · split
        · exact answers_next _
        · split
          · exact answers_next _
          · split <;> exact answers_next _

theorem execProtGroupEnable_answers {g : Fin 24} {v : Word} : Answers (execProtGroupEnable g v s) := by
  unfold execProtGroupEnable
  refine answers_opWrite ?_
  extract_lets
  split <;> exact answers_next _

theorem execMlkLinkUp_answers : Answers (execMlkLinkUp s) := by
  unfold execMlkLinkUp
  split
  · split <;> exact answers_next _
  · exact answers_next _

theorem execMlkBlockReceive_answers {l : Fin 8} {b : BitVec 256} : Answers (execMlkBlockReceive l b s) := by
  unfold execMlkBlockReceive
  split
  · exact answers_next _
  · extract_lets
    split
    · exact answers_next _
    · split
      · exact answers_next _
      · split <;> exact answers_next _

theorem execMlkNarrowDone_answers : Answers (execMlkNarrowDone s) := by
  unfold execMlkNarrowDone
  split <;> exact answers_next _

theorem execMlkLaneRetrain_answers {l : Fin 8} {locks : Bool} : Answers (execMlkLaneRetrain l locks s) := by
  unfold execMlkLaneRetrain
  split
  · exact answers_next _
  · extract_lets
    split
    · exact answers_next _
    · split
      · exact answers_next _
      · split
        split <;> exact answers_next _

theorem execSlewEnd_answers : Answers (execSlewEnd s) := by
  unfold execSlewEnd
  split <;> exact answers_next _

theorem execPpsConfigWrite_answers {o : Fin 2} {f : PpsCfg} {v : Word} : Answers (execPpsConfigWrite o f v s) := by
  unfold execPpsConfigWrite
  extract_lets
  refine answers_opWrite ?_
  split
  exact answers_next _

theorem execMateTimeReceive_answers : Answers (execMateTimeReceive s) := by
  unfold execMateTimeReceive
  split <;> exact answers_next _

theorem execTodPeriodStart_answers {n : Fin 32} : Answers (execTodPeriodStart n s) := by
  unfold execTodPeriodStart
  split <;> exact answers_next _

theorem execProtEnable_answers {n : Fin 32} {v : Word} : Answers (execProtEnable n v s) := by
  unfold execProtEnable
  refine answers_opWrite ?_
  split
  · exact answers_next _
  · extract_lets
    split <;> exact answers_next _

theorem execProtForce_answers {n : Fin 32} : Answers (execProtForce n s) := by
  unfold execProtForce
  refine answers_opWrite ?_
  extract_lets
  split
  · exact answers_next _
  · split <;> exact answers_next _

theorem execSilentDetect_answers {n : Fin 32} : Answers (execSilentDetect n s) := by
  unfold execSilentDetect
  split <;> exact answers_next _

theorem execMateTimeout_answers {n : Fin 32} : Answers (execMateTimeout n s) := by
  unfold execMateTimeout
  split <;> exact answers_next _

theorem execSwitchReceive_answers : Answers (execSwitchReceive s) := by
  unfold execSwitchReceive
  split
  · exact answers_next _
  · extract_lets
    split <;> exact answers_next _

theorem execDarkReceive_answers : Answers (execDarkReceive s) := by
  unfold execDarkReceive
  split <;> exact answers_next _

theorem execTakingLight_answers {n : Fin 32} : Answers (execTakingLight n s) := by
  unfold execTakingLight
  split <;> exact answers_next _

theorem execReleasingDark_answers {n : Fin 32} : Answers (execReleasingDark n s) := by
  unfold execReleasingDark
  split <;> exact answers_next _

theorem execStateBlockReceive_answers : Answers (execStateBlockReceive s) := by
  unfold execStateBlockReceive
  extract_lets
  split <;> exact answers_next _

theorem execMirrorReceive_answers : Answers (execMirrorReceive s) := by
  unfold execMirrorReceive
  split <;> exact answers_next _

theorem execMapBlockReceive_answers : Answers (execMapBlockReceive s) := by
  unfold execMapBlockReceive
  split
  · exact answers_next _
  · extract_lets
    split
    · exact answers_next _
    · split
      · exact answers_next _
      · split <;> exact answers_next _

theorem execDescriptorFetch_answers {r : Fin 1024} {data : BitVec 256} {dmaOk : Bool} :
    Answers (execDescriptorFetch r data dmaOk s) := by
  unfold execDescriptorFetch
  extract_lets
  split
  · exact answers_next _
  · split <;> exact answers_next _

theorem execPtxQueue_answers {r : Fin 1024} {data : List Byte} {dmaOk : Bool} : Answers (execPtxQueue r data dmaOk s) := by
  unfold execPtxQueue
  split
  · exact answers_next _
  · extract_lets
    split
    · exact answers_next _
    · split
      · exact answers_next _
      · split <;> exact answers_next _

theorem execPtxPloam_answers {r : Fin 1024} {data : List Byte} {dmaOk : Bool} : Answers (execPtxPloam r data dmaOk s) := by
  unfold execPtxPloam
  split
  · exact answers_next _
  · extract_lets
    split
    · exact answers_next _
    · split
      · exact answers_next _
      · split
        · exact answers_next _
        · split
          · exact answers_next _
          · split <;> exact answers_next _

theorem execPtxComplete_answers {e : Fin 57} {ns : Word64} {frac : BitVec 16} : Answers (execPtxComplete e ns frac s) := by
  unfold execPtxComplete
  split
  · exact answers_next _
  · extract_lets
    split
    · exact answers_next _
    · split <;> exact answers_next _

theorem execPrxDeliver_answers {dmaOk wrOk : Bool} : Answers (execPrxDeliver dmaOk wrOk s) := by
  unfold execPrxDeliver
  split
  · exact answers_next _
  · extract_lets
    split <;> exact answers_next _

theorem execMsixModTimer_answers {r : Fin 1024} : Answers (execMsixModTimer r s) := by
  unfold execMsixModTimer
  split <;> exact answers_next _

theorem execPcieReset_answers {loss : Bool} : Answers (execPcieReset loss s) := by
  unfold execPcieReset
  split <;> exact answers_next _

theorem execVfFlr_answers {t : Fin 16} : Answers (execVfFlr t s) := by
  unfold execVfFlr
  split <;> exact answers_next _

theorem execSourceClassWrite_answers {src : Fin 52} {cls : Fin 4} : Answers (execSourceClassWrite src cls s) := by
  unfold execSourceClassWrite
  refine answers_opWrite ?_
  extract_lets
  split
  · exact answers_next _
  · split <;> exact answers_next _

theorem execFltInj_answers {src : Fin 64} {sameCycle : Bool} : Answers (execFltInj src sameCycle s) := by
  unfold execFltInj
  refine answers_opWrite ?_
  extract_lets
  split <;> exact answers_next _

theorem execQuietTimerExpire_answers : Answers (execQuietTimerExpire s) := by
  unfold execQuietTimerExpire
  split
  · exact answers_next _
  · split <;> exact answers_next _

theorem execFltRcvClr_answers {v : Word} {late : Bool} : Answers (execFltRcvClr v late s) := by
  unfold execFltRcvClr
  refine answers_opWrite ?_
  extract_lets
  split
  · split <;> exact answers_next _
  · split <;> exact answers_next _

theorem execSoftwareGlobalReset_answers {v : Word} {late : Bool} : Answers (execSoftwareGlobalReset v late s) := by
  unfold execSoftwareGlobalReset
  refine answers_opWrite ?_
  extract_lets
  split
  · exact answers_next _
  · split <;> exact answers_next _

theorem execSettCheck_answers {find : SettFind} : Answers (execSettCheck find s) := by
  unfold execSettCheck
  split <;> exact answers_next _

theorem execTrimLoad_answers {crcMatch : Bool} : Answers (execTrimLoad crcMatch s) := by
  unfold execTrimLoad
  split
  · exact answers_next _
  · split <;> exact answers_next _

theorem execMemoryBist_answers {defects : List MemDefect} : Answers (execMemoryBist defects s) := by
  unfold execMemoryBist
  split <;> exact answers_next _

theorem execDomainRelease_answers {perst : Bool} : Answers (execDomainRelease perst s) := by
  unfold execDomainRelease
  split <;> exact answers_next _

theorem execBootRom_answers {copyA copyB : BootCheck} {version : Word} : Answers (execBootRom copyA copyB version s) := by
  unfold execBootRom
  split
  · exact answers_next _
  · split
    · exact answers_next _
    · split <;> exact answers_next _

theorem execHostLoad_answers {len : BitVec 20} {check : BootCheck} {recovery : Bool} {version : Word} :
    Answers (execHostLoad len check recovery version s) := by
  unfold execHostLoad
  refine answers_opWrite ?_
  split <;> exact answers_next _

theorem execOutRel_answers {slotA slotB : Option LedgerSlot} : Answers (execOutRel slotA slotB s) := by
  unfold execOutRel
  split <;> exact answers_next _

theorem execQuietEnter_answers : Answers (execQuietEnter s) := by
  unfold execQuietEnter
  extract_lets
  split <;> exact answers_next _

theorem execSnapCopy_answers : Answers (execSnapCopy s) := by
  unfold execSnapCopy
  split <;> exact answers_next _

theorem execThresholdCommit_answers {k : Fin 64} {v : Word} : Answers (execThresholdCommit k v s) := by
  unfold execThresholdCommit
  extract_lets
  refine answers_opWrite ?_
  exact answers_next _

theorem execTraceCtrlWrite_answers {v : Word} : Answers (execTraceCtrlWrite v s) := by
  unfold execTraceCtrlWrite
  extract_lets
  refine answers_opWrite ?_
  exact answers_next _

theorem execMirrorWriteDone_answers {ok : Bool} : Answers (execMirrorWriteDone ok s) := by
  unfold execMirrorWriteDone
  split <;> exact answers_next _

theorem execTracePortSend_answers : Answers (execTracePortSend s) := by
  unfold execTracePortSend
  split <;> exact answers_next _

theorem execPcieLinkTrained_answers {width8 : Bool} {up : LinkUp} : Answers (execPcieLinkTrained width8 up s) := by
  unfold execPcieLinkTrained
  split <;> exact answers_next _


theorem exec_answers (c : Instr) (s : State) : Answers (exec c s) := by
  cases c with
  | registerWrite => exact answers_next _
  | heldWordWrite => exact answers_next _
  | partialByteWrite => exact answers_next _
  | reservedAccess => exact answers_next _
  | inResetAccess => exact answers_next _
  | latchingRead => exact answers_next _
  | counterLowRead => exact answers_next _
  | clearOnRead => exact answers_next _
  | dcqItemVisible => exact execDcqItemVisible_answers
  | faultSourceEvent => exact answers_next _
  | faultAck => exact execFaultAck_answers
  | memoryErrorRetry => exact answers_next _
  | rowRemapDone => exact answers_next _
  | pipelineError => exact execPipelineError_answers
  | pipelineWatchExpire => exact answers_next _
  | tpaModeWrite => exact answers_opWrite (answers_next _)
  | portEnable => exact answers_opWrite (answers_next _)
  | portDisable => exact answers_opWrite (answers_next _)
  | portDrained => exact answers_next _
  | laserEnClear => exact answers_opWrite (answers_next _)
  | laserEnSet => exact answers_opWrite (answers_next _)
  | pmaPatternWrite => exact answers_opWrite (answers_next _)
  | framingStart => exact answers_next _
  | burstResetPulse => exact execBurstResetPulse_answers
  | sdCheck => exact execSdCheck_answers
  | rogueEvent => exact answers_next _
  | i2cCmdGo => exact answers_opWrite (answers_next _)
  | i2cCmdDone => exact execI2cCmdDone_answers
  | i2cTimeout => exact answers_next _
  | brxProfWrite => exact answers_opWrite (answers_next _)
  | brxCtrlWrite => exact answers_opWrite (answers_next _)
  | memInvalidateOne => exact answers_opWrite (answers_next _)
  | memInvalidateAll => exact answers_opWrite (answers_next _)
  | memCmdDone => exact answers_next _
  | ageTick => exact answers_next _
  | burstKindsFixed => exact execBurstKindsFixed_answers
  | brxSleep => exact answers_next _
  | brxWake => exact execBrxWake_answers
  | planningPoint => exact execPlanningPoint_answers
  | burstAcquire => exact execBurstAcquire_answers
  | burstVerdict => exact execBurstVerdict_answers
  | teqWrite => exact answers_opWrite (answers_next _)
  | rngDiscWrite => exact answers_opWrite (answers_next _)
  | rngTrackWrite => exact answers_opWrite (answers_next _)
  | discRequest => exact answers_next _
  | snResponse => exact execSnResponse_answers
  | assignTimeout => exact answers_next _
  | rngAssign => exact execRngAssign_answers
  | rngReject => exact answers_opWrite (answers_next _)
  | rngRerange => exact answers_opWrite (answers_next _)
  | rngDeactivate => exact answers_opWrite (answers_next _)
  | rngInvalidate => exact answers_opWrite (answers_next _)
  | rangingRequest => exact execRangingRequest_answers
  | rangingBurst => exact execRangingBurst_answers
  | rangingAttemptFail => exact execRangingAttemptFail_answers
  | offsetTrack => exact execOffsetTrack_answers
  | pendTimeout => exact execPendTimeout_answers
  | lockFailReport => exact execLockFailReport_answers
  | lostTimeout => exact answers_next _
  | recordPublish => exact answers_next _
  | gntStreamCommit => exact execGntStreamCommit_answers
  | ssWindowCommit => exact answers_opWrite (answers_next _)
  | gntPortCfgWrite => exact execGntPortCfgWrite_answers
  | coalesceDrain => exact execCoalesceDrain_answers
  | reportStallLimit => exact answers_next _
  | missingPage => exact execMissingPage_answers
  | ledgerClose => exact execLedgerClose_answers
  | udfCountsDeliver => exact execUdfCountsDeliver_answers
  | microcodeLoad => exact execMicrocodeLoad_answers
  | microcodeLoadDone => exact answers_next _
  | engineFault => exact execEngineFault_answers
  | migrateDone => exact execMigrateDone_answers
  | eventPending => exact execEventPending_answers
  | eventTake => exact execEventTake_answers
  | engineRun => exact execEngineRun_answers
  | engineStop => exact execEngineStop_answers
  | mtnMboxWrite => exact answers_opWrite (answers_next _)
  | engineWake => exact answers_next _
  | sisAdd => exact answers_ite (answers_next _) (answers_next _)
  | sisSub => exact answers_ite (answers_next _) (answers_next _)
  | sisAnd => exact answers_ite (answers_next _) (answers_next _)
  | sisOr => exact answers_ite (answers_next _) (answers_next _)
  | sisXor => exact answers_ite (answers_next _) (answers_next _)
  | sisShl => exact answers_ite (answers_next _) (answers_next _)
  | sisShr => exact answers_ite (answers_next _) (answers_next _)
  | sisAsr => exact answers_ite (answers_next _) (answers_next _)
  | sisMin => exact answers_ite (answers_next _) (answers_next _)
  | sisMax => exact answers_ite (answers_next _) (answers_next _)
  | sisMul => exact answers_ite (answers_next _) (answers_next _)
  | sisExt => exact answers_ite (answers_next _) (answers_next _)
  | sisIns => exact answers_ite (answers_next _) (answers_next _)
  | sisAddi => exact answers_ite (answers_next _) (answers_next _)
  | sisAndi => exact answers_ite (answers_next _) (answers_next _)
  | sisOri => exact answers_ite (answers_next _) (answers_next _)
  | sisXori => exact answers_ite (answers_next _) (answers_next _)
  | sisShli => exact answers_ite (answers_next _) (answers_next _)
  | sisShri => exact answers_ite (answers_next _) (answers_next _)
  | sisAsri => exact answers_ite (answers_next _) (answers_next _)
  | sisMuli => exact answers_ite (answers_next _) (answers_next _)
  | sisLi => exact answers_ite (answers_next _) (answers_next _)
  | sisLih => exact answers_ite (answers_next _) (answers_next _)
  | sisCb => exact answers_ite (answers_next _) (answers_next _)
  | sisCall => exact answers_ite (answers_next _) (answers_next _)
  | sisJr => exact answers_ite (answers_next _) (answers_next _)
  | sisCallx => exact answers_ite (answers_next _) (answers_next _)
  | sisRetx => exact answers_ite (answers_next _) (answers_next _)
  | sisBudgetSpent => exact answers_next _
  | sisEret => exact answers_ite (answers_next _) (answers_next _)
  | sisHalt => exact answers_ite (answers_next _) (answers_next _)
  | sisRdsys => exact answers_ite (answers_next _) (answers_next _)
  | sisWrsys => exact answers_ite (answers_next _) (answers_next _)
  | sisWaitft => exact answers_ite (answers_next _) (answers_next _)
  | sisLds => exact answers_ite (answers_next _) (answers_next _)
  | sisSts => exact answers_ite (answers_next _) (answers_next _)
  | sisLdt => exact answers_ite (answers_next _) (answers_next _)
  | sisStt => exact answers_ite (answers_next _) (answers_next _)
  | sisLdl => exact answers_ite (answers_next _) (answers_next _)
  | sisStl => exact answers_ite (answers_next _) (answers_next _)
  | sisSort => exact answers_ite (answers_next _) (answers_next _)
  | sisScans => exact answers_ite (answers_next _) (answers_next _)
  | sisScant => exact answers_ite (answers_next _) (answers_next _)
  | sisRdrpt => exact answers_ite (answers_next _) (answers_next _)
  | sisRptlv => exact answers_ite (answers_next _) (answers_next _)
  | sisMbs => exact answers_ite (answers_next _) (answers_next _)
  | sisMbr => exact answers_ite (answers_next _) (answers_next _)
  | sisEmit => exact answers_ite (answers_next _) (answers_next _)
  | sisCali => exact answers_ite (answers_next _) (answers_next _)
  | sisSeal => exact answers_ite (answers_next _) (answers_next _)
  | pseg => exact execPseg_answers
  | pload => exact execPload_answers
  | pread => exact execPread_answers
  | frameTick => exact answers_next _
  | sfcLoad => exact execSfcLoad_answers
  | ftOffsetWrite => exact answers_opWrite (answers_next _)
  | lineFrameStart => exact execLineFrameStart_answers
  | mapRead => exact answers_next _
  | profileAnnounce => exact answers_next _
  | holdBegin => exact answers_opWrite (answers_next _)
  | holdEnd => exact answers_opWrite (answers_next _)
  | holdExpire => exact execHoldExpire_answers
  | codewordDecode => exact execCodewordDecode_answers
  | burstTruncation => exact execBurstTruncation_answers
  | reasmTimeout => exact execReasmTimeout_answers
  | secondBoundary => exact execSecondBoundary_answers
  | circuitCommit => exact execCircuitCommit_answers
  | pwEntryCommit => exact answers_opWrite (answers_next _)
  | carrierFrameReceive => exact execCarrierFrameReceive_answers
  | alignWordMatch => exact answers_next _
  | tceSwap => exact answers_opWrite (answers_next _)
  | pwPacketSend => exact execPwPacketSend_answers
  | pwPacketReceive => exact execPwPacketReceive_answers
  | pmSecondCommit => exact execPmSecondCommit_answers
  | pmBinClose => exact execPmBinClose_answers
  | selectionCommit => exact answers_opWrite (answers_next _)
  | profileCommit => exact answers_opWrite (answers_next _)
  | packetPass => exact execPacketPass_answers
  | tnode => exact execTnode_answers
  | trule => exact execTrule_answers
  | troot => exact execTroot_answers
  | tread => exact execTread_answers
  | eswap => exact execEswap_answers
  | epochSwapPoint => exact execEpochSwapPoint_answers
  | learnPlace => exact execLearnPlace_answers
  | ageOut => exact answers_next _
  | fdbRead => exact answers_fnWrite (answers_next _)
  | fdbWrite => exact answers_fnWrite (answers_next _)
  | fdbInsert => exact answers_fnWrite (answers_next _)
  | fdbDelete => exact answers_fnWrite (answers_next _)
  | fdbSearch => exact answers_fnWrite (answers_next _)
  | fdbSeedWrite => exact answers_opWrite (answers_next _)
  | fidWrite => exact answers_opWrite (answers_next _)
  | bufferAlloc => exact execBufferAlloc_answers
  | bufferFree => exact answers_next _
  | bufferShare => exact execBufferShare_answers
  | bpmEnable => exact execBpmEnable_answers
  | bpmInitDone => exact answers_next _
  | bpmCfgWrite => exact answers_opWrite (answers_next _)
  | frameAdmit => exact execFrameAdmit_answers
  | egressSelect => exact execEgressSelect_answers
  | shaperTick => exact execShaperTick_answers
  | shaperWrite => exact execShaperWrite_answers
  | shaperRead => exact execShaperRead_answers
  | gateCommit => exact execGateCommit_answers
  | gateTakeover => exact execGateTakeover_answers
  | gateEntryAdvance => exact execGateEntryAdvance_answers
  | launchSelect => exact execLaunchSelect_answers
  | queueDisable => exact execQueueDisable_answers
  | queueDrained => exact execQueueDrained_answers
  | queueEnable => exact execQueueEnable_answers
  | tmgGrpWrite => exact answers_opWrite (answers_next _)
  | queueSample => exact execQueueSample_answers
  | tkey => exact execTkey_answers
  | tswitch => exact execTswitch_answers
  | tclear => exact execTclear_answers
  | sakey => exact execSakey_answers
  | saena => exact execSaena_answers
  | sadis => exact execSadis_answers
  | saDone => exact execSaDone_answers
  | gscWrite => exact answers_opWrite (answers_next _)
  | txscAnWrite => exact answers_opWrite (answers_next _)
  | quadModeWrite => exact execQuadModeWrite_answers
  | uplPortEnable => exact execUplPortEnable_answers
  | uplPortDisable => exact execUplPortDisable_answers
  | laneLock => exact execLaneLock_answers
  | laneLockLoss => exact execLaneLockLoss_answers
  | pcsAlign => exact answers_next _
  | alignTimeout => exact answers_next _
  | retrainTimeout => exact execRetrainTimeout_answers
  | uplRxFrame => exact execUplRxFrame_answers
  | uplGroupWrite => exact answers_opWrite (answers_next _)
  | protGroupEnable => exact execProtGroupEnable_answers
  | mlkEnable => exact answers_opWrite (answers_next _)
  | mlkTrainStart => exact answers_opWrite (answers_next _)
  | bitslip => exact answers_opWrite (answers_next _)
  | mlkTrainEnd => exact answers_opWrite (answers_next _)
  | mlkLinkUp => exact execMlkLinkUp_answers
  | mlkBlockReceive => exact execMlkBlockReceive_answers
  | mlkLaneDrop => exact answers_next _
  | mlkNarrowDone => exact execMlkNarrowDone_answers
  | mlkLaneRetrain => exact execMlkLaneRetrain_answers
  | mlkClockLoss => exact answers_next _
  | incCommit => exact answers_opWrite (answers_next _)
  | slewStart => exact answers_opWrite (answers_next _)
  | slewCancel => exact answers_opWrite (answers_next _)
  | slewEnd => exact execSlewEnd_answers
  | stepGo => exact answers_opWrite (answers_next _)
  | stepApply => exact answers_next _
  | rearmWrite => exact answers_opWrite (answers_next _)
  | tsrefLoss => exact answers_next _
  | tsPllUnlock => exact answers_next _
  | compareTargetCommit => exact answers_opWrite (answers_next _)
  | compareFire => exact answers_next _
  | ppsConfigWrite => exact execPpsConfigWrite_answers
  | ppsOutPulse => exact answers_next _
  | outHoldSet => exact answers_opWrite (answers_next _)
  | outHoldClear => exact answers_opWrite (answers_next _)
  | holdConverged => exact answers_next _
  | ppsInCapture => exact answers_next _
  | todTxWrite => exact answers_opWrite (answers_next _)
  | todRxByte => exact answers_next _
  | mateTimeSend => exact answers_next _
  | mateTimeReceive => exact execMateTimeReceive_answers
  | todPeriodStart => exact execTodPeriodStart_answers
  | protEnable => exact execProtEnable_answers
  | protForce => exact execProtForce_answers
  | protLockout => exact answers_opWrite (answers_next _)
  | protClear => exact answers_opWrite (answers_next _)
  | silentDetect => exact execSilentDetect_answers
  | mateTimeout => exact execMateTimeout_answers
  | switchReceive => exact execSwitchReceive_answers
  | darkReceive => exact execDarkReceive_answers
  | takingLight => exact execTakingLight_answers
  | releasingDark => exact execReleasingDark_answers
  | stateBlockSend => exact answers_next _
  | stateBlockReceive => exact execStateBlockReceive_answers
  | mirror => exact answers_next _
  | mirrorReceive => exact execMirrorReceive_answers
  | mapBlockReceive => exact execMapBlockReceive_answers
  | hifGrpWrite => exact answers_opWrite (answers_next _)
  | ringContextCommit => exact answers_fnWrite (answers_next _)
  | ringDisable => exact answers_fnWrite (answers_next _)
  | doorbell => exact answers_next _
  | descriptorFetch => exact execDescriptorFetch_answers
  | ptxQueue => exact execPtxQueue_answers
  | ptxPloam => exact execPtxPloam_answers
  | ptxComplete => exact execPtxComplete_answers
  | prxDeliver => exact execPrxDeliver_answers
  | msixModTimer => exact execMsixModTimer_answers
  | twData0Read => exact answers_next _
  | pcieReset => exact execPcieReset_answers
  | vfFlr => exact execVfFlr_answers
  | fltStatusClear => exact answers_opWrite (answers_next _)
  | sourceClassWrite => exact execSourceClassWrite_answers
  | ffrClear => exact answers_opWrite (answers_next _)
  | aliveToggle => exact answers_next _
  | fltInj => exact execFltInj_answers
  | quietTimerExpire => exact execQuietTimerExpire_answers
  | fltRcvClr => exact execFltRcvClr_answers
  | fltLock => exact answers_opWrite (answers_next _)
  | mateAliveLoss => exact answers_next _
  | powerOnAon => exact answers_next _
  | powerOnCore => exact answers_next _
  | porst => exact answers_next _
  | sysrst => exact answers_next _
  | softwareGlobalReset => exact execSoftwareGlobalReset_answers
  | watchdogExpire => exact answers_next _
  | supplyOutOfWindow => exact answers_next _
  | settCheck => exact execSettCheck_answers
  | strapMeasure => exact answers_next _
  | trimLoad => exact execTrimLoad_answers
  | pllLock => exact answers_next _
  | memoryBist => exact execMemoryBist_answers
  | domainRelease => exact execDomainRelease_answers
  | bootRom => exact execBootRom_answers
  | hostLoad => exact execHostLoad_answers
  | outRel => exact execOutRel_answers
  | blockSoftReset => exact answers_opWrite (answers_next _)
  | blockResetRelease => exact answers_next _
  | quietEnter => exact execQuietEnter_answers
  | quietExit => exact answers_next _
  | uplinkEgressSleep => exact answers_next _
  | snapGo => exact answers_opWrite (answers_next _)
  | snapCopy => exact execSnapCopy_answers
  | thresholdCommit => exact execThresholdCommit_answers
  | traceMark => exact answers_opWrite (answers_next _)
  | traceCtrlWrite => exact execTraceCtrlWrite_answers
  | lifetimeSecond => exact answers_next _
  | ledgerMirror => exact answers_next _
  | mirrorNow => exact answers_opWrite (answers_next _)
  | mirrorWriteDone => exact execMirrorWriteDone_answers
  | levelConditionAbsent => exact answers_next _
  | clkTsPllRelock => exact answers_next _
  | mlkClockReturn => exact answers_next _
  | pcsAlignmentLoss => exact answers_next _
  | uplinkEgressWake => exact answers_next _
  | clkOutEdge => exact answers_next _
  | tracePortSend => exact execTracePortSend_answers
  | pcieLinkTrained => exact execPcieLinkTrained_answers

/-- Settles O6: each command by the branches of its meaning. -/
theorem everyCommandAnswers : Obligations.EveryCommandAnswers := by
  unfold Obligations.EveryCommandAnswers
  exact exec_answers

end Sys2Proof.Machine
end

section
/-! PROOFS. The tree ports, their receivers, and ranging and discovery (O8 to O15). -/

namespace Sys2Proof.Machine

/-! The branch that a condition takes. -/

theorem next_if_pos {c : Prop} [Decidable c] {t u : State} (h : c) : (.next (if c then t else u) : Res) = .next t :=
  congrArg _ (if_pos h)

theorem next_if_neg {c : Prop} [Decidable c] {t u : State} (h : ¬ c) : (.next (if c then t else u) : Res) = .next u :=
  congrArg _ (if_neg h)

theorem next_if_false {b : Bool} {t u : State} (h : b = false) : (.next (if b then t else u) : Res) = .next u :=
  next_if_neg (ne_true_of_eq_false h)

theorem if_of_eq_false {α : Sort _} {b : Bool} {t u : α} (h : b = false) : (if b then t else u) = u :=
  if_neg (ne_true_of_eq_false h)

theorem if_not_of_eq_true {α : Sort _} {b : Bool} {t u : α} (h : b = true) : (if !b then t else u) = u :=
  if_of_eq_false (congrArg not h)

theorem if_not_of_eq_false {α : Sort _} {b : Bool} {t u : α} (h : b = false) : (if !b then t else u) = t :=
  if_pos (congrArg not h)

theorem ite_next {c : Prop} [Decidable c] {t u : State} :
    (if c then .next t else .next u : Res) = .next (if c then t else u) :=
  (apply_ite Host.Outcome.next c t u).symm

/-- Settles O8: each clause is one outcome of the command, by what its port shows. -/
theorem tpaPortSettings : Obligations.TpaPortSettings := by
  unfold Obligations.TpaPortSettings
  refine ⟨?modeStored, ?modeRefused, ?enabled, ?enabledBefore, ?enableRefused, ?disabled, ?drained, ?laserClear,
    ?laserSet, ?patternStored, ?patternRefused, ?framing, ?framingWhileTaking⟩
  case modeStored => exact fun _ _ _ h hidle => (State.opWrite_reaches h).trans (next_if_false hidle)
  case modeRefused => exact fun _ _ _ h hbusy => (State.opWrite_reaches h).trans (next_if_pos hbusy)
  case enabled =>
    exact fun _ _ _ _ h hgood hoff => (State.opWrite_reaches h).trans ((next_if_false hgood).trans (next_if_false hoff))
  case enabledBefore =>
    exact fun _ _ _ _ h hgood hon => (State.opWrite_reaches h).trans ((next_if_false hgood).trans (next_if_pos hon))
  case enableRefused => exact fun _ _ _ _ h hbad => (State.opWrite_reaches h).trans (next_if_pos hbad)
  case disabled => exact fun _ _ _ _ h => State.opWrite_reaches h
  case drained => exact fun _ _ hempty => next_if_false hempty
  case laserClear | laserSet =>
    exact fun _ _ h => State.opWrite_reaches h
  case patternStored => exact fun _ _ _ h hallowed => (State.opWrite_reaches h).trans (next_if_neg hallowed)
  case patternRefused => exact fun _ _ _ h hbusy => (State.opWrite_reaches h).trans (next_if_pos hbusy)
  case framing => exact fun _ _ hready hidle => (next_if_false hready).trans (next_if_false hidle)
  case framingWhileTaking => exact fun _ _ hready htaking => (next_if_false hready).trans (next_if_pos htaking)

/-- Settles O9: the lines by whether TPA acts on the burst and by light, the buses by what the module answers. -/
theorem tpaLinesAndOpticsBus : Obligations.TpaLinesAndOpticsBus := by
  unfold Obligations.TpaLinesAndOpticsBus
  refine ⟨?pulseSent, ?pulseSuppressed, ?pulsePassed, ?lightSeen, ?lightMissed, ?burstAbandoned, ?rogue,
    ?commandBegun, ?badLength, ?commandDone, ?notAcknowledged, ?recovered, ?timeout⟩
  case pulseSent =>
    intro n frame k s base b hburst lead width stop first t lim start t1 hlong
    dsimp only [exec, execBurstResetPulse]
    rw [hburst]
    exact next_if_neg hlong
  case pulseSuppressed =>
    intro n frame k s base b hburst lead width stop first t lim start t1 hshort
    dsimp only [exec, execBurstResetPulse]
    rw [hburst]
    exact next_if_pos hshort
  case pulsePassed =>
    intro n frame k s hnone
    dsimp only [exec, execBurstResetPulse]
    rw [hnone]
  case lightSeen =>
    intro n frame k pin s b hburst hgrant light t1 hlight
    dsimp only [exec, execSdCheck]
    rw [hburst]
    exact (if_neg hgrant).trans (if_pos hlight)
  case lightMissed =>
    intro n frame k pin s b hburst hgrant light t1 hdark t2 hungated
    dsimp only [exec, execSdCheck]
    rw [hburst]
    exact (if_neg hgrant).trans ((if_of_eq_false hdark).trans (next_if_false hungated))
  case burstAbandoned =>
    intro n frame k pin s b hburst hgrant light t1 hdark t2 hgated
    dsimp only [exec, execSdCheck]
    rw [hburst]
    exact (if_neg hgrant).trans ((if_of_eq_false hdark).trans (next_if_pos hgated))
  case rogue => exact fun _ _ _ _ hquiet => next_if_false hquiet
  case commandBegun =>
    exact fun _ _ _ h hidle hlength => (State.opWrite_reaches h).trans ((next_if_false hidle).trans (next_if_neg hlength))
  case badLength =>
    exact fun _ _ _ h hidle hlength => (State.opWrite_reaches h).trans ((next_if_false hidle).trans (next_if_pos hlength))
  case commandDone => exact fun _ _ _ hbusy => if_not_of_eq_true hbusy
  case notAcknowledged =>
    intro m i data s c hbusy hcode
    dsimp only [exec, execI2cCmdDone]
    rw [hcode]
    exact if_not_of_eq_true hbusy
  case recovered => exact fun _ _ _ _ hbusy => if_not_of_eq_true hbusy
  case timeout => exact fun _ _ hbusy => next_if_pos hbusy

/-- Settles O10: each write by its check, the commands on the memory by its BUSY bit. -/
theorem brxProfilesAndMemory : Obligations.BrxProfilesAndMemory := by
  unfold Obligations.BrxProfilesAndMemory
  refine ⟨?profStored, ?profRefused, ?ctrlStored, ?ctrlRefused, ?invalidateOne, ?invalidateOneBusy, ?invalidateAll,
    ?invalidateAllBusy, ?memDone, ?ageTick⟩
  case profStored => exact fun _ _ _ _ h hok => (State.opWrite_reaches h).trans (next_if_pos hok)
  case profRefused => exact fun _ _ _ _ h hbad => (State.opWrite_reaches h).trans (next_if_false hbad)
  case ctrlStored => exact fun _ _ _ h hok => (State.opWrite_reaches h).trans (next_if_pos hok)
  case ctrlRefused => exact fun _ _ _ h hbad => (State.opWrite_reaches h).trans (next_if_false hbad)
  case invalidateOne => exact fun _ _ _ h hfree => (State.opWrite_reaches h).trans (next_if_false hfree)
  case invalidateOneBusy => exact fun _ _ _ h hbusy => (State.opWrite_reaches h).trans (next_if_pos hbusy)
  case invalidateAll => exact fun _ _ h hfree => (State.opWrite_reaches h).trans (next_if_false hfree)
  case invalidateAllBusy => exact fun _ _ h hbusy => (State.opWrite_reaches h).trans (next_if_pos hbusy)
  case memDone => exact fun _ _ => rfl
  case ageTick => exact fun _ hup => next_if_pos hup

/-- Settles O11: planning by the page, waking by EN and the frame, a burst by its snapshot and what became of it. -/
theorem brxBursts : Obligations.BrxBursts := by
  unfold Obligations.BrxBursts
  refine ⟨?noPage, ?planned, ?planMissed, ?sleep, ?kindsFixed, ?wakeBurst, ?wakeUnknown, ?wakeDisabled,
    ?noDelimiter, ?acquired, ?acquireFailed, ?verdictGood, ?verdictBad⟩
  case noPage =>
    intro n frame copyBad s f t1 hnone
    dsimp only [exec, execPlanningPoint]
    rw [hnone]
  case planned =>
    intro n frame copyBad s f t1 g hpage quiet ok t2 t3 t4 hfollowed
    dsimp only [exec, execPlanningPoint]
    rw [hpage]
    exact next_if_false hfollowed
  case planMissed =>
    intro n frame copyBad s f t1 g hpage quiet ok t2 t3 t4 hmissed
    dsimp only [exec, execPlanningPoint]
    rw [hpage]
    exact next_if_pos hmissed
  case sleep => intros; rfl
  case kindsFixed =>
    intro n frame cycle s g hpage hclosed t1 d hrested
    dsimp only [exec, execBurstKindsFixed]
    rw [hpage]
    exact (if_of_eq_false hclosed).trans (next_if_false hrested)
  case wakeBurst =>
    rintro n frame _ s f hloud hen k rfl b hwakes
    dsimp only [exec, execBrxWake]
    rw [hwakes]
    exact (if_of_eq_false hloud).trans (if_not_of_eq_true hen)
  case wakeUnknown =>
    rintro n frame _ s f hloud hen rfl hunknown
    exact (if_of_eq_false hloud).trans ((if_not_of_eq_true hen).trans (next_if_false hunknown))
  case wakeDisabled =>
    intro n frame k s f hloud hoff x hwakes hgrant
    dsimp only [exec, execBrxWake]
    rw [hwakes]
    exact (if_of_eq_false hloud).trans ((if_not_of_eq_false hoff).trans (next_if_false hgrant))
  case noDelimiter =>
    intro n frame k eye found delim s sn b hsnap hburst h hopen t1 t2 hnone
    dsimp only [exec, execBurstAcquire]
    rw [hsnap, hburst, hnone]
    exact if_neg hopen
  case acquired =>
    intro n frame k eye found delim s sn b hsnap hburst h hopen t1 t2 near d hdelim kk off hfits
    dsimp only [exec, execBurstAcquire]
    rw [hsnap, hburst, hdelim]
    exact (if_neg hopen).trans (if_of_eq_false hfits)
  case acquireFailed =>
    intro n frame k eye found delim s sn b hsnap hburst h hopen t1 t2 near d hdelim kk off hmisfits
    dsimp only [exec, execBurstAcquire]
    rw [hsnap, hburst, hdelim]
    exact (if_neg hopen).trans (if_pos hmisfits)
  case verdictGood =>
    intro n frame k payload s sn b hsnap hburst rec_ ph hfound hopen hover h unc moves pk up up' t1 hgood
    dsimp only [exec, execBurstVerdict]
    rw [hsnap, hburst]
    dsimp only
    rw [hfound, hopen]
    exact (if_of_eq_false hover).trans (if_of_eq_false hgood)
  case verdictBad =>
    intro n frame k payload s sn b hsnap hburst rec_ ph hfound hopen hover h unc moves pk up up' t1 hbad
    dsimp only [exec, execBurstVerdict]
    rw [hsnap, hburst]
    dsimp only
    rw [hfound, hopen]
    exact (if_of_eq_false hover).trans (if_pos hbad)

/-- Settles O12: a write that arrives is stored or counted, by its check. -/
theorem rngGuardedRegisters : Obligations.RngGuardedRegisters := by
  unfold Obligations.RngGuardedRegisters
  refine ⟨?teqStored, ?teqRefused, ?discStored, ?discRefused, ?trackStored, ?trackRefused⟩
  case teqStored | discStored | trackStored =>
    exact fun _ _ _ h hok => (State.opWrite_reaches h).trans (next_if_pos hok)
  case teqRefused | discRefused | trackRefused =>
    exact fun _ _ _ h hbad => (State.opWrite_reaches h).trans (next_if_false hbad)

/-- What RNG does with an item of the messages' crossing that is a burst of a discovery window. -/
theorem exec_dcqItemVisible_serial {n : Fin 32} {x : Option SnReport} {s : State}
    (h : (s.crossing (32 * 5 + n)).items.head? = some (.serial x)) :
    exec (.dcqItemVisible (.messages n)) s = .next ((s.crossVisible 5 n).serialSeen n x) := by
  dsimp only [exec, execDcqItemVisible, State.consume]
  rw [h]

theorem if_none_of_imp {α : Type _} {b : Bool} {o : Option α} (h : b = true → o = none) :
    (if b then o else none) = none := by
  cases b with
  | false => rfl
  | true => exact h rfl

section
variable {n : Nat} {x : SnReport} {s : State}

theorem State.serialSeen_held {l : Nat} (h : s.snOn n x.sn = some l) :
    s.serialSeen n (some x) = ((s.inc (Reg.RNG_CNT_DUP n)).rngEvent n 2 l x.sn 0).raise 33 n := by
  dsimp only [State.serialSeen]
  rw [h]

theorem State.serialSeen_heldByPair {l : Nat} (hport : s.snOn n x.sn = none) (hvalid : (s.rngSees n).pairValid n = true)
    (hpair : s.snOn (pairOf n) x.sn = some l) :
    s.serialSeen n (some x) = ((s.inc (Reg.RNG_CNT_DUP_PAIR n)).rngEvent n 3 l x.sn 0).raise 33 n := by
  dsimp only [State.serialSeen]
  rw [hport, hvalid, if_pos rfl, hpair]

variable (hport : s.snOn n x.sn = none) (hpair : (s.rngSees n).pairValid n = true → s.snOn (pairOf n) x.sn = none)
include hport hpair

theorem State.serialSeen_assigned {l : Nat} (hauto : s.bit (Reg.RNG_DISC n) 11 = true) (hmay : s.mayAssign n = true)
    (hfree : s.lowestFree n = some l) :
    s.serialSeen n (some x) = (s.inc (Reg.RNG_CNT_SN_OK n)).assignIdx n l x.sn x.off
      (x.rnd * (s.rngSees n).rbHundredths n / 100000) := by
  dsimp only [State.serialSeen]
  rw [hport, if_none_of_imp hpair, hauto, hmay, if_pos rfl, hfree]

theorem State.serialSeen_notAssigned (hauto : s.bit (Reg.RNG_DISC n) 11 = true)
    (hnot : s.mayAssign n = false ∨ s.lowestFree n = none) :
    s.serialSeen n (some x) = s.inc (Reg.RNG_CNT_SN_DEFER n) := by
  have hnone : (if s.mayAssign n then s.lowestFree n else none) = none :=
    if_none_of_imp fun hmay => hnot.resolve_left (ne_false_of_eq_true hmay)
  dsimp only [State.serialSeen]
  rw [hport, if_none_of_imp hpair, hauto, hnone]

theorem State.serialSeen_deferred (hauto : s.bit (Reg.RNG_DISC n) 11 = false) (hpend : s.pend n = true) :
    s.serialSeen n (some x) = s.inc (Reg.RNG_CNT_SN_DEFER n) := by
  dsimp only [State.serialSeen]
  rw [hport, if_none_of_imp hpair, hauto]
  exact if_pos hpend

theorem State.serialSeen_pending (hauto : s.bit (Reg.RNG_DISC n) 11 = false) (hpend : s.pend n = false) :
    s.serialSeen n (some x) =
      let u := (s.wr (Reg.RNG_PEND_SN0 n) (wordOf x.sn 0)).wr (Reg.RNG_PEND_SN1 n) (wordOf x.sn 1)
      let v := u.setRport n { u.rport n with pendOff := x.off, pendRnd := x.rnd * (s.rngSees n).rbHundredths n / 100000 }
      ((v.setB (Reg.RNG_STATUS n) 2 true).inc (Reg.RNG_CNT_SN_OK n)).rngEvent n 1 0 x.sn 0 := by
  dsimp only [State.serialSeen]
  rw [hport, if_none_of_imp hpair, hauto]
  exact if_of_eq_false hpend

end

/-- Settles O13: a burst of a discovery window by what it brought, its serial number by who holds it and by AUTO. -/
theorem rngDiscovery : Obligations.RngDiscovery := by
  unfold Obligations.RngDiscovery
  refine ⟨?request, ?badBurst, ?badMessage, ?reported, ?timeout, ?collision, ?held, ?heldByPair, ?assigned,
    ?notAssigned, ?deferred, ?pending⟩
  case request => exact fun _ _ hok => next_if_pos hok
  case badBurst =>
    intro n frame k got sn rnd delim phase s b hburst hdisc unc t1 good t2 hbad
    dsimp only [exec, execSnResponse]
    rw [hburst]
    exact (if_of_eq_false hdisc).trans (next_if_pos (congrArg not hbad))
  case badMessage =>
    intro n frame k got sn rnd delim phase s b hburst hdisc unc t1 good t2 hgood hmic
    dsimp only [exec, execSnResponse]
    rw [hburst]
    exact (if_of_eq_false hdisc).trans ((next_if_false (congrArg not hgood)).trans (next_if_pos (congrArg not hmic)))
  case reported =>
    intro n frame k got sn rnd delim phase s b hburst hdisc unc t1 good t2 kk x hgood hmic
    dsimp only [exec, execSnResponse]
    rw [hburst]
    exact (if_of_eq_false hdisc).trans ((next_if_false (congrArg not hgood)).trans (next_if_false (congrArg not hmic)))
  case timeout => exact fun _ _ hpend => next_if_pos hpend
  case collision => exact fun _ _ hitem => exec_dcqItemVisible_serial hitem
  case held =>
    exact fun _ _ _ hitem _ hheld =>
      (exec_dcqItemVisible_serial hitem).trans (congrArg _ (State.serialSeen_held hheld))
  case heldByPair =>
    exact fun _ _ _ hitem hport hvalid _ hpair =>
      (exec_dcqItemVisible_serial hitem).trans (congrArg _ (State.serialSeen_heldByPair hport hvalid hpair))
  case assigned =>
    exact fun _ _ _ hitem hport hpair hauto hmay _ hfree =>
      (exec_dcqItemVisible_serial hitem).trans (congrArg _ (State.serialSeen_assigned hport hpair hauto hmay hfree))
  case notAssigned =>
    exact fun _ _ _ hitem hport hpair hauto hnot =>
      (exec_dcqItemVisible_serial hitem).trans (congrArg _ (State.serialSeen_notAssigned hport hpair hauto hnot))
  case deferred =>
    exact fun _ _ _ hitem hport hpair hauto hpend =>
      (exec_dcqItemVisible_serial hitem).trans (congrArg _ (State.serialSeen_deferred hport hpair hauto hpend))
  case pending =>
    exact fun _ _ _ hitem hport hpair hauto hpend =>
      (exec_dcqItemVisible_serial hitem).trans (congrArg _ (State.serialSeen_pending hport hpair hauto hpend))

/-- Settles O14: each command acts or is counted, by its condition on the index or the pending slot. -/
theorem rngSoftwareCommands : Obligations.RngSoftwareCommands := by
  unfold Obligations.RngSoftwareCommands
  refine ⟨?assign, ?assignRefused, ?reject, ?rejectRefused, ?rerange, ?rerangeRefused, ?deactivate,
    ?deactivateRefused, ?invalidate, ?request⟩
  case assign => exact fun _ _ _ h hfree => (State.opWrite_reaches h).trans (if_pos hfree)
  case assignRefused => exact fun _ _ _ h hnone => (State.opWrite_reaches h).trans (if_of_eq_false hnone)
  case reject | rerange =>
    exact fun _ _ _ h hheld => (State.opWrite_reaches h).trans (next_if_pos hheld)
  case rejectRefused | rerangeRefused =>
    exact fun _ _ _ h hnone => (State.opWrite_reaches h).trans (next_if_false hnone)
  case deactivate => exact fun _ _ _ h hused => (State.opWrite_reaches h).trans (next_if_false hused)
  case deactivateRefused => exact fun _ _ _ h hfree => (State.opWrite_reaches h).trans (next_if_pos hfree)
  case invalidate => exact fun _ _ _ h => State.opWrite_reaches h
  case request => exact fun _ _ _ hdue => if_pos hdue

/-- Settles O15: each report by the result that it takes and by its limits. -/
theorem rngMeasurements : Obligations.RngMeasurements := by
  unfold Obligations.RngMeasurements
  refine ⟨?rangeError, ?ranged, ?attemptFailed, ?rangeFailed, ?missed, ?lost, ?reranged, ?filtered, ?confirmed,
    ?unconfirmed, ?resent, ?rerangedAfterResend, ?lostTimeout, ?published⟩
  case rangeError =>
    intro n s r t1 htake hasked off c rtd t t2 hout
    dsimp only [exec, execRangingBurst]
    rw [htake]
    exact (if_of_eq_false hasked).trans (if_pos hout)
  case ranged =>
    intro n s r t1 htake hasked off c rtd t t2 hin
    dsimp only [exec, execRangingBurst]
    rw [htake]
    exact (if_of_eq_false hasked).trans (if_neg hin)
  case attemptFailed =>
    intro n s r t1 htake hasked t t2 hfew
    dsimp only [exec, execRangingAttemptFail]
    rw [htake]
    exact (if_of_eq_false hasked).trans (if_neg hfew)
  case rangeFailed =>
    intro n s r t1 htake hasked t t2 hthird
    dsimp only [exec, execRangingAttemptFail]
    rw [htake]
    exact (if_of_eq_false hasked).trans (if_pos hthird)
  case missed =>
    intro n s r t1 htake l hserved t2 hfew
    dsimp only [exec, execLockFailReport]
    rw [htake]
    exact (if_of_eq_false hserved).trans (if_neg hfew)
  case lost =>
    intro n s r t1 htake l hserved t2 hlimit
    dsimp only [exec, execLockFailReport]
    rw [htake]
    exact (if_of_eq_false hserved).trans (if_pos hlimit)
  case reranged =>
    intro n s r t1 htake l hserved d t2 t3 hfar
    dsimp only [exec, execOffsetTrack]
    rw [htake]
    exact (if_of_eq_false hserved).trans (if_pos hfar)
  case filtered =>
    intro n s r t1 htake l hserved d t2 t3 hnear t4 hfree
    dsimp only [exec, execOffsetTrack]
    rw [htake]
    exact (if_of_eq_false hserved).trans ((if_neg hnear).trans (if_of_eq_false hfree))
  case confirmed =>
    intro n s r t1 htake l hserved d t2 t3 hnear t4 hpend hmet
    dsimp only [exec, execOffsetTrack]
    rw [htake]
    exact (if_of_eq_false hserved).trans ((if_neg hnear).trans ((if_pos hpend).trans (if_pos hmet)))
  case unconfirmed =>
    intro n s r t1 htake l hserved d t2 t3 hnear t4 hpend hunmet
    dsimp only [exec, execOffsetTrack]
    rw [htake]
    exact (if_of_eq_false hserved).trans ((if_neg hnear).trans ((if_pos hpend).trans (if_neg hunmet)))
  case resent => exact fun _ _ _ hpend honce => (if_of_eq_false hpend).trans (if_pos honce)
  case rerangedAfterResend =>
    exact fun _ _ _ hpend htwice hoper => (if_of_eq_false hpend).trans ((if_neg htwice).trans (if_pos hoper))
  case lostTimeout => exact fun _ _ _ hlost => next_if_pos hlost
  case published => exact fun _ _ _ hmoved => next_if_pos hmoved

end Sys2Proof.Machine
end

section
/-! PROOFS. Grants and the scheduling engines (O16 to O19). -/

namespace Sys2Proof.Machine

/-- Settles O16: each write is stored or counted, by its check. -/
theorem grantTables : Obligations.GrantTables := by
  unfold Obligations.GrantTables
  refine ⟨?streamStored, ?streamDisabled, ?streamRefused, ?windowStored, ?windowRefused, ?payStored, ?payRefused,
    ?cfgStored, ?cfgRefused, ?guardStored, ?guardRefused⟩
  case streamStored =>
    exact fun _ _ _ h hok hstill => (State.opWrite_reaches h).trans ((if_of_eq_false hok).trans (next_if_false hstill))
  case streamDisabled =>
    exact fun _ _ _ h hok hstops => (State.opWrite_reaches h).trans ((if_of_eq_false hok).trans (next_if_pos hstops))
  case streamRefused => exact fun _ _ _ h hbad => (State.opWrite_reaches h).trans (if_pos hbad)
  case windowStored => exact fun _ _ _ h hok => (State.opWrite_reaches h).trans (next_if_false hok)
  case windowRefused => exact fun _ _ _ h hbad => (State.opWrite_reaches h).trans (next_if_pos hbad)
  case payStored =>
    rintro n _ s h k v rfl w hok
    exact (State.opWrite_reaches h).trans (next_if_pos hok)
  case payRefused =>
    rintro n _ s h k v rfl w hbad
    exact (State.opWrite_reaches h).trans (next_if_false hbad)
  case cfgStored | guardStored =>
    rintro n _ s h v rfl w hok
    exact (State.opWrite_reaches h).trans (next_if_pos hok)
  case cfgRefused | guardRefused =>
    rintro n _ s h v rfl w hbad
    exact (State.opWrite_reaches h).trans (next_if_false hbad)

/-- Settles O17: each clause by the slot, the page or the report that it finds. -/
theorem grantReportsAndPages : Obligations.GrantReportsAndPages := by
  unfold Obligations.GrantReportsAndPages
  refine ⟨?coalesced, ?stalled, ?pageMissed, ?countsSent, ?ledgerClosed⟩
  case coalesced =>
    intro m s f st item hslot hcredit
    dsimp only [exec, execCoalesceDrain]
    rw [hslot]
    exact if_not_of_eq_true hcredit
  case stalled => exact fun _ _ hstalled => next_if_pos hstalled
  case pageMissed =>
    intro n frame s g hpage hopen
    dsimp only [exec, execMissingPage]
    rw [hpage]
    exact if_of_eq_false hopen
  case countsSent =>
    intro n frame s g hpage u u' t1
    dsimp only [exec, execUdfCountsDeliver]
    rw [hpage]
  case ledgerClosed =>
    intro n frame s g hpage hsealed t1 t2 p
    dsimp only [exec, execLedgerClose]
    rw [hpage]
    exact if_not_of_eq_true hsealed

/-- A load may begin: MTN is up, the memories are ready, and no load has been made or is under way (R209). -/
theorem State.loadGuard_eq_false {s : State} (hup : s.up 4 = true) (hphase : 9 ≤ s.rcp.phase)
    (hready : s.bit Reg.MTN_STATUS 0 = false) (hloading : s.mtn.loading = false) :
    (!s.up 4 || decide (s.rcp.phase < 9) || s.bit Reg.MTN_STATUS 0 || s.mtn.loading) = false := by
  rw [hup, decide_eq_false (Nat.not_lt.2 hphase), hready, hloading]
  rfl

/-- Settles O18: loads by the checks of the image, RUN and stop by the state of the engine, the program commands by their
checks. -/
theorem enginePrograms : Obligations.EnginePrograms := by
  unfold Obligations.EnginePrograms
  refine ⟨?baseRefused, ?crcRefused, ?loaded, ?ready, ?started, ?stopRecalled, ?runRefused, ?stopped, ?mailboxBound,
    ?mailboxRefused, ?pseg, ?pload, ?ploadHeld, ?pread⟩
  case baseRefused => exact fun _ _ _ _ _ hguard hcode => (if_of_eq_false hguard).trans (if_pos hcode)
  case crcRefused =>
    intro ver image patches s hup hphase hready hloading hcrc
    exact (if_of_eq_false (State.loadGuard_eq_false hup hphase hready hloading)).trans
      ((if_neg (not_not.2 rfl)).trans (if_pos hcrc))
  case loaded =>
    intro ver image patches s hup hphase hready hloading t u
    exact (if_of_eq_false (State.loadGuard_eq_false hup hphase hready hloading)).trans
      ((if_neg (not_not.2 rfl)).trans (if_neg (not_not.2 rfl)))
  case ready => exact fun _ hloading => next_if_pos hloading
  case started =>
    exact fun _ _ _ h hrun hok hstopped => (State.opWrite_reaches h).trans
      ((if_not_of_eq_true hrun).trans ((if_of_eq_false hok).trans (next_if_pos hstopped)))
  case stopRecalled =>
    exact fun _ _ _ h hrun hok hruns => (State.opWrite_reaches h).trans
      ((if_not_of_eq_true hrun).trans ((if_of_eq_false hok).trans (next_if_false hruns)))
  case runRefused =>
    exact fun _ _ _ h hrun hbad => (State.opWrite_reaches h).trans ((if_not_of_eq_true hrun).trans (if_pos hbad))
  case stopped => exact fun _ _ _ h hstop => (State.opWrite_reaches h).trans (if_of_eq_false hstop)
  case mailboxBound => exact fun _ _ _ h hok => (State.opWrite_reaches h).trans (next_if_pos hok)
  case mailboxRefused => exact fun _ _ _ h hbad => (State.opWrite_reaches h).trans (next_if_false hbad)
  case pseg =>
    intro r s d hhead l g hbound howner hseg hstopped e own t1
    dsimp only [exec, execPseg]
    rw [hhead]
    exact (if_not_of_eq_true hbound).trans ((if_of_eq_false howner).trans ((if_neg hseg).trans (if_of_eq_false hstopped)))
  case pload =>
    intro r data dmaOk s d hhead l g run c hgood hseg hlength t1 hread hstopped
    dsimp only [exec, execPload]
    rw [hhead]
    exact (if_neg hgood).trans ((if_of_eq_false hseg).trans ((if_neg hlength).trans
      ((if_not_of_eq_true hread).trans (if_of_eq_false hstopped))))
  case ploadHeld =>
    intro r data dmaOk s d hhead l g run c hgood hseg hlength t1 hread hruns e
    dsimp only [exec, execPload]
    rw [hhead]
    exact (if_neg hgood).trans ((if_of_eq_false hseg).trans ((if_neg hlength).trans
      ((if_not_of_eq_true hread).trans (if_pos hruns))))
  case pread =>
    intro r dmaOk s d hhead c hgood hread e ws
    dsimp only [exec, execPread]
    rw [hhead]
    exact (if_neg hgood).trans (if_not_of_eq_true hread)

/-- Settles O19: faults by whether they last, events by what they are and where the engine stands. -/
theorem engineFaultsAndEvents : Obligations.EngineFaultsAndEvents := by
  unfold Obligations.EngineFaultsAndEvents
  refine ⟨?transient, ?retired, ?migrated, ?faultPending, ?tickPending, ?interruptPending, ?takenAtBoundary,
    ?takenAtSafePoint, ?woken⟩
  case transient =>
    intro l fault itemHeld s e hruns cycles hcycles p t1 t2 t3 hpasses t4
    dsimp only [exec, execEngineFault]
    rw [hcycles]
    exact (if_of_eq_false hruns).trans (next_if_false hpasses)
  case retired =>
    intro l fault itemHeld s e hruns cycles hcycles p t1 t2 t3 hlasts
    dsimp only [exec, execEngineFault]
    rw [hcycles]
    exact (if_of_eq_false hruns).trans (next_if_pos hlasts)
  case migrated =>
    intro l s v hmoving t u
    dsimp only [exec, execMigrateDone]
    rw [hmoving]
    exact ⟨rfl, rfl⟩
  case faultPending =>
    rintro l _ s hup port blk code rfl howner note
    exact (if_not_of_eq_true hup).trans (if_neg howner)
  case tickPending | interruptPending =>
    rintro l _ s hup rfl
    exact if_not_of_eq_true hup
  case takenAtBoundary =>
    rintro l _ s e stalled spent hready k htakeable rfl s1
    dsimp only [exec, execEventTake]
    rw [htakeable]
    exact if_of_eq_false hready
  case takenAtSafePoint =>
    rintro l _ s e stalled spent hready k htakeable p rfl hsuspends f hframe hpoint s1
    dsimp only [exec, execEventTake]
    rw [htakeable, hframe]
    exact (if_of_eq_false hready).trans ((if_of_eq_false hsuspends).trans (if_neg hpoint))
  case woken => intros; rfl

end Sys2Proof.Machine
end

section
/-! PROOFS. The scheduler instruction set (O20 to O24). -/

namespace Sys2Proof.Machine

/-! An instruction that runs, by what its operation comes to (R250, R261). -/

section
variable {l : Fin 16} {s t : State} {op c : Nat} {susp : Bool} {f : State → Engine → Word64 → SisRes}

theorem State.sisRun_done (h : s.steps l op)
    (hf : f (s.dispatch l) ((s.dispatch l).eng l) (s.insn l) = .done t c susp) :
    s.sisRun l op f = .next (t.sisEnd l ((s.dispatch l).eng l).pc (((s.dispatch l).eng l).pc + 1) c susp) :=
  (State.sisRun_runs h.1).trans (State.sisNext_done h.2 hf)

theorem State.sisRun_last (h : s.runsLast l op)
    (hf : f (s.dispatch l) ((s.dispatch l).eng l) (s.insn l) = .done t c susp) :
    s.sisRun l op f = .next ((s.dispatch l).sisExc l 3) :=
  (State.sisRun_runs h.1).trans (State.sisNext_last h.2 ⟨t, c, susp, hf⟩)

theorem State.sisRun_wait (h : s.steps l op) (hf : f (s.dispatch l) ((s.dispatch l).eng l) (s.insn l) = .wait t) :
    s.sisRun l op f = .next t :=
  (State.sisRun_runs h.1).trans (State.sisNext_wait h.2 hf)

theorem State.sisRun_exc {code : Nat} (h : s.runs l op)
    (hf : f (s.dispatch l) ((s.dispatch l).eng l) (s.insn l) = .exc code) :
    s.sisRun l op f = .next ((s.dispatch l).sisExc l code) :=
  (State.sisRun_runs h).trans (State.sisNext_exc hf)

theorem State.sisRun_goto {pc : Nat} (h : s.runs l op)
    (hf : f (s.dispatch l) ((s.dispatch l).eng l) (s.insn l) = .goto t pc c) :
    s.sisRun l op f = .next (t.sisEnd l ((s.dispatch l).eng l).pc pc c false) :=
  (State.sisRun_runs h).trans (State.sisNext_goto hf)

theorem State.sisRun_jump {x : Int} (h : s.runs l op) (hin : x / 512 = (((s.dispatch l).eng l).pc : Int) / 512)
    (hf : f (s.dispatch l) ((s.dispatch l).eng l) (s.insn l) = .jump t x c) :
    s.sisRun l op f = .next (t.sisEnd l ((s.dispatch l).eng l).pc x.toNat c false) :=
  (State.sisRun_runs h).trans (State.sisNext_jump hin hf)

theorem State.sisRun_out {x : Int} (h : s.runs l op) (hout : x / 512 ≠ (((s.dispatch l).eng l).pc : Int) / 512)
    (hf : f (s.dispatch l) ((s.dispatch l).eng l) (s.insn l) = .jump t x c) :
    s.sisRun l op f = .next ((s.dispatch l).sisExc l 3) :=
  (State.sisRun_runs h).trans (State.sisNext_out hout ⟨t, c, hf⟩)

theorem State.sisRun_stop (h : s.runs l op) (hf : f (s.dispatch l) ((s.dispatch l).eng l) (s.insn l) = .stop t c) :
    s.sisRun l op f =
      .next ((t.sisEnd l ((s.dispatch l).eng l).pc ((s.dispatch l).eng l).pc c false).engStop l) := by
  rw [State.sisRun_runs h, State.sisNext]
  exact congrArg (fun r => Host.Outcome.next ((s.dispatch l).sisFinish l r)) hf

end

/-! An instruction of Table 07.5 that runs is done at the next address, and raises XSEG at the last word of its segment. -/

section
variable {l : Fin 16} {s : State} {op cycles : Nat} {r : Word64 → Word64 → Word64} {c v : Word64 → Word64 → Bool}

theorem sisReg_of_zero {t : State} {e : Engine} {w : Word64} (hzero : zeroReg w = true) (haux : iAux w = 0) :
    sisReg l cycles r c v t e w = t.alu l e w (r (e.get (iA w)) (e.get (iB w))) (c (e.get (iA w)) (e.get (iB w)))
      (v (e.get (iA w)) (e.get (iB w))) cycles :=
  if_pos (Bool.and_eq_true_iff.2 ⟨hzero, beq_iff_eq.2 haux⟩)

theorem State.sisReg_steps (hzero : zeroReg (s.insn l) = true) (haux : iAux (s.insn l) = 0) (h : s.steps l op) :
    s.sisRun l op (sisReg l cycles r c v) = .next (s.aluDone l cycles
      (fun e => r (e.get (iA (s.insn l))) (e.get (iB (s.insn l)))) (fun e => c (e.get (iA (s.insn l))) (e.get (iB (s.insn l))))
      (fun e => v (e.get (iA (s.insn l))) (e.get (iB (s.insn l))))) :=
  State.sisRun_done h (sisReg_of_zero hzero haux)

theorem State.sisReg_runsLast (hzero : zeroReg (s.insn l) = true) (haux : iAux (s.insn l) = 0) (h : s.runsLast l op) :
    s.sisRun l op (sisReg l cycles r c v) = .next ((s.dispatch l).sisExc l 3) :=
  State.sisRun_last h (sisReg_of_zero hzero haux)

variable {ok : Word64 → Bool}

theorem sisImm_of_zero {t : State} {e : Engine} {w : Word64} (hzero : zeroImm w = true) (hok : ok w = true) :
    sisImm l cycles ok r c v t e w = t.alu l e w (r (e.get (iA w)) (iImm w)) (c (e.get (iA w)) (iImm w))
      (v (e.get (iA w)) (iImm w)) cycles :=
  if_pos (Bool.and_eq_true_iff.2 ⟨hzero, hok⟩)

theorem State.sisImm_steps (hzero : zeroImm (s.insn l) = true) (hok : ok (s.insn l) = true) (h : s.steps l op) :
    s.sisRun l op (sisImm l cycles ok r c v) = .next (s.aluDone l cycles (fun e => r (e.get (iA (s.insn l))) (iImm (s.insn l)))
      (fun e => c (e.get (iA (s.insn l))) (iImm (s.insn l))) (fun e => v (e.get (iA (s.insn l))) (iImm (s.insn l)))) :=
  State.sisRun_done h (sisImm_of_zero hzero hok)

theorem State.sisImm_runsLast (hzero : zeroImm (s.insn l) = true) (hok : ok (s.insn l) = true) (h : s.runsLast l op) :
    s.sisRun l op (sisImm l cycles ok r c v) = .next ((s.dispatch l).sisExc l 3) :=
  State.sisRun_last h (sisImm_of_zero hzero hok)

end

theorem zeroField_eq_true {w : Word64} (hzero : zeroReg w = true) (hb : iB w = 0) (haux : fldW w 15 12 = 0) :
    zeroField w = true :=
  Bool.and_eq_true_iff.2 ⟨Bool.and_eq_true_iff.2 ⟨hzero, beq_iff_eq.2 hb⟩, beq_iff_eq.2 haux⟩

/-- Settles O20: every operation is one register operation on g[a] and g[b]. -/
theorem sisRegisterArithmetic : Obligations.SisRegisterArithmetic := by
  unfold Obligations.SisRegisterArithmetic
  refine ⟨?zero, ?done, ?last⟩
  case zero => exact fun _ _ => ⟨rfl, rfl⟩
  case done =>
    intro l s w hzero haux
    refine ⟨?add, ?sub, ?and, ?or, ?xor, ?shl, ?shr, ?asr, ?min, ?max, ?mul⟩
    case add | sub | and | or | xor | shl | shr | asr | min | max | mul =>
      exact fun h => State.sisReg_steps hzero haux h
  case last =>
    intro l s hzero haux
    simp only [List.forall_mem_cons, List.not_mem_nil, false_implies, implies_true, and_true]
    and_intros
    all_goals exact fun h => State.sisReg_runsLast hzero haux h

/-- Settles O21: every operation is one immediate operation, or one on a bit field. -/
theorem sisImmediateAndFieldArithmetic : Obligations.SisImmediateAndFieldArithmetic := by
  unfold Obligations.SisImmediateAndFieldArithmetic
  refine ⟨?done, ?field, ?last, ?fieldLast⟩
  case done =>
    intro l s w hzero
    refine ⟨?addi, ?andi, ?ori, ?xori, ?muli, ?lih, ?shli, ?shri, ?asri, ?li⟩
    case addi | andi | ori | xori | muli | lih => exact fun h => State.sisImm_steps (ok := fun _ => true) hzero rfl h
    case shli | shri | asri => exact fun h hshift => State.sisImm_steps (ok := shiftImm) hzero (beq_iff_eq.2 hshift) h
    case li => exact fun h ha => State.sisImm_steps (ok := fun i => iA i == 0) (r := fun _ b => b) hzero (beq_iff_eq.2 ha) h
  case field =>
    intro l s w n m hzero hb haux
    have hfield : zeroField w = true := zeroField_eq_true hzero hb haux
    dsimp only [exec, execSisExt, execSisIns]
    exact ⟨fun h => State.sisRun_done h (if_pos hfield), fun h => State.sisRun_done h (if_pos hfield)⟩
  case last =>
    intro l s w
    simp only [List.forall_mem_cons, List.not_mem_nil, false_implies, implies_true, and_true]
    refine ⟨?addi, ?andi, ?ori, ?xori, ?muli, ?lih, ?shli, ?shri, ?asri, ?li⟩
    case addi | andi | ori | xori | muli | lih =>
      exact fun h hzero _ _ => State.sisImm_runsLast (ok := fun _ => true) hzero rfl h
    case shli | shri | asri =>
      exact fun h hzero hshift _ => State.sisImm_runsLast (ok := shiftImm) hzero (beq_iff_eq.2 (hshift (by decide))) h
    case li =>
      exact fun h hzero _ ha =>
        State.sisImm_runsLast (ok := fun i => iA i == 0) (r := fun _ b => b) hzero (beq_iff_eq.2 (ha trivial)) h
  case fieldLast =>
    intro l s w hzero hb haux
    have hfield : zeroField w = true := zeroField_eq_true hzero hb haux
    simp only [List.forall_mem_cons, List.not_mem_nil, false_implies, implies_true, and_true]
    dsimp only [exec, execSisExt, execSisIns]
    exact ⟨fun h => State.sisRun_last h (if_pos hfield), fun h => State.sisRun_last h (if_pos hfield)⟩

theorem segment_natCast {x pc : Nat} : (x : Int) / 512 = (pc : Int) / 512 ↔ x / 512 = pc / 512 := by
  omega

theorem callSegment_eq_false {seg pc : Nat} {owner : Nat} (hseg : seg ≠ 0) (howner : owner ≠ 0) (hlast : (pc + 1) % 512 ≠ 0) :
    (decide (seg = 0) || owner == 0 || (pc + 1) % 512 == 0) = false := by
  simp [hseg, howner, hlast]

theorem callSegment_eq_true {seg pc : Nat} {owner : Nat} (h : seg = 0 ∨ owner = 0) :
    (decide (seg = 0) || owner == 0 || (pc + 1) % 512 == 0) = true := by
  rcases h with rfl | rfl <;> simp

/-- The fields of RDSYS and WRSYS are those of Table 07.2. -/
theorem sysFields_eq_true {w : Word64} (hzero : zeroReg w = true) (hcode : iAux w < 10) :
    (zeroReg w && decide (iAux w < 10)) = true :=
  Bool.and_eq_true_iff.2 ⟨hzero, decide_eq_true hcode⟩

theorem jrFields_eq_true {w : Word64} (hzero : zeroReg w = true) (hd : iD w = 0) (hb : iB w = 0) (haux : iAux w = 0) :
    (zeroReg w && iD w == 0 && iB w == 0 && iAux w == 0) = true := by
  rw [hzero, hd, hb, haux]
  rfl

theorem callFields_eq_true {w : Word64} (hzero : zeroReg w = true) (ha : iA w = 0) (hb : iB w = 0) :
    (zeroReg w && iA w == 0 && iB w == 0) = true := by
  rw [hzero, ha, hb]
  rfl

theorem privileged_of_false {e : Engine} {r : SisRes} (h : e.tenantCode = false) : privileged e r = r := if_of_eq_false h

theorem privileged_of_true {e : Engine} {r : SisRes} (h : e.tenantCode = true) : privileged e r = .exc 2 := if_pos h

/-- Settles O22: each instruction by its fields, the code it stands in and its operands. -/
theorem sisControl : Obligations.SisControl := by
  unfold Obligations.SisControl
  refine ⟨?control, ?waitft, ?returns, ?budgetSpent, ?budgetLeft⟩
  case control =>
    intro l s w t e hzero
    refine ⟨?cbTaken, ?cbPassed, ?cbReserved, ?call, ?jr, ?outside, ?jrOutside, ?callx, ?callxSegment, ?halt, ?rdsys, ?flags, ?emask,
      ?epc, ?readOnly, ?rdsysTenant, ?callxTenant, ?haltTenant, ?wrsysTenant⟩
    case cbTaken =>
      intro h hcond hin
      dsimp only [exec, execSisCb]
      refine State.sisRun_jump h hin ?_
      rw [hzero, hcond]
    case cbPassed =>
      intro h hcond
      dsimp only [exec, execSisCb]
      refine State.sisRun_done h ?_
      rw [hzero, hcond]
    case cbReserved =>
      intro h hcond
      dsimp only [exec, execSisCb]
      refine State.sisRun_exc h ?_
      rw [hzero, hcond]
    case call =>
      intro h ha hb hin
      dsimp only [exec, execSisCall]
      exact State.sisRun_jump h hin (if_pos (callFields_eq_true hzero ha hb))
    case jr =>
      intro h hd hb haux hin
      dsimp only [exec, execSisJr]
      exact State.sisRun_jump h (segment_natCast.2 hin) (if_pos (jrFields_eq_true hzero hd hb haux))
    case outside =>
      intro hout
      refine ⟨fun h hcond => ?_, fun h ha hb => ?_⟩
      · dsimp only [exec, execSisCb]
        refine State.sisRun_out (t := t) (c := 3) h hout ?_
        rw [hzero, hcond]
      · dsimp only [exec, execSisCall]
        exact State.sisRun_out h hout (if_pos (callFields_eq_true hzero ha hb))
    case jrOutside =>
      intro h hd hb haux hout
      dsimp only [exec, execSisJr]
      exact State.sisRun_out h (mt segment_natCast.1 hout) (if_pos (jrFields_eq_true hzero hd hb haux))
    case callx =>
      intro h hop hten hseg howner
      dsimp only [exec, execSisCallx]
      exact State.sisRun_goto h.1 ((if_not_of_eq_true hzero).trans ((if_of_eq_false (Bool.or_eq_false_iff.2 ⟨hop, hten⟩)).trans
        (if_of_eq_false (callSegment_eq_false hseg howner h.2))))
    case callxSegment =>
      intro h hop hten hseg
      dsimp only [exec, execSisCallx]
      exact State.sisRun_exc h ((if_not_of_eq_true hzero).trans ((if_of_eq_false (Bool.or_eq_false_iff.2 ⟨hop, hten⟩)).trans
        (if_pos (callSegment_eq_true hseg))))
    case halt =>
      intro h hop
      dsimp only [exec, execSisHalt]
      exact State.sisRun_stop h ((if_not_of_eq_true hzero).trans (privileged_of_false hop))
    case rdsys =>
      intro h hcode hallowed
      have hread : (e.tenantCode && !tenantSys (iAux w)) = false := by
        cases hop : e.tenantCode with
        | false => rfl
        | true => rw [hallowed hop]; rfl
      dsimp only [exec, execSisRdsys]
      exact State.sisRun_done h ((if_not_of_eq_true (sysFields_eq_true hzero hcode)).trans (if_of_eq_false hread))
    case flags | emask | epc =>
      intro h hop hcode
      dsimp only [exec, execSisWrsys]
      refine State.sisRun_done h ((if_not_of_eq_true (sysFields_eq_true hzero (by omega))).trans ((privileged_of_false hop).trans ?_))
      rw [hcode]
      rfl
    case readOnly =>
      intro h hop hcode
      have hother : iAux (s.insn l) < 10 ∧ iAux (s.insn l) ≠ 1 ∧ iAux (s.insn l) ≠ 2 ∧ iAux (s.insn l) ≠ 3 := by
        simp only [w, List.mem_cons, List.not_mem_nil, or_false] at hcode
        omega
      obtain ⟨hlisted, hflags, hemask, hepc⟩ := hother
      dsimp only [exec, execSisWrsys]
      refine State.sisRun_exc h ((if_not_of_eq_true (sysFields_eq_true hzero hlisted)).trans ((privileged_of_false hop).trans ?_))
      split
      · exact absurd ‹_› hflags
      · exact absurd ‹_› hemask
      · exact absurd ‹_› hepc
      · rfl
    case rdsysTenant =>
      intro h hcode hten hbarred
      dsimp only [exec, execSisRdsys]
      exact State.sisRun_exc h ((if_not_of_eq_true (sysFields_eq_true hzero hcode)).trans
        (if_pos (Bool.and_eq_true_iff.2 ⟨hten, congrArg not hbarred⟩)))
    case callxTenant =>
      intro h hten
      dsimp only [exec, execSisCallx]
      exact State.sisRun_exc h ((if_not_of_eq_true hzero).trans (if_pos (Bool.or_eq_true_iff.2 hten)))
    case haltTenant =>
      intro h hten
      dsimp only [exec, execSisHalt]
      exact State.sisRun_exc h ((if_not_of_eq_true hzero).trans (privileged_of_true hten))
    case wrsysTenant =>
      intro h hcode hten
      dsimp only [exec, execSisWrsys]
      exact State.sisRun_exc h ((if_not_of_eq_true (sysFields_eq_true hzero hcode)).trans (privileged_of_true hten))
  case waitft =>
    intro l s w t u e v h hzero ha hb haux hop
    have hfields : (zeroReg w && iA w == 0 && iB w == 0 && iAux w == 0) = true := by
      rw [hzero, ha, hb, haux]
      rfl
    have hlast : (((t.eng l).pc + 1) % 512 == 0) = false := beq_eq_false_iff_ne.2 h.2
    dsimp only [exec, execSisWaitft]
    refine ⟨fun hpend => ?_, fun hpend => ?_⟩
    · exact State.sisRun_done h ((if_not_of_eq_true hfields).trans ((privileged_of_false hop).trans
        ((if_of_eq_false hlast).trans (if_pos hpend))))
    · exact State.sisRun_wait h ((if_not_of_eq_true hfields).trans ((privileged_of_false hop).trans
        ((if_of_eq_false hlast).trans (if_of_eq_false hpend))))
  case returns =>
    intro l s t e c hfields
    have hzero : (fldW (s.insn l) 55 0 != 0) = false := bne_eq_false_iff_eq.2 hfields
    refine ⟨?retx, ?retxOutside, ?eret, ?eretTenant, ?eretOutside⟩
    case retx =>
      intro h hten
      dsimp only [exec, execSisRetx]
      exact State.sisRun_goto h (if_of_eq_false (Bool.or_eq_false_iff.2 ⟨hzero, congrArg not hten⟩))
    case retxOutside =>
      intro h hop
      dsimp only [exec, execSisRetx]
      exact State.sisRun_exc h (if_pos (Bool.or_eq_true_iff.2 (.inr (congrArg not hop))))
    case eret =>
      intro h hop hhandler
      dsimp only [exec, execSisEret]
      exact State.sisRun_goto h ((if_of_eq_false hzero).trans ((if_of_eq_false hop).trans (if_not_of_eq_true hhandler)))
    case eretTenant =>
      intro h hten
      dsimp only [exec, execSisEret]
      exact State.sisRun_exc h ((if_of_eq_false hzero).trans (if_pos hten))
    case eretOutside =>
      intro h hop hout
      dsimp only [exec, execSisEret]
      exact State.sisRun_exc h ((if_of_eq_false hzero).trans ((if_of_eq_false hop).trans (if_not_of_eq_false hout)))
  case budgetSpent => exact fun _ _ hspent => next_if_pos hspent
  case budgetLeft => exact fun _ _ hleft => next_if_false hleft

/-! A context access by the window and the share (R241, R242, R689). -/

section
variable {s : State} {term store : Bool} {f : Nat → Nat → SisRes} {e : Engine} {w : Word64}

theorem tblFields_eq_false (hzero : zeroTbl w = true) (hword : iW w ≤ 3) : (!zeroTbl w || decide (3 < iW w)) = false :=
  Bool.or_eq_false_iff.2 ⟨congrArg not hzero, decide_eq_false (Nat.not_lt.2 hword)⟩

theorem State.ctxAccess_window (hzero : zeroTbl w = true) (hword : iW w ≤ 3) (hout : inWindow e term (tblIndex e w) = false) :
    s.ctxAccess term store f e w = .exc 4 :=
  (if_of_eq_false (tblFields_eq_false hzero hword)).trans (if_not_of_eq_false hout)

theorem State.ctxAccess_share (hzero : zeroTbl w = true) (hword : iW w ≤ 3) (hin : inWindow e term (tblIndex e w) = true)
    (hother : s.inShare e term (tblIndex e w) = false) : s.ctxAccess term store f e w = .exc 5 :=
  (if_of_eq_false (tblFields_eq_false hzero hword)).trans ((if_not_of_eq_true hin).trans (if_not_of_eq_false hother))

theorem State.ctxAccess_load (hzero : zeroTbl w = true) (hword : iW w ≤ 3) (hin : inWindow e term (tblIndex e w) = true)
    (hshare : s.inShare e term (tblIndex e w) = true) : s.ctxAccess term false f e w = f (tblIndex e w) (iW w) :=
  (if_of_eq_false (tblFields_eq_false hzero hword)).trans ((if_not_of_eq_true hin).trans (if_not_of_eq_true hshare))

theorem State.ctxAccess_store (hzero : zeroTbl w = true) (hword : iW w ≤ 3) (hin : inWindow e term (tblIndex e w) = true)
    (hshare : s.inShare e term (tblIndex e w) = true) (hpolicy : iW w ≠ 0) :
    s.ctxAccess term true f e w = f (tblIndex e w) (iW w) :=
  (if_of_eq_false (tblFields_eq_false hzero hword)).trans ((if_not_of_eq_true hin).trans ((if_not_of_eq_true hshare).trans
    (if_of_eq_false (beq_eq_false_iff_ne.2 hpolicy))))

theorem listFields_eq_false (hzero : zeroTbl w = true) (hword : iW w = 0) : (!zeroTbl w || iW w != 0) = false :=
  Bool.or_eq_false_iff.2 ⟨congrArg not hzero, bne_eq_false_iff_eq.2 hword⟩

end

section
variable {l : Fin 16} {term : Bool} {s : State} {e : Engine} {w : Word64} {f : Susp}

theorem scan_resumed (hresumes : e.resumes = some f) : scan l term s e w = (s.resume l).scanEnd l term f true := by
  unfold scan
  rw [hresumes]

theorem scan_begun (hnone : e.resumes = none) (hbegins : scanFrame term e w = .inl f) :
    scan l term s e w = s.scanEnd l term f false := by
  unfold scan
  rw [hnone]
  dsimp only
  rw [hbegins]

end

/-- Settles O23: an access by its window and share, a long instruction by the frame from which it goes on. -/
theorem sisTables : Obligations.SisTables := by
  unfold Obligations.SisTables
  refine ⟨?access, ?long⟩
  case access =>
    intro l s w t e x hzero hword
    refine ⟨?lds, ?sts, ?ldt, ?stt, ?ldl, ?stl, ?outside⟩
    case lds | ldt =>
      intro h hin hshare
      dsimp only [exec, execSisLds, execSisLdt]
      exact State.sisRun_done h (State.ctxAccess_load hzero hword hin hshare)
    case sts | stt =>
      intro h hin hshare hpolicy
      dsimp only [exec, execSisSts, execSisStt]
      exact State.sisRun_done h (State.ctxAccess_store hzero hword hin hshare hpolicy)
    case ldl =>
      intro h hplain hlist
      dsimp only [exec, execSisLdl]
      exact State.sisRun_done h ((if_of_eq_false (listFields_eq_false hzero hplain)).trans (if_neg (Nat.not_lt.2 hlist)))
    case stl =>
      intro h hplain hlist hfree
      dsimp only [exec, execSisStl]
      exact State.sisRun_done h ((if_of_eq_false (listFields_eq_false hzero hplain)).trans
        (if_of_eq_false (Bool.or_eq_false_iff.2 ⟨decide_eq_false (Nat.not_lt.2 hlist), hfree⟩)))
    case outside =>
      simp only [List.forall_mem_cons, List.not_mem_nil, false_implies, implies_true, and_true]
      dsimp only [exec, execSisLds, execSisSts, execSisLdt, execSisStt]
      and_intros
      all_goals
        intro h
        exact ⟨fun hout => State.sisRun_exc h (State.ctxAccess_window hzero hword hout),
          fun hin hother => State.sisRun_exc h (State.ctxAccess_share hzero hword hin hother)⟩
  case long =>
    intro l s u f susp w t e n again first scan
    refine ⟨?sort, ?scans, ?scant⟩
    case sort =>
      intro h hframe
      dsimp only [exec, execSisSort]
      refine State.sisRun_done h ?_
      rcases hframe with ⟨hresumes, rfl, rfl⟩ | ⟨hresumes, hbegins, rfl, rfl⟩
      · rw [hresumes]
        rfl
      · rw [hresumes]
        dsimp only
        rw [hbegins]
        rfl
    case scans | scant =>
      intro h hframe
      dsimp only [exec, execSisScans, execSisScant]
      rcases hframe with ⟨hresumes, rfl, rfl⟩ | ⟨hresumes, hbegins, rfl, rfl⟩
      · exact State.sisRun_done h (scan_resumed hresumes)
      · exact State.sisRun_done h (scan_begun hresumes hbegins)

/-- An engine that runs, or that waits for mail, runs the instruction at its program counter. -/
theorem State.sisRun_ready {s : State} {l : Fin 16} {op : Nat} {f : State → Engine → Word64 → SisRes}
    (hready : s.engReady l = true) (hop : iOp (s.insn l) = op) : s.sisRun l op f = s.sisNext l fun t e => f t e (s.insn l) := by
  have hguard : (!s.engReady l || (iOp (s.insn l) != op && sisListed (iOp (s.insn l)))) = false :=
    Bool.or_eq_false_iff.2 ⟨congrArg not hready, by rw [bne_eq_false_iff_eq.2 hop, Bool.false_and]⟩
  refine (if_of_eq_false hguard).trans ?_
  dsimp only [State.sisNext]
  rw [if_pos (show iOp ((s.eng l).prog.look 0 (s.eng l).pc) = op from hop)]
  rfl

/-! The checks of the port instructions (R689). -/

section
variable {w : Word64}

theorem fifoFields_eq_true (hzero : zeroReg w = true) (ha : iA w = 0) (hb : iB w = 0) (hfifo : iAux w < 8) :
    (zeroReg w && iA w == 0 && iB w == 0 && decide (iAux w < 8)) = true := by
  rw [hzero, ha, hb, decide_eq_true hfifo]
  rfl

theorem mailFields_eq_false (hzero : zeroReg w = true) (ha : iA w ≠ 0) (htop : iA w ≤ 28) :
    (!zeroReg w || iA w == 0 || decide (28 < iA w)) = false := by
  rw [hzero, beq_eq_false_iff_ne.2 ha, decide_eq_false (Nat.not_lt.2 htop)]
  rfl

theorem mbr_passes {e : Engine} {r : SisRes} (hzero : zeroReg w = true) (ha : iA w ≠ 0) (htop : iA w ≤ 28)
    (hd : iD w < iA w ∨ iA w + 3 < iD w) (hop : e.tenantCode = false) :
    (if !zeroReg w || iA w == 0 || decide (28 < iA w) || (decide (iA w ≤ iD w) && decide (iD w ≤ iA w + 3)) then .exc 1
      else privileged e r) = r := by
  refine (if_of_eq_false (Bool.or_eq_false_iff.2 ⟨mailFields_eq_false hzero ha htop, Bool.and_eq_false_iff.2 ?_⟩)).trans
    (privileged_of_false hop)
  exact hd.imp (fun h => decide_eq_false (Nat.not_le.2 h)) fun h => decide_eq_false (Nat.not_le.2 h)

theorem sealFields_eq_false (hzero : zeroCal w = true) (hd : iD w = 0) : (!zeroCal w || iD w != 0) = false :=
  Bool.or_eq_false_iff.2 ⟨congrArg not hzero, bne_eq_false_iff_eq.2 hd⟩

/-- RDRPT of a FIFO that another engine reads (R168): not in a stall, nor with an item held. -/
theorem otherFifo_eq_false {stalled : Option Nat} {item : Option Word64} {l cons : Nat}
    (h : cons = l ∨ stalled = some l ∨ item.isSome = true) :
    (decide (stalled ≠ some l) && item.isNone && decide (cons ≠ l)) = false := by
  rcases h with rfl | rfl | h
  · simp
  · simp
  · simp [Option.isNone_eq_false_iff.2 h]

theorem rdrpt_passes {e : Engine} {r : SisRes} {stalled : Option Nat} {l cons : Nat} (hzero : zeroReg w = true) (ha : iA w = 0)
    (hb : iB w = 0) (hfifo : iAux w < 8) (hop : e.tenantCode = false)
    (howner : cons = l ∨ stalled = some l ∨ e.item.isSome = true) :
    (if !(zeroReg w && iA w == 0 && iB w == 0 && decide (iAux w < 8)) then .exc 1
      else if e.tenantCode then .exc 2
      else if decide (stalled ≠ some l) && e.item.isNone && decide (cons ≠ l) then .exc 8 else r) = r :=
  (if_not_of_eq_true (fifoFields_eq_true hzero ha hb hfifo)).trans ((if_of_eq_false hop).trans
    (if_of_eq_false (otherFifo_eq_false howner)))

theorem otherFifo_eq_true {stalled : Option Nat} {item : Option Word64} {l cons : Nat}
    (hcons : cons ≠ l) (hstalled : stalled ≠ some l) (hitem : item = none) :
    (decide (stalled ≠ some l) && item.isNone && decide (cons ≠ l)) = true := by
  simp [hcons, hstalled, hitem]

end

/-- An engine that runs is the same engine with its state set to running. -/
theorem Engine.running_eq {e : Engine} (h : e.st = .running) : ({ e with st := .running } : Engine) = e := by
  rw [← h]

/-- Settles O24: each port by its fields, what it finds and the code it stands in. -/
theorem sisPorts : Obligations.SisPorts := by
  unfold Obligations.SisPorts
  refine ⟨?ports, ?calendar, ?cali, ?mailCame⟩
  case ports =>
    intro l s w t e m f done hzero
    refine ⟨?rdrpt, ?rdrptOther, ?rptlv, ?mbs, ?mbr⟩
    case rdrpt =>
      intro h ha hb hfifo hop howner
      dsimp only [exec, execSisRdrpt]
      refine ⟨fun x hitem => ?held, fun x hitem hbest => ?taken, fun hitem hempty hfresh => ?stall,
        fun hitem hempty hstalled => ?still⟩
      case held =>
        refine State.sisRun_done h ((rdrpt_passes hzero ha hb hfifo hop howner).trans ?_)
        rw [hitem]
      case taken =>
        refine State.sisRun_done h ((rdrpt_passes hzero ha hb hfifo hop howner).trans ?_)
        rw [hitem]
        dsimp only
        rw [hbest]
        simp only [beq_iff_eq]
        rfl
      case stall =>
        refine State.sisRun_wait h ((rdrpt_passes hzero ha hb hfifo hop howner).trans ?_)
        rw [hitem]
        dsimp only
        rw [hempty]
        exact if_of_eq_false (beq_eq_false_iff_ne.2 hfresh)
      case still =>
        refine State.sisRun_wait h ((rdrpt_passes hzero ha hb hfifo hop howner).trans ?_)
        rw [hitem]
        dsimp only
        rw [hempty]
        exact if_pos (beq_iff_eq.2 hstalled)
    case rdrptOther =>
      intro h ha hb hfifo hop hcons hfresh hitem
      dsimp only [exec, execSisRdrpt]
      exact State.sisRun_exc h ((if_not_of_eq_true (fifoFields_eq_true hzero ha hb hfifo)).trans ((if_of_eq_false hop).trans
        (if_pos (otherFifo_eq_true hcons hfresh hitem))))
    case rptlv =>
      intro h ha hb hfifo hop
      dsimp only [exec, execSisRptlv]
      exact State.sisRun_done h ((if_not_of_eq_true (fifoFields_eq_true hzero ha hb hfifo)).trans (privileged_of_false hop))
    case mbs =>
      intro h ha htop hop
      dsimp only [exec, execSisMbs]
      refine ⟨fun hnone => ?noRing, fun r hring htype => ⟨fun hfull => ?full, fun hroom => ?sent⟩⟩
      all_goals
        refine State.sisRun_done h
          ((if_of_eq_false (mailFields_eq_false hzero ha htop)).trans ((privileged_of_false hop).trans ?_))
      case noRing =>
        rcases hnone with hnone | ⟨r, hring, htype⟩
        · rw [hnone]
        · rw [hring]
          exact if_pos htype
      case full =>
        rw [hring]
        exact (if_neg (not_not.2 htype)).trans (if_not_of_eq_false hfull)
      case sent =>
        rw [hring]
        exact (if_neg (not_not.2 htype)).trans (if_not_of_eq_true hroom)
    case mbr =>
      intro h ha htop hd hop hrunning
      have hwaits : ((t.eng l).st == .waitMail) = false := by
        rw [show (t.eng l).st = .running from hrunning]
        rfl
      dsimp only [exec, execSisMbr]
      refine ⟨fun hnone => ?noRing, fun r hring htype =>
        ⟨fun hempty => ⟨fun hpoll => ?polled, fun hwait => ?waits⟩, fun d hmail => ?mail⟩⟩
      case noRing =>
        refine State.sisRun_done h ((mbr_passes hzero ha htop hd hop).trans ?_)
        rcases hnone with hnone | ⟨r, hring, htype⟩
        · rw [hnone, Engine.running_eq hrunning]
        · rw [hring, Engine.running_eq hrunning, if_of_eq_false hwaits]
          exact if_pos htype
      case polled =>
        refine State.sisRun_done h ((mbr_passes hzero ha htop hd hop).trans ?_)
        rw [hring]
        dsimp only
        rw [hempty, Engine.running_eq hrunning, if_of_eq_false hwaits]
        exact (if_neg (not_not.2 htype)).trans (if_pos hpoll)
      case waits =>
        refine State.sisRun_wait h ((mbr_passes hzero ha htop hd hop).trans ?_)
        rw [hring]
        dsimp only
        rw [hempty, Engine.running_eq hrunning, if_of_eq_false hwaits]
        exact (if_neg (not_not.2 htype)).trans ((if_neg (Nat.mod_two_ne_one.2 hwait)).trans (if_of_eq_false hwaits))
      case mail =>
        refine State.sisRun_done h ((mbr_passes hzero ha htop hd hop).trans ?_)
        rw [hring]
        dsimp only
        rw [hmail, Engine.running_eq hrunning, if_of_eq_false hwaits]
        exact if_neg (not_not.2 htype)
  case calendar =>
    intro l s w t e x p a b hzero
    refine ⟨?emit, ?emitFormat, ?sealed, ?sealTenant⟩
    case emit =>
      intro h hok
      dsimp only [exec, execSisEmit]
      exact State.sisRun_done h ((if_not_of_eq_true hzero).trans (if_not_of_eq_true hok))
    case emitFormat =>
      intro h hbad
      dsimp only [exec, execSisEmit]
      exact State.sisRun_exc h ((if_not_of_eq_true hzero).trans (if_not_of_eq_false hbad))
    case sealed =>
      intro h hd hop
      dsimp only [exec, execSisSeal]
      exact State.sisRun_done h ((if_of_eq_false (sealFields_eq_false hzero hd)).trans (privileged_of_false hop))
    case sealTenant =>
      intro h hd hten
      dsimp only [exec, execSisSeal]
      exact State.sisRun_exc h ((if_of_eq_false (sealFields_eq_false hzero hd)).trans (privileged_of_true hten))
  case cali =>
    intro l s u f susp w t e n frame x c h hframe
    dsimp only [exec, execSisCali]
    refine State.sisRun_done h ?_
    rcases hframe with ⟨hresumes, rfl, rfl⟩ | ⟨hresumes, hbegins, rfl, rfl⟩
    · rw [hresumes]
      rfl
    · rw [hresumes]
      dsimp only
      rw [hbegins]
      rfl
  case mailCame =>
    intro l s r d w t e v hready hwaits hop hzero ha htop hd hoper hlast hring htype hmail
    dsimp only [exec, execSisMbr]
    refine (State.sisRun_ready hready hop).trans (State.sisNext_done hlast
      ((mbr_passes hzero ha htop hd hoper).trans ?_))
    have hwaiting : ((t.eng l).st == .waitMail) = true := by
      rw [hwaits]
      rfl
    rw [hring]
    dsimp only
    rw [hmail, if_pos hwaiting]
    exact if_neg (not_not.2 htype)

end Sys2Proof.Machine
end

section
/-! PROOFS. Time and framing (O25 to O31). -/

namespace Sys2Proof.Machine

theorem or_not_eq_false {a b : Bool} (ha : a = true) (hb : b = true) : (!a || !b) = false :=
  Bool.or_eq_false_iff.2 ⟨congrArg not ha, congrArg not hb⟩

/-- The tick of a pending step moves the outputs' shadow first, and the step stays pending. -/
theorem State.holdGain_tsu_step (s : State) (u : Nat) : (s.holdGain u).tsu.step = s.tsu.step := by
  unfold State.holdGain
  split <;> rfl

section
variable {s : State} (hstep : s.tsu.step = true)
include hstep

theorem State.applyStep_back
    (hback : (s.holdGain (s.tsu.slew.getD s.tsu.inc)).setUnits < (s.holdGain (s.tsu.slew.getD s.tsu.inc)).clk.units) :
    s.applyStep = let h := s.holdGain (s.tsu.slew.getD s.tsu.inc)
      ({ h with tsu := { h.tsu with step := false, locked := false } } : State).inc Reg.TSU_CNT_REFUSED := by
  dsimp only [State.applyStep]
  rw [if_pos hstep]
  exact (if_not_of_eq_true ((State.holdGain_tsu_step s _).trans hstep)).trans (if_pos hback)

theorem State.applyStep_forward
    (hforward : ¬ (s.holdGain (s.tsu.slew.getD s.tsu.inc)).setUnits < (s.holdGain (s.tsu.slew.getD s.tsu.inc)).clk.units) :
    s.applyStep = let h := s.holdGain (s.tsu.slew.getD s.tsu.inc)
      let s1 : State := { h with tsu := { h.tsu with step := false }, clk := clkOf h.setUnits }
      (s1.setB Reg.TSU_STATUS 2 false).stepUsers h.aheadUnits h.clk := by
  dsimp only [State.applyStep]
  rw [if_pos hstep]
  exact (if_not_of_eq_true ((State.holdGain_tsu_step s _).trans hstep)).trans (if_neg hforward)

end

/-- Settles O25: the writes once they arrive, a slew's end by the slew, a step by where it leads. -/
theorem tsuRateSlewAndStep : Obligations.TsuRateSlewAndStep := by
  unfold Obligations.TsuRateSlewAndStep
  refine ⟨?increment, ?slewStart, ?slewCancel, ?slewEnd, ?go, ?rearm, ?stepBack, ?stepTaken⟩
  case increment | slewStart =>
    exact fun _ _ h => State.opWrite_reaches h
  case slewCancel | go =>
    exact fun _ h => State.opWrite_reaches h
  case slewEnd =>
    intro s v hslew u t
    dsimp only [exec, execSlewEnd]
    rw [hslew]
  case rearm => exact fun _ _ _ h => State.opWrite_reaches h
  case stepBack =>
    exact fun _ hup hstep hback => (next_if_pos hup).trans (congrArg _ (State.applyStep_back hstep hback))
  case stepTaken =>
    exact fun _ hup hstep hforward => (next_if_pos hup).trans (congrArg _ (State.applyStep_forward hstep hforward))

/-- Settles O26: each clause is the meaning of its command, the tick's while TSU is up. -/
theorem tsuReferenceAndFrameTick : Obligations.TsuReferenceAndFrameTick := by
  unfold Obligations.TsuReferenceAndFrameTick
  refine ⟨?refLoss, ?pllUnlock, ?pllRelock, ?frameTick⟩
  case refLoss | pllUnlock | pllRelock =>
    intros; rfl
  case frameTick => exact fun _ hup => next_if_neg (ne_true_of_eq_false (congrArg not hup))

/-- A unit that is not periodic, posts no record and wakes no engine fires and is disabled (R521, R522). -/
theorem State.fireUnit_once {k : Nat} {s : State} (hperiod : s.bit (Reg.TSU_CMP_CTRL k) 30 = false)
    (hrecord : s.bit (Reg.TSU_CMP_CTRL k) 29 = false) (hengine : s.bit (Reg.TSU_CMP_CTRL k) 28 = false) :
    s.fireUnit k =
      let c1 := setBitW (s.rd (Reg.TSU_CMP_CTRL k)) 1 true
      let c2 := if s.tsu.late.getLsbD k then setBitW c1 3 true else c1
      let c3 := if s.tsu.stepped.getLsbD k then setBitW c2 2 true else c2
      let t := (s.wr (Reg.TSU_CMP_FIRE_LO k) (wordOf s.now40 0)).setF (Reg.TSU_CMP_FIRE_HI k) 7 0 (s.now40 / 2 ^ 32)
      let u := t.wr (Reg.TSU_CMP_CTRL k) c3
      ({ u with tsu := { s.tsu with
        late := setBitW s.tsu.late k false, stepped := setBitW s.tsu.stepped k false } } : State).setB
        (Reg.TSU_CMP_CTRL k) 31 false := by
  rw [State.bit] at hperiod hrecord hengine
  dsimp only [State.fireUnit]
  rw [hperiod, hrecord, hengine]
  rfl

/-- An output runs: TSU is out of reset, the state is not Fatal and the output is enabled (R525, R526, Table 20.3). -/
theorem outputGuard_eq_false {up fatal en : Bool} (hup : up = true) (hfatal : fatal = false) (hen : en = true) :
    (!up || fatal || !en) = false := by
  rw [hup, hfatal, hen]
  rfl

/-- The bytes of the time-of-day FIFO follow an edge of output 0 (R530). -/
theorem todFollows_iff {o : Fin 2} {en sync : Bool} {tx : List Byte} :
    (decide (o.val = 0) && en && sync && decide (tx ≠ [])) = true ↔ o = 0 ∧ en = true ∧ sync = true ∧ tx ≠ [] := by
  simp only [Bool.and_eq_true, decide_eq_true_eq, and_assoc, Fin.ext_iff, Fin.val_zero]

/-- Settles O27: the compare units by their settings, the outputs while they run. -/
theorem tsuCompareUnitsAndOutputs : Obligations.TsuCompareUnitsAndOutputs := by
  unfold Obligations.TsuCompareUnitsAndOutputs
  refine ⟨?targetCommit, ?fire, ?fireOnce, ?ppsPeriod, ?ppsWidth, ?ppsOffset, ?ppsPulse, ?todSent, ?driven,
    ?notDriven, ?clockEdge, ?holdSet, ?holdClear, ?holdMet⟩
  case targetCommit | ppsPeriod | ppsWidth | ppsOffset =>
    exact fun _ _ _ h => State.opWrite_reaches h
  case fire => intros; rfl
  case fireOnce =>
    intro k s hup hen hpast hperiod hrecord hengine c c1 c2 t t1
    refine (next_if_false (or_not_eq_false hup hen)).trans (congrArg _ ?_)
    dsimp only
    rw [if_pos hpast]
    exact State.fireUnit_once hperiod hrecord hengine
  case ppsPulse =>
    intro o s hup hfatal hen p x w c t r q
    refine (next_if_false (outputGuard_eq_false hup hfatal hen)).trans (congrArg _ ?_)
    exact if_congr todFollows_iff rfl rfl
  case todSent | driven =>
    exact fun _ _ hrel => if_pos hrel
  case notDriven => exact fun _ _ hheld => if_of_eq_false hheld
  case clockEdge => exact fun _ _ _ hup hfatal hen => next_if_false (outputGuard_eq_false hup hfatal hen)
  case holdSet | holdClear =>
    exact fun _ h => State.opWrite_reaches h
  case holdMet =>
    intro s hclear hholding
    have hguard : (s.bit Reg.TSU_CTRL 1 || !s.bit Reg.TSU_STATUS 3) = false :=
      Bool.or_eq_false_iff.2 ⟨hclear, congrArg not hholding⟩
    have hmet : (!s.bit Reg.TSU_CTRL 1 && s.bit Reg.TSU_STATUS 3 && s.clk == s.clk) = true := by
      rw [hclear, hholding, beq_self_eq_true]
      rfl
    exact (next_if_false hguard).trans (congrArg _ (if_pos hmet))

theorem State.bit_with_tsu (s : State) (x : Tsu) (a i : Nat) : ({ s with tsu := x } : State).bit a i = s.bit a i := rfl

/-- Settles O28: an edge by its time since the last, a byte once the line is enabled, a TIME block by its echo. -/
theorem tsuInputsAndMateTime : Obligations.TsuInputsAndMateTime := by
  unfold Obligations.TsuInputsAndMateTime
  refine ⟨?captureOff, ?captured, ?glitch, ?todWritten, ?todByte, ?todByteAfterIdle, ?timeSent, ?timeNotMatched,
    ?timeMatched, ?period⟩
  case captureOff =>
    intro i ns frac s hoff
    refine next_if_pos ?_
    rw [hoff, Bool.not_false, Bool.or_true]
  case captured =>
    intro i ns frac s hup hen t edge hlong hfresh u c w w1 hquiet
    have hapart : (t.tsu.ppsIn.look none i).any (fun last => decide (edge < last + 65536000)) = false := by
      rw [Option.any_eq_false]
      exact fun last hlast => decide_eq_false (Int.not_lt.2 (hlong last hlast))
    refine (next_if_false (or_not_eq_false hup hen)).trans (congrArg _ ((if_of_eq_false hapart).trans ?_))
    dsimp only
    rw [hfresh, if_neg Bool.false_ne_true, State.bit_with_tsu]
    exact if_of_eq_false hquiet
  case glitch =>
    intro i ns frac s hup hen t last hlast hshort
    refine (next_if_false (or_not_eq_false hup hen)).trans (congrArg _ (if_pos ?_))
    rw [hlast]
    exact decide_eq_true hshort
  case todWritten => exact fun _ _ h => State.opWrite_reaches h
  case todByte | todByteAfterIdle =>
    exact fun _ _ hup hen => next_if_false (or_not_eq_false hup hen)
  case timeSent =>
    intro s hen hlink t u
    have hguard : (!s.bit Reg.TSU_MATE_CTRL 31 || s.mateState ≠ 2) = false :=
      Bool.or_eq_false_iff.2 ⟨congrArg not hen, decide_eq_false (not_not.2 hlink)⟩
    exact next_if_false hguard
  case timeNotMatched =>
    intro s d ns frac hblock hother
    dsimp only [exec, execMateTimeReceive]
    rw [hblock]
    exact next_if_false hother
  case timeMatched =>
    intro s d ns frac hblock t1 t2 t3 t4 hsent t
    dsimp only [exec, execMateTimeReceive]
    rw [hblock]
    exact next_if_pos hsent
  case period =>
    intro n s hup hmode p t c u
    dsimp only [exec, execTodPeriodStart]
    rw [hmode]
    exact if_not_of_eq_true hup

/-- Settles O29: the guarded writes by what runs, the hold by how long it has lasted. -/
theorem dfrSettingsAndHolds : Obligations.DfrSettingsAndHolds := by
  unfold Obligations.DfrSettingsAndHolds
  refine ⟨?loadTaken, ?loadRefused, ?offsetStored, ?offsetRefused, ?holdBegin, ?holdEnd, ?holdExpired,
    ?holdNotExpired, ?announced, ?notAnnounced⟩
  case loadTaken => exact fun _ _ h hstopped => (State.opWrite_reaches h).trans (if_of_eq_false hstopped)
  case loadRefused => exact fun _ _ h hruns => (State.opWrite_reaches h).trans (if_pos hruns)
  case offsetStored => exact fun _ _ h hok => (State.opWrite_reaches h).trans (next_if_false hok)
  case offsetRefused => exact fun _ _ h hbad => (State.opWrite_reaches h).trans (next_if_pos hbad)
  case holdBegin | holdEnd =>
    exact fun _ _ _ h => State.opWrite_reaches h
  case holdExpired => exact fun _ _ hdue => if_pos hdue
  case holdNotExpired => exact fun _ _ hnot => if_of_eq_false hnot
  case announced => exact fun _ _ hruns => next_if_pos hruns
  case notAnnounced => exact fun _ _ hstopped => next_if_false hstopped

/-- Settles O30: the map by the transmitter, the frame by whether its port runs or is being shut. -/
theorem dfrFramesAndMaps : Obligations.DfrFramesAndMaps := by
  unfold Obligations.DfrFramesAndMaps
  refine ⟨?mapTaken, ?mapOff, ?frameOff, ?frameShut, ?frameSent⟩
  case mapTaken => exact fun _ _ _ _ hlight => next_if_pos hlight
  case mapOff => exact fun _ _ _ _ hdark => next_if_false hdark
  case frameOff => exact fun _ _ _ hoff => if_pos hoff
  case frameShut => exact fun _ _ _ hruns hshut => (if_of_eq_false hruns).trans (if_pos hshut)
  case frameSent => exact fun _ _ _ hruns hopen => (if_of_eq_false hruns).trans (if_of_eq_false hopen)

/-- Settles O31: a codeword by whether it belongs to the burst, a cut burst by what is left, a wait by the stream's last
fragment. -/
theorem udfCodewordsAndReassembly : Obligations.UdfCodewordsAndReassembly := by
  unfold Obligations.UdfCodewordsAndReassembly
  refine ⟨?noBurst, ?outOfPlace, ?decoded, ?lost, ?noBurstCut, ?wholeBurst, ?truncated, ?noPartial, ?dropped, ?kept⟩
  case noBurst =>
    intro n frame k need corrBits data fails rngMsg s hnone
    dsimp only [exec, execCodewordDecode]
    rw [hnone]
  case outOfPlace =>
    intro n frame k need corrBits data fails rngMsg s u hburst ok size hbad
    dsimp only [exec, execCodewordDecode]
    rw [hburst]
    exact if_pos hbad
  case decoded =>
    intro n frame k need corrBits data fails rngMsg s u hburst ok size hgood t1 hok
    dsimp only [exec, execCodewordDecode]
    rw [hburst]
    exact (if_neg hgood).trans (if_pos hok)
  case lost =>
    intro n frame k need corrBits data fails rngMsg s u hburst ok size hgood t1 hfail
    dsimp only [exec, execCodewordDecode]
    rw [hburst]
    exact (if_neg hgood).trans (if_of_eq_false hfail)
  case noBurstCut =>
    intro n frame k s hnone
    dsimp only [exec, execBurstTruncation]
    rw [hnone]
  case wholeBurst =>
    intro n frame k s u hburst hended
    dsimp only [exec, execBurstTruncation]
    rw [hburst]
    exact if_pos hended
  case truncated =>
    intro n frame k s u hburst hleft t t1 x t2
    dsimp only [exec, execBurstTruncation]
    rw [hburst]
    exact if_neg hleft
  case noPartial =>
    intro st s hnone
    dsimp only [exec, execReasmTimeout]
    rw [hnone]
  case dropped =>
    intro st s p hpartial n busy passed hdue
    dsimp only [exec, execReasmTimeout]
    rw [hpartial]
    exact next_if_pos hdue
  case kept =>
    intro st s p hpartial n busy passed hnot
    dsimp only [exec, execReasmTimeout]
    rw [hpartial]
    exact next_if_false hnot

end Sys2Proof.Machine
end

section
/-! PROOFS. Circuits, classification, forwarding and buffers (O32 to O39). -/

namespace Sys2Proof.Machine

/-- Settles O32: each clause is what the write does once it arrives. -/
theorem tceEntries : Obligations.TceEntries := by
  unfold Obligations.TceEntries
  refine ⟨?circuitCommit, ?pwEntryCommit, ?tceSwap⟩
  case circuitCommit | pwEntryCommit =>
    exact fun _ _ _ h => State.opWrite_reaches h
  case tceSwap => exact fun _ h => State.opWrite_reaches h

theorem if_eq_of_pos {α : Type _} {c : Prop} [Decidable c] {t u x : α} (hc : c) (h : t = x) : (if c then t else u) = x :=
  (if_pos hc).trans h

theorem if_else_eq {α : Type _} {c : Prop} [Decidable c] {t x : α} (h : t = x) : (if c then t else x) = x := by
  rw [h, ite_self]

/-- The fourth wrong alignment word in a row, and a run that is shorter (Table 10.5). -/
theorem four_le_wrongWords {b : Bool} {n : Nat} (hb : b = false) (h : 3 ≤ n) : 4 ≤ (if b then 0 else n + 1) :=
  (if_of_eq_false hb).symm ▸ Nat.succ_le_succ h

/-- Settles O33: the search by the state of the end, a frame by its alignment word. -/
theorem tceAlignmentAndFrames : Obligations.TceAlignmentAndFrames := by
  unfold Obligations.TceAlignmentAndFrames
  refine ⟨?hunt, ?presync, ?mfSeek, ?otherState, ?notSync, ?notWhole, ?fourthWrong, ?received⟩
  case hunt =>
    intro e s hhunt t
    dsimp only [exec, execAlignWordMatch]
    rw [hhunt]
    rfl
  case presync =>
    intro e s w hpresync t hwindow
    dsimp only [exec, execAlignWordMatch]
    rw [hpresync]
    dsimp only [State.presyncStep]
    rw [hwindow]
    rfl
  case mfSeek =>
    intro e s hseek
    dsimp only [exec, execAlignWordMatch]
    rw [hseek]
    rfl
  case otherState =>
    intro e s h1 h2 h3
    dsimp only [exec, execAlignWordMatch]
    split
    · exact absurd ‹_› h1
    · exact absurd ‹_› h2
    · exact absurd ‹_› h3
    · rfl
  case notSync =>
    intro e s hstate
    dsimp only [exec, execCarrierFrameReceive]
    rw [if_neg hstate]
  case notWhole =>
    intro e s hnone
    dsimp only [exec, execCarrierFrameReceive]
    rw [if_else_eq hnone]
  case fourthWrong =>
    intro e s bits hsync t hwindow hword hrun r r1
    dsimp only [exec, execCarrierFrameReceive]
    rw [if_eq_of_pos hsync hwindow]
    exact if_pos (four_le_wrongWords hword hrun)
  case received =>
    intro e s bits hsync hwindow t k fr badWord hrun
    intros
    dsimp only [exec, execCarrierFrameReceive]
    rw [if_eq_of_pos hsync hwindow]
    exact if_neg (Nat.not_le.2 hrun)

/-- Settles O34: a packet sent by its end and its bytes, a packet received by the end that its pseudowire has. -/
theorem tcePseudowires : Obligations.TcePseudowires := by
  unfold Obligations.TcePseudowires
  refine ⟨?noEnd, ?noBytes, ?sent, ?noEndLeft, ?received⟩
  case noEnd =>
    intro w s hnone
    dsimp only [exec, execPwPacketSend]
    rw [hnone]
  case noBytes =>
    intro w s e hend hnone
    dsimp only [exec, execPwPacketSend]
    rw [hend]
    dsimp only
    rw [hnone]
  case sent =>
    intro w s e data l s1 hend hbytes t ctl rtp pkt s2
    dsimp only [exec, execPwPacketSend]
    rw [hend]
    dsimp only
    rw [hbytes]
  case noEndLeft =>
    intro w s pk hpacket s1 hnone
    dsimp only [exec, execPwPacketReceive]
    rw [hpacket]
    dsimp only
    rw [hnone]
  case received =>
    intro w s pk e hpacket s1 hend data ctl n l payload t d
    dsimp only [exec, execPwPacketReceive]
    rw [hpacket]
    dsimp only
    rw [hend]
    exact (if_congr Iff.rfl rfl ite_next).trans ite_next

section
variable {held : Option Nat} {b grid step : Nat}

/-- The bin that PM_BIN_CLOSE names is the one that the entity counts in, or an empty one that begins on the grid or at a
step of the clock (R347, R348). -/
theorem otherBin_eq_false (h : held = some b ∨ held = none ∧ (b = grid ∨ b = step)) :
    (held.any (· != b) || (held.isNone && b != grid && b != step)) = false := by
  rcases h with rfl | ⟨rfl, rfl | rfl⟩ <;> simp

theorem otherBin_eq_true (h : (∃ x, held = some x ∧ x ≠ b) ∨ held = none ∧ b ≠ grid ∧ b ≠ step) :
    (held.any (· != b) || (held.isNone && b != grid && b != step)) = true := by
  rcases h with ⟨x, rfl, hx⟩ | ⟨rfl, hgrid, hstep⟩
  · simp [hx]
  · simp [hgrid, hstep]

end

/-- Settles O35: the second by the clock, a commit by PM_EN, a close by the bin that the entity counts in. -/
theorem tcePerformance : Obligations.TcePerformance := by
  unfold Obligations.TcePerformance
  refine ⟨?second, ?monitoringOff, ?committed, ?closed, ?otherBin⟩
  case second =>
    intro sec fec s hup
    dsimp only [exec, execSecondBoundary]
    exact if_not_of_eq_true hup
  case monitoringOff => exact fun _ _ _ hoff => if_not_of_eq_false hoff
  case committed =>
    intro e sec s hon
    intros
    exact if_not_of_eq_true hon
  case closed =>
    intro e day start dmaOk s b held hbin
    intros
    exact if_of_eq_false (otherBin_eq_false hbin)
  case otherBin =>
    intro e day start dmaOk s held hother
    exact if_pos (otherBin_eq_true hother)

/-- Settles O36: each clause is the meaning of its command, a write's once it arrives. -/
theorem classifierEntriesAndPasses : Obligations.ClassifierEntriesAndPasses := by
  unfold Obligations.ClassifierEntriesAndPasses
  refine ⟨?selectionCommit, ?profileCommit, ?packetPass, ?eswap, ?epochSwapPoint⟩
  case selectionCommit | profileCommit =>
    exact fun _ _ _ h => State.opWrite_reaches h
  case packetPass | eswap | epochSwapPoint =>
    intros; rfl

/-- Settles O37: each clause is the meaning of its command. -/
theorem classifierTableCommands : Obligations.ClassifierTableCommands := by
  unfold Obligations.ClassifierTableCommands
  refine ⟨?tnode, ?trule, ?troot, ?tread⟩
  case tnode | trule | troot | tread =>
    intros; rfl

/-- Settles O38: each clause is the meaning of its command, a write's once it arrives. -/
theorem fdbLearningAndCommands : Obligations.FdbLearningAndCommands := by
  unfold Obligations.FdbLearningAndCommands
  refine ⟨?learnPlace, ?ageOut, ?fdbSeedWrite, ?fidWrite, ?fdbRead, ?fdbWrite, ?fdbInsert, ?fdbDelete, ?fdbSearch⟩
  case learnPlace | ageOut =>
    intros; rfl
  case fdbSeedWrite => exact fun _ _ h => State.opWrite_reaches h
  case fidWrite => exact fun _ _ _ h => State.opWrite_reaches h
  case fdbRead | fdbWrite | fdbDelete | fdbSearch =>
    exact fun _ _ h => State.fnWrite_reaches h
  case fdbInsert => exact fun _ _ _ h => State.fnWrite_reaches h

/-- Settles O39: each clause is the meaning of its command, a write's once it arrives. -/
theorem bufferPools : Obligations.BufferPools := by
  unfold Obligations.BufferPools
  refine ⟨?bufferAlloc, ?bufferFree, ?bufferShare, ?bpmEnable, ?bpmInitDone, ?bpmCfgWrite⟩
  case bufferAlloc | bufferFree | bufferShare | bpmInitDone =>
    intros; rfl
  case bpmEnable => exact fun _ _ h => State.opWrite_reaches h
  case bpmCfgWrite => exact fun _ _ _ _ h => State.opWrite_reaches h

end Sys2Proof.Machine
end

section
/-! PROOFS. Queues, the cipher, uplinks and the mate link (O40 to O46). -/

namespace Sys2Proof.Machine

/-- Settles O40: each clause is the meaning of its command. -/
theorem tmgAdmissionAndSelection : Obligations.TmgAdmissionAndSelection := by
  unfold Obligations.TmgAdmissionAndSelection
  refine ⟨?frameAdmit, ?egressSelect, ?launchSelect, ?queueSample⟩
  case frameAdmit | egressSelect | launchSelect | queueSample =>
    intros; rfl

/-- Settles O41: each clause is the meaning of its command, a write's once it arrives. -/
theorem tmgShapersAndGates : Obligations.TmgShapersAndGates := by
  unfold Obligations.TmgShapersAndGates
  refine ⟨?shaperTick, ?shaperWrite, ?shaperRead, ?gateCommit, ?gateTakeover, ?gateEntryAdvance⟩
  case shaperTick | gateTakeover | gateEntryAdvance =>
    intros; rfl
  case shaperWrite => exact fun _ _ _ h => State.fnWrite_reaches h
  case shaperRead => exact fun _ _ h => State.fnWrite_reaches h
  case gateCommit => exact fun _ _ _ h => State.opWrite_reaches h

/-- Settles O42: each clause is the meaning of its command, a write's once it arrives. -/
theorem tmgQueuesAndNodes : Obligations.TmgQueuesAndNodes := by
  unfold Obligations.TmgQueuesAndNodes
  refine ⟨?queueDisable, ?queueEnable, ?queueDrained, ?tmgGrpWrite⟩
  case queueDisable | queueEnable | tmgGrpWrite =>
    exact fun _ _ _ h => State.opWrite_reaches h
  case queueDrained => intros; rfl

/-- Settles O43: each clause is the meaning of its command, a write's once it arrives. -/
theorem cipherKeysAndAssociations : Obligations.CipherKeysAndAssociations := by
  unfold Obligations.CipherKeysAndAssociations
  refine ⟨?tkey, ?tswitch, ?tclear, ?sakey, ?saena, ?sadis, ?saDone, ?gscWrite, ?txscAnWrite⟩
  case tkey | tswitch | tclear | sakey | saena | sadis =>
    exact fun _ _ h => State.fnWrite_reaches h
  case saDone => intros; rfl
  case gscWrite | txscAnWrite =>
    exact fun _ _ _ h => State.opWrite_reaches h

/-- Settles O44: each clause is the meaning of its command, a write's once it arrives. -/
theorem uplinkPortsAndLanes : Obligations.UplinkPortsAndLanes := by
  unfold Obligations.UplinkPortsAndLanes
  refine ⟨?quadModeWrite, ?uplPortEnable, ?uplPortDisable, ?laneLock, ?laneLockLoss, ?pcsAlign, ?pcsAlignmentLoss,
    ?alignTimeout, ?retrainTimeout⟩
  case quadModeWrite | uplPortEnable | uplPortDisable =>
    exact fun _ _ _ h => State.opWrite_reaches h
  case laneLock | laneLockLoss | pcsAlign | pcsAlignmentLoss | alignTimeout | retrainTimeout =>
    intros; rfl

/-- Settles O45: a frame by the state of its port, its check and its length; the group writes by their check. -/
theorem uplinkFramesAndGroups : Obligations.UplinkFramesAndGroups := by
  unfold Obligations.UplinkFramesAndGroups
  refine ⟨?portDown, ?cutOff, ?badCheck, ?short, ?long, ?control, ?macsecDropped, ?received, ?groupStored,
    ?groupRefused, ?protectionSet, ?protectionRefused⟩
  case portDown =>
    intro u data fcsBad uncorr cutOff ns frac s t1 hdown hwhole
    exact (if_pos hdown).trans (next_if_false hwhole)
  case cutOff =>
    intro u data fcsBad uncorr cutOff ns frac s t1 hdown hcut
    exact (if_pos hdown).trans (next_if_pos hcut)
  case badCheck =>
    intro u data fcsBad uncorr cutOff ns frac s t1 hup t2 hbad
    exact (if_neg hup).trans (if_pos hbad)
  case short =>
    intro u data fcsBad uncorr cutOff ns frac s t1 len hup t2 hgood hshort
    exact (if_neg hup).trans ((if_of_eq_false hgood).trans (if_pos hshort))
  case long =>
    intro u data fcsBad uncorr cutOff ns frac s t1 len hup t2 hgood hmin hlong
    exact (if_neg hup).trans ((if_of_eq_false hgood).trans ((if_neg hmin).trans (if_pos hlong)))
  case control =>
    intro u data fcsBad uncorr cutOff ns frac s t1 type len hup t2 hgood hmin hmax hcontrol
    exact (if_neg hup).trans ((if_of_eq_false hgood).trans ((if_neg hmin).trans ((if_neg hmax).trans (if_pos hcontrol))))
  case macsecDropped =>
    intro u data fcsBad uncorr cutOff ns frac s t1 type len hup t2 hgood hmin hmax hdata t3 c hopen
    dsimp only [exec, execUplRxFrame]
    rw [hopen]
    exact (if_neg hup).trans ((if_of_eq_false hgood).trans ((if_neg hmin).trans ((if_neg hmax).trans (if_neg hdata))))
  case received =>
    intro u data fcsBad uncorr cutOff ns frac s t1 type len hup t2 hgood hmin hmax hdata t3 d sa hopen s1 p
    dsimp only [exec, execUplRxFrame]
    rw [hopen]
    exact (if_neg hup).trans ((if_of_eq_false hgood).trans ((if_neg hmin).trans ((if_neg hmax).trans (if_neg hdata))))
  case groupStored =>
    intro g v s h bad hgood
    exact (State.opWrite_reaches h).trans (next_if_false hgood)
  case groupRefused =>
    intro g v s h bad hbad
    exact (State.opWrite_reaches h).trans (next_if_pos hbad)
  case protectionSet =>
    intro g v s h a n want hgood sel
    exact (State.opWrite_reaches h).trans (if_of_eq_false hgood)
  case protectionRefused =>
    intro g v s h n want hbad
    exact (State.opWrite_reaches h).trans (if_pos hbad)

/-- MLK_ENABLE, MLK_TRAIN_START and MLK_TRAIN_END are one write of MLK_CTRL, with TRAIN as written, 1 and 0. -/
theorem exec_mateCtrl {v x : Word} {c : Instr} {s : State} (h : s.reaches Reg.MLK_CTRL)
    (hmem : (c, x) ∈ ([(.mlkEnable v, v), (.mlkTrainStart v, setBitW v 30 true), (.mlkTrainEnd v, setBitW v 30 false)] :
      List (Instr × Word))) : exec c s = .next (s.mateCtrl x) := by
  simp only [List.mem_cons, List.not_mem_nil, or_false, Prod.mk.injEq] at hmem
  obtain ⟨rfl, rfl⟩ | ⟨rfl, rfl⟩ | ⟨rfl, rfl⟩ := hmem
  · exact State.opWrite_reaches h
  · exact State.opWrite_reaches h
  · exact State.opWrite_reaches h

/-! The write of MLK_CTRL by EN and TRAIN as written, and by the loop that the link is in (R491, R496, R497). -/

section
variable {v : Word} {s : State}

theorem State.mateCtrl_noRole (hen : (v &&& 0xC00000FF).getLsbD 31 = true) (hrole : s.mateRole = false) :
    s.mateCtrl v = s.inc Reg.MLK_CNT_REFUSED := by
  refine if_pos ?_
  rw [hen, hrole]
  rfl

theorem State.mateCtrl_off (hen : (v &&& 0xC00000FF).getLsbD 31 = false) :
    s.mateCtrl v = (s.wr Reg.MLK_CTRL (v &&& 0xC00000FF)).mateLeft 0 := by
  refine (if_of_eq_false ?_).trans (if_not_of_eq_false hen)
  rw [hen, Bool.false_and]

theorem State.mateCtrl_train (hen : (v &&& 0xC00000FF).getLsbD 31 = true) (hrole : s.mateRole = true)
    (htrain : (v &&& 0xC00000FF).getLsbD 30 = true) : s.mateCtrl v =
      (if s.bit Reg.MLK_CTRL 31 && s.mateState == 1 && s.bit Reg.MLK_CTRL 30 then s.wr Reg.MLK_CTRL (v &&& 0xC00000FF)
        else ((s.wr Reg.MLK_CTRL (v &&& 0xC00000FF)).mateLeft 1).setF Reg.MLK_STATUS 15 8 0).sendTrain (List.range 8) := by
  refine (if_of_eq_false ?_).trans ((if_not_of_eq_true hen).trans (if_pos htrain))
  rw [hrole, Bool.not_true, Bool.and_false]

theorem State.mateCtrl_announce (hen : (v &&& 0xC00000FF).getLsbD 31 = true) (hrole : s.mateRole = true)
    (htrain : (v &&& 0xC00000FF).getLsbD 30 = false) :
    let t := s.wr Reg.MLK_CTRL (v &&& 0xC00000FF)
    let own := fldW (v &&& 0xC00000FF) 7 0
    let p := (List.range 8).partition fun l => Nat.testBit own l
    s.mateCtrl v = if s.bit Reg.MLK_CTRL 31 && s.mateState == 1 then
        (({ t with mlk := { t.mlk with announcing := true, partner := none } } : State).sendWidth p.1 31 (255 - own)
          own).sendTrain p.2
      else t := by
  refine (if_of_eq_false ?_).trans ((if_not_of_eq_true hen).trans (if_of_eq_false htrain))
  rw [hrole, Bool.not_true, Bool.and_false]

end

/-- Settles O46: the writes of MLK_CTRL by what they set, every other clause the meaning of its command. -/
theorem mateLink : Obligations.MateLink := by
  unfold Obligations.MateLink
  refine ⟨?ctrl, ?mlkEnable, ?mlkTrainStart, ?mlkTrainEnd, ?bitslip, ?linkUp, ?blockReceive, ?laneDrop, ?narrowDone,
    ?laneRetrain, ?clockLoss, ?clockReturn⟩
  case ctrl =>
    intro v c x s hmem h w t own p
    rw [exec_mateCtrl h hmem]
    refine ⟨?noRole, ?off, ?train, ?announce⟩
    case noRole => exact fun hen hrole => congrArg _ (State.mateCtrl_noRole hen hrole)
    case off => exact fun hen => congrArg _ (State.mateCtrl_off hen)
    case train =>
      intro hen hrole htrain
      rw [State.mateCtrl_train hen hrole htrain]
      refine ⟨?_, ?_⟩
      · rintro ⟨hon, htraining, hloop⟩
        rw [if_pos (by simp [hon, htraining, hloop])]
      · intro hout
        rw [if_neg (by rcases hout with hout | hout | hout <;> simp [hout])]
    case announce =>
      intro hen hrole htrain
      rw [State.mateCtrl_announce hen hrole htrain]
      refine ⟨?_, ?_⟩
      · rintro ⟨hon, hloop⟩
        rw [if_pos (by simp [hon, hloop])]
      · intro hout
        rw [if_neg (by rcases hout with hout | hout <;> simp [hout])]
  case mlkEnable | mlkTrainStart | mlkTrainEnd | bitslip =>
    intros
    exact State.opWrite_reaches ‹_›
  case linkUp | blockReceive | laneDrop | narrowDone | laneRetrain | clockLoss | clockReturn =>
    intros; rfl

end Sys2Proof.Machine
end

section
/-! PROOFS. Protection, the register map and the host interface (O47 to O51). -/

namespace Sys2Proof.Machine

/-- Settles O47: each clause is the meaning of its command, a write's once it arrives. -/
theorem protectionCommandsAndDetection : Obligations.ProtectionCommandsAndDetection := by
  unfold Obligations.ProtectionCommandsAndDetection
  refine ⟨?protEnable, ?protForce, ?protLockout, ?protClear, ?silentDetect, ?mateTimeout⟩
  case protEnable => exact fun _ _ _ h => State.opWrite_reaches h
  case protForce | protLockout | protClear =>
    exact fun _ _ h => State.opWrite_reaches h
  case silentDetect | mateTimeout =>
    intros; rfl

/-- Settles O48: each clause is the meaning of its command. -/
theorem protectionSwitchOver : Obligations.ProtectionSwitchOver := by
  unfold Obligations.ProtectionSwitchOver
  refine ⟨?switchReceive, ?darkReceive, ?takingLight, ?releasingDark, ?stateBlockSend, ?stateBlockReceive, ?mirror,
    ?mirrorReceive, ?mapBlockReceive⟩
  case switchReceive | darkReceive | takingLight | releasingDark | stateBlockSend | stateBlockReceive | mirror |
      mirrorReceive | mapBlockReceive =>
    intros; rfl

theorem and_decide_iff {p q : Prop} [Decidable p] [Decidable q] : (decide p && decide q) = true ↔ p ∧ q := by
  rw [Bool.and_eq_true, decide_eq_true_eq, decide_eq_true_eq]

/-! An access of a function while HIF is up: BAR4 and BAR0 of the operator, the page of a tenant (23, BAR0 layout). -/

section
variable {s : State} {a : BitVec 25} {v : Word}

theorem State.writeAt_op (hup : s.up 17 = true) (hbar : a.getLsbD 24 = false) : s.writeAt .op a v = s.writeOp (4 * a.toNat) v :=
  (if_not_of_eq_true hup).trans (if_of_eq_false hbar)

theorem State.writeAt_bell (hup : s.up 17 = true) (hbar : a.getLsbD 24 = true) :
    s.writeAt .op a v = s.writeBell .op (4 * a.toNat / 0x1000 % 64) (4 * a.toNat % 0x1000) v :=
  (if_not_of_eq_true hup).trans (if_pos hbar)

theorem State.writeAt_tenant {n : Fin 16} (hup : s.up 17 = true) :
    s.writeAt (.t n) a v = s.writeTen n (4 * a.toNat % 0x10000) v :=
  if_not_of_eq_true hup

theorem State.readAt_op (hup : s.up 17 = true) (hbar : a.getLsbD 24 = false) : s.readAt .op a = s.readOp (4 * a.toNat) :=
  (if_not_of_eq_true hup).trans (if_of_eq_false hbar)

theorem State.readAt_bell (hup : s.up 17 = true) (hbar : a.getLsbD 24 = true) :
    s.readAt .op a = s.readBell (4 * a.toNat / 0x1000 % 64) (4 * a.toNat % 0x1000) :=
  (if_not_of_eq_true hup).trans (if_pos hbar)

end

/-! A listed register of a block out of reset: what a write stores or holds, and what a read answers and clears. -/

section
variable {s : State} {a : Nat} {v : Word} {d : RegD}

theorem State.writeOp_held {blk e i : Nat} (hopen : s.windowShut a = false) (hreg : regAt a = some d)
    (hlane : s.unusedLane a = false) (hheld : heldAt a = some (blk, e, i)) : s.writeOp a v = s.hold .op blk e i v := by
  unfold State.writeOp
  rw [if_of_eq_false hopen, hreg]
  dsimp only
  rw [if_of_eq_false hlane, hheld]

theorem State.writeOp_stored (hopen : s.windowShut a = false) (hreg : regAt a = some d) (hlane : s.unusedLane a = false)
    (hheld : heldAt a = none) (hguard : s.guardWrite a v = none) :
    s.writeOp a v = ((s.countLock d a (s.rd a) v).wr a (s.newWord d a (s.rd a) v)).writeHook a (s.rd a) v := by
  unfold State.writeOp
  rw [if_of_eq_false hopen, hreg]
  dsimp only
  rw [if_of_eq_false hlane, hheld]
  dsimp only
  rw [hguard]

theorem State.readOp_listed (hopen : s.windowShut a = false) (hreg : regAt a = some d) : s.readOp a = s.readReg .op a := by
  unfold State.readOp
  rw [if_of_eq_false hopen, hreg]

theorem State.writeSet_stored {n : Fin 16} (hreg : regAt a = some d) (hopen : s.windowShut a = false)
    (hguard : s.guardSet (.t n) a v = none) :
    s.writeSet n a v = s.setCs (.t n) a (s.newWord d a (s.cs (.t n) a) v) := by
  unfold State.writeSet
  rw [hreg]
  dsimp only
  rw [if_of_eq_false hopen, hguard]

end

/-! The parts of a tenant's page: its command sets, and the words of its rings. -/

section
variable {s : State} {n : Fin 16} {o : Nat} {v : Word}

theorem State.writeTen_set {x : Nat} (hbell : ¬ 0x8000 ≤ o) (hring : ¬ (0x1000 ≤ o ∧ o < 0x2000)) (hset : setAddr o = some x) :
    s.writeTen n o v = s.writeSet n x v := by
  unfold State.writeTen
  rw [if_neg hbell, if_neg (mt and_decide_iff.1 hring), hset]

theorem State.writeTen_ring {j blk e i : Nat} (hlo : 0x1000 ≤ o) (hhi : o < 0x2000)
    (hslot : s.slotGroup n ((o - 0x1000) / 512) = some j)
    (hheld : heldAt (Reg.HIF_RING (16 * j + o / 32 % 16) (o / 4 % 8)) = some (blk, e, i)) :
    s.writeTen n o v = s.hold (.t n) blk e i v := by
  have hbell : ¬ 0x8000 ≤ o := by omega
  unfold State.writeTen
  rw [if_neg hbell, if_pos (and_decide_iff.2 ⟨hlo, hhi⟩), hslot]
  dsimp only
  rw [hheld]

theorem State.readTw_object {t : Fin 16} {l : List Nat}
    (hobj : s.twObject t (fldW (s.ten (0x10000 * t.val + 0x5000)) 31 28) (fldW (s.ten (0x10000 * t.val + 0x5000)) 15 0) = some l) :
    s.readTw t = ((List.range 7).foldl (fun u i =>
      u.setTen (0x10000 * t.val + 0x5010 + 4 * (i + 1)) ((l.map (s.peek t)).getD (i + 1) 0)) s).answer
      ((l.map (s.peek t)).getD 0 0) := by
  dsimp only [State.readTw]
  rw [hobj]
  rfl

end

/-- Settles O49: the write or read of the address by the window it lies in; every other clause the meaning of its command. -/
theorem registerAccess : Obligations.RegisterAccess := by
  unfold Obligations.RegisterAccess
  refine ⟨?stored, ?held, ?setStored, ?ringHeld, ?partialByte, ?tenantPartialByte, ?bells, ?reserved,
    ?tenantReserved, ?inReset, ?tenantInReset, ?latching, ?clearing, ?window, ?reads, ?writes, ?partialByteMeaning,
    ?reservedMeaning, ?inResetMeaning, ?windowMeaning⟩
  case stored =>
    exact fun _ _ _ _ hup hbar hopen hreg hlane hheld hguard =>
      congrArg _ ((State.writeAt_op hup hbar).trans (State.writeOp_stored hopen hreg hlane hheld hguard))
  case held =>
    exact fun _ _ _ _ _ _ _ hup hbar hopen hreg hlane hheld =>
      congrArg _ ((State.writeAt_op hup hbar).trans (State.writeOp_held hopen hreg hlane hheld))
  case setStored =>
    exact fun _ _ _ _ _ _ hup hset hreg hopen hguard hbell hring => congrArg _ ((State.writeAt_tenant hup).trans
      ((State.writeTen_set hbell hring hset).trans (State.writeSet_stored hreg hopen hguard)))
  case ringHeld =>
    exact fun _ _ _ _ _ _ _ _ hup hlo hhi hslot hheld =>
      congrArg _ ((State.writeAt_tenant hup).trans (State.writeTen_ring hlo hhi hslot hheld))
  case partialByte => exact fun _ _ _ hup hbar => next_if_pos (Bool.and_eq_true_iff.2 ⟨hup, congrArg not hbar⟩)
  case tenantPartialByte =>
    intro n a be s o
    refine ⟨fun hup hlisted => next_if_pos (Bool.and_eq_true_iff.2 ⟨hup, congrArg not hlisted⟩),
      fun hlisted => next_if_false ?_⟩
    rw [hlisted, Bool.not_true, Bool.and_false]
  case bells =>
    intro a be v s o j hup hbar
    have hwrite : exec (.registerWrite .op a v) s = .next (s.writeBell .op j o v) := congrArg _ (State.writeAt_bell hup hbar)
    have hread : exec (.latchingRead .op a) s = .next (s.readBell j o) := congrArg _ (State.readAt_bell hup hbar)
    refine ⟨?bell, ?ignored, ?index, ?zero, ?partialByte⟩
    case bell => exact fun hbell => hwrite.trans (congrArg _ (if_pos hbell))
    case ignored => exact fun hother => hwrite.trans (congrArg _ (if_neg hother))
    case index => exact fun hindex => hread.trans (congrArg (fun w => Host.Outcome.next (s.answer w)) (if_pos hindex))
    case zero => exact fun hother => hread.trans (congrArg (fun w => Host.Outcome.next (s.answer w)) (if_neg hother))
    case partialByte =>
      refine next_if_false ?_
      rw [hbar, Bool.not_true, Bool.and_false]
  case reserved =>
    intro a s hup hbar hopen hnone
    have hguard : (a.getLsbD 24 || s.windowShut (4 * a.toNat) || (regAt (4 * a.toNat)).isSome) = false := by
      rw [hbar, hopen, hnone]
      rfl
    exact ⟨congrArg _ ((if_not_of_eq_true hup).trans (if_of_eq_false hguard)),
      congrArg _ ((if_not_of_eq_true hup).trans (if_of_eq_false hguard))⟩
  case tenantReserved =>
    exact fun _ _ _ hup hlisted => ⟨congrArg _ ((if_not_of_eq_true hup).trans (if_of_eq_false hlisted)),
      congrArg _ ((if_not_of_eq_true hup).trans (if_of_eq_false hlisted))⟩
  case inReset =>
    intro a s hup hbar hshut
    have hguard : (!a.getLsbD 24 && s.windowShut (4 * a.toNat)) = true := Bool.and_eq_true_iff.2 ⟨congrArg not hbar, hshut⟩
    exact ⟨congrArg _ ((if_not_of_eq_true hup).trans (if_pos hguard)),
      congrArg _ ((if_not_of_eq_true hup).trans (if_pos hguard))⟩
  case tenantInReset =>
    intro n a s x hup hset hshut
    dsimp only [exec, execInResetAccess]
    rw [hset]
    exact ⟨congrArg _ ((if_not_of_eq_true hup).trans (if_pos hshut)),
      congrArg _ ((if_not_of_eq_true hup).trans (if_pos hshut))⟩
  case latching =>
    intro a s d y ys A t u hup hbar hopen hreg hgroup
    have hread : s.readAt .op a = u := by
      rw [State.readAt_op hup hbar, State.readOp_listed hopen hreg]
      unfold State.readReg
      rw [hgroup]
      rfl
    exact ⟨congrArg _ hread, fun _ => congrArg _ hread⟩
  case clearing =>
    intro a s d A hup hbar hopen hreg hgroup
    refine congrArg _ ((State.readAt_op hup hbar).trans ((State.readOp_listed hopen hreg).trans ?_))
    unfold State.readReg
    rw [hgroup]
    rfl
  case window => exact fun _ _ _ hup hobj => (next_if_pos hup).trans (congrArg _ (State.readTw_object hobj))
  case reads => exact fun _ _ _ => ⟨rfl, rfl, rfl⟩
  case writes => exact fun _ _ _ _ => ⟨rfl, rfl⟩
  case partialByteMeaning | reservedMeaning | inResetMeaning | windowMeaning =>
    intros; rfl

/-! A doorbell by its ring's owner (R571 to R574). -/

section
variable {s : State} {fn : Fn} {r : Nat} {v : Word}

theorem State.doorbell_notOwner (howner : s.ringOwner r ≠ fn) : s.doorbell fn r v = s.ringRefused fn r (bellOff r) :=
  if_pos (bne_iff_ne.2 howner)

theorem State.doorbell_owner (howner : s.ringOwner r = fn) (hbits : fldW v 31 17 = 0) (htype : s.ringType r ≠ 0) :
    let x := fldW v 16 0
    let dev := s.fld (Reg.HIF_RING r 2) 16 0
    let gap := if hostFed (s.ringType r) then (x + 131072 - dev) % 131072 else (dev + 131072 - x) % 131072
    let s1 := s.setF (Reg.HIF_RING r 3) 16 0 x
    s.doorbell fn r v = if gap ≤ s.ringSize r then (if s1.fld Reg.OBS_TRC_CTRL 27 18 = r then s1.hostDrain else s1)
      else s.ringError r 1 := by
  have hother : ¬ (s.ringOwner r != fn) = true := fun h => bne_iff_ne.1 h howner
  have hignored : ¬ (decide (fldW v 31 17 ≠ 0) || decide (s.ringType r = 0)) = true := by simp [hbits, htype]
  exact (if_neg hother).trans (if_neg hignored)

theorem State.doorbell_ignored (howner : s.ringOwner r = fn) (h : fldW v 31 17 ≠ 0 ∨ s.ringType r = 0) :
    s.doorbell fn r v = s := by
  have hother : ¬ (s.ringOwner r != fn) = true := fun h => bne_iff_ne.1 h howner
  have hignored : (decide (fldW v 31 17 ≠ 0) || decide (s.ringType r = 0)) = true := by simpa using h
  exact (if_neg hother).trans (if_pos hignored)

/-- The ring of the trace is not changed by the index of a ring. -/
theorem State.traceRing_setIndex (x : Nat) :
    (s.setF (Reg.HIF_RING r 3) 16 0 x).fld Reg.OBS_TRC_CTRL 27 18 = s.fld Reg.OBS_TRC_CTRL 27 18 := by
  have hother : Reg.OBS_TRC_CTRL ≠ Reg.HIF_RING r 3 := by
    simp only [Reg.OBS_TRC_CTRL, Reg.HIF_RING]
    omega
  rw [State.fld, State.rd_setF_other _ _ _ _ _ _ hother, State.fld]

end

/-! The commit of a ring's context (R565 to R570). -/

section
variable {s : State} {fn : Fn} {r : Nat} {v : Word}

/-- RING_CONTEXT_COMMIT and RING_DISABLE are one write of the context's word 0. -/
theorem exec_ringCommit {r : Fin 1024} {x : Word} {c : Instr} (h : s.reaches (Reg.HIF_RING r 0))
    (hmem : (c, x) ∈ ([(.ringContextCommit fn r v, v), (.ringDisable fn r v, setBitW v 31 false)] : List (Instr × Word))) :
    exec c s = .next (s.ringCommit fn r x) := by
  simp only [List.mem_cons, List.not_mem_nil, or_false, Prod.mk.injEq] at hmem
  obtain ⟨rfl, rfl⟩ | ⟨rfl, rfl⟩ := hmem
  · exact State.fnWrite_reaches h
  · exact State.fnWrite_reaches h

/-- The words of a commit equal the ring's, but for EN cleared. -/
def State.ringSame (s : State) (r : Nat) (ws : List Word) : Bool :=
  (List.range 8).all fun i =>
    if i = 0 then setBitW (s.rd (Reg.HIF_RING r 0)) 31 false == ws.getD 0 0 || s.rd (Reg.HIF_RING r 0) == ws.getD 0 0
    else s.rd (Reg.HIF_RING r i) == ws.getD i 0

/-- The eight words of a ring's context stored. -/
def State.ringStore (s : State) (r : Nat) (ws : List Word) : State :=
  (List.range 8).foldl (fun s i => s.wr (Reg.HIF_RING r i) (ws.getD i 0)) s

/-- What a commit that is taken does, by EN before and after. -/
def State.ringTaken (s : State) (r : Nat) (ws : List Word) : State :=
  if !(s.rd (Reg.HIF_RING r 0)).getLsbD 31 && (ws.getD 0 0).getLsbD 31 then
    (((s.ringStore r ws).setF (Reg.HIF_RING r 2) 16 0 0).setF (Reg.HIF_RING r 2) 31 28 0).setF (Reg.HIF_RING r 3) 16 0 0
  else if (s.rd (Reg.HIF_RING r 0)).getLsbD 31 && !(ws.getD 0 0).getLsbD 31 then (s.ringStore r ws).ringStop r
  else s.ringStore r ws

theorem State.ringCommit_notOwner (howner : (s.dropHeld fn 18).ringOwner r ≠ fn)
    (hdiffers : fn ≠ .op ∨ (s.dropHeld fn 18).ringSame r (s.ctxWords fn r v) = false) :
    s.ringCommit fn r v = (s.dropHeld fn 18).ringRefused fn r (ctxOff r) := by
  refine if_pos (Bool.and_eq_true_iff.2 ⟨congrArg not (beq_eq_false_iff_ne.2 howner), Bool.or_eq_true_iff.2 ?_⟩)
  exact hdiffers.imp bne_iff_ne.2 (congrArg not)

theorem State.ringCommit_bad (howner : (s.dropHeld fn 18).ringOwner r = fn)
    (hbad : (s.dropHeld fn 18).ctxBad r (s.ctxWords fn r v) = true) :
    s.ringCommit fn r v = (s.dropHeld fn 18).ringRefused fn r (ctxOff r) := by
  have hmine : ((s.dropHeld fn 18).ringOwner r == fn) = true := beq_iff_eq.2 howner
  refine (if_of_eq_false ?_).trans (if_pos (Bool.and_eq_true_iff.2 ⟨hmine, hbad⟩))
  rw [hmine, Bool.not_true, Bool.false_and]

theorem State.ringCommit_taken
    (h : (s.dropHeld fn 18).ringOwner r = fn ∧ (s.dropHeld fn 18).ctxBad r (s.ctxWords fn r v) = false ∨
      (s.dropHeld fn 18).ringOwner r ≠ fn ∧ fn = .op ∧ (s.dropHeld fn 18).ringSame r (s.ctxWords fn r v) = true) :
    s.ringCommit fn r v = (s.dropHeld fn 18).ringTaken r (s.ctxWords fn r v) := by
  obtain ⟨howner, hgood⟩ | ⟨howner, hfn, hsame⟩ := h
  · have hmine : ((s.dropHeld fn 18).ringOwner r == fn) = true := beq_iff_eq.2 howner
    refine (if_of_eq_false ?_).trans (if_of_eq_false ?_)
    · rw [hmine, Bool.not_true, Bool.false_and]
    · rw [hgood, Bool.and_false]
  · have hother : ((s.dropHeld fn 18).ringOwner r == fn) = false := beq_eq_false_iff_ne.2 howner
    refine (if_of_eq_false (Bool.and_eq_false_iff.2 (.inr (Bool.or_eq_false_iff.2 ⟨?_, congrArg not hsame⟩)))).trans
      (if_of_eq_false ?_)
    · exact bne_eq_false_iff_eq.2 hfn
    · rw [hother, Bool.false_and]

section
variable {ws : List Word}

theorem State.ringTaken_kept (h : (s.rd (Reg.HIF_RING r 0)).getLsbD 31 = (ws.getD 0 0).getLsbD 31) :
    s.ringTaken r ws = s.ringStore r ws := by
  refine (if_of_eq_false ?_).trans (if_of_eq_false ?_)
  · rw [h, Bool.not_and_self]
  · rw [h, Bool.and_not_self]

theorem State.ringTaken_on (hwas : (s.rd (Reg.HIF_RING r 0)).getLsbD 31 = false) (hon : (ws.getD 0 0).getLsbD 31 = true) :
    s.ringTaken r ws =
      (((s.ringStore r ws).setF (Reg.HIF_RING r 2) 16 0 0).setF (Reg.HIF_RING r 2) 31 28 0).setF (Reg.HIF_RING r 3) 16 0 0 :=
  if_pos (Bool.and_eq_true_iff.2 ⟨congrArg not hwas, hon⟩)

theorem State.ringTaken_off (hwas : (s.rd (Reg.HIF_RING r 0)).getLsbD 31 = true) (hoff : (ws.getD 0 0).getLsbD 31 = false) :
    s.ringTaken r ws = (s.ringStore r ws).ringStop r := by
  refine (if_of_eq_false ?_).trans (if_pos (Bool.and_eq_true_iff.2 ⟨hwas, congrArg not hoff⟩))
  rw [hoff, Bool.and_false]

/-- The checks of a commit by the ring's owner (R566 to R569). -/
theorem State.ctxBad_iff (howner : s.ringOwner r = fn) : s.ctxBad r ws = true ↔
    (s.rd (Reg.HIF_RING r 0)).getLsbD 31 = true ∧ ((s.rd (Reg.HIF_RING r 0) &&& 0x7FEFFFFF) ≠ (ws.getD 0 0 &&& 0x7FEFFFFF) ∨
        s.rd (Reg.HIF_RING r 6) ≠ ws.getD 6 0 ∨ s.rd (Reg.HIF_RING r 7) ≠ ws.getD 7 0) ∨
      ((s.rd (Reg.HIF_RING r 0)).getLsbD 31 = false ∧ (ws.getD 0 0).getLsbD 31 = true ∧ s.ringDrained r = false) ∨
      fldW (ws.getD 0 0) 30 28 = 7 ∨ fldW (ws.getD 0 0) 27 23 < 6 ∨ 16 < fldW (ws.getD 0 0) 27 23 ∨
      fldW (ws.getD 6 0) 11 0 ≠ 0 ∨ vectors fn ≤ fldW (ws.getD 0 0) 8 0 := by
  have hlive : ~~~(0x80100000 : Word) = 0x7FEFFFFF := by decide
  simp only [State.ctxBad, howner, hlive, Bool.or_eq_true, Bool.and_eq_true, Bool.not_eq_true', bne_iff_ne, beq_iff_eq,
    decide_eq_true_eq, or_assoc, and_assoc]

end
end

/-- Settles O50: a commit by the owner and the checks, a doorbell by its owner and the index, every other clause the
meaning of its command. -/
theorem hostRingsAndLink : Obligations.HostRingsAndLink := by
  unfold Obligations.HostRingsAndLink
  refine ⟨?group, ?context, ?contextCommit, ?disable, ?doorbell, ?doorbellMeaning, ?fetch, ?moderation, ?trained,
    ?flr, ?pcieReset⟩
  case group => exact fun _ _ _ h => State.opWrite_reaches h
  case context =>
    intro fn r v c x s hmem h ws w0 t old same u bad
    rw [exec_ringCommit h hmem]
    have hbad (howner : t.ringOwner r = fn) : t.ctxBad r ws = true ↔ bad := State.ctxBad_iff howner
    refine ⟨?notOwner, ?refused, ?taken⟩
    case notOwner => exact fun howner hdiffers => congrArg _ (State.ringCommit_notOwner howner hdiffers)
    case refused => exact fun howner h => congrArg _ (State.ringCommit_bad howner ((hbad howner).2 h))
    case taken =>
      intro h
      have htaken : s.ringCommit fn r x = t.ringTaken r ws := State.ringCommit_taken
        (h.imp_left fun ⟨howner, hgood⟩ => ⟨howner, eq_false_of_ne_true (mt (hbad howner).1 hgood)⟩)
      rw [htaken]
      exact ⟨fun hkept => congrArg _ (State.ringTaken_kept hkept),
        fun hwas hon => congrArg _ (State.ringTaken_on hwas hon),
        fun hwas hoff => congrArg _ (State.ringTaken_off hwas hoff)⟩
  case contextCommit | disable =>
    exact fun _ _ _ _ h => State.fnWrite_reaches h
  case doorbell =>
    intro fn r v s hup
    dsimp only
    have hbell : exec (.doorbell fn r v) s = .next (s.doorbell fn r v) := next_if_pos hup
    rw [hbell]
    refine ⟨fun howner => congrArg _ (State.doorbell_notOwner howner), fun howner => ⟨?ignored, ?taken⟩⟩
    case ignored => exact fun h => congrArg _ (State.doorbell_ignored howner h)
    case taken =>
      intro hbits htype
      rw [State.doorbell_owner howner hbits htype, State.traceRing_setIndex]
      exact ⟨fun hfits hring => congrArg _ ((if_pos hfits).trans (if_neg hring)),
        fun hfits hring => congrArg _ ((if_pos hfits).trans (if_pos hring)),
        fun hbeyond => congrArg _ (if_neg (Nat.not_le.2 hbeyond))⟩
  case doorbellMeaning | fetch | moderation | trained | flr | pcieReset =>
    intros; rfl

section
variable {f : Frm} {q p j : Nat} {d : Desc} {s : State}

/-- A frame of the host whose bytes could not be read gives its buffer back (R579, Table 19.7). -/
theorem State.withBuf_unread (hdest : f.dest = .queue q) (hdesc : f.desc = some d) (hdata : f.pkt.data = []) :
    s.withBuf f j p = ((s.free p (reqCode j)).dmaFail true).ptxEnd d 3 := by
  dsimp only [State.withBuf]
  rw [hdest, hdesc, hdata]
  rfl

theorem exec_bufferAlloc_given {pick : BitVec 19} {metaBad : Bool} {w : Want} {t : State}
    (hwant : (s.bpm.wants.find? fun w => w.req == 7) = some w)
    (hgiven : ({ s with bpm := { s.bpm with wants := s.bpm.wants.erase w } } : State).alloc 7 w.len w.up pick.toNat metaBad =
      (.inl p, t)) : exec (.bufferAlloc 7 pick metaBad) s = .next (t.withBuf w.frm 7 p) := by
  have hreq : ((7 : Fin 8) : Nat) = 7 := rfl
  dsimp only [exec, execBufferAlloc]
  rw [hreq, hwant]
  dsimp only
  rw [hgiven]

end

/-- Settles O51: a buffer for a frame whose bytes could not be read, by what it gives; every other clause the meaning of
its command. -/
theorem hostPackets : Obligations.HostPackets := by
  unfold Obligations.HostPackets
  refine ⟨?unread, ?queued, ?ploam, ?completed, ?delivered⟩
  case unread =>
    exact fun _ _ _ _ _ _ _ _ hwant hdesc hdest hdata hgiven =>
      (exec_bufferAlloc_given hwant hgiven).trans (congrArg _ (State.withBuf_unread hdest hdesc hdata))
  case queued | ploam | completed | delivered =>
    intros; rfl

end Sys2Proof.Machine
end

section
/-! PROOFS. Faults, resets, and observation (O52 to O58). -/

namespace Sys2Proof.Machine

/-! FLT_RCV_CLR with both keys: the history and the recovery word of the retention memory (R627). -/

section
variable {f : Nat → Nat} {w : Word}

theorem State.rd_foldl_wr_other {a : Nat} {l : List Nat} {s : State} (h : ∀ i ∈ l, a ≠ f i) :
    (l.foldl (fun s i => s.wr (f i) w) s).rd a = s.rd a := by
  induction l generalizing s with
  | nil => rfl
  | cons j l ih =>
    rw [List.foldl_cons, ih fun i hi => h i (.tail _ hi), State.rd_wr_other _ _ _ _ (h j (.head _))]

theorem State.rd_foldl_wr_mem {a : Nat} {l : List Nat} {s : State} (h : ∃ i ∈ l, a = f i) :
    (l.foldl (fun s i => s.wr (f i) w) s).rd a = w := by
  induction l generalizing s with
  | nil => simp at h
  | cons j l ih =>
    rw [List.foldl_cons]
    by_cases hlater : ∃ i ∈ l, a = f i
    · exact ih hlater
    · have hlast : a = f j := by simpa [hlater] using h
      rw [State.rd_foldl_wr_other fun i hi hai => hlater ⟨i, hi, hai⟩, hlast, State.rd_wr_same]

theorem State.foldl_wr_flt {l : List Nat} {s : State} : (l.foldl (fun s i => s.wr (f i) w) s).flt = s.flt := by
  induction l generalizing s with
  | nil => rfl
  | cons j l ih => exact ih

end

section
variable {s : State}

theorem State.clearHistory_flt : s.clearHistory.flt = s.flt := State.foldl_wr_flt

theorem State.rd_clearHistory_other {a : Nat} (h : ∀ i, i < 32 → a ≠ Reg.RCP_RET (0x1008 + 4 * i)) :
    s.clearHistory.rd a = s.rd a :=
  State.rd_foldl_wr_other fun i hi => h i (List.mem_range.1 hi)

theorem State.rd_clearHistory_same {i : Nat} (hi : i < 32) : s.clearHistory.rd (Reg.RCP_RET (0x1008 + 4 * i)) = 0 :=
  State.rd_foldl_wr_mem ⟨i, List.mem_range.2 hi, rfl⟩

/-- The words of the history are plain words of the retention memory. -/
theorem State.retWord_history {i : Nat} (hi : i < 32) :
    s.retWord (0x1008 + 4 * i) = s.rd (Reg.RCP_RET (0x1008 + 4 * i)) := by
  have hrepairs : ¬ 0x1008 + 4 * i < 0x1000 := by omega
  have hledger : ¬ (0x1008 + 4 * i = 0x1248 ∨ 0x1008 + 4 * i = 0x124C) := by omega
  exact (if_neg hrepairs).trans (if_neg hledger)

end

/-- PCO and the number of recoveries cleared in the recovery word. -/
theorem toNat_recoveryCleared (x : Word) :
    (setFldW (setBitW x 31 false) 4 0 0).toNat = x.toNat % 2 ^ 31 / 32 * 32 := by
  have hx : x.toNat < 4294967296 := x.isLt
  simp only [setBitW, setFldW, BitVec.toNat_ofNat, Nat.shiftRight_eq_div_pow, Bool.toNat_false]
  omega

theorem getLsbD_recoveryCleared (x : Word) : (setFldW (setBitW x 31 false) 4 0 0).getLsbD 31 = false := by
  rw [BitVec.getLsbD, toNat_recoveryCleared]
  exact Nat.testBit_lt_two_pow (by omega)

theorem fldW_recoveryCleared (x : Word) : fldW (setFldW (setBitW x 31 false) 4 0 0) 4 0 = 0 := by
  rw [fldW, toNat_recoveryCleared, fldN, Nat.shiftRight_zero]
  exact Nat.mul_mod_left _ _

/-- Settles O52: each write by its check, the recovery clear by its key. -/
theorem faultRegisters : Obligations.FaultRegisters := by
  unfold Obligations.FaultRegisters
  refine ⟨?recoveryCleared, ?statusCleared, ?statusKept, ?classKept, ?classLocked, ?classStored, ?recordCleared,
    ?injectBeyond, ?injected, ?keyed, ?keyWrong, ?keyBegun, ?keyRefused, ?locked⟩
  case recoveryCleared =>
    intro s h hkey
    refine ⟨_, (State.opWrite_reaches h).trans ((if_pos hkey).trans (if_pos rfl)), State.clearHistory_flt ▸ rfl,
      ?pco, ?number, ?history, ?others⟩
    case pco =>
      rw [State.pco, State.bit, State.rd_wr_same]
      exact getLsbD_recoveryCleared _
    case number =>
      rw [State.fld, State.rd_wr_same]
      exact fldW_recoveryCleared _
    case history =>
      intro i hi
      have hne : Reg.RCP_RET (0x1008 + 4 * i) ≠ Reg.RCP_RET 0x1000 := by
        simp only [Reg.RCP_RET]
        omega
      rw [State.retWord_history hi, State.rd_wr_other _ _ _ _ hne, State.rd_clearHistory_same hi]
    case others =>
      intro a ha
      have hhistory (i : Nat) (hi : i < 32) : a ≠ Reg.RCP_RET (0x1008 + 4 * i) := by
        have hword := ha (i + 2) (by omega)
        simp only [Reg.RCP_RET] at hword ⊢
        omega
      rw [State.rd_wr_other _ _ _ _ (ha 0 (by decide)), State.rd_clearHistory_other hhistory]
      rfl
  case statusCleared =>
    intro hi v s h a s1 hlatched
    exact (State.opWrite_reaches h).trans (next_if_pos hlatched)
  case statusKept =>
    intro hi v s h a s1 hclear
    exact (State.opWrite_reaches h).trans (next_if_false hclear)
  case classKept =>
    intro src cls s h a hfixed
    exact (State.opWrite_reaches h).trans (if_pos hfixed)
  case classLocked =>
    intro src cls s h a hfree hlock
    exact (State.opWrite_reaches h).trans ((if_neg hfree).trans (if_pos hlock))
  case classStored =>
    intro src cls s h a hfree hunlocked
    exact (State.opWrite_reaches h).trans ((if_neg hfree).trans (if_of_eq_false hunlocked))
  case recordCleared => exact fun _ h => State.opWrite_reaches h
  case injectBeyond =>
    intro src sameCycle s h t1 hbeyond
    exact (State.opWrite_reaches h).trans (if_pos hbeyond)
  case injected =>
    intro src sameCycle s h t1 hsource t2 t3 hit t4 t5
    exact (State.opWrite_reaches h).trans (if_neg hsource)
  case keyed =>
    intro v late s h key hkey hsecond
    exact (State.opWrite_reaches h).trans ((if_pos hkey).trans (if_pos hsecond))
  case keyWrong =>
    intro v late s h key hkey hother
    exact (State.opWrite_reaches h).trans ((if_pos hkey).trans (if_neg hother))
  case keyBegun =>
    intro v late s h key hnone hfirst
    exact (State.opWrite_reaches h).trans ((if_of_eq_false hnone).trans (if_pos hfirst))
  case keyRefused =>
    intro v late s h hnone hother
    exact (State.opWrite_reaches h).trans ((if_of_eq_false hnone).trans (if_neg hother))
  case locked => exact fun _ h => State.opWrite_reaches h

/-- Settles O53: each clause is the meaning of its command. -/
theorem faultEvents : Obligations.FaultEvents := by
  unfold Obligations.FaultEvents
  refine ⟨?faultSourceEvent, ?faultAck, ?aliveToggle, ?mateAliveLoss, ?levelConditionAbsent, ?quietTimerExpire⟩
  case faultSourceEvent | faultAck | aliveToggle | mateAliveLoss | levelConditionAbsent | quietTimerExpire =>
    intros; rfl

/-- Settles O54: each clause is the meaning of its command. -/
theorem selfRepair : Obligations.SelfRepair := by
  unfold Obligations.SelfRepair
  refine ⟨?dcqItemVisible, ?memoryErrorRetry, ?rowRemapDone, ?pipelineError, ?pipelineWatchExpire⟩
  case dcqItemVisible | memoryErrorRetry | rowRemapDone | pipelineError | pipelineWatchExpire =>
    intros; rfl

/-- Settles O55: each clause is the meaning of its command, a write's once it arrives. -/
theorem resetsAndPowerStates : Obligations.ResetsAndPowerStates := by
  unfold Obligations.ResetsAndPowerStates
  refine ⟨?powerOnAon, ?powerOnCore, ?porst, ?sysrst, ?softwareGlobalReset, ?watchdogExpire, ?supplyOutOfWindow,
    ?blockSoftReset, ?blockResetRelease, ?quietEnter, ?quietExit, ?uplinkEgressSleep, ?uplinkEgressWake⟩
  case powerOnAon | powerOnCore | porst | sysrst | watchdogExpire | supplyOutOfWindow | blockResetRelease |
      quietEnter | quietExit | uplinkEgressSleep | uplinkEgressWake =>
    intros; rfl
  case softwareGlobalReset => exact fun _ _ _ h => State.opWrite_reaches h
  case blockSoftReset => exact fun _ _ h => State.opWrite_reaches h

/-- Settles O56: each clause is the meaning of its command, a write's once it arrives. -/
theorem releaseAndBoot : Obligations.ReleaseAndBoot := by
  unfold Obligations.ReleaseAndBoot
  refine ⟨?settCheck, ?strapMeasure, ?trimLoad, ?pllLock, ?memoryBist, ?domainRelease, ?bootRom, ?hostLoad, ?outRel⟩
  case settCheck | strapMeasure | trimLoad | pllLock | memoryBist | domainRelease | bootRom | outRel =>
    intros; rfl
  case hostLoad => exact fun _ _ _ _ _ h => State.opWrite_reaches h

/-- Settles O57: each clause is the meaning of its command, a write's once it arrives. -/
theorem snapshotsAndTrace : Obligations.SnapshotsAndTrace := by
  unfold Obligations.SnapshotsAndTrace
  refine ⟨?snapGo, ?snapCopy, ?thresholdCommit, ?traceMark, ?traceCtrlWrite, ?tracePortSend⟩
  case snapGo | traceMark | traceCtrlWrite =>
    exact fun _ _ h => State.opWrite_reaches h
  case snapCopy | tracePortSend =>
    intros; rfl
  case thresholdCommit => exact fun _ _ _ h => State.opWrite_reaches h

/-- Settles O58: each clause is the meaning of its command, a write's once it arrives. -/
theorem lifetimeLedger : Obligations.LifetimeLedger := by
  unfold Obligations.LifetimeLedger
  refine ⟨?lifetimeSecond, ?ledgerMirror, ?mirrorNow, ?mirrorWriteDone⟩
  case lifetimeSecond | ledgerMirror | mirrorWriteDone =>
    intros; rfl
  case mirrorNow => exact fun _ _ h => State.opWrite_reaches h

end Sys2Proof.Machine
end
